-- ==== Sys2Proof/Word.lean ====
section
/-! DEFINITION. Words, unit numbers and the sparse tables (canonical key–value lists) of the LZ9648 model. -/

namespace Sys2Proof

/-- A register, memory or instruction word is 48 bits (R9, R36). -/
abbrev Word := BitVec 48
/-- A byte of a frame or of the flash. -/
abbrev Byte := BitVec 8

/-- Unit numbers of R14. -/
abbrev PortNo := Fin 96
/-- Line groups LG0–LG5. -/
abbrev LgNo := Fin 6
/-- Host lanes HL0–HL15. -/
abbrev LaneNo := Fin 16
/-- Spindles S0–S47. -/
abbrev SpnNo := Fin 48
/-- Egresses: identities 0–111 (R23). -/
abbrev EgrNo := Fin 112

/-- A table: (key, entry) pairs; a key that is not listed has the entry its default gives. -/
abbrev Tab (α : Type) := List (Nat × α)

/-- The entry of key `k`. -/
def Tab.get {α : Type} (d : Nat → α) : Tab α → Nat → α
  | [], k => d k
  | (j, w) :: t, k => if j = k then w else Tab.get d t k

/-- Put an entry at its place in the rising order of keys. -/
def Tab.ins {α : Type} (k : Nat) (v : α) : Tab α → Tab α
  | [] => [(k, v)]
  | (j, w) :: t =>
    if j < k then (j, w) :: Tab.ins k v t
    else if j = k then (k, v) :: t
    else (k, v) :: (j, w) :: t

/-- Keep the entries whose key passes `p`; the others go back to their default. -/
def Tab.keep {α : Type} (p : Nat → Bool) : Tab α → Tab α
  | [] => []
  | (j, w) :: t => if p j then (j, w) :: Tab.keep p t else Tab.keep p t

/-- Write an entry; writing the default removes it, so equal contents are equal lists. -/
def Tab.set {α : Type} [DecidableEq α] (d : Nat → α) (t : Tab α) (k : Nat) (v : α) : Tab α :=
  if v = d k then Tab.keep (fun j => !decide (j = k)) t else Tab.ins k v t

/-- The canonical form: keys strictly rising from `lo`, no entry equal to its default. -/
def Tab.wfFrom {α : Type} [DecidableEq α] (d : Nat → α) : Nat → Tab α → Bool
  | _, [] => true
  | lo, (j, w) :: t => decide (lo ≤ j) && !decide (w = d j) && Tab.wfFrom d (j + 1) t

/-- The canonical form of a whole table. -/
def Tab.wf {α : Type} [DecidableEq α] (d : Nat → α) (t : Tab α) : Bool := Tab.wfFrom d 0 t

end Sys2Proof
end

