-- ==== Sys2Proof/Syntax.lean ====
section
/-! DEFINITION. The commands of the block: one constructor of Instr for each row of spec/opcode_table.json, with its operands. -/

namespace Sys2Proof

/-- Requesters of the register fabric (R38). -/
inductive Requester where
  | host
  | spn (n : SpnNo)
  | jtag
deriving DecidableEq, Repr

/-- What power-on self-test found (R372, R374): one bit per failing unit, and the first failing word is not reported here. -/
structure PostResult where
  spn : BitVec 48 := 0
  bank : BitVec 8 := 0
  /-- halves A, then B, of ports 0–95 -/
  coefA : BitVec 96 := 0
  coefB : BitVec 96 := 0
  /-- canceller slots 16g + local index, halves A, then B -/
  cancA : BitVec 96 := 0
  cancB : BitVec 96 := 0
deriving DecidableEq, Repr

/-- What the boot sequencer meets outside the device (R49, R330, R387, R353). -/
structure BootInputs where
  /-- GPIO2, GPIO1, GPIO0 at the sampling moment -/
  straps : BitVec 3 := 0
  post : PostResult := {}
  /-- SFDP discovery succeeded -/
  sfdp : Bool := true
  /-- flash size in bytes, and the clock divider SFDP announces -/
  flashBytes : BitVec 32 := 0
  flashDiv : BitVec 4 := 0
  /-- VHOLD in mV, and whether it is at or above VHOLD_MIN -/
  holdMv : BitVec 16 := 0
  vok : Bool := true
  /-- XTAL0, XTAL1, HLREF and the loops that became ready in this boot (bits of CLK_READY) -/
  ready : BitVec 18 := 0
  /-- VDD_RET fell below 0.65 V in park -/
  retLost : Bool := false
deriving DecidableEq, Repr

/-- A frame as it stands on a host lane (R289): tag words, bytes DA to FCS, and how it ended. -/
structure LaneFrame where
  w0 : Word
  w1 : Word
  bytes : List Byte
  /-- ended with K29.7 -/
  good : Bool := true
  /-- contains a code error -/
  codeErr : Bool := false
  /-- time of the first byte, 96 bits as TIME_NOW -/
  first : BitVec 96 := 0
  /-- code groups that came before it, outside a frame, from an idle pair on (R288) -/
  pre : List (BitVec 10) := []
deriving DecidableEq, Repr

/-- A CSP1 slave frame (R381): the host-phase words clocked whole, whether a partial word followed, the device-phase words clocked, and a cut there. -/
structure CspFrame where
  words : List Word
  /-- SCK, kHz -/
  sck : Nat := 100000
  /-- select released part-way through a word of the host phase -/
  cut : Bool := false
  /-- whole words the host clocked in the device phase -/
  devWords : Nat := 0
  /-- select released part-way through a word of the device phase -/
  devCut : Bool := false
deriving DecidableEq, Repr

/-- What one Clause 98 exchange step brought (R135–R137). -/
structure AnPage where
  /-- the 48-bit page -/
  page : Word
  /-- it is a base page; its next-page bit -/
  base : Bool := true
  next : Bool := false
  /-- the exchange is complete with this page -/
  last : Bool := false
  /-- modes both ends advertise, bit m for MODE code m, once complete -/
  common : BitVec 8 := 0
  /-- the partner's role setting as PORT_MODE.ROLE codes it -/
  role : BitVec 2 := 0
  /-- the outcome of the random seed, when the preferences are equal: this port is MASTER -/
  seed : Bool := false
  /-- both ends set the next-page bit and the partner sent the Liari pair: its unformatted code field -/
  dialect : Option (BitVec 32) := none
  /-- the partner advertises low-power idle; requests precoding -/
  eee : Bool := false
  precode : Bool := false
deriving DecidableEq, Repr

/-- A frame whose last byte enters the traffic manager (R256): its ingress identity and bytes DA to FCS. -/
structure InFrame where
  ident : Nat
  bytes : List Byte
  /-- time of the first byte, 96 bits as TIME_NOW -/
  first : BitVec 96 := 0
  /-- COLOUR of the tag, for a host lane -/
  colour : BitVec 2 := 3
  /-- 10BASE-T1S: the sender keeps its transmit opportunity for a further frame of its burst -/
  commit : Bool := false
deriving DecidableEq, Repr

/-- One reflection found by a carding sweep (R187): beat frequency in kHz, ρ × 1,000, mode-converted return at or above −20 dB. -/
structure CardPeak where
  beat : Nat
  rho : Int
  ptg : Bool := false
deriving DecidableEq, Repr

/-- The rails with a monitor (R349). -/
inductive Rail where
  | core | sram | ret | lineAnalog | hostAnalog | io
deriving DecidableEq, Repr

/-- What wakes the AON domain from park (R346). -/
inductive WakeSource where
  | line (p : PortNo)
  | wakeIn
deriving DecidableEq, Repr

/-- The clocks whose last edge the asynchronous logic watches (R332). -/
inductive WatchedClock where
  | lgH (g : LgNo)
  | lgL (g : LgNo)
  | hl
  | root
deriving DecidableEq, Repr

/-- The level of a line energy detector's output (R157). -/
structure DetLevel where
  port : PortNo
  level : Bool
deriving DecidableEq, Repr

/-- The commands. An operand of type Unit only holds a place: what the row acts on stands in the state. A Wovin instruction carries the spindle that issues it and bits [39:0] of its word; bits [47:40] are the row's opcode (R201). -/
inductive Instr where
  -- start-up, register fabric, management (chapters 00–02, 16)
  | powerOn (b : BootInputs)
  | supervisorStart
  | configRecord
  | configWaitExpire
  | rollbackFuseBlow
  | lcStateWrite (r : Requester) (w : Word)
  | lcFuseDone
  | guardHold (r : Requester) (a : BitVec 32) (v : Word)
  | guardWindowExpire (r : Requester)
  | idMgmtpathWrite (r : Requester) (w : Word)
  | shRead (r : Requester) (a : BitVec 32)
  | registerWrite (r : Requester) (a : BitVec 32) (v : Word)
  | scrubPass
  | mgmtRequestFrame (f : LaneFrame)
  | csp1Frame (f : CspFrame)
  | csp1SelectTimeout
  | csp1LinesWrite (r : Requester) (lines : BitVec 2)
  | cspModeWrite (r : Requester) (csp1 : Bool) (mode : Bool)
  -- link life (chapters 03, 06)
  | trainAdmit (p : PortNo)
  | anPageReceive (p : PortNo) (pg : AnPage)
  | anAbandon (p : PortNo)
  | trainingSignalDetect (p : PortNo)
  | warmCheck (p : PortNo) (mismatch : Bool)
  | linkUp (p : PortNo)
  | trainFail (p : PortNo)
  | linkLoss (p : PortNo)
  | backoffExpire (p : PortNo)
  | rovdlyExpire (p : PortNo)
  | plcaBeacon (p : PortNo)
  | plcaBeaconConflict (p : PortNo)
  | plcaBeaconTimeout (p : PortNo)
  | plcaToExpire (p : PortNo)
  | plcaSeenExpire (p : PortNo) (node : Fin 32)
  | rsDecode (p : PortNo) (first errs erasedBad frames : Nat)
  | portTestmodeWrite (r : Requester) (p : PortNo) (tm : BitVec 4)
  | prbsResync (p : PortNo) (u v : Unit)
  -- receive path (chapter 04)
  | portGainWrite (r : Requester) (p : PortNo) (gain : BitVec 6)
  | adcRecalRequest (r : Requester) (p : PortNo) (seq : BitVec 4)
  | adcRecalDone (p : PortNo)
  | recalInterval (p : PortNo)
  | swapEffect (p : PortNo)
  | mirrorDone (p : PortNo)
  | gatherComplete (n : SpnNo) (t : Fin 8) (u : Unit)
  | slubStart (p : PortNo) (u v : Unit)
  | slubWindowEnd (p : PortNo) (u : Unit)
  | slubCap (p : PortNo)
  | snrBlockEnd (p : PortNo) (u v : Unit)
  | mfbEstimate (p : PortNo) (start : Nat) (u : Unit)
  | sqiUpdate (p : PortNo)
  -- idle, sleep and wake (chapter 06)
  | lpiTxRequest (p : PortNo)
  | lpiTxWake (p : PortNo)
  | lpiWakeDone (p : PortNo)
  | lpiRxChange (p : PortNo) (enter : Bool)
  | sleepRequestReceive (p : PortNo)
  | sleepHandshakeDone (p : PortNo)
  | detectorArm (p : PortNo)
  | lineEnergyDetect (x : DetLevel)
  | remoteWake (p : PortNo)
  | wakeForward (p : PortNo)
  | localWake (p : PortNo)
  | falseWakeTimeout (p : PortNo)
  | txOverload (p : PortNo) (legN : Bool)
  -- skeins (chapter 05)
  | lgSkeinWrite (r : Requester) (g : LgNo) (n : Fin 8) (v : Word)
  | skeinSwapEffect (g : LgNo) (n : Fin 8)
  | skeinMemberLeave (g : LgNo) (i : Fin 16)
  | skeinRefresh (g : LgNo) (n : Fin 8) (ws : List (Fin 16 × Fin 339 × Word))
  | oamMessageSend (p : PortNo) (u v : Unit)
  | d2ReportReceive (p : PortNo) (w : Word)
  -- roving and carding (chapter 07)
  | rovingHelloReceive (p : PortNo) (frame : List Byte) (snr : BitVec 16) (u v w : Unit)
  | rovingAckReceive (p : PortNo) (frame : List Byte) (snr : BitVec 16) (u v : Unit)
  | rovingSetreqReceive (p : PortNo) (frame : List Byte) (u : Unit)
  | rovingSetackReceive (p : PortNo) (frame : List Byte) (u : Unit)
  | rovingSnrrepReceive (p : PortNo) (frame : List Byte) (snr : BitVec 16) (u : Unit)
  | rovingDataReceive (p : PortNo) (frame : List Byte) (first : BitVec 96) (u : Unit)
  | rovingAcqTimeout (p : PortNo)
  | rovingRetry (p : PortNo)
  | rovingSettingSwitch (p : PortNo)
  | rovingSnrrepSend (p : PortNo) (snr : BitVec 16)
  | rovingSnrLow (p : PortNo) (snr : BitVec 16)
  | rovingFallback (p : PortNo) (u : Unit)
  | rovingLoss (p : PortNo)
  | rovingRestartWindow (p : PortNo) (u : Unit)
  | rovingWindowEnd (p : PortNo) (u : Unit)
  | cardingDone (p : PortNo) (discard : BitVec 7) (peaks : List CardPeak)
  | fpSnapshot (p : PortNo) (u : Unit)
  | fpSnapshotRetry (p : PortNo)
  | fpTrendPoint (p : PortNo)
  -- Wovin scalar, immediate, local and branch (chapter 08)
  | add (n : SpnNo) (w : BitVec 40)
  | addi (n : SpnNo) (w : BitVec 40)
  | sub (n : SpnNo) (w : BitVec 40)
  | and (n : SpnNo) (w : BitVec 40)
  | andi (n : SpnNo) (w : BitVec 40)
  | or (n : SpnNo) (w : BitVec 40)
  | ori (n : SpnNo) (w : BitVec 40)
  | xor (n : SpnNo) (w : BitVec 40)
  | xori (n : SpnNo) (w : BitVec 40)
  | sll (n : SpnNo) (w : BitVec 40)
  | slli (n : SpnNo) (w : BitVec 40)
  | srl (n : SpnNo) (w : BitVec 40)
  | srli (n : SpnNo) (w : BitVec 40)
  | sra (n : SpnNo) (w : BitVec 40)
  | srai (n : SpnNo) (w : BitVec 40)
  | slt (n : SpnNo) (w : BitVec 40)
  | slti (n : SpnNo) (w : BitVec 40)
  | sltu (n : SpnNo) (w : BitVec 40)
  | sltiu (n : SpnNo) (w : BitVec 40)
  | mul (n : SpnNo) (w : BitVec 40)
  | muli (n : SpnNo) (w : BitVec 40)
  | mulh (n : SpnNo) (w : BitVec 40)
  | min (n : SpnNo) (w : BitVec 40)
  | mini (n : SpnNo) (w : BitVec 40)
  | max (n : SpnNo) (w : BitVec 40)
  | maxi (n : SpnNo) (w : BitVec 40)
  | clz (n : SpnNo) (w : BitVec 40)
  | sat (n : SpnNo) (w : BitVec 40)
  | sati (n : SpnNo) (w : BitVec 40)
  | li (n : SpnNo) (w : BitVec 40)
  | lih (n : SpnNo) (w : BitVec 40)
  | lpc (n : SpnNo) (w : BitVec 40)
  | ldl (n : SpnNo) (w : BitVec 40)
  | stl (n : SpnNo) (w : BitVec 40)
  | ldv (n : SpnNo) (w : BitVec 40)
  | stv (n : SpnNo) (w : BitVec 40)
  | beq (n : SpnNo) (w : BitVec 40)
  | bne (n : SpnNo) (w : BitVec 40)
  | blt (n : SpnNo) (w : BitVec 40)
  | bge (n : SpnNo) (w : BitVec 40)
  | bltu (n : SpnNo) (w : BitVec 40)
  | bgeu (n : SpnNo) (w : BitVec 40)
  | jal (n : SpnNo) (w : BitVec 40)
  | jalr (n : SpnNo) (w : BitVec 40)
  | branchResolve (n : SpnNo)
  -- Wovin vector
  | vadd (n : SpnNo) (w : BitVec 40)
  | vsub (n : SpnNo) (w : BitVec 40)
  | vaddh (n : SpnNo) (w : BitVec 40)
  | vsubh (n : SpnNo) (w : BitVec 40)
  | vand (n : SpnNo) (w : BitVec 40)
  | vor (n : SpnNo) (w : BitVec 40)
  | vxor (n : SpnNo) (w : BitVec 40)
  | vsll (n : SpnNo) (w : BitVec 40)
  | vsra (n : SpnNo) (w : BitVec 40)
  | vmac (n : SpnNo) (w : BitVec 40)
  | vmul (n : SpnNo) (w : BitVec 40)
  | vrnd (n : SpnNo) (w : BitVec 40)
  | vcmul (n : SpnNo) (w : BitVec 40)
  | vcmac (n : SpnNo) (w : BitVec 40)
  | vabsh (n : SpnNo) (w : BitVec 40)
  | vnegh (n : SpnNo) (w : BitVec 40)
  | vbcst (n : SpnNo) (w : BitVec 40)
  | vext (n : SpnNo) (w : BitVec 40)
  | vins (n : SpnNo) (w : BitVec 40)
  | vred (n : SpnNo) (w : BitVec 40)
  | vperm (n : SpnNo) (w : BitVec 40)
  | vsel (n : SpnNo) (w : BitVec 40)
  | vcmp (n : SpnNo) (w : BitVec 40)
  | vmax (n : SpnNo) (w : BitVec 40)
  | vmin (n : SpnNo) (w : BitVec 40)
  | vunpk (n : SpnNo) (w : BitVec 40)
  | vflag (n : SpnNo) (w : BitVec 40)
  | vbfly (n : SpnNo) (w : BitVec 40)
  -- Wovin tagged operations
  | ldb (n : SpnNo) (w : BitVec 40)
  | stb (n : SpnNo) (w : BitVec 40)
  | gsw (n : SpnNo) (w : BitVec 40)
  | cwr (n : SpnNo) (w : BitVec 40)
  | cswSwap (n : SpnNo) (w : BitVec 40)
  | cswMirror (n : SpnNo) (w : BitVec 40)
  | ldf (n : SpnNo) (w : BitVec 40)
  | mbs (n : SpnNo) (w : BitVec 40)
  | mbr (n : SpnNo) (w : BitVec 40)
  | lck (n : SpnNo) (w : BitVec 40)
  | ulk (n : SpnNo) (w : BitVec 40)
  | frx (n : SpnNo) (w : BitVec 40)
  | ftx (n : SpnNo) (w : BitVec 40)
  | tagComplete (n : SpnNo) (t : Fin 8)
  | knotGrant (k : Fin 64)
  -- Wovin system
  | wait (n : SpnNo) (w : BitVec 40)
  | fence (n : SpnNo) (w : BitVec 40)
  | fenceW (n : SpnNo) (w : BitVec 40)
  | trap (n : SpnNo) (w : BitVec 40)
  | eret (n : SpnNo) (w : BitVec 40)
  | sleep (n : SpnNo) (w : BitVec 40)
  | mfs (n : SpnNo) (w : BitVec 40)
  | mts (n : SpnNo) (w : BitVec 40)
  | waita (n : SpnNo) (w : BitVec 40)
  | spnHalt (r : Requester) (n : SpnNo)
  | spnHaltDone (n : SpnNo)
  | spnRelease (r : Requester) (n : SpnNo)
  | spnCtlModeWrite (r : Requester) (n : SpnNo) (mode : BitVec 2) (replay : Bool)
  | spnImdataAccess (r : Requester) (n : SpnNo) (write : Bool) (v : Word)
  | spnDmdataAccess (r : Requester) (n : SpnNo) (write : Bool) (v : Word)
  -- line runtime, mailboxes and knots (chapter 09)
  | mbDoorbellWrite (r : Requester) (index : BitVec 16)
  | commandCopy
  | mbRingConfigWrite (r : Requester) (reg : Fin 4) (v : Word)
  | completionWrite (id : BitVec 16)
  | mbCplrdWrite (r : Requester) (index : BitVec 16)
  | ringRetry (cpl : Bool) (raise : Bool)
  | hello (id : BitVec 16)
  | nop (id : BitVec 16)
  | partition (id : BitVec 16)
  | delegateWin (id : BitVec 16)
  | delegateLine (id : BitVec 16)
  | portEnable (id : BitVec 16)
  | portDisable (id : BitVec 16)
  | portConfig (id : BitVec 16)
  | portRestart (id : BitVec 16)
  | portSleep (id : BitVec 16)
  | portWake (id : BitVec 16)
  | portCard (id : BitVec 16)
  | portFpcapture (id : BitVec 16)
  | portFpread (id : BitVec 16)
  | portFprestore (id : BitVec 16)
  | portCoefload (id : BitVec 16)
  | portPlca (id : BitVec 16)
  | skeinSet (id : BitVec 16)
  | rtStage (id : BitVec 16)
  | rtSwitch (r : Requester) (w : Word)
  | quantumBoundary (n : SpnNo)
  | quantumTimeout (n : SpnNo)
  | supervisorMove
  | knotHostAcquire (k : Fin 64) (lease : BitVec 32)
  | knotHostRelease (k : Fin 64)
  | knotHostRenew (k : Fin 64) (lease : BitVec 32)
  | knotLeaseExpire (k : Fin 64)
  | mbTxWrite (r : Requester) (n : SpnNo) (v : Word)
  | mbHostrxRead (r : Requester)
  -- traffic manager (chapter 10)
  | frameIngress (f : InFrame)
  | txSelect (e : EgrNo)
  | frameTxDone (e : EgrNo)
  | gateEntryAdvance (e : EgrNo)
  | gclChange (r : Requester) (e : EgrNo) (seq : BitVec 4)
  | gclSwap (e : EgrNo)
  | sgChange (r : Requester) (i : Fin 64) (seq : BitVec 4)
  | sgSwap (i : Fin 64)
  | queueSample (e : EgrNo) (q : Fin 8)
  | tmPolicerWrite (r : Requester) (st : Fin 4096) (second : Bool) (v : Word)
  | tmMeterWrite (r : Requester) (m : Fin 1024) (k : Fin 4) (v : Word)
  -- Plylink (chapter 11)
  | hlFrameReceive (n : LaneNo) (f : LaneFrame)
  | capabilitySetReceive (n : LaneNo) (bytes : List Byte)
  | capabilitySetSend (n : LaneNo)
  | creditSetReceive (n : LaneNo) (bytes : List Byte)
  | timeOrderedSetSend (n : LaneNo)
  | hlEnable (r : Requester) (n : LaneNo)
  | hlBuseqChange (r : Requester) (n : LaneNo) (seq : BitVec 4)
  | hlSlip (r : Requester) (n : LaneNo) (seq : BitVec 4)
  | hlAlign (n : LaneNo)
  | hlAlignLoss (n : LaneNo)
  | hlStep (n : LaneNo)
  | hlRxLock (n : LaneNo)
  | hlRun (n : LaneNo)
  | hlLos (n : LaneNo)
  | hlLol (n : LaneNo)
  | hlRebuExpire (n : LaneNo)
  | hlTxsleep (r : Requester) (n : LaneNo) (on : Bool)
  | hlRxsleep (r : Requester) (n : LaneNo) (on : Bool)
  | hlTxAbort (n : LaneNo)
  -- distaff (chapter 12)
  | dstArm (r : Requester) (seq : BitVec 4)
  | dstTrigseq (r : Requester) (seq : BitVec 4)
  | dstPostDone (u : Unit)
  | dstCheckpoint (c : Fin 4) (u : Unit)
  | dstRelease (r : Requester) (seq : BitVec 4)
  | dstExport (r : Requester) (seq : BitVec 4)
  | dstRddataRead (r : Requester)
  | replayStart (r : Requester) (g : LgNo) (v : Word)
  | replayDone (g : LgNo) (_ _ _ : Unit)
  | d3TriggerReceive (p : PortNo) (w : Word)
  -- clocks and time (chapter 13)
  | clkMonitorWindow (src : Fin 18) (dev : BitVec 32) (ppm : BitVec 16)
  | pllLockDrop (k : Fin 15)
  | clkEdgeTimeout (src : Fin 18)
  | asyncSafeState (c : WatchedClock)
  | pllLock (k : Fin 15)
  | pllUnblock (k : Fin 15)
  | clkSrcselWrite (r : Requester) (w : Word)
  | clkPllctlWrite (r : Requester) (k : Fin 15) (w : Word)
  | clkReadyRead (r : Requester)
  | clkAutoreturn
  | xqueueResume (d : Fin 50)
  | timeSet (r : Requester) (seq : BitVec 4)
  | timeStep (r : Requester) (seq : BitVec 4)
  | ppsInEdge
  | ppsOutPulse
  | ppsOutEnd
  -- power (chapter 14)
  | domainTargetOn (r : Requester) (d : Fin 50)
  | domainTargetRet (r : Requester) (d : Fin 50) (delay : Bool)
  | domainTargetOff (r : Requester) (d : Fin 50) (delay : Bool)
  | handshakeDelayExpire (d : Fin 50) (again : Bool)
  | domainEntryDone (d : Fin 50)
  | domainWakeDone (d : Fin 50)
  | requestAbsentTimeout (r : Requester)
  | pwrForceoff (r : Requester) (w : Word)
  | vddCoreLoss
  | parkEntryDone
  | wakeInAssert
  | parkWake (src : WakeSource)
  | vddCoreReturn (b : BootInputs)
  | railUndervoltage (rail : Rail)
  | aonBrownout
  | aonRestart
  | holdupEngage
  | holdVokFall
  | holdGaugeEmpty (holdMv : BitVec 16)
  -- faults and self-test (chapter 15)
  | faultEvent
  | faultQuietExpire (src : BitVec 12)
  | fltRelease (r : Requester) (seq : BitVec 4) (src : BitVec 12)
  | fltReccfgWrite (r : Requester) (w : Word)
  | fltCodecfgWrite (r : Requester) (c : BitVec 6) (w : Word)
  | faultNWidthExpire
  | fltPinWrite (r : Requester) (v : Word)
  | fltAckWrite (r : Requester) (ack : BitVec 16)
  | fltHistRead (r : Requester)
  | bistInterval
  | bistConditionTimeout
  | bistDone (fail : Option (BitVec 24))
  | bistAbort
  | bistExternal (r : Requester) (seq cls : BitVec 4) (unit : BitVec 16)
  -- images, flash, pins (chapters 16, 17)
  | csp0Commit (r : Requester) (w : Word)
  | flashOpDone
  | flashOpTimeout
  | flashLineFill (line : BitVec 32)
  | flashReadTimeout
  | csp0Reboot (r : Requester) (w : Word)
  | pinFuncWrite (r : Requester) (pin : Fin 32) (v : Word)
  | pinFuncSwitchDone (pin : Fin 32)
  | plcaBeaconReturn (p : PortNo)
  | partnerSleepReject (p : PortNo)
deriving DecidableEq, Repr

end Sys2Proof
end

