-- ==== Sys2Proof/Config.lean ====
section
/-! DEFINITION. What one die fixes and what the spec leaves open: opaque constants, so that nothing can be proved of their values. -/

namespace Sys2Proof

/-- FREE VALUE (log entry 2). The words the spec leaves undefined, drawn by the counter State.free. -/
opaque Config.freeWord : Nat → Word

/-- DESIGN CHOICE (log entry 12). ID_REV [15:0], per silicon revision (R54). -/
opaque Config.idRev : BitVec 16
/-- DESIGN CHOICE (log entry 12). The 96-bit die identity of ID_UNIQUE (R54). -/
opaque Config.idUnique : BitVec 96
/-- DESIGN CHOICE (log entry 7). The key hash in fuses (R391). -/
opaque Config.keyHash : BitVec 256
/-- FREE VALUE (log entry 8). The bank at which the cells of the next stored frame start (R268 names successive banks, not the first). -/
opaque Config.firstBank : Nat → Nat
/-- FREE VALUE (log entry 6). Which of a bank's free cells takes cell i of stored frame n (R268 says no more than the bank). -/
opaque Config.cellPick : Nat → Nat → Nat
/-- FREE VALUE (log entry 9). The device's source MAC address on hank frames (R318). -/
opaque Config.deviceMac : BitVec 48
/-- FREE VALUE (log entry 143). What the runtime's least squares and averaged 64-point spectra make of a window's samples and decisions in a mode
(R109): for bin k the channel's |H|², and the residual's density less one, which it cannot be zero. -/
opaque Config.mfbBin : Nat → List Int → List Int → Nat → Nat × Nat
/-- FREE VALUE (log entry 139). The DAC range of a mode in the decision units of R98 (R121 names it and gives no number). -/
opaque Config.dacRange : Nat → Nat
/-- FREE VALUE (log entry 140). Whether a symbol of a port in receive low-power idle lies in a quiet period, not in a refresh: the mode's clause
times the two (R151, R154). -/
opaque Config.lpiQuiet : Nat → Nat → Bool
/-- FREE VALUE (log entry 141). Whether the clause of a mode defines a transmitter test mode number (R75). -/
opaque Config.clauseTest : Nat → Nat → Bool
/-- FREE VALUE (log entry 25). Low-power-idle wake time Tw of a mode in ns: R152 uses it and the mode's clause fixes it. -/
opaque Config.lpiWakeNs : Nat → Nat
/-- The highest API version a runtime image beyond the ROM implements is in its header; the ROM's is R235. -/
def Config.romApi : List Nat := [0x10, 0x11, 0x12, 0x13, 0x20, 0x21]
/-- FREE VALUE (log entry 10). Whether a runtime image can read the current runtime-state format (R246), from its body. -/
opaque Config.readsState : List Word → Bool

end Sys2Proof
end

