-- ==== Sys2Proof/Machine/RegMap.lean ====
section
/-! DEFINITION. The register map of the spec: for every block its rows (offset, count, stride, access code, reset value, writable bits), and the word address of every register. -/

namespace Sys2Proof

/-- Access codes of R11. -/
inductive Access where
  | rw | ro | live | cnt | grd | sh
deriving DecidableEq, Repr

/-- A row of a register map: `cnt` registers from `off`, `step` words apart. -/
structure RegRow where
  off : Nat
  cnt : Nat
  step : Nat
  acc : Access
  rst : Nat
  mask : Nat
deriving DecidableEq, Repr

/-- The register blocks of the top-level address map (R32), the traffic manager's split as R283 lays it out. -/
inductive Block where
  | id | clk | pwr | flt | pin | csp0 | csp1 | time | bist | knot
  | port | lg | hl | tm | sg | meter | stream | egress | queue | spn | dst
deriving DecidableEq, Repr

/-- The rows of R54. -/
def RegMap.id : List RegRow :=
  [
   ⟨0x0, 1, 1, .ro, 0xC1D96480000, 0x0⟩,  -- ID_PART
   ⟨0x1, 1, 1, .ro, 0x0, 0x0⟩,  -- ID_REV
   ⟨0x2, 1, 1, .sh, 0x0, 0x0⟩,  -- ID_UNIQUE
   ⟨0x4, 1, 1, .sh, 0x0, 0x0⟩,  -- ID_FUSECNT
   ⟨0x6, 1, 1, .ro, 0x0, 0x0⟩,  -- ID_STRAP
   ⟨0x8, 1, 1, .cnt, 0x0, 0x0⟩,  -- ID_SCRUBPASS
   ⟨0x9, 1, 1, .cnt, 0x0, 0x0⟩,  -- ID_PARERR
   ⟨0xA, 1, 1, .ro, 0x0, 0x0⟩,  -- ID_PARLAST
   ⟨0x10, 1, 1, .grd, 0x0, 0xF⟩,  -- LC_STATE
   ⟨0x12, 1, 1, .grd, 0x0, 0x1⟩  -- ID_MGMTPATH
  ]

/-- The rows of R337. -/
def RegMap.clk : List RegRow :=
  [
   ⟨0x0, 1, 1, .live, 0x0, 0x0⟩,  -- CLK_READY
   ⟨0x1, 1, 1, .live, 0x0, 0x0⟩,  -- CLK_ACK
   ⟨0x2, 1, 1, .live, 0x0, 0x0⟩,  -- CLK_FAIL
   ⟨0x3, 1, 1, .live, 0x0, 0x0⟩,  -- CLK_ACTIVE
   ⟨0x4, 1, 1, .grd, 0x0, 0x7FD⟩,  -- CLK_SRCSEL
   ⟨0x6, 1, 1, .ro, 0x0, 0x0⟩,  -- CLK_SRCSTAT
   ⟨0x7, 1, 1, .rw, 0x3, 0x3⟩,  -- CLK_CFG
   ⟨0x8, 1, 1, .ro, 0x0, 0x0⟩,  -- CLK_XTALPPM
   ⟨0x10, 15, 2, .grd, 0x4, 0x800000000007⟩,  -- CLK_PLLCTLk
   ⟨0x30, 18, 1, .rw, 0x0, 0x7⟩,  -- CLK_GATEd
   ⟨0x50, 18, 1, .cnt, 0x0, 0x0⟩,  -- CLK_XDROPd
   ⟨0x70, 18, 1, .cnt, 0x0, 0x0⟩  -- CLK_FAILCNTs
  ]

/-- The rows of R355. -/
def RegMap.pwr : List RegRow :=
  [
   ⟨0x0, 50, 1, .rw, 0x10, 0x13⟩,  -- PWR_DOMCTLd
   ⟨0x40, 50, 1, .live, 0x0, 0x0⟩,  -- PWR_DOMSTATd
   ⟨0x80, 50, 1, .rw, 0x0, 0x1FF⟩,  -- PWR_RETMAPd
   ⟨0xC0, 1, 1, .grd, 0x0, 0x3F⟩,  -- PWR_FORCEOFF
   ⟨0xC2, 1, 1, .rw, 0xA08, 0x19F0F⟩,  -- PWR_WAKECFG
   ⟨0xC3, 1, 1, .ro, 0x0, 0x0⟩,  -- PWR_WAKELAST
   ⟨0xC4, 1, 1, .sh, 0x0, 0x0⟩,  -- PWR_PARKTIME
   ⟨0xC6, 1, 1, .live, 0x0, 0x0⟩,  -- PWR_AONSTAT
   ⟨0xC8, 1, 1, .cnt, 0x0, 0x0⟩,  -- PWR_REFUSECNT
   ⟨0xD0, 1, 1, .rw, 0xCD10000, 0xFFFF001F⟩,  -- PWR_HOLDCFG
   ⟨0xD1, 1, 1, .rw, 0x0, 0xFFFFFF⟩,  -- PWR_HOLDNEED
   ⟨0xD2, 1, 1, .live, 0x0, 0x0⟩,  -- PWR_HOLDGAUGE
   ⟨0xD3, 1, 1, .live, 0x0, 0x0⟩,  -- PWR_HOLDSTAT
   ⟨0xD4, 1, 1, .cnt, 0x0, 0x0⟩,  -- PWR_HOLDDIS
   ⟨0xD5, 1, 1, .ro, 0x0, 0x0⟩,  -- PWR_HOLDLAST
   ⟨0x100, 50, 1, .cnt, 0x0, 0x0⟩  -- PWR_WAKEDEMd
  ]

/-- The rows of R377. -/
def RegMap.flt : List RegRow :=
  [
   ⟨0x0, 1, 1, .live, 0x0, 0x0⟩,  -- FLT_STAT
   ⟨0x1, 1, 1, .rw, 0xA, 0x8000000003FF⟩,  -- FLT_PIN
   ⟨0x2, 1, 1, .sh, 0x0, 0x0⟩,  -- FLT_HIST
   ⟨0x4, 1, 1, .sh, 0x0, 0x0⟩,  -- FLT_FIRST
   ⟨0x6, 1, 1, .cnt, 0x0, 0x0⟩,  -- FLT_OVFCNT
   ⟨0x7, 1, 1, .cnt, 0x0, 0x0⟩,  -- FLT_INLOST
   ⟨0x8, 1, 1, .cnt, 0x0, 0x0⟩,  -- FLT_REPEATCNT
   ⟨0x9, 1, 1, .cnt, 0x0, 0x0⟩,  -- FLT_EVSEQ
   ⟨0xA, 1, 1, .rw, 0x800000000000, 0x80000000FFFF⟩,  -- FLT_INTCFG
   ⟨0xB, 1, 1, .rw, 0x0, 0xF00000000FFF⟩,  -- FLT_RELEASE
   ⟨0xC, 1, 1, .cnt, 0x0, 0x0⟩,  -- FLT_SUPPCNT
   ⟨0xD, 1, 1, .cnt, 0x0, 0x0⟩,  -- FLT_EVCNT
   ⟨0xE, 1, 1, .grd, 0xC880A00000, 0xFFFFFFF00000⟩,  -- FLT_RECCFG
   ⟨0x40, 64, 2, .grd, 0x0, 0x700000000000⟩,  -- FLT_CODECFGc
   ⟨0x100, 256, 1, .live, 0x0, 0x0⟩  -- FLT_SRCSTATs
  ]

/-- The rows of R407. -/
def RegMap.pin : List RegRow :=
  [
   ⟨0x0, 32, 1, .rw, 0x140, 0x3C3⟩,  -- PIN_FUNCn
   ⟨0x20, 1, 1, .rw, 0x0, 0xFFFFFFFF⟩,  -- PIN_OUT
   ⟨0x21, 1, 1, .rw, 0x0, 0xFFFFFFFF⟩,  -- PIN_OE
   ⟨0x22, 1, 1, .live, 0x0, 0x0⟩,  -- PIN_IN
   ⟨0x23, 1, 1, .ro, 0x0, 0x0⟩  -- PIN_STAT
  ]

/-- The rows of R402. -/
def RegMap.csp0 : List RegRow :=
  [
   ⟨0x0, 1, 1, .rw, 0x0, 0xB0000000000F⟩,  -- CSP0_CFG
   ⟨0x1, 1, 1, .live, 0x0, 0x0⟩,  -- CSP0_STAT
   ⟨0x2, 1, 1, .ro, 0x0, 0x0⟩,  -- CSP0_FLASHSIZE
   ⟨0x3, 1, 1, .rw, 0x3, 0x3⟩,  -- CSP0_PFCFG
   ⟨0x4, 1, 1, .ro, 0x0, 0x0⟩,  -- CSP0_BOOTSTAT
   ⟨0x5, 1, 1, .rw, 0x0, 0xFFFFFFFF⟩,  -- CSP0_CMTSRC
   ⟨0x6, 1, 1, .rw, 0x0, 0x3FFFF⟩,  -- CSP0_CMTLEN
   ⟨0x8, 1, 1, .grd, 0x0, 0x1⟩,  -- CSP0_COMMIT
   ⟨0xA, 1, 1, .ro, 0x0, 0x0⟩,  -- CSP0_CMTSTAT
   ⟨0xC, 1, 1, .grd, 0x0, 0x1⟩,  -- CSP0_BOOTCTL
   ⟨0x10, 1, 1, .cnt, 0x0, 0x0⟩,  -- CSP0_PFHIT
   ⟨0x11, 1, 1, .cnt, 0x0, 0x0⟩,  -- CSP0_PFMISS
   ⟨0x12, 1, 1, .cnt, 0x0, 0x0⟩,  -- CSP0_CMTCNT
   ⟨0x13, 1, 1, .cnt, 0x0, 0x0⟩  -- CSP0_CFGERR
  ]

/-- The rows of R402. -/
def RegMap.csp1 : List RegRow :=
  [
   ⟨0x0, 1, 1, .rw, 0x0, 0xB00000000000⟩,  -- CSP1_CFG
   ⟨0x1, 1, 1, .live, 0x0, 0x0⟩,  -- CSP1_STAT
   ⟨0x10, 1, 1, .cnt, 0x0, 0x0⟩,  -- CSP1_FRAMES
   ⟨0x11, 1, 1, .cnt, 0x0, 0x0⟩,  -- CSP1_CUTCNT
   ⟨0x12, 1, 1, .cnt, 0x0, 0x0⟩,  -- CSP1_UNDERCNT
   ⟨0x13, 1, 1, .cnt, 0x0, 0x0⟩,  -- CSP1_VOIDCNT
   ⟨0x14, 1, 1, .cnt, 0x0, 0x0⟩  -- CSP1_IGNCNT
  ]

/-- The rows of R416. -/
def RegMap.time : List RegRow :=
  [
   ⟨0x0, 1, 1, .sh, 0x0, 0x0⟩,  -- TIME_NOW
   ⟨0x2, 1, 1, .rw, 0x0, 0xFF0000⟩,  -- TIME_CTL
   ⟨0x3, 1, 1, .live, 0x0, 0x0⟩,  -- TIME_STAT
   ⟨0x4, 1, 1, .rw, 0x0, 0xFFFFFFFFFFFF⟩,  -- TIME_SETS
   ⟨0x5, 1, 1, .rw, 0x0, 0xFFFFFFFFFFFF⟩,  -- TIME_SETN
   ⟨0x6, 1, 1, .rw, 0x0, 0xFFFFFFFFFFFF⟩,  -- TIME_STEP
   ⟨0x7, 1, 1, .rw, 0x0, 0xFFFFFF⟩,  -- TIME_RATE
   ⟨0x8, 1, 1, .sh, 0x0, 0x0⟩,  -- TIME_PPSCAP
   ⟨0xA, 1, 1, .rw, 0x64, 0x8000000003FF⟩,  -- TIME_PPSCFG
   ⟨0xB, 1, 1, .cnt, 0x0, 0x0⟩  -- TIME_PPSCNT
  ]

/-- The rows of R378. -/
def RegMap.bist : List RegRow :=
  [
   ⟨0x0, 1, 1, .rw, 0x800000000064, 0xC0000000FFFF⟩,  -- BIST_CFG
   ⟨0x1, 1, 1, .rw, 0x0, 0xFFFFFFFF⟩,  -- BIST_SCRATCH
   ⟨0x2, 1, 1, .rw, 0x0, 0xFF000000FFFF⟩,  -- BIST_CTL
   ⟨0x3, 1, 1, .live, 0x0, 0x0⟩,  -- BIST_STAT
   ⟨0x4, 1, 1, .ro, 0x0, 0x0⟩,  -- BIST_LAST
   ⟨0x8, 1, 1, .ro, 0x0, 0x0⟩,  -- BIST_SPNFAIL
   ⟨0x9, 1, 1, .ro, 0x0, 0x0⟩,  -- BIST_BANKFAIL
   ⟨0xA, 2, 1, .ro, 0x0, 0x0⟩,  -- BIST_COEFFAIL0–1
   ⟨0xC, 2, 1, .ro, 0x0, 0x0⟩,  -- BIST_CANCFAIL0–1
   ⟨0xE, 1, 1, .ro, 0x0, 0x0⟩,  -- BIST_DSTFAIL
   ⟨0x10, 1, 1, .cnt, 0x0, 0x0⟩,  -- BIST_TESTCNT
   ⟨0x11, 1, 1, .cnt, 0x0, 0x0⟩,  -- BIST_FAILCNT
   ⟨0x12, 1, 1, .cnt, 0x0, 0x0⟩,  -- BIST_SKIPCNT
   ⟨0x13, 1, 1, .cnt, 0x0, 0x0⟩  -- BIST_CYCLECNT
  ]

/-- The rows of R254. -/
def RegMap.knot : List RegRow :=
  [
   ⟨0x0, 64, 1, .ro, 0x3F0000000000, 0x0⟩,  -- KNOT_STATE0–KNOT_STATE63
   ⟨0x40, 64, 1, .rw, 0x0, 0xC000FFFFFFFF⟩,  -- KNOT_HOST0–KNOT_HOST63
   ⟨0x80, 1, 1, .cnt, 0x0, 0x0⟩,  -- KNOT_BROKENCNT
   ⟨0x100, 48, 1, .rw, 0x0, 0xFFFFFFFFFFFF⟩,  -- MB_TX0–MB_TX47
   ⟨0x130, 1, 1, .ro, 0x0, 0x0⟩,  -- MB_HOSTRX
   ⟨0x131, 1, 1, .live, 0x0, 0x0⟩,  -- MB_HOSTSTAT
   ⟨0x140, 1, 1, .rw, 0x0, 0xFFFFFFFF⟩,  -- MB_CMDBASE
   ⟨0x141, 1, 1, .rw, 0x0, 0xF⟩,  -- MB_CMDSIZE
   ⟨0x142, 1, 1, .rw, 0x0, 0xFFFF⟩,  -- MB_DOORBELL
   ⟨0x143, 1, 1, .ro, 0x0, 0x0⟩,  -- MB_CMDRD
   ⟨0x144, 1, 1, .rw, 0x0, 0xFFFFFFFF⟩,  -- MB_CPLBASE
   ⟨0x145, 1, 1, .rw, 0x0, 0xF⟩,  -- MB_CPLSIZE
   ⟨0x146, 1, 1, .rw, 0x0, 0xFFFF⟩,  -- MB_CPLRD
   ⟨0x147, 1, 1, .ro, 0x0, 0x0⟩,  -- MB_CPLWR
   ⟨0x148, 1, 1, .rw, 0x0, 0x3⟩,  -- MB_INTEN
   ⟨0x149, 1, 1, .ro, 0x10, 0x0⟩,  -- MB_VERSION
   ⟨0x14A, 1, 1, .cnt, 0x0, 0x0⟩,  -- MB_BADBELL
   ⟨0x14B, 1, 1, .cnt, 0x0, 0x0⟩,  -- MB_CMDCNT
   ⟨0x14C, 1, 1, .rw, 0x17C0000, 0xFFFFFFFF⟩,  -- MB_RTBASE
   ⟨0x150, 1, 1, .grd, 0x0, 0x1⟩,  -- MB_RTSLOT
   ⟨0x152, 1, 1, .ro, 0x0, 0x0⟩,  -- MB_RTSTAT
   ⟨0x153, 1, 1, .cnt, 0x0, 0x0⟩,  -- MB_SUPMOVE
   ⟨0x154, 1, 1, .ro, 0x0, 0x0⟩  -- MB_SUPLOC
  ]

/-- The rows of R77, R111, R166, R193. -/
def RegMap.port : List RegRow :=
  [
   ⟨0x0, 1, 1, .ro, 0x0, 0x0⟩,  -- PORT_STATE
   ⟨0x1, 1, 1, .ro, 0x17E, 0x0⟩,  -- PORT_CAP
   ⟨0x2, 1, 1, .rw, 0x196FE, 0x1FFFE⟩,  -- PORT_MODE
   ⟨0x3, 1, 1, .rw, 0x0, 0x1F⟩,  -- PORT_TXCFG
   ⟨0x4, 1, 1, .rw, 0x0, 0xF⟩,  -- PORT_TESTMODE
   ⟨0x5, 1, 1, .rw, 0x1, 0x1⟩,  -- PORT_FECCFG
   ⟨0x8, 1, 1, .rw, 0x800020900, 0xFFFFFFFFF⟩,  -- PORT_PLCACFG
   ⟨0x9, 1, 1, .ro, 0x0, 0x0⟩,  -- PORT_PLCASTAT
   ⟨0xC, 1, 1, .ro, 0x0, 0x0⟩,  -- PORT_PCSSTAT
   ⟨0x10, 1, 1, .cnt, 0x0, 0x0⟩,  -- PORT_RSCW
   ⟨0x11, 1, 1, .cnt, 0x0, 0x0⟩,  -- PORT_RSCORR
   ⟨0x12, 1, 1, .cnt, 0x0, 0x0⟩,  -- PORT_RSUNC
   ⟨0x13, 1, 1, .cnt, 0x0, 0x0⟩,  -- PORT_RSSYM
   ⟨0x14, 1, 1, .cnt, 0x0, 0x0⟩,  -- PORT_RSERAS
   ⟨0x15, 1, 1, .cnt, 0x0, 0x0⟩,  -- PORT_RSOVER
   ⟨0x18, 1, 1, .cnt, 0x0, 0x0⟩,  -- PORT_RXFRM
   ⟨0x19, 1, 1, .cnt, 0x0, 0x0⟩,  -- PORT_RXBAD
   ⟨0x1A, 1, 1, .cnt, 0x0, 0x0⟩,  -- PORT_TXFRM
   ⟨0x1B, 1, 1, .cnt, 0x0, 0x0⟩,  -- PORT_LINKDN
   ⟨0x1C, 1, 1, .cnt, 0x0, 0x0⟩,  -- PORT_ROLEFAIL
   ⟨0x1D, 1, 1, .cnt, 0x0, 0x0⟩,  -- PORT_PLCABCN
   ⟨0x1E, 1, 1, .cnt, 0x0, 0x0⟩,  -- PORT_PRBSERR
   ⟨0x1F, 1, 1, .cnt, 0x0, 0x0⟩,  -- PORT_PRBSBIT
   ⟨0x20, 1, 1, .rw, 0x10, 0xF003F⟩  -- PORT_AFE
  ] ++
  [
   ⟨0x21, 1, 1, .rw, 0x18888, 0x3FFFF⟩,  -- PORT_LMSCFG
   ⟨0x23, 1, 1, .ro, 0x0, 0x0⟩,  -- PORT_COEFSTAT
   ⟨0x24, 1, 1, .rw, 0x54, 0x77⟩,  -- PORT_TAPCFG
   ⟨0x25, 1, 1, .rw, 0xC04010080C30, 0xC3FFFF3F3FFF⟩,  -- PORT_SLUBCFG
   ⟨0x26, 1, 1, .ro, 0x0, 0x0⟩,  -- PORT_SNR
   ⟨0x27, 1, 1, .ro, 0x0, 0x0⟩,  -- PORT_MFB
   ⟨0x28, 1, 1, .ro, 0x0, 0x0⟩,  -- PORT_GAP
   ⟨0x2A, 1, 1, .sh, 0x0, 0x0⟩,  -- PORT_SYMCNT
   ⟨0x30, 1, 1, .cnt, 0x0, 0x0⟩,  -- PORT_SLUBCNT
   ⟨0x31, 1, 1, .cnt, 0x0, 0x0⟩,  -- PORT_SLUBSYM
   ⟨0x32, 1, 1, .cnt, 0x0, 0x0⟩,  -- PORT_SLUBLONG
   ⟨0x33, 1, 1, .cnt, 0x0, 0x0⟩,  -- PORT_OVRCNT
   ⟨0x34, 1, 1, .cnt, 0x0, 0x0⟩,  -- PORT_SWAPCNT
   ⟨0x35, 1, 1, .cnt, 0x0, 0x0⟩,  -- PORT_SWAPREF
   ⟨0x36, 1, 1, .cnt, 0x0, 0x0⟩,  -- PORT_TAPOVR
   ⟨0x37, 1, 1, .cnt, 0x0, 0x0⟩,  -- PORT_TAILERR
   ⟨0x40, 1, 1, .rw, 0xC40000C803E8, 0xC7000FFF0FFF⟩,  -- PORT_LINKCFG
   ⟨0x41, 1, 1, .rw, 0x7, 0x7⟩,  -- PORT_DIALECTCFG
   ⟨0x42, 1, 1, .rw, 0x10014, 0x1FFFF⟩,  -- PORT_LPICFG
   ⟨0x43, 1, 1, .rw, 0xA00005000004, 0xE7803F00000F⟩,  -- PORT_SLEEPCFG
   ⟨0x44, 1, 1, .ro, 0x0, 0x0⟩,  -- PORT_SQI
   ⟨0x45, 1, 1, .rw, 0x103, 0x107⟩,  -- PORT_SQICFG
   ⟨0x46, 1, 1, .ro, 0x0, 0x0⟩,  -- PORT_LINKSTAT
   ⟨0x48, 1, 1, .cnt, 0x0, 0x0⟩  -- PORT_ANCNT
  ] ++
  [
   ⟨0x49, 1, 1, .cnt, 0x0, 0x0⟩,  -- PORT_TRAINCNT
   ⟨0x4A, 1, 1, .cnt, 0x0, 0x0⟩,  -- PORT_TRAINFAIL
   ⟨0x4B, 1, 1, .cnt, 0x0, 0x0⟩,  -- PORT_WARMCNT
   ⟨0x4C, 1, 1, .cnt, 0x0, 0x0⟩,  -- PORT_WARMMISS
   ⟨0x4D, 1, 1, .cnt, 0x0, 0x0⟩,  -- PORT_LPITXCNT
   ⟨0x4E, 1, 1, .cnt, 0x0, 0x0⟩,  -- PORT_LPIRXCNT
   ⟨0x4F, 1, 1, .cnt, 0x0, 0x0⟩,  -- PORT_WAKECNT
   ⟨0x50, 1, 1, .cnt, 0x0, 0x0⟩,  -- PORT_FALSEWAKE
   ⟨0x51, 1, 1, .cnt, 0x0, 0x0⟩,  -- PORT_SQIALARM
   ⟨0x52, 1, 1, .cnt, 0x0, 0x0⟩,  -- PORT_PLCACOL
   ⟨0x54, 1, 1, .live, 0x0, 0x0⟩,  -- PORT_PLCASEEN
   ⟨0x60, 1, 1, .rw, 0xA01E7D04B180, 0xF8FFFFFFFFFF⟩,  -- PORT_ROVCFG
   ⟨0x61, 1, 1, .ro, 0x0, 0x0⟩,  -- PORT_ROVSTAT
   ⟨0x62, 1, 1, .ro, 0x0, 0x0⟩,  -- PORT_ROVFN
   ⟨0x63, 1, 1, .cnt, 0x0, 0x0⟩,  -- PORT_ROVTXFRM
   ⟨0x64, 1, 1, .cnt, 0x0, 0x0⟩,  -- PORT_ROVRXFRM
   ⟨0x65, 1, 1, .cnt, 0x0, 0x0⟩,  -- PORT_ROVDROP
   ⟨0x66, 1, 1, .cnt, 0x0, 0x0⟩,  -- PORT_ROVBIG
   ⟨0x67, 1, 1, .cnt, 0x0, 0x0⟩,  -- PORT_ROVBAD
   ⟨0x68, 1, 1, .cnt, 0x0, 0x0⟩,  -- PORT_ROVERAS
   ⟨0x69, 1, 1, .cnt, 0x0, 0x0⟩,  -- PORT_ROVSTEP
   ⟨0x6A, 1, 1, .cnt, 0x0, 0x0⟩,  -- PORT_ROVRETRY
   ⟨0x6B, 1, 1, .cnt, 0x0, 0x0⟩,  -- PORT_ROVLOSS
   ⟨0x70, 1, 1, .rw, 0x29406050000, 0x3FF1FFF0000⟩  -- PORT_CARDCFG
  ] ++
  [
   ⟨0x71, 1, 1, .ro, 0x0, 0x0⟩,  -- PORT_CARDSTAT
   ⟨0x72, 1, 1, .rw, 0x800A0A280501, 0x80FFFFFFFFFF⟩,  -- PORT_FPCFG
   ⟨0x73, 1, 1, .ro, 0x0, 0x0⟩,  -- PORT_FPSTAT
   ⟨0x74, 1, 1, .live, 0x0, 0x0⟩,  -- PORT_FPALARM
   ⟨0x75, 1, 1, .live, 0x0, 0x0⟩,  -- PORT_FPTREND
   ⟨0x76, 1, 1, .cnt, 0x0, 0x0⟩,  -- PORT_FPSNAP
   ⟨0x77, 1, 1, .cnt, 0x0, 0x0⟩,  -- PORT_FPMISS
   ⟨0x78, 8, 1, .ro, 0x0, 0x0⟩,  -- PORT_CARDEVT0–PORT_CARDEVT7
   ⟨0x80, 8, 1, .ro, 0x0, 0x0⟩,  -- PORT_FPDRIFT0–PORT_FPDRIFT7
   ⟨0x400, 1024, 1, .ro, 0x0, 0x0⟩,  -- Coefficient half A
   ⟨0x800, 1024, 1, .ro, 0x0, 0x0⟩  -- Coefficient half B
  ]

/-- The rows of R133, R322. -/
def RegMap.lg : List RegRow :=
  [
   ⟨0x100, 8, 1, .rw, 0x0, 0xCF000000FFFF⟩,  -- LG_SKEIN0–LG_SKEIN7
   ⟨0x108, 1, 1, .ro, 0x0, 0x0⟩,  -- LG_SKCFGSTAT
   ⟨0x110, 1, 1, .live, 0x0, 0x0⟩,  -- LG_SKELIG
   ⟨0x111, 1, 1, .live, 0x0, 0x0⟩,  -- LG_SKSERVE
   ⟨0x112, 1, 1, .live, 0x0, 0x0⟩,  -- LG_SKOUT
   ⟨0x113, 1, 1, .live, 0x0, 0x0⟩,  -- LG_SKHALF
   ⟨0x114, 1, 1, .live, 0x0, 0x0⟩,  -- LG_SKREFP
   ⟨0x120, 1, 1, .cnt, 0x0, 0x0⟩,  -- LG_SKJOIN
   ⟨0x121, 1, 1, .cnt, 0x0, 0x0⟩,  -- LG_SKLEAVE
   ⟨0x122, 1, 1, .cnt, 0x0, 0x0⟩,  -- LG_SKSLAVE
   ⟨0x123, 1, 1, .cnt, 0x0, 0x0⟩,  -- LG_SKSWAP
   ⟨0x124, 1, 1, .cnt, 0x0, 0x0⟩,  -- LG_SKREF
   ⟨0x125, 1, 1, .cnt, 0x0, 0x0⟩,  -- LG_D2RPT
   ⟨0x126, 1, 1, .cnt, 0x0, 0x0⟩,  -- LG_D2BAD
   ⟨0x1F0, 1, 1, .rw, 0x0, 0x1F⟩,  -- LG_COEFSEL
   ⟨0x200, 1, 1, .rw, 0x0, 0x813FFFFFFFFF⟩,  -- LG_REPCTL
   ⟨0x201, 1, 1, .ro, 0x0, 0x0⟩,  -- LG_REPSTAT
   ⟨0x202, 1, 1, .cnt, 0x0, 0x0⟩,  -- LG_REPMIS
   ⟨0x203, 1, 1, .ro, 0x0, 0x0⟩,  -- LG_REPFIRST
   ⟨0x800, 352, 1, .ro, 0x0, 0x0⟩  -- Canceller victim slot chosen by LG_COEFSEL
  ]

/-- The rows of R307. -/
def RegMap.hl : List RegRow :=
  [
   ⟨0x0, 1, 1, .rw, 0x0, 0x800000FF0300⟩,  -- HL_CTL
   ⟨0x1, 1, 1, .rw, 0xE001000A0704, 0xE0FF0FFF0707⟩,  -- HL_CFG
   ⟨0x2, 1, 1, .ro, 0x0, 0x0⟩,  -- HL_STAT
   ⟨0x3, 1, 1, .rw, 0x406, 0xF0F⟩,  -- HL_TXCFG
   ⟨0x4, 1, 1, .ro, 0x0, 0x0⟩,  -- HL_PARTNER
   ⟨0x8, 8, 1, .live, 0x0, 0x0⟩,  -- HL_CRED0–HL_CRED7
   ⟨0x10, 1, 1, .cnt, 0x0, 0x0⟩,  -- HL_RXFRM
   ⟨0x11, 1, 1, .cnt, 0x0, 0x0⟩,  -- HL_TXFRM
   ⟨0x12, 1, 1, .cnt, 0x0, 0x0⟩,  -- HL_RXABORT
   ⟨0x13, 1, 1, .cnt, 0x0, 0x0⟩,  -- HL_RXHCRC
   ⟨0x14, 1, 1, .cnt, 0x0, 0x0⟩,  -- HL_RXBADID
   ⟨0x15, 1, 1, .cnt, 0x0, 0x0⟩,  -- HL_RXLEN
   ⟨0x16, 1, 1, .cnt, 0x0, 0x0⟩,  -- HL_RXFCS
   ⟨0x17, 1, 1, .cnt, 0x0, 0x0⟩,  -- HL_MGMTDROP
   ⟨0x18, 1, 1, .cnt, 0x0, 0x0⟩,  -- HL_CODEERR
   ⟨0x19, 1, 1, .cnt, 0x0, 0x0⟩,  -- HL_OSBAD
   ⟨0x1A, 1, 1, .cnt, 0x0, 0x0⟩,  -- HL_LOSCNT
   ⟨0x1B, 1, 1, .cnt, 0x0, 0x0⟩,  -- HL_LOLCNT
   ⟨0x1C, 1, 1, .cnt, 0x0, 0x0⟩,  -- HL_BRINGUP
   ⟨0x1D, 1, 1, .cnt, 0x0, 0x0⟩,  -- HL_TXABORT
   ⟨0x1E, 1, 1, .cnt, 0x0, 0x0⟩,  -- HL_TXVERDROP
   ⟨0x1F, 1, 1, .cnt, 0x0, 0x0⟩,  -- HL_CREDWAIT
   ⟨0x20, 1, 1, .cnt, 0x0, 0x0⟩  -- HL_MGMTBAD
  ]

/-- The rows of R283. -/
def RegMap.tm : List RegRow :=
  [
   ⟨0x0, 1, 1, .live, 0x0, 0x0⟩,  -- TM_FREE
   ⟨0x1, 1, 1, .live, 0x0, 0x0⟩,  -- TM_CELLS
   ⟨0x2, 1, 1, .rw, 0xFF, 0xFF⟩,  -- TM_BANKEN
   ⟨0x3, 1, 1, .rw, 0x0, 0x3FFFF⟩,  -- TM_POOLRESG
   ⟨0x4, 1, 1, .rw, 0x4000, 0x3FFFF⟩,  -- TM_POOLRESY
   ⟨0x5, 1, 1, .rw, 0x8000, 0x3FFFF⟩,  -- TM_POOLRESR
   ⟨0x8, 8, 1, .live, 0x0, 0x0⟩,  -- TM_BANKUSE0–7
   ⟨0x10, 8, 2, .rw, 0x0, 0xFFFFFFFF⟩,  -- TM_EXCLBASEk
   ⟨0x11, 8, 2, .rw, 0x0, 0x3FFFF⟩,  -- TM_EXCLCNTk
   ⟨0x20, 1, 1, .cnt, 0x0, 0x0⟩,  -- TM_NOMATCH
   ⟨0x21, 1, 1, .cnt, 0x0, 0x0⟩,  -- TM_SPNDROP
   ⟨0x22, 1, 1, .cnt, 0x0, 0x0⟩,  -- TM_BANKLOST
   ⟨0x100, 115, 1, .rw, 0x0, 0x800000000FFF⟩  -- TM_DEFSTREAMi
  ]

/-- The rows of R283. -/
def RegMap.sg : List RegRow :=
  [
   ⟨0x0, 1, 1, .rw, 0x0, 0x8000000F0000⟩,  -- TM_SGCTL
   ⟨0x1, 1, 1, .rw, 0x0, 0xFFFFFFFFFF⟩,  -- TM_SGADMIN
   ⟨0x2, 1, 1, .rw, 0x0, 0xFFFFFFFFFFFF⟩,  -- TM_SGBASES
   ⟨0x3, 1, 1, .rw, 0x0, 0x3FFFFFFF⟩,  -- TM_SGBASEN
   ⟨0x4, 1, 1, .ro, 0x0, 0x0⟩,  -- TM_SGOPER
   ⟨0x5, 1, 1, .cnt, 0x0, 0x0⟩,  -- TM_SGSWAP
   ⟨0x20, 16, 2, .rw, 0x0, 0xFF00FFFFFFFF⟩,  -- admin entry word 0
   ⟨0x21, 16, 2, .rw, 0x0, 0xFFFFFF⟩,  -- admin entry word 1
   ⟨0x40, 16, 2, .ro, 0x0, 0x0⟩,  -- operational entry word 0
   ⟨0x41, 16, 2, .ro, 0x0, 0x0⟩  -- operational entry word 1
  ]

/-- The rows of R283. -/
def RegMap.meter : List RegRow :=
  [
   ⟨0x0, 1, 1, .rw, 0x0, 0x600001FFFFFF⟩,  -- TM_MCFG
   ⟨0x1, 1, 1, .rw, 0x0, 0xFFFFFF⟩,  -- TM_MB1
   ⟨0x2, 1, 1, .rw, 0x0, 0x1FFFFFF⟩,  -- TM_MR2
   ⟨0x3, 1, 1, .rw, 0x0, 0xFFFFFF⟩,  -- TM_MB2
   ⟨0x4, 2, 1, .ro, 0x0, 0x0⟩,  -- TM_MLEV1, TM_MLEV2
   ⟨0x6, 1, 1, .cnt, 0x0, 0x0⟩,  -- TM_MYEL
   ⟨0x7, 1, 1, .cnt, 0x0, 0x0⟩  -- TM_MRED
  ]

/-- The rows of R283. -/
def RegMap.stream : List RegRow :=
  [
   ⟨0x0, 1, 1, .rw, 0x0, 0xC07F0001EFFF⟩,  -- TM_SKEY0
   ⟨0x1, 1, 1, .rw, 0x0, 0xFFFFFFFFFFFF⟩,  -- TM_SKEY1
   ⟨0x2, 2, 1, .rw, 0x0, 0xFFFFFFFFFFFF⟩,  -- TM_SACT0, TM_SACT1
   ⟨0x4, 1, 1, .rw, 0x0, 0xFFFFFFFEFFFF⟩,  -- TM_SACT2
   ⟨0x5, 1, 1, .rw, 0x0, 0xC00001FFFFFF⟩,  -- TM_SPOL0
   ⟨0x6, 1, 1, .rw, 0x0, 0xFFFFFF⟩,  -- TM_SPOL1
   ⟨0x7, 1, 1, .ro, 0x0, 0x0⟩,  -- TM_SPOLST
   ⟨0x8, 1, 1, .cnt, 0x0, 0x0⟩,  -- TM_SMATCH
   ⟨0x9, 1, 1, .cnt, 0x0, 0x0⟩,  -- TM_SGATEDROP
   ⟨0xA, 1, 1, .cnt, 0x0, 0x0⟩,  -- TM_SRED
   ⟨0xB, 1, 1, .cnt, 0x0, 0x0⟩,  -- TM_SFCSBAD
   ⟨0xC, 1, 1, .cnt, 0x0, 0x0⟩,  -- TM_SCOLDROP
   ⟨0xD, 1, 1, .cnt, 0x0, 0x0⟩  -- TM_SNOEGR
  ]

/-- The rows of R283. -/
def RegMap.egress : List RegRow :=
  [
   ⟨0x0, 1, 1, .rw, 0x14, 0x8000000000FF⟩,  -- TM_ECFG
   ⟨0x1, 1, 1, .live, 0x0, 0x0⟩,  -- TM_ESTAT
   ⟨0x2, 1, 1, .rw, 0x0, 0x8000000F0000⟩,  -- TM_GCLCTL
   ⟨0x3, 1, 1, .rw, 0x0, 0xFFFFFFFFFF⟩,  -- TM_GCLADMIN
   ⟨0x4, 1, 1, .rw, 0x0, 0xFFFFFFFFFFFF⟩,  -- TM_GCLBASES
   ⟨0x5, 1, 1, .rw, 0x0, 0x3FFFFFFF⟩,  -- TM_GCLBASEN
   ⟨0x6, 1, 1, .ro, 0x0, 0x0⟩,  -- TM_GCLOPER
   ⟨0x8, 1, 1, .cnt, 0x0, 0x0⟩,  -- TM_GCLSWAP
   ⟨0x9, 1, 1, .cnt, 0x0, 0x0⟩,  -- TM_EGUARD
   ⟨0x400, 128, 2, .rw, 0x0, 0xFF00FFFFFFFF⟩,  -- admin entry word 0
   ⟨0x401, 128, 2, .rw, 0x0, 0xFFFFFF⟩,  -- admin entry word 1
   ⟨0x500, 128, 2, .ro, 0x0, 0x0⟩,  -- operational entry word 0
   ⟨0x501, 128, 2, .ro, 0x0, 0x0⟩  -- operational entry word 1
  ]

/-- The rows of R283. -/
def RegMap.queue : List RegRow :=
  [
   ⟨0x0, 1, 1, .rw, 0x0, 0xC00000000000⟩,  -- TM_QCFG
   ⟨0x1, 1, 1, .rw, 0x1000000800, 0x3FFFF03FFFF⟩,  -- TM_QLIM
   ⟨0x2, 1, 1, .rw, 0x400, 0x3FFFF⟩,  -- TM_QLIMR
   ⟨0x4, 2, 2, .rw, 0x0, 0x1FFFFFF⟩,  -- TM_QSHP0, TM_QSHP2
   ⟨0x5, 2, 2, .rw, 0x0, 0xFFFFFF⟩,  -- TM_QSHP1, TM_QSHP3
   ⟨0x8, 1, 1, .rw, 0x3E8400003E8, 0xFFFFFF0FFFFF⟩,  -- TM_QSAMPLE
   ⟨0xC, 1, 1, .live, 0x0, 0x0⟩,  -- TM_QSTAT
   ⟨0xD, 1, 1, .live, 0x0, 0x0⟩,  -- TM_QSHSTAT
   ⟨0x10, 1, 1, .cnt, 0x0, 0x0⟩,  -- TM_QENQ
   ⟨0x11, 1, 1, .cnt, 0x0, 0x0⟩,  -- TM_QDEQ
   ⟨0x12, 1, 1, .cnt, 0x0, 0x0⟩,  -- TM_QDROPADM
   ⟨0x13, 1, 1, .cnt, 0x0, 0x0⟩,  -- TM_QDROPSTATE
   ⟨0x14, 1, 1, .cnt, 0x0, 0x0⟩,  -- TM_QDROPLOST
   ⟨0x15, 1, 1, .cnt, 0x0, 0x0⟩,  -- TM_QBYTES
   ⟨0x18, 1, 1, .ro, 0x0, 0x0⟩,  -- TM_QMAXDEPTH
   ⟨0x19, 1, 1, .ro, 0x0, 0x0⟩,  -- TM_QMAXDLY
   ⟨0x1A, 1, 1, .ro, 0x0, 0x0⟩,  -- TM_QWINDLY
   ⟨0x1B, 1, 1, .cnt, 0x0, 0x0⟩,  -- TM_QSAMPLES
   ⟨0x20, 16, 1, .cnt, 0x0, 0x0⟩,  -- TM_QHISTD0–15
   ⟨0x30, 16, 1, .cnt, 0x0, 0x0⟩  -- TM_QHISTL0–15
  ]

/-- The rows of R227, R255. -/
def RegMap.spn : List RegRow :=
  [
   ⟨0x0, 1, 1, .rw, 0x0, 0x800000000032⟩,  -- SPN_CTL
   ⟨0x1, 1, 1, .ro, 0x0, 0x0⟩,  -- SPN_STAT
   ⟨0x2, 1, 1, .rw, 0x0, 0xFFFFFFFF⟩,  -- SPN_STARTPC
   ⟨0x3, 1, 1, .ro, 0x0, 0x0⟩,  -- SPN_EPC
   ⟨0x4, 1, 1, .ro, 0x0, 0x0⟩,  -- SPN_ECAUSE
   ⟨0x8, 1, 1, .rw, 0x0, 0x1FFF⟩,  -- SPN_IMADDR
   ⟨0x9, 1, 1, .rw, 0x0, 0xFFFFFFFFFFFF⟩,  -- SPN_IMDATA
   ⟨0xA, 1, 1, .rw, 0x0, 0x3FFF⟩,  -- SPN_DMADDR
   ⟨0xB, 1, 1, .rw, 0x0, 0xFFFFFFFFFFFF⟩,  -- SPN_DMDATA
   ⟨0x10, 1, 1, .sh, 0x0, 0x0⟩,  -- SPN_INSTCNT
   ⟨0x12, 1, 1, .cnt, 0x0, 0x0⟩,  -- SPN_EXCCNT
   ⟨0x13, 1, 1, .cnt, 0x0, 0x0⟩,  -- SPN_SPECCNT
   ⟨0x14, 1, 1, .cnt, 0x0, 0x0⟩,  -- SPN_SPECCAN
   ⟨0x15, 1, 1, .cnt, 0x0, 0x0⟩,  -- SPN_ECCCOR
   ⟨0x16, 1, 1, .cnt, 0x0, 0x0⟩,  -- SPN_ECCUNC
   ⟨0x17, 1, 1, .cnt, 0x0, 0x0⟩,  -- SPN_STALLCNT
   ⟨0x40, 8, 2, .ro, 0x0, 0x0⟩,  -- SPN_DWBASEk
   ⟨0x41, 8, 2, .ro, 0x0, 0x0⟩,  -- SPN_DWLIMk
   ⟨0x50, 1, 1, .ro, 0x0, 0x0⟩,  -- SPN_DGATHER0
   ⟨0x51, 1, 1, .ro, 0x0, 0x0⟩,  -- SPN_DGATHER1
   ⟨0x52, 1, 1, .ro, 0x0, 0x0⟩,  -- SPN_DWRITE0
   ⟨0x53, 1, 1, .ro, 0x0, 0x0⟩,  -- SPN_DWRITE1
   ⟨0x54, 1, 1, .ro, 0x0, 0x0⟩,  -- SPN_DSKG
   ⟨0x55, 1, 1, .ro, 0x0, 0x0⟩  -- SPN_DSKW
  ]

/-- The rows of R322. -/
def RegMap.dst : List RegRow :=
  [
   ⟨0x0, 1, 1, .rw, 0x0, 0xFFFF00⟩,  -- DST_CTL
   ⟨0x1, 1, 1, .ro, 0x0, 0x0⟩,  -- DST_STAT
   ⟨0x2, 1, 1, .rw, 0x3E0800000100, 0x3F8F0000FFFF⟩,  -- DST_TRIGCFG
   ⟨0x3, 1, 1, .rw, 0x0, 0x9FC000000000⟩,  -- DST_EXPCFG
   ⟨0x4, 1, 1, .rw, 0x0, 0xFFFFFFFFFFFF⟩,  -- DST_EXPDMAC
   ⟨0x5, 1, 1, .ro, 0x0, 0x0⟩,  -- DST_HANKID
   ⟨0x6, 1, 1, .sh, 0x0, 0x0⟩,  -- DST_TRIGTIME
   ⟨0x8, 1, 1, .rw, 0x0, 0xFFFFFFFFFFFF⟩,  -- DST_RDADDR
   ⟨0x9, 1, 1, .ro, 0x0, 0x0⟩,  -- DST_RDDATA
   ⟨0xA, 1, 1, .ro, 0x0, 0x0⟩,  -- DST_HANKLEN
   ⟨0x10, 4, 1, .rw, 0x0, 0xFFF700000000⟩,  -- DST_CH0–DST_CH3
   ⟨0x20, 1, 1, .cnt, 0x0, 0x0⟩,  -- DST_TRIGCNT
   ⟨0x21, 1, 1, .cnt, 0x0, 0x0⟩,  -- DST_TRIGLOST
   ⟨0x22, 1, 1, .cnt, 0x0, 0x0⟩,  -- DST_EVLOST
   ⟨0x23, 1, 1, .cnt, 0x0, 0x0⟩,  -- DST_EXPFRM
   ⟨0x24, 1, 1, .cnt, 0x0, 0x0⟩  -- DST_SPECREC
  ]

/-- The rows of a block. -/
def RegMap.rows : Block → List RegRow
  | .id => RegMap.id
  | .clk => RegMap.clk
  | .pwr => RegMap.pwr
  | .flt => RegMap.flt
  | .pin => RegMap.pin
  | .csp0 => RegMap.csp0
  | .csp1 => RegMap.csp1
  | .time => RegMap.time
  | .bist => RegMap.bist
  | .knot => RegMap.knot
  | .port => RegMap.port
  | .lg => RegMap.lg
  | .hl => RegMap.hl
  | .tm => RegMap.tm
  | .sg => RegMap.sg
  | .meter => RegMap.meter
  | .stream => RegMap.stream
  | .egress => RegMap.egress
  | .queue => RegMap.queue
  | .spn => RegMap.spn
  | .dst => RegMap.dst

/-! The word address of each register, under its name. -/

abbrev Reg.ID_PART : Nat := 0x0
abbrev Reg.ID_REV : Nat := 0x1
abbrev Reg.ID_UNIQUE : Nat := 0x2
abbrev Reg.ID_FUSECNT : Nat := 0x4
abbrev Reg.ID_STRAP : Nat := 0x6
abbrev Reg.ID_SCRUBPASS : Nat := 0x8
abbrev Reg.ID_PARERR : Nat := 0x9
abbrev Reg.ID_PARLAST : Nat := 0xA
abbrev Reg.LC_STATE : Nat := 0x10
abbrev Reg.ID_MGMTPATH : Nat := 0x12
abbrev Reg.CLK_READY : Nat := 0x1000 + 0x0
abbrev Reg.CLK_ACK : Nat := 0x1000 + 0x1
abbrev Reg.CLK_FAIL : Nat := 0x1000 + 0x2
abbrev Reg.CLK_ACTIVE : Nat := 0x1000 + 0x3
abbrev Reg.CLK_SRCSEL : Nat := 0x1000 + 0x4
abbrev Reg.CLK_SRCSTAT : Nat := 0x1000 + 0x6
abbrev Reg.CLK_CFG : Nat := 0x1000 + 0x7
abbrev Reg.CLK_XTALPPM : Nat := 0x1000 + 0x8
abbrev Reg.CLK_PLLCTL (k : Nat) : Nat := 0x1000 + 0x10 + 2 * k
abbrev Reg.CLK_GATE (k : Nat) : Nat := 0x1000 + 0x30 + k
abbrev Reg.CLK_XDROP (k : Nat) : Nat := 0x1000 + 0x50 + k
abbrev Reg.CLK_FAILCNT (k : Nat) : Nat := 0x1000 + 0x70 + k
abbrev Reg.PWR_DOMCTL (k : Nat) : Nat := 0x2000 + 0x0 + k
abbrev Reg.PWR_DOMSTAT (k : Nat) : Nat := 0x2000 + 0x40 + k
abbrev Reg.PWR_RETMAP (k : Nat) : Nat := 0x2000 + 0x80 + k
abbrev Reg.PWR_FORCEOFF : Nat := 0x2000 + 0xC0
abbrev Reg.PWR_WAKECFG : Nat := 0x2000 + 0xC2
abbrev Reg.PWR_WAKELAST : Nat := 0x2000 + 0xC3
abbrev Reg.PWR_PARKTIME : Nat := 0x2000 + 0xC4
abbrev Reg.PWR_AONSTAT : Nat := 0x2000 + 0xC6
abbrev Reg.PWR_REFUSECNT : Nat := 0x2000 + 0xC8
abbrev Reg.PWR_HOLDCFG : Nat := 0x2000 + 0xD0
abbrev Reg.PWR_HOLDNEED : Nat := 0x2000 + 0xD1
abbrev Reg.PWR_HOLDGAUGE : Nat := 0x2000 + 0xD2
abbrev Reg.PWR_HOLDSTAT : Nat := 0x2000 + 0xD3
abbrev Reg.PWR_HOLDDIS : Nat := 0x2000 + 0xD4
abbrev Reg.PWR_HOLDLAST : Nat := 0x2000 + 0xD5
abbrev Reg.PWR_WAKEDEM (k : Nat) : Nat := 0x2000 + 0x100 + k
abbrev Reg.FLT_STAT : Nat := 0x3000 + 0x0
abbrev Reg.FLT_PIN : Nat := 0x3000 + 0x1
abbrev Reg.FLT_HIST : Nat := 0x3000 + 0x2
abbrev Reg.FLT_FIRST : Nat := 0x3000 + 0x4
abbrev Reg.FLT_OVFCNT : Nat := 0x3000 + 0x6
abbrev Reg.FLT_INLOST : Nat := 0x3000 + 0x7
abbrev Reg.FLT_REPEATCNT : Nat := 0x3000 + 0x8
abbrev Reg.FLT_EVSEQ : Nat := 0x3000 + 0x9
abbrev Reg.FLT_INTCFG : Nat := 0x3000 + 0xA
abbrev Reg.FLT_RELEASE : Nat := 0x3000 + 0xB
abbrev Reg.FLT_SUPPCNT : Nat := 0x3000 + 0xC
abbrev Reg.FLT_EVCNT : Nat := 0x3000 + 0xD
abbrev Reg.FLT_RECCFG : Nat := 0x3000 + 0xE
abbrev Reg.FLT_CODECFG (k : Nat) : Nat := 0x3000 + 0x40 + 2 * k
abbrev Reg.FLT_SRCSTAT (k : Nat) : Nat := 0x3000 + 0x100 + k
abbrev Reg.PIN_FUNC (k : Nat) : Nat := 0x4000 + 0x0 + k
abbrev Reg.PIN_OUT : Nat := 0x4000 + 0x20
abbrev Reg.PIN_OE : Nat := 0x4000 + 0x21
abbrev Reg.PIN_IN : Nat := 0x4000 + 0x22
abbrev Reg.PIN_STAT : Nat := 0x4000 + 0x23
abbrev Reg.CSP0_CFG : Nat := 0x5000 + 0x0
abbrev Reg.CSP0_STAT : Nat := 0x5000 + 0x1
abbrev Reg.CSP0_FLASHSIZE : Nat := 0x5000 + 0x2
abbrev Reg.CSP0_PFCFG : Nat := 0x5000 + 0x3
abbrev Reg.CSP0_BOOTSTAT : Nat := 0x5000 + 0x4
abbrev Reg.CSP0_CMTSRC : Nat := 0x5000 + 0x5
abbrev Reg.CSP0_CMTLEN : Nat := 0x5000 + 0x6
abbrev Reg.CSP0_COMMIT : Nat := 0x5000 + 0x8
abbrev Reg.CSP0_CMTSTAT : Nat := 0x5000 + 0xA
abbrev Reg.CSP0_BOOTCTL : Nat := 0x5000 + 0xC
abbrev Reg.CSP0_PFHIT : Nat := 0x5000 + 0x10
abbrev Reg.CSP0_PFMISS : Nat := 0x5000 + 0x11
abbrev Reg.CSP0_CMTCNT : Nat := 0x5000 + 0x12
abbrev Reg.CSP0_CFGERR : Nat := 0x5000 + 0x13
abbrev Reg.CSP1_CFG : Nat := 0x5800 + 0x0
abbrev Reg.CSP1_STAT : Nat := 0x5800 + 0x1
abbrev Reg.CSP1_FRAMES : Nat := 0x5800 + 0x10
abbrev Reg.CSP1_CUTCNT : Nat := 0x5800 + 0x11
abbrev Reg.CSP1_UNDERCNT : Nat := 0x5800 + 0x12
abbrev Reg.CSP1_VOIDCNT : Nat := 0x5800 + 0x13
abbrev Reg.CSP1_IGNCNT : Nat := 0x5800 + 0x14
abbrev Reg.TIME_NOW : Nat := 0x6000 + 0x0
abbrev Reg.TIME_CTL : Nat := 0x6000 + 0x2
abbrev Reg.TIME_STAT : Nat := 0x6000 + 0x3
abbrev Reg.TIME_SETS : Nat := 0x6000 + 0x4
abbrev Reg.TIME_SETN : Nat := 0x6000 + 0x5
abbrev Reg.TIME_STEP : Nat := 0x6000 + 0x6
abbrev Reg.TIME_RATE : Nat := 0x6000 + 0x7
abbrev Reg.TIME_PPSCAP : Nat := 0x6000 + 0x8
abbrev Reg.TIME_PPSCFG : Nat := 0x6000 + 0xA
abbrev Reg.TIME_PPSCNT : Nat := 0x6000 + 0xB
abbrev Reg.BIST_CFG : Nat := 0x7000 + 0x0
abbrev Reg.BIST_SCRATCH : Nat := 0x7000 + 0x1
abbrev Reg.BIST_CTL : Nat := 0x7000 + 0x2
abbrev Reg.BIST_STAT : Nat := 0x7000 + 0x3
abbrev Reg.BIST_LAST : Nat := 0x7000 + 0x4
abbrev Reg.BIST_SPNFAIL : Nat := 0x7000 + 0x8
abbrev Reg.BIST_BANKFAIL : Nat := 0x7000 + 0x9
abbrev Reg.BIST_COEFFAIL (k : Nat) : Nat := 0x7000 + 0xA + k
abbrev Reg.BIST_CANCFAIL (k : Nat) : Nat := 0x7000 + 0xC + k
abbrev Reg.BIST_DSTFAIL : Nat := 0x7000 + 0xE
abbrev Reg.BIST_TESTCNT : Nat := 0x7000 + 0x10
abbrev Reg.BIST_FAILCNT : Nat := 0x7000 + 0x11
abbrev Reg.BIST_SKIPCNT : Nat := 0x7000 + 0x12
abbrev Reg.BIST_CYCLECNT : Nat := 0x7000 + 0x13
abbrev Reg.KNOT_STATE (k : Nat) : Nat := 0x8000 + 0x0 + k
abbrev Reg.KNOT_HOST (k : Nat) : Nat := 0x8000 + 0x40 + k
abbrev Reg.KNOT_BROKENCNT : Nat := 0x8000 + 0x80
abbrev Reg.MB_TX (k : Nat) : Nat := 0x8000 + 0x100 + k
abbrev Reg.MB_HOSTRX : Nat := 0x8000 + 0x130
abbrev Reg.MB_HOSTSTAT : Nat := 0x8000 + 0x131
abbrev Reg.MB_CMDBASE : Nat := 0x8000 + 0x140
abbrev Reg.MB_CMDSIZE : Nat := 0x8000 + 0x141
abbrev Reg.MB_DOORBELL : Nat := 0x8000 + 0x142
abbrev Reg.MB_CMDRD : Nat := 0x8000 + 0x143
abbrev Reg.MB_CPLBASE : Nat := 0x8000 + 0x144
abbrev Reg.MB_CPLSIZE : Nat := 0x8000 + 0x145
abbrev Reg.MB_CPLRD : Nat := 0x8000 + 0x146
abbrev Reg.MB_CPLWR : Nat := 0x8000 + 0x147
abbrev Reg.MB_INTEN : Nat := 0x8000 + 0x148
abbrev Reg.MB_VERSION : Nat := 0x8000 + 0x149
abbrev Reg.MB_BADBELL : Nat := 0x8000 + 0x14A
abbrev Reg.MB_CMDCNT : Nat := 0x8000 + 0x14B
abbrev Reg.MB_RTBASE : Nat := 0x8000 + 0x14C
abbrev Reg.MB_RTSLOT : Nat := 0x8000 + 0x150
abbrev Reg.MB_RTSTAT : Nat := 0x8000 + 0x152
abbrev Reg.MB_SUPMOVE : Nat := 0x8000 + 0x153
abbrev Reg.MB_SUPLOC : Nat := 0x8000 + 0x154
abbrev Reg.PORT_STATE (n : Nat) : Nat := 0x10000 + 0x1000 * n + 0x0
abbrev Reg.PORT_CAP (n : Nat) : Nat := 0x10000 + 0x1000 * n + 0x1
abbrev Reg.PORT_MODE (n : Nat) : Nat := 0x10000 + 0x1000 * n + 0x2
abbrev Reg.PORT_TXCFG (n : Nat) : Nat := 0x10000 + 0x1000 * n + 0x3
abbrev Reg.PORT_TESTMODE (n : Nat) : Nat := 0x10000 + 0x1000 * n + 0x4
abbrev Reg.PORT_FECCFG (n : Nat) : Nat := 0x10000 + 0x1000 * n + 0x5
abbrev Reg.PORT_PLCACFG (n : Nat) : Nat := 0x10000 + 0x1000 * n + 0x8
abbrev Reg.PORT_PLCASTAT (n : Nat) : Nat := 0x10000 + 0x1000 * n + 0x9
abbrev Reg.PORT_PCSSTAT (n : Nat) : Nat := 0x10000 + 0x1000 * n + 0xC
abbrev Reg.PORT_RSCW (n : Nat) : Nat := 0x10000 + 0x1000 * n + 0x10
abbrev Reg.PORT_RSCORR (n : Nat) : Nat := 0x10000 + 0x1000 * n + 0x11
abbrev Reg.PORT_RSUNC (n : Nat) : Nat := 0x10000 + 0x1000 * n + 0x12
abbrev Reg.PORT_RSSYM (n : Nat) : Nat := 0x10000 + 0x1000 * n + 0x13
abbrev Reg.PORT_RSERAS (n : Nat) : Nat := 0x10000 + 0x1000 * n + 0x14
abbrev Reg.PORT_RSOVER (n : Nat) : Nat := 0x10000 + 0x1000 * n + 0x15
abbrev Reg.PORT_RXFRM (n : Nat) : Nat := 0x10000 + 0x1000 * n + 0x18
abbrev Reg.PORT_RXBAD (n : Nat) : Nat := 0x10000 + 0x1000 * n + 0x19
abbrev Reg.PORT_TXFRM (n : Nat) : Nat := 0x10000 + 0x1000 * n + 0x1A
abbrev Reg.PORT_LINKDN (n : Nat) : Nat := 0x10000 + 0x1000 * n + 0x1B
abbrev Reg.PORT_ROLEFAIL (n : Nat) : Nat := 0x10000 + 0x1000 * n + 0x1C
abbrev Reg.PORT_PLCABCN (n : Nat) : Nat := 0x10000 + 0x1000 * n + 0x1D
abbrev Reg.PORT_PRBSERR (n : Nat) : Nat := 0x10000 + 0x1000 * n + 0x1E
abbrev Reg.PORT_PRBSBIT (n : Nat) : Nat := 0x10000 + 0x1000 * n + 0x1F
abbrev Reg.PORT_AFE (n : Nat) : Nat := 0x10000 + 0x1000 * n + 0x20
abbrev Reg.PORT_LMSCFG (n : Nat) : Nat := 0x10000 + 0x1000 * n + 0x21
abbrev Reg.PORT_COEFSTAT (n : Nat) : Nat := 0x10000 + 0x1000 * n + 0x23
abbrev Reg.PORT_TAPCFG (n : Nat) : Nat := 0x10000 + 0x1000 * n + 0x24
abbrev Reg.PORT_SLUBCFG (n : Nat) : Nat := 0x10000 + 0x1000 * n + 0x25
abbrev Reg.PORT_SNR (n : Nat) : Nat := 0x10000 + 0x1000 * n + 0x26
abbrev Reg.PORT_MFB (n : Nat) : Nat := 0x10000 + 0x1000 * n + 0x27
abbrev Reg.PORT_GAP (n : Nat) : Nat := 0x10000 + 0x1000 * n + 0x28
abbrev Reg.PORT_SYMCNT (n : Nat) : Nat := 0x10000 + 0x1000 * n + 0x2A
abbrev Reg.PORT_SLUBCNT (n : Nat) : Nat := 0x10000 + 0x1000 * n + 0x30
abbrev Reg.PORT_SLUBSYM (n : Nat) : Nat := 0x10000 + 0x1000 * n + 0x31
abbrev Reg.PORT_SLUBLONG (n : Nat) : Nat := 0x10000 + 0x1000 * n + 0x32
abbrev Reg.PORT_OVRCNT (n : Nat) : Nat := 0x10000 + 0x1000 * n + 0x33
abbrev Reg.PORT_SWAPCNT (n : Nat) : Nat := 0x10000 + 0x1000 * n + 0x34
abbrev Reg.PORT_SWAPREF (n : Nat) : Nat := 0x10000 + 0x1000 * n + 0x35
abbrev Reg.PORT_TAPOVR (n : Nat) : Nat := 0x10000 + 0x1000 * n + 0x36
abbrev Reg.PORT_TAILERR (n : Nat) : Nat := 0x10000 + 0x1000 * n + 0x37
abbrev Reg.PORT_LINKCFG (n : Nat) : Nat := 0x10000 + 0x1000 * n + 0x40
abbrev Reg.PORT_DIALECTCFG (n : Nat) : Nat := 0x10000 + 0x1000 * n + 0x41
abbrev Reg.PORT_LPICFG (n : Nat) : Nat := 0x10000 + 0x1000 * n + 0x42
abbrev Reg.PORT_SLEEPCFG (n : Nat) : Nat := 0x10000 + 0x1000 * n + 0x43
abbrev Reg.PORT_SQI (n : Nat) : Nat := 0x10000 + 0x1000 * n + 0x44
abbrev Reg.PORT_SQICFG (n : Nat) : Nat := 0x10000 + 0x1000 * n + 0x45
abbrev Reg.PORT_LINKSTAT (n : Nat) : Nat := 0x10000 + 0x1000 * n + 0x46
abbrev Reg.PORT_ANCNT (n : Nat) : Nat := 0x10000 + 0x1000 * n + 0x48
abbrev Reg.PORT_TRAINCNT (n : Nat) : Nat := 0x10000 + 0x1000 * n + 0x49
abbrev Reg.PORT_TRAINFAIL (n : Nat) : Nat := 0x10000 + 0x1000 * n + 0x4A
abbrev Reg.PORT_WARMCNT (n : Nat) : Nat := 0x10000 + 0x1000 * n + 0x4B
abbrev Reg.PORT_WARMMISS (n : Nat) : Nat := 0x10000 + 0x1000 * n + 0x4C
abbrev Reg.PORT_LPITXCNT (n : Nat) : Nat := 0x10000 + 0x1000 * n + 0x4D
abbrev Reg.PORT_LPIRXCNT (n : Nat) : Nat := 0x10000 + 0x1000 * n + 0x4E
abbrev Reg.PORT_WAKECNT (n : Nat) : Nat := 0x10000 + 0x1000 * n + 0x4F
abbrev Reg.PORT_FALSEWAKE (n : Nat) : Nat := 0x10000 + 0x1000 * n + 0x50
abbrev Reg.PORT_SQIALARM (n : Nat) : Nat := 0x10000 + 0x1000 * n + 0x51
abbrev Reg.PORT_PLCACOL (n : Nat) : Nat := 0x10000 + 0x1000 * n + 0x52
abbrev Reg.PORT_PLCASEEN (n : Nat) : Nat := 0x10000 + 0x1000 * n + 0x54
abbrev Reg.PORT_ROVCFG (n : Nat) : Nat := 0x10000 + 0x1000 * n + 0x60
abbrev Reg.PORT_ROVSTAT (n : Nat) : Nat := 0x10000 + 0x1000 * n + 0x61
abbrev Reg.PORT_ROVFN (n : Nat) : Nat := 0x10000 + 0x1000 * n + 0x62
abbrev Reg.PORT_ROVTXFRM (n : Nat) : Nat := 0x10000 + 0x1000 * n + 0x63
abbrev Reg.PORT_ROVRXFRM (n : Nat) : Nat := 0x10000 + 0x1000 * n + 0x64
abbrev Reg.PORT_ROVDROP (n : Nat) : Nat := 0x10000 + 0x1000 * n + 0x65
abbrev Reg.PORT_ROVBIG (n : Nat) : Nat := 0x10000 + 0x1000 * n + 0x66
abbrev Reg.PORT_ROVBAD (n : Nat) : Nat := 0x10000 + 0x1000 * n + 0x67
abbrev Reg.PORT_ROVERAS (n : Nat) : Nat := 0x10000 + 0x1000 * n + 0x68
abbrev Reg.PORT_ROVSTEP (n : Nat) : Nat := 0x10000 + 0x1000 * n + 0x69
abbrev Reg.PORT_ROVRETRY (n : Nat) : Nat := 0x10000 + 0x1000 * n + 0x6A
abbrev Reg.PORT_ROVLOSS (n : Nat) : Nat := 0x10000 + 0x1000 * n + 0x6B
abbrev Reg.PORT_CARDCFG (n : Nat) : Nat := 0x10000 + 0x1000 * n + 0x70
abbrev Reg.PORT_CARDSTAT (n : Nat) : Nat := 0x10000 + 0x1000 * n + 0x71
abbrev Reg.PORT_FPCFG (n : Nat) : Nat := 0x10000 + 0x1000 * n + 0x72
abbrev Reg.PORT_FPSTAT (n : Nat) : Nat := 0x10000 + 0x1000 * n + 0x73
abbrev Reg.PORT_FPALARM (n : Nat) : Nat := 0x10000 + 0x1000 * n + 0x74
abbrev Reg.PORT_FPTREND (n : Nat) : Nat := 0x10000 + 0x1000 * n + 0x75
abbrev Reg.PORT_FPSNAP (n : Nat) : Nat := 0x10000 + 0x1000 * n + 0x76
abbrev Reg.PORT_FPMISS (n : Nat) : Nat := 0x10000 + 0x1000 * n + 0x77
abbrev Reg.PORT_CARDEVT (n : Nat) (k : Nat) : Nat := 0x10000 + 0x1000 * n + 0x78 + k
abbrev Reg.PORT_FPDRIFT (n : Nat) (k : Nat) : Nat := 0x10000 + 0x1000 * n + 0x80 + k
abbrev Reg.PORT_HALF_A (n : Nat) (k : Nat) : Nat := 0x10000 + 0x1000 * n + 0x400 + k
abbrev Reg.PORT_HALF_B (n : Nat) (k : Nat) : Nat := 0x10000 + 0x1000 * n + 0x800 + k
abbrev Reg.LG_SKEIN (g : Nat) (k : Nat) : Nat := 0x70000 + 0x1000 * g + 0x100 + k
abbrev Reg.LG_SKCFGSTAT (g : Nat) : Nat := 0x70000 + 0x1000 * g + 0x108
abbrev Reg.LG_SKELIG (g : Nat) : Nat := 0x70000 + 0x1000 * g + 0x110
abbrev Reg.LG_SKSERVE (g : Nat) : Nat := 0x70000 + 0x1000 * g + 0x111
abbrev Reg.LG_SKOUT (g : Nat) : Nat := 0x70000 + 0x1000 * g + 0x112
abbrev Reg.LG_SKHALF (g : Nat) : Nat := 0x70000 + 0x1000 * g + 0x113
abbrev Reg.LG_SKREFP (g : Nat) : Nat := 0x70000 + 0x1000 * g + 0x114
abbrev Reg.LG_SKJOIN (g : Nat) : Nat := 0x70000 + 0x1000 * g + 0x120
abbrev Reg.LG_SKLEAVE (g : Nat) : Nat := 0x70000 + 0x1000 * g + 0x121
abbrev Reg.LG_SKSLAVE (g : Nat) : Nat := 0x70000 + 0x1000 * g + 0x122
abbrev Reg.LG_SKSWAP (g : Nat) : Nat := 0x70000 + 0x1000 * g + 0x123
abbrev Reg.LG_SKREF (g : Nat) : Nat := 0x70000 + 0x1000 * g + 0x124
abbrev Reg.LG_D2RPT (g : Nat) : Nat := 0x70000 + 0x1000 * g + 0x125
abbrev Reg.LG_D2BAD (g : Nat) : Nat := 0x70000 + 0x1000 * g + 0x126
abbrev Reg.LG_COEFSEL (g : Nat) : Nat := 0x70000 + 0x1000 * g + 0x1F0
abbrev Reg.LG_REPCTL (g : Nat) : Nat := 0x70000 + 0x1000 * g + 0x200
abbrev Reg.LG_REPSTAT (g : Nat) : Nat := 0x70000 + 0x1000 * g + 0x201
abbrev Reg.LG_REPMIS (g : Nat) : Nat := 0x70000 + 0x1000 * g + 0x202
abbrev Reg.LG_REPFIRST (g : Nat) : Nat := 0x70000 + 0x1000 * g + 0x203
abbrev Reg.LG_SLOT (g : Nat) (k : Nat) : Nat := 0x70000 + 0x1000 * g + 0x800 + k
abbrev Reg.HL_CTL (n : Nat) : Nat := 0x80000 + 0x400 * n + 0x0
abbrev Reg.HL_CFG (n : Nat) : Nat := 0x80000 + 0x400 * n + 0x1
abbrev Reg.HL_STAT (n : Nat) : Nat := 0x80000 + 0x400 * n + 0x2
abbrev Reg.HL_TXCFG (n : Nat) : Nat := 0x80000 + 0x400 * n + 0x3
abbrev Reg.HL_PARTNER (n : Nat) : Nat := 0x80000 + 0x400 * n + 0x4
abbrev Reg.HL_CRED (n : Nat) (k : Nat) : Nat := 0x80000 + 0x400 * n + 0x8 + k
abbrev Reg.HL_RXFRM (n : Nat) : Nat := 0x80000 + 0x400 * n + 0x10
abbrev Reg.HL_TXFRM (n : Nat) : Nat := 0x80000 + 0x400 * n + 0x11
abbrev Reg.HL_RXABORT (n : Nat) : Nat := 0x80000 + 0x400 * n + 0x12
abbrev Reg.HL_RXHCRC (n : Nat) : Nat := 0x80000 + 0x400 * n + 0x13
abbrev Reg.HL_RXBADID (n : Nat) : Nat := 0x80000 + 0x400 * n + 0x14
abbrev Reg.HL_RXLEN (n : Nat) : Nat := 0x80000 + 0x400 * n + 0x15
abbrev Reg.HL_RXFCS (n : Nat) : Nat := 0x80000 + 0x400 * n + 0x16
abbrev Reg.HL_MGMTDROP (n : Nat) : Nat := 0x80000 + 0x400 * n + 0x17
abbrev Reg.HL_CODEERR (n : Nat) : Nat := 0x80000 + 0x400 * n + 0x18
abbrev Reg.HL_OSBAD (n : Nat) : Nat := 0x80000 + 0x400 * n + 0x19
abbrev Reg.HL_LOSCNT (n : Nat) : Nat := 0x80000 + 0x400 * n + 0x1A
abbrev Reg.HL_LOLCNT (n : Nat) : Nat := 0x80000 + 0x400 * n + 0x1B
abbrev Reg.HL_BRINGUP (n : Nat) : Nat := 0x80000 + 0x400 * n + 0x1C
abbrev Reg.HL_TXABORT (n : Nat) : Nat := 0x80000 + 0x400 * n + 0x1D
abbrev Reg.HL_TXVERDROP (n : Nat) : Nat := 0x80000 + 0x400 * n + 0x1E
abbrev Reg.HL_CREDWAIT (n : Nat) : Nat := 0x80000 + 0x400 * n + 0x1F
abbrev Reg.HL_MGMTBAD (n : Nat) : Nat := 0x80000 + 0x400 * n + 0x20
abbrev Reg.TM_FREE : Nat := 0x90000 + 0x0
abbrev Reg.TM_CELLS : Nat := 0x90000 + 0x1
abbrev Reg.TM_BANKEN : Nat := 0x90000 + 0x2
abbrev Reg.TM_POOLRESG : Nat := 0x90000 + 0x3
abbrev Reg.TM_POOLRESY : Nat := 0x90000 + 0x4
abbrev Reg.TM_POOLRESR : Nat := 0x90000 + 0x5
abbrev Reg.TM_BANKUSE (k : Nat) : Nat := 0x90000 + 0x8 + k
abbrev Reg.TM_EXCLBASE (k : Nat) : Nat := 0x90000 + 0x10 + 2 * k
abbrev Reg.TM_EXCLCNT (k : Nat) : Nat := 0x90000 + 0x11 + 2 * k
abbrev Reg.TM_NOMATCH : Nat := 0x90000 + 0x20
abbrev Reg.TM_SPNDROP : Nat := 0x90000 + 0x21
abbrev Reg.TM_BANKLOST : Nat := 0x90000 + 0x22
abbrev Reg.TM_DEFSTREAM (k : Nat) : Nat := 0x90000 + 0x100 + k
abbrev Reg.TM_SGCTL (i : Nat) : Nat := 0x92000 + 0x80 * i + 0x0
abbrev Reg.TM_SGADMIN (i : Nat) : Nat := 0x92000 + 0x80 * i + 0x1
abbrev Reg.TM_SGBASES (i : Nat) : Nat := 0x92000 + 0x80 * i + 0x2
abbrev Reg.TM_SGBASEN (i : Nat) : Nat := 0x92000 + 0x80 * i + 0x3
abbrev Reg.TM_SGOPER (i : Nat) : Nat := 0x92000 + 0x80 * i + 0x4
abbrev Reg.TM_SGSWAP (i : Nat) : Nat := 0x92000 + 0x80 * i + 0x5
abbrev Reg.TM_SGAE0 (i : Nat) (k : Nat) : Nat := 0x92000 + 0x80 * i + 0x20 + 2 * k
abbrev Reg.TM_SGAE1 (i : Nat) (k : Nat) : Nat := 0x92000 + 0x80 * i + 0x21 + 2 * k
abbrev Reg.TM_SGOE0 (i : Nat) (k : Nat) : Nat := 0x92000 + 0x80 * i + 0x40 + 2 * k
abbrev Reg.TM_SGOE1 (i : Nat) (k : Nat) : Nat := 0x92000 + 0x80 * i + 0x41 + 2 * k
abbrev Reg.TM_MCFG (m : Nat) : Nat := 0x94000 + 8 * m + 0x0
abbrev Reg.TM_MB1 (m : Nat) : Nat := 0x94000 + 8 * m + 0x1
abbrev Reg.TM_MR2 (m : Nat) : Nat := 0x94000 + 8 * m + 0x2
abbrev Reg.TM_MB2 (m : Nat) : Nat := 0x94000 + 8 * m + 0x3
abbrev Reg.TM_MLEV (m : Nat) (k : Nat) : Nat := 0x94000 + 8 * m + 0x4 + k
abbrev Reg.TM_MYEL (m : Nat) : Nat := 0x94000 + 8 * m + 0x6
abbrev Reg.TM_MRED (m : Nat) : Nat := 0x94000 + 8 * m + 0x7
abbrev Reg.TM_SKEY0 (st : Nat) : Nat := 0xA0000 + 16 * st + 0x0
abbrev Reg.TM_SKEY1 (st : Nat) : Nat := 0xA0000 + 16 * st + 0x1
abbrev Reg.TM_SACT (st : Nat) (k : Nat) : Nat := 0xA0000 + 16 * st + 0x2 + k
abbrev Reg.TM_SACT2 (st : Nat) : Nat := 0xA0000 + 16 * st + 0x4
abbrev Reg.TM_SPOL0 (st : Nat) : Nat := 0xA0000 + 16 * st + 0x5
abbrev Reg.TM_SPOL1 (st : Nat) : Nat := 0xA0000 + 16 * st + 0x6
abbrev Reg.TM_SPOLST (st : Nat) : Nat := 0xA0000 + 16 * st + 0x7
abbrev Reg.TM_SMATCH (st : Nat) : Nat := 0xA0000 + 16 * st + 0x8
abbrev Reg.TM_SGATEDROP (st : Nat) : Nat := 0xA0000 + 16 * st + 0x9
abbrev Reg.TM_SRED (st : Nat) : Nat := 0xA0000 + 16 * st + 0xA
abbrev Reg.TM_SFCSBAD (st : Nat) : Nat := 0xA0000 + 16 * st + 0xB
abbrev Reg.TM_SCOLDROP (st : Nat) : Nat := 0xA0000 + 16 * st + 0xC
abbrev Reg.TM_SNOEGR (st : Nat) : Nat := 0xA0000 + 16 * st + 0xD
abbrev Reg.TM_ECFG (e : Nat) : Nat := 0xB0000 + 0x800 * e + 0x0
abbrev Reg.TM_ESTAT (e : Nat) : Nat := 0xB0000 + 0x800 * e + 0x1
abbrev Reg.TM_GCLCTL (e : Nat) : Nat := 0xB0000 + 0x800 * e + 0x2
abbrev Reg.TM_GCLADMIN (e : Nat) : Nat := 0xB0000 + 0x800 * e + 0x3
abbrev Reg.TM_GCLBASES (e : Nat) : Nat := 0xB0000 + 0x800 * e + 0x4
abbrev Reg.TM_GCLBASEN (e : Nat) : Nat := 0xB0000 + 0x800 * e + 0x5
abbrev Reg.TM_GCLOPER (e : Nat) : Nat := 0xB0000 + 0x800 * e + 0x6
abbrev Reg.TM_GCLSWAP (e : Nat) : Nat := 0xB0000 + 0x800 * e + 0x8
abbrev Reg.TM_EGUARD (e : Nat) : Nat := 0xB0000 + 0x800 * e + 0x9
abbrev Reg.TM_GCLAE0 (e : Nat) (k : Nat) : Nat := 0xB0000 + 0x800 * e + 0x400 + 2 * k
abbrev Reg.TM_GCLAE1 (e : Nat) (k : Nat) : Nat := 0xB0000 + 0x800 * e + 0x401 + 2 * k
abbrev Reg.TM_GCLOE0 (e : Nat) (k : Nat) : Nat := 0xB0000 + 0x800 * e + 0x500 + 2 * k
abbrev Reg.TM_GCLOE1 (e : Nat) (k : Nat) : Nat := 0xB0000 + 0x800 * e + 0x501 + 2 * k
abbrev Reg.TM_QCFG (e q : Nat) : Nat := 0xB0100 + 0x800 * e + 0x40 * q + 0x0
abbrev Reg.TM_QLIM (e q : Nat) : Nat := 0xB0100 + 0x800 * e + 0x40 * q + 0x1
abbrev Reg.TM_QLIMR (e q : Nat) : Nat := 0xB0100 + 0x800 * e + 0x40 * q + 0x2
abbrev Reg.TM_QSHP0 (e q : Nat) : Nat := 0xB0100 + 0x800 * e + 0x40 * q + 0x4
abbrev Reg.TM_QSHP1 (e q : Nat) : Nat := 0xB0100 + 0x800 * e + 0x40 * q + 0x5
abbrev Reg.TM_QSAMPLE (e q : Nat) : Nat := 0xB0100 + 0x800 * e + 0x40 * q + 0x8
abbrev Reg.TM_QSTAT (e q : Nat) : Nat := 0xB0100 + 0x800 * e + 0x40 * q + 0xC
abbrev Reg.TM_QSHSTAT (e q : Nat) : Nat := 0xB0100 + 0x800 * e + 0x40 * q + 0xD
abbrev Reg.TM_QENQ (e q : Nat) : Nat := 0xB0100 + 0x800 * e + 0x40 * q + 0x10
abbrev Reg.TM_QDEQ (e q : Nat) : Nat := 0xB0100 + 0x800 * e + 0x40 * q + 0x11
abbrev Reg.TM_QDROPADM (e q : Nat) : Nat := 0xB0100 + 0x800 * e + 0x40 * q + 0x12
abbrev Reg.TM_QDROPSTATE (e q : Nat) : Nat := 0xB0100 + 0x800 * e + 0x40 * q + 0x13
abbrev Reg.TM_QDROPLOST (e q : Nat) : Nat := 0xB0100 + 0x800 * e + 0x40 * q + 0x14
abbrev Reg.TM_QBYTES (e q : Nat) : Nat := 0xB0100 + 0x800 * e + 0x40 * q + 0x15
abbrev Reg.TM_QMAXDEPTH (e q : Nat) : Nat := 0xB0100 + 0x800 * e + 0x40 * q + 0x18
abbrev Reg.TM_QMAXDLY (e q : Nat) : Nat := 0xB0100 + 0x800 * e + 0x40 * q + 0x19
abbrev Reg.TM_QWINDLY (e q : Nat) : Nat := 0xB0100 + 0x800 * e + 0x40 * q + 0x1A
abbrev Reg.TM_QSAMPLES (e q : Nat) : Nat := 0xB0100 + 0x800 * e + 0x40 * q + 0x1B
abbrev Reg.TM_QHISTD (e q : Nat) (k : Nat) : Nat := 0xB0100 + 0x800 * e + 0x40 * q + 0x20 + k
abbrev Reg.TM_QHISTL (e q : Nat) (k : Nat) : Nat := 0xB0100 + 0x800 * e + 0x40 * q + 0x30 + k
abbrev Reg.SPN_CTL (n : Nat) : Nat := 0x100000 + 0x100 * n + 0x0
abbrev Reg.SPN_STAT (n : Nat) : Nat := 0x100000 + 0x100 * n + 0x1
abbrev Reg.SPN_STARTPC (n : Nat) : Nat := 0x100000 + 0x100 * n + 0x2
abbrev Reg.SPN_EPC (n : Nat) : Nat := 0x100000 + 0x100 * n + 0x3
abbrev Reg.SPN_ECAUSE (n : Nat) : Nat := 0x100000 + 0x100 * n + 0x4
abbrev Reg.SPN_IMADDR (n : Nat) : Nat := 0x100000 + 0x100 * n + 0x8
abbrev Reg.SPN_IMDATA (n : Nat) : Nat := 0x100000 + 0x100 * n + 0x9
abbrev Reg.SPN_DMADDR (n : Nat) : Nat := 0x100000 + 0x100 * n + 0xA
abbrev Reg.SPN_DMDATA (n : Nat) : Nat := 0x100000 + 0x100 * n + 0xB
abbrev Reg.SPN_INSTCNT (n : Nat) : Nat := 0x100000 + 0x100 * n + 0x10
abbrev Reg.SPN_EXCCNT (n : Nat) : Nat := 0x100000 + 0x100 * n + 0x12
abbrev Reg.SPN_SPECCNT (n : Nat) : Nat := 0x100000 + 0x100 * n + 0x13
abbrev Reg.SPN_SPECCAN (n : Nat) : Nat := 0x100000 + 0x100 * n + 0x14
abbrev Reg.SPN_ECCCOR (n : Nat) : Nat := 0x100000 + 0x100 * n + 0x15
abbrev Reg.SPN_ECCUNC (n : Nat) : Nat := 0x100000 + 0x100 * n + 0x16
abbrev Reg.SPN_STALLCNT (n : Nat) : Nat := 0x100000 + 0x100 * n + 0x17
abbrev Reg.SPN_DWBASE (n : Nat) (k : Nat) : Nat := 0x100000 + 0x100 * n + 0x40 + 2 * k
abbrev Reg.SPN_DWLIM (n : Nat) (k : Nat) : Nat := 0x100000 + 0x100 * n + 0x41 + 2 * k
abbrev Reg.SPN_DGATHER0 (n : Nat) : Nat := 0x100000 + 0x100 * n + 0x50
abbrev Reg.SPN_DGATHER1 (n : Nat) : Nat := 0x100000 + 0x100 * n + 0x51
abbrev Reg.SPN_DWRITE0 (n : Nat) : Nat := 0x100000 + 0x100 * n + 0x52
abbrev Reg.SPN_DWRITE1 (n : Nat) : Nat := 0x100000 + 0x100 * n + 0x53
abbrev Reg.SPN_DSKG (n : Nat) : Nat := 0x100000 + 0x100 * n + 0x54
abbrev Reg.SPN_DSKW (n : Nat) : Nat := 0x100000 + 0x100 * n + 0x55
abbrev Reg.DST_CTL : Nat := 0x200000 + 0x0
abbrev Reg.DST_STAT : Nat := 0x200000 + 0x1
abbrev Reg.DST_TRIGCFG : Nat := 0x200000 + 0x2
abbrev Reg.DST_EXPCFG : Nat := 0x200000 + 0x3
abbrev Reg.DST_EXPDMAC : Nat := 0x200000 + 0x4
abbrev Reg.DST_HANKID : Nat := 0x200000 + 0x5
abbrev Reg.DST_TRIGTIME : Nat := 0x200000 + 0x6
abbrev Reg.DST_RDADDR : Nat := 0x200000 + 0x8
abbrev Reg.DST_RDDATA : Nat := 0x200000 + 0x9
abbrev Reg.DST_HANKLEN : Nat := 0x200000 + 0xA
abbrev Reg.DST_CH (k : Nat) : Nat := 0x200000 + 0x10 + k
abbrev Reg.DST_TRIGCNT : Nat := 0x200000 + 0x20
abbrev Reg.DST_TRIGLOST : Nat := 0x200000 + 0x21
abbrev Reg.DST_EVLOST : Nat := 0x200000 + 0x22
abbrev Reg.DST_EXPFRM : Nat := 0x200000 + 0x23
abbrev Reg.DST_SPECREC : Nat := 0x200000 + 0x24

/-- A place in the register space: the block, its instance, the queue (queue block only) and the offset. -/
structure RegLoc where
  blk : Block
  inst : Nat
  sub : Nat
  off : Nat
deriving DecidableEq, Repr

/-- The egress block of R283: queue q at offset 0x100 + 0x40·q, the rest at its own offsets. -/
def RegLoc.egressAt (e o : Nat) : RegLoc :=
  if 0x100 ≤ o ∧ o < 0x300 then ⟨.queue, e, (o - 0x100) / 0x40, (o - 0x100) % 0x40⟩ else ⟨.egress, e, 0, o⟩

/-- The traffic manager's blocks (R283). -/
def RegLoc.tmAt (a : Nat) : Option RegLoc :=
  if a < 0x92000 then some ⟨.tm, 0, 0, a - 0x90000⟩
  else if a < 0x94000 then
    if a < 0x92080 then none else some ⟨.sg, (a - 0x92000) / 0x80, 0, (a - 0x92000) % 0x80⟩
  else if a < 0x96000 then some ⟨.meter, (a - 0x94000) / 8, 0, (a - 0x94000) % 8⟩
  else if a < 0xA0000 then none
  else if a < 0xB0000 then some ⟨.stream, (a - 0xA0000) / 16, 0, (a - 0xA0000) % 16⟩
  else if a < 0xB0000 + 112 * 0x800 then some (RegLoc.egressAt ((a - 0xB0000) / 0x800) ((a - 0xB0000) % 0x800))
  else none

/-- The top-level address map (R32), registers only. -/
def RegLoc.of (a : Nat) : Option RegLoc :=
  if a < 0x1000 then some ⟨.id, 0, 0, a⟩
  else if a < 0x2000 then some ⟨.clk, 0, 0, a - 0x1000⟩
  else if a < 0x3000 then some ⟨.pwr, 0, 0, a - 0x2000⟩
  else if a < 0x4000 then some ⟨.flt, 0, 0, a - 0x3000⟩
  else if a < 0x5000 then some ⟨.pin, 0, 0, a - 0x4000⟩
  else if a < 0x5800 then some ⟨.csp0, 0, 0, a - 0x5000⟩
  else if a < 0x6000 then some ⟨.csp1, 0, 0, a - 0x5800⟩
  else if a < 0x7000 then some ⟨.time, 0, 0, a - 0x6000⟩
  else if a < 0x8000 then some ⟨.bist, 0, 0, a - 0x7000⟩
  else if a < 0x9000 then some ⟨.knot, 0, 0, a - 0x8000⟩
  else if a < 0x10000 then none
  else if a < 0x70000 then some ⟨.port, (a - 0x10000) / 0x1000, 0, (a - 0x10000) % 0x1000⟩
  else if a < 0x76000 then some ⟨.lg, (a - 0x70000) / 0x1000, 0, (a - 0x70000) % 0x1000⟩
  else if a < 0x80000 then none
  else if a < 0x84000 then some ⟨.hl, (a - 0x80000) / 0x400, 0, (a - 0x80000) % 0x400⟩
  else if a < 0x90000 then none
  else if a < 0x100000 then RegLoc.tmAt a
  else if a < 0x103000 then some ⟨.spn, (a - 0x100000) / 0x100, 0, (a - 0x100000) % 0x100⟩
  else if a < 0x200000 then none
  else if a < 0x201000 then some ⟨.dst, 0, 0, a - 0x200000⟩
  else none

/-- What a row gives for an offset: some false at a register's own word, some true at the A + 1 of a GRD or SH pair. -/
def RegRow.hit (r : RegRow) (o : Nat) : Option Bool :=
  if o < r.off then none
  else
    let k := o - r.off
    let pair := r.acc = .grd ∨ r.acc = .sh
    if k % r.step = 0 ∧ k / r.step < r.cnt then some false
    else if pair ∧ r.step = 1 ∧ k = 1 then some true
    else if pair ∧ r.step = 2 ∧ k % 2 = 1 ∧ k / 2 < r.cnt then some true
    else none

/-- The first row that holds an offset. -/
def RegMap.find : List RegRow → Nat → Option (RegRow × Bool)
  | [], _ => none
  | r :: rs, o =>
    match r.hit o with
    | some b => some (r, b)
    | none => RegMap.find rs o

/-- The register at a word address, and whether the address is the A + 1 of its pair; none where no row assigns it (R32). -/
def RegMap.at (a : Nat) : Option (RegLoc × RegRow × Bool) :=
  match RegLoc.of a with
  | none => none
  | some l =>
    match RegMap.find (RegMap.rows l.blk) l.off with
    | none => none
    | some (r, b) => some (l, r, b)

/-- Codes of R357: (default severity, maximum severity, locked); none for an unassigned code. -/
def FaultCode.info (c : Nat) : Option (Nat × Nat × Bool) :=
  if c = 0x01 ∨ c = 0x02 ∨ c = 0x1D then some (0, 2, false)
  else if c = 0x03 ∨ c = 0x20 then some (2, 2, true)
  else if c = 0x04 then some (3, 3, false)
  else if c = 0x05 ∨ c = 0x08 ∨ c = 0x09 ∨ c = 0x0C ∨ c = 0x0D ∨ c = 0x10 ∨ c = 0x11 ∨ c = 0x12 ∨ c = 0x18 then some (1, 2, false)
  else if c = 0x13 ∨ c = 0x14 ∨ c = 0x28 ∨ c = 0x29 ∨ c = 0x2A ∨ c = 0x2B ∨ c = 0x2C ∨ c = 0x2D ∨ c = 0x2E ∨ c = 0x33 ∨ c = 0x34 then some (0, 1, false)
  else if c = 0x1C ∨ c = 0x30 ∨ c = 0x31 ∨ c = 0x32 then some (1, 1, false)
  else if c = 0x21 then some (0, 0, true)
  else if c = 0x22 ∨ c = 0x25 then some (2, 3, false)
  else if c = 0x23 ∨ c = 0x26 then some (1, 3, false)
  else if c = 0x24 then some (3, 3, false)
  else none

/-- FLT_CODECFGc at reset: LOCK, EN, SEV, MAXSEV per R357 (R377). -/
def FaultCode.resetCfg (c : Nat) : Nat :=
  match FaultCode.info c with
  | none => 0
  | some (d, m, l) => (if l then 2 ^ 47 else 0) + 2 ^ 46 + d * 2 ^ 44 + m * 2 ^ 40

/-- CLK_GATEd at reset for domain d (R324, R336): [2] DEEP, [1] SLP, [0] RUN. -/
def ClkGate.reset (d : Nat) : Nat :=
  if d = 1 ∨ d = 3 ∨ d = 14 ∨ d = 15 ∨ d = 17 ∨ d = 18 then 7
  else if d = 2 ∨ d = 4 ∨ d = 6 ∨ d = 16 then 1
  else 3

/-- Reset values that differ between the instances of one row. -/
def RegMap.resetOf (l : RegLoc) (r : RegRow) : Nat :=
  match l.blk with
  | .port =>
    if l.off = 1 then (if l.inst < 80 then 0x17E else 0x1FE)
    else if l.off = 2 then (if l.inst < 80 then 0x1967E else 0x196FE)
    else r.rst
  | .egress => if l.off = 0 then (if l.inst < 96 then 0x14 else 0x10) else r.rst
  | .pwr =>
    if 0x080 ≤ l.off ∧ l.off < 0x080 + 50 then
      let d := l.off - 0x080
      if d < 24 then 0xF else if 30 ≤ d ∧ d < 36 then 0xFF else if d = 48 then 1 else 0
    else r.rst
  | .clk =>
    if l.off = 0x010 + 26 then 2
    else if 0x030 ≤ l.off ∧ l.off < 0x030 + 18 then ClkGate.reset (l.off - 0x030 + 1)
    else r.rst
  | .flt => if 0x040 ≤ l.off ∧ l.off < 0x0C0 then FaultCode.resetCfg ((l.off - 0x040) / 2) else r.rst
  | .pin => if l.off = 3 then 0x241 else if l.off = 4 then 0x242 else if l.off = 31 then 0x143 else r.rst
  | .spn => if l.off = 0 then 2 ^ 47 + (if l.inst = 0 then 0 else if l.inst < 40 then 0x10 else 0x20) else r.rst
  | .csp0 => if l.off = 4 then 0x99_0F_FF_FF_00_00 else r.rst
  | .id =>
    if l.off = 1 then Config.idRev.toNat
    else if l.off = 2 then Config.idUnique.toNat % 2 ^ 48
    else if l.off = 0x10 then 1
    else r.rst
  | _ => r.rst

/-- What an unlisted address of the register store reads as: the reset value of its register, zero where there is none. -/
def RegMap.resetWord (a : Nat) : Word :=
  match RegMap.at a with
  | some (l, r, false) => BitVec.ofNat 48 (RegMap.resetOf l r)
  | _ => 0#48

end Sys2Proof
end

