-- ==== Sys2Proof/Machine/State.lean ====
section
/-! DEFINITION. The state of the LZ9648 as plain data, its reset value, and the ways a step can stop. -/

namespace Sys2Proof.Machine

/-- Why a step stops with a fault. -/
inductive Fault where
  /-- Raised by no command of this model: the spec's faults are events of the collector (R356), which are state. Safe. -/
  | none
deriving DecidableEq, Repr

/-- Why a command has no meaning here. -/
inductive Refusal where
  /-- The command has no meaning yet. Raised by Dispatch only. Safe. -/
  | notModelled (mnemonic : String)
  /-- A CSP1 frame while CSP1_CFG.MODE = 1: R380 says the mode serves board test and gives nothing of what it does. Raised by execCsp1Frame. Safe. -/
  | csp1MasterMode
deriving DecidableEq, Repr

/-! ## Register fabric -/

/-- A guard slot (R45): the guarded address, the held value, the ROOT time at which A was committed. -/
structure Guard where
  addr : Nat
  val : Word
  since : Nat
deriving DecidableEq, Repr

/-- What a requester's last access completed with (R39, R40). MODEL's record of an output. -/
structure Reply where
  status : Nat := 0
  addr : Nat := 0
  data : Word := 0
deriving DecidableEq, Repr

/-- Where the result of a host access goes. -/
inductive Sink where
  /-- the host's own record, for an access given as a bare command -/
  | bare
  /-- the CSP1 reply with this number -/
  | csp1 (id : Nat)
  /-- the in-band reply with this number -/
  | inband (id : Nat)
deriving DecidableEq, Repr

/-- A word access that waits in its requester's order (R37, R342): requester number, direction, address, value, where the result goes,
and whether a block answers the entry handshake that it starts with a delay (R340). -/
structure Waiting where
  req : Nat
  write : Bool
  addr : Nat
  data : Word
  sink : Sink
  delay : Bool := false
  /-- the requester might write the word as the access was issued (R35, R243) -/
  may : Bool := true
deriving DecidableEq, Repr

/-- A reply under construction (R39, R41, R382): words still to come, the status word's content, the data read. -/
structure ReplyBuf where
  id : Nat
  seq : Nat
  start : Nat
  left : Nat
  status : Nat := 0
  addr : Nat := 0
  data : List Word := []
  /-- the command was a burst (R41) -/
  burst : Bool := false
  /-- the write was cut: ADDR names the first word not written (R384) -/
  cut : Bool := false
deriving DecidableEq, Repr

/-- An in-band reply frame under construction (R50, R51). -/
structure InbandBuf where
  id : Nat
  /-- destination, source and EtherType bytes of the reply -/
  head : List Byte
  /-- replies of its commands, in order -/
  parts : List ReplyBuf
  /-- status word of the command that did not fit -/
  tail : List Word
deriving DecidableEq, Repr

/-- CSP1 as slave (R383–R386). -/
structure Csp1 where
  replies : List ReplyBuf := []
  nextId : Nat := 0
  /-- SEQ of the last reply delivered -/
  lastSeq : Nat := 0
  /-- LINES waiting for the next select -/
  lines : Option Nat := none
  /-- FRAME_CUT for the next reply sent -/
  cutMark : Bool := false
  /-- the words driven in the last device phase: MODEL's record of an output -/
  sent : List Word := []
deriving DecidableEq, Repr

/-! ## Ports -/

/-- Slub detector (R105, R106). -/
structure Slub where
  active : Bool := false
  /-- first symbol of the erasure window -/
  start : Nat := 0
  /-- last hit -/
  last : Nat := 0
  /-- the cap was reached: no new slub until 8 symbols without a hit -/
  blocked : Bool := false
  /-- this slub has triggered the hank -/
  trig : Bool := false
deriving DecidableEq, Repr

/-- What the chirp synthesiser sends in a symbol time (R167, R174): a data symbol's up-chirp, or a down-chirp of the preamble. -/
inductive Chirp where
  | up (m : BitVec 11)
  | down
deriving DecidableEq, Repr

/-- Roving state beside PORT_ROVSTAT and PORT_ROVFN (R173–R178). -/
structure Roving where
  /-- RETRY, RWIN in ms and LADMAX in use on the link (R175) -/
  retry : Nat := 0
  rwin : Nat := 0
  ladmax : Nat := 20
  /-- own LADMAX, MARGIN and IMPTHR of PORT_ROVCFG as taken at the entry to ROVING (R193) -/
  own : Nat := 20
  margin : Nat := 0x1E
  impthr : Nat := 0x180
  /-- setting switch agreed or proposed: index and FNEFF -/
  next : Option (Nat × Nat) := none
  /-- SETACK decoded (master) or sent (slave) -/
  acked : Bool := false
  /-- transmit queue of symbol values (R173), and the chirp being sent, of the preamble or in the port's own slot: MODEL's record of an output -/
  txq : List (BitVec 11) := []
  slot : Bool := false
  air : Option Chirp := none
  /-- time (ns) of the slave's first ACK slot, from which it is linked (R174) -/
  linkAt : Option Nat := none
  /-- time (ns) at which frame `orgFn` began, none before the grid is known (R172); own symbol times begun and partner's symbols judged since -/
  org : Option Nat := none
  orgFn : Nat := 0
  sent : Nat := 0
  heard : Nat := 0
  /-- control frames to send, the bytes of the frame being coded, the data frame put into the stream last, the convolutional encoder's register,
  and the old setting's stream has ended (R170, R176) -/
  ctl : List (List Byte) := []
  out : List Byte := []
  fid : Option Nat := none
  /-- frames put into the stream, a data frame as no bytes, each with the own symbol time at which it has left, none while bytes of it are to be
  coded (R181) -/
  fly : List (List Byte × Option Nat) := []
  enc : Nat := 0
  ended : Bool := false
  /-- PHASE under a carding sweep in the port's own slots (R186) -/
  back : Nat := 0
  /-- a restart attempt of an unlinked port, or a restart window, runs -/
  window : Bool := false
deriving DecidableEq, Repr

/-- One symbol period of a port's datapath (R85–R105): the ADC code and what the datapath has made of it so far. -/
structure Sym where
  raw : Int := 0
  /-- echo-subtracted sample, in ADC codes -/
  sub : Int := 0
  /-- data symbol sent in this period, before the skein precoder (R121) -/
  data : Int := 0
  /-- decision before FEXT cancellation (R119) -/
  tent : Int := 0
  /-- decision of the final slicer, its error (R98), and the symbol after (1+D) decoding (R87) -/
  dec : Int := 0
  err : Int := 0
  out : Int := 0
  /-- marks of R97 but for ERAS, and the transmitter quiet (R310) -/
  settle : Bool := false
  ovr : Bool := false
  lpi : Bool := false
  mark : Bool := false
  quiet : Bool := false
  /-- the coefficient half that served it (R92) -/
  half : Nat := 0
deriving DecidableEq, Repr

/-- A port's datapath, transmit history and sub-rings (R85–R108, R118–R130). Counts run from PORT_SYMCNT zero. -/
structure Rx where
  /-- the last 512 symbol periods, by number modulo 512 -/
  syms : Tab Sym := []
  /-- symbols sampled; with a tentative decision; with a final decision; groups of four that the loops have used -/
  got : Nat := 0
  tentN : Nat := 0
  decN : Nat := 0
  used : Nat := 0
  /-- transmit history: level sent in a symbol period, by number modulo 32,768 (R129) -/
  tx : Tab Int := []
  /-- the two sub-rings: (word number, word) at 8,192 · stream + number modulo 8,192 (R96) -/
  ring : Tab (Option (Nat × Word)) := []
  /-- places of the sub-rings whose word fails its parity (R371) -/
  badRing : List Nat := []
  /-- words completed of each stream, and the KIND of its last word, none before the first (R96) -/
  w0 : Nat := 0
  w1 : Nat := 0
  kind0 : Option Nat := none
  kind1 : Option Nat := none
  /-- where the next word of each stream begins, in sixteenths of a symbol or sample period (R97, R171, R185) -/
  at0 : Nat := 0
  at1 : Nat := 0
  /-- timing recovery: phase and frequency term (R89, R90) -/
  phase : Int := 0
  freq : Int := 0
  /-- the update of this LG cycle is lost to a swap (R94) -/
  lmsSkip : Bool := false
  /-- slicer SNR: symbols counted and sum of squared errors of the running block; the same of the last block that ended (R108) -/
  snrCnt : Nat := 0
  snrSum : Nat := 0
  snrLast : Option (Nat × Nat) := none
  /-- symbols of the latest hits, newest first (R105) -/
  hits : List Nat := []
  /-- erasure windows that have ended: first and last symbol, newest first (R105) -/
  wins : List (Nat × Nat) := []
  /-- d2 report (R130): the first symbol to report next, and the last report taken -/
  repNext : Nat := 1024
  report : Option Word := none
deriving DecidableEq, Repr

/-- A page that the port sends (R135, R136). Clause 98 fixes the places of a base page's bits, so it stands here by its content. -/
inductive TxPage where
  /-- modes advertised, role setting, low-power idle, next-page bit -/
  | base (adv : BitVec 8) (role : BitVec 2) (eee next : Bool)
  /-- the message page with the organisationally unique identifier tagged message code -/
  | tagged (oui : BitVec 24)
  /-- the unformatted page with the dialect offer -/
  | offer (field : BitVec 32)
  | null
deriving DecidableEq, Repr

/-- Everything a port holds beside its registers. -/
structure Port where
  /-- PORT_MODE, PORT_FECCFG, PORT_PLCACFG, PORT_DIALECTCFG, PORT_SLUBCFG as applied at the last entry to LISTEN (R81, R107, R137) -/
  applMode : Word := 0x1967E
  applFec : Word := 1
  applPlca : Word := 0x800020900
  applDial : Word := 7
  applSlub : Word := 0xC04010080C30
  /-- mode, role, dialects and precoding of the current attempt (R135, R62, R137) -/
  resMode : Nat := 0
  resRole : Nat := 0
  resDial : Nat := 0
  resPre : Bool := false
  resEee : Bool := false
  /-- the last period of UP (R142, R150) -/
  upMode : Nat := 0
  upRole : Nat := 0
  upD1 : Bool := false
  /-- the half that served in it -/
  upHalf : Nat := 0
  /-- a half still holds the coefficients of that period -/
  coefKept : Bool := false
  /-- an attempt runs; the port waits for admission; it is in a restart wait (R149, R241) -/
  attempt : Bool := false
  wantAdmit : Bool := false
  backoff : Bool := false
  /-- length of the restart wait in ms -/
  waitMs : Nat := 0
  /-- pages received in the running or last attempt -/
  pages : List Word := []
  /-- pages sent in it: MODEL's record of an output -/
  anSent : List TxPage := []
  /-- the retry of a skein member uses prefer MASTER (R64, R116) -/
  preferRetry : Bool := false
  /-- cause and time of the last loss (R150) -/
  lossCause : Nat := 0
  lossAt : Nat := 0
  /-- start of training; warm (R142); entered from ROVING (R182) -/
  trainAt : Nat := 0
  warm : Bool := false
  fromRov : Bool := false
  /-- sleep and wake (R155–R161) -/
  fromSleep : Bool := false
  sleepHs : Nat := 0
  sleepCmd : Bool := false
  /-- 0 none, 1 remote, 2 forwarded; and whether a local wake took part -/
  wakeKind : Nat := 0
  wakeLocal : Bool := false
  /-- the 2 s ended while the port was in TRAIN (R160) -/
  falseDue : Bool := false
  /-- a wake waits for the quad to be on (R159) -/
  wakePend : Bool := false
  detArmed : Bool := false
  detLevel : Bool := false
  /-- WTHR and ENQUAL as taken at the last arming (R166) -/
  detThr : Nat := 4
  detQual : Nat := 5
  /-- TC10 wake pulses sent (R159): MODEL's record of an output -/
  tc10 : Nat := 0
  /-- quiet causes of R74 that no register shows: SAFE reaction, failure of the group's high or low loop (R332) -/
  safeQuiet : Bool := false
  quietH : Bool := false
  quietL : Bool := false
  /-- the SLAVE in LISTEN has detected the partner's training signal -/
  trainSig : Bool := false
  /-- PORT_SYMCNT: the group's symbol count at which it restarted (R101, R127) -/
  symBase : Nat := 0
  /-- offset of a SLAVE's recovered clock from the group's reference, parts in a million (R64) -/
  ppm : Int := 0
  rx : Rx := {}
  /-- tail windows disabled while the serving half serves, bit w (R86) -/
  tailOff : Nat := 0
  /-- the decimator is configured for roving or carding (R99) -/
  decim : Bool := false
  /-- settle period: first symbol past it (R102, R103) -/
  settleEnd : Nat := 0
  slub : Slub := {}
  /-- recalibration: value waited for, and one held (R84) -/
  calRun : Nat := 0
  calHeld : Option Nat := none
  /-- MARK is due on the next tap word (R92, R96) -/
  mark : Bool := false
  /-- the host wrote THRESH since the port was last DISABLED (R107) -/
  threshHost : Bool := false
  /-- frames still to enter that touch an uncorrectable codeword (R71) -/
  rsMarks : Nat := 0
  /-- PRBS-31 transmitter: the last 31 bits sent (R75) -/
  prbsTx : Nat := 1
  /-- PRBS-31 checker (R76): synchronised; the last 31 bits; bits in a row without and with an error -/
  prbsSync : Bool := false
  prbsRx : Nat := 0
  prbsGood : Nat := 0
  prbsBad : Nat := 0
  /-- no SQI update yet in this period of UP (R145) -/
  sqiFirst : Bool := false
  /-- waking from transmit LPI (R153) -/
  txWaking : Bool := false
  /-- PLCA: update pending (R164), current transmit opportunity (R165), beaconing stopped by a conflict (R67), fallen back (R68) -/
  plcaNext : Option Word := none
  plcaOpp : Nat := 0
  /-- time (ns) at which the opportunity, or the wait after a frame of a burst, began; frames sent in it (R65) -/
  plcaAt : Nat := 0
  plcaBurst : Nat := 0
  /-- CSMA/CD (R65): attempts of the frame at the head that ended in a collision, and the time (ns) before which the port does not start -/
  csTries : Nat := 0
  csUntil : Nat := 0
  rov : Roving := {}
  /-- the state a carding sweep came from (R184), and PORT_CARDCFG as taken for it (R193) -/
  cardFrom : Nat := 0
  cardCfg : Word := 0x029406050000
  /-- words of the two coefficient halves that were written, by half · 1,024 + offset; the others read 0, or after a cold
  training the free values from `halfFree` on (R91, R140) -/
  half : Tab (Option Word) := []
  halfFree : Option Nat := none
  /-- fingerprint words (R190, R237) -/
  fp : List Word := []
  fpRefused : Nat := 0
  /-- PORT_FPCFG as taken at the last snapshot (R193) -/
  fpCfg : Word := 0x800A0A280501
  /-- a running PORT_FPCAPTURE: tap sums of the snapshots taken, and their number (R190) -/
  fpSum : List Int := []
  fpCount : Nat := 0
  /-- D_b of the last comparison in 0.01 dB; D_b summed since the last trend point, and their number; trend points in 10^−5 dB, newest first (R192) -/
  drift : List Int := []
  driftSum : List Int := []
  driftCnt : Nat := 0
  trend : List (List Int) := []
  /-- d3 trigger: messages still to send and their payload; last HANKID seen (R321) -/
  d3Left : Nat := 0
  d3Word : Word := 0
  d3Seen : Option Nat := none
  /-- the runtime has aligned the partner's d2 reports with the port's transmit symbols (R131) -/
  d2Align : Bool := false
  /-- payload of the last OAM message sent: MODEL's record of an output -/
  oam : Word := 0
  /-- last roving control frame given to the stream: MODEL's record of an output -/
  rovTx : List Byte := []
deriving DecidableEq, Repr

/-! ## Spindles -/

/-- Tagged operations (R210, R92). -/
inductive OpKind where
  | ldb | stb | gsw | cwr | cswSwap | cswMirror | ldf | mbs | mbr | lck | ulk | frx | ftx
deriving DecidableEq, Repr

/-- The operation in flight on a tag. -/
structure TagOp where
  kind : OpKind
  /-- effective address, or the descriptor or target word -/
  ea : Nat
  /-- value to store or send -/
  val : Word := 0
  /-- local address of the buffer -/
  loc : Nat := 0
  /-- words of the transfer, or the capacity -/
  len : Nat := 0
  /-- destination register, pending -/
  dst : Option Nat := none
  /-- issue number, for the orders of R215 -/
  seq : Nat := 0
  /-- issued on a predicted path (R219) -/
  spec : Bool := false
  /-- accepted and waiting for its effect (a swap, a mirror, a knot) -/
  accepted : Bool := false
  /-- TRY of LCK -/
  try_ : Bool := false
  /-- status already decided, to be written by the completion -/
  done : Option Nat := none
  /-- words already taken by a roving queue (R212) -/
  taken : Nat := 0
deriving DecidableEq, Repr

/-- Run states of SPN_STAT.STATE (R227). -/
inductive RunState where
  | notInService | halted | running | sleeping | halting | doubleHalt
deriving DecidableEq, Repr

/-- An unresolved branch (R218): its opcode and operands, both continuations, the prediction, and what the path started from. -/
structure Ckpt where
  opc : Nat
  ra : Nat
  rb : Nat
  taken : Nat
  next : Nat
  pred : Bool
  /-- issue number of the path's first tagged operation -/
  at_ : Nat
  g : Tab Word
  v : Tab Word
  status : Tab Nat
  /-- retired instructions, the branch included -/
  inst : Nat
  /-- loads issued on the path: word addresses -/
  loads : List Nat := []
  /-- instructions issued past it -/
  count : Nat := 0
  /-- counts that its loads hold back until the path is confirmed (R220): corrected local loads, prefetch hits and misses -/
  ecc : Nat := 0
  hits : Nat := 0
  misses : Nat := 0
deriving DecidableEq, Repr

/-- A frame in a spindle's receive queue: the two tag words, the bytes (R213), and the stored frame whose cells it holds (R21). -/
structure SpnFrame where
  w0 : Word
  w1 : Word
  bytes : List Byte
  fid : Nat := 0
deriving DecidableEq, Repr

/-- A spindle (R194–R199). -/
structure Spindle where
  pc : Nat := 0
  epc : Word := 0
  ecause : Word := 0
  /-- MODE[1:0], MODE.EXC, MODE.REPLAY, MODE.SPECEN (R198) -/
  mode : Nat := 1
  exc : Bool := false
  replay : Bool := false
  specen : Bool := true
  /-- g1–g31 by number; g0 is never stored -/
  g : Tab Word := []
  /-- lane i of vector register r at key 8r + i -/
  v : Tab Word := []
  /-- TIMEH latch -/
  timeH : Word := 0
  /-- TS STATUS by tag -/
  status : Tab Nat := []
  ops : Tab (Option TagOp) := []
  issued : Nat := 0
  imem : Tab Word := []
  dmem : Tab Word := []
  /-- words whose check bits fail: 1 single-bit, 2 double-bit error (R195) -/
  eccI : Tab Nat := []
  eccD : Tab Nat := []
  mbox : List Word := []
  rxq : List SpnFrame := []
  run : RunState := .notInService
  withdrawn : Bool := false
  /-- isolated by a fault reaction (R356) -/
  isolated : Bool := false
  /-- unresolved branches, oldest first -/
  ckpts : List Ckpt := []
  /-- retired instructions, 96 bits (R227) -/
  inst : Nat := 0
  /-- runs the previous runtime slot (R247) -/
  oldSlot : Bool := false
  /-- the halt in progress follows a double exception (R223) -/
  dbl : Bool := false
deriving DecidableEq, Repr

/-! ## Line groups -/

/-- What a replay holds of a line group's skein canceller: fields of `LineGroup`. -/
structure Canc where
  slots : Tab Word := []
  half : BitVec 8 := 0
  serve : BitVec 16 := 0
  servIn : Tab Nat := []
  diff : Tab Nat := []
deriving DecidableEq, Repr

/-- Replay datapath (R225, R319, R320). -/
structure Replay where
  /-- 0 idle, 1 running, 2 done -/
  st : Nat := 0
  /-- source, spindle and hank address as LG_REPCTL gave them at the start, and the time (ns) of the start -/
  src : Bool := false
  spn : Nat := 0
  base : Nat := 0
  at_ : Nat := 0
  /-- the recorded ports, their registers and the skein cancellers, as the replay datapath has them -/
  ports : Tab Port := []
  regs : Tab Word := []
  canc : Tab Canc := []
  /-- event records applied; recorded swaps passed, by port or 96 + 8g + skein -/
  ev : Nat := 0
  swaps : Tab Nat := []
  /-- flags of each port's last word + 1 (R310); slubs that ended: port, word of the start, length -/
  marks : Tab Nat := []
  slubs : List (Nat × Nat × Nat) := []
  /-- differences found and not yet counted: channel and word; and their number in this replay (R320) -/
  found : List (Nat × Nat) := []
  diffs : Nat := 0
deriving DecidableEq, Repr

/-- Skein canceller and replay of a line group. -/
structure LineGroup where
  /-- victim slots: key ((half · 16) + victim) · 352 + offset (R123) -/
  slots : Tab Word := []
  /-- half served per skein, swap accepted per skein -/
  half : BitVec 8 := 0
  pend : BitVec 8 := 0
  /-- local ports that serve -/
  serve : BitVec 16 := 0
  /-- canceller isolated by a fault reaction (R356) -/
  isolated : Bool := false
  /-- the skein in which each serving port serves -/
  servIn : Tab Nat := []
  /-- latched PORT_SYMCNT difference of a serving member to its reference, in symbols, two's complement of 64 bits (R127) -/
  diff : Tab Nat := []
  replay : Replay := {}
deriving DecidableEq, Repr

/-! ## Runtime -/

/-- Progress of a runtime command. -/
inductive CmdState where
  | waiting
  | running
  | finished (status : Nat) (result : Word) (gen : Nat)
deriving DecidableEq, Repr

/-- An outstanding command (R231): its entry and its progress. -/
structure Cmd where
  w0 : Word
  w1 : Word
  w2 : Word
  w3 : Word
  st : CmdState := .waiting
  /-- domains it has asked for and waits for (R238, R342) -/
  need : List Nat := []
deriving DecidableEq, Repr

/-- Runtime and mailboxes beside their registers. -/
structure Runtime where
  cmds : List Cmd := []
  /-- PHASE of the next completion -/
  phase : Bool := true
  /-- the host mailbox (R253) -/
  hostBox : List Word := []
  /-- API versions of the images in slots A and B; the ROM's where none was staged -/
  apiA : List Nat := [0x10, 0x11, 0x12, 0x13, 0x20, 0x21]
  apiB : List Nat := [0x10, 0x11, 0x12, 0x13, 0x20, 0x21]
  /-- u of R17 -/
  u : Nat := 8
deriving DecidableEq, Repr

/-- Knots beside KNOT_STATEn: waiting spindles in order of arrival (with their tags), lease end in ns, epochs (R250–R252). -/
structure Knots where
  waiters : Tab (List (Nat × Nat)) := []
  leaseEnd : Tab Nat := []
  epochs : Tab Nat := []
  hostEpoch : Nat := 0
deriving DecidableEq, Repr

/-! ## Traffic manager -/

/-- The descriptor of a frame (R24). -/
structure Desc where
  src : Nat
  colour : Nat := 3
  fcsBad : Bool := false
  trunc : Bool := false
  roving : Bool := false
  tsValid : Bool := true
  tsNs : Nat := 0
  stream : Nat := 0
  len : Nat := 0
  genLo : Nat := 0
deriving DecidableEq, Repr

/-- Cells of the bobbin window (R268). -/
abbrev allCells : Nat := 262144

/-- A stored frame (R268): descriptor, bytes, its cells, and the copies still queued or being sent. A cell lost with its bank stands `allCells` higher. -/
structure Stored where
  desc : Desc
  bytes : List Byte
  cells : List Nat
  copies : Nat
  /-- a cell whose link fails its parity (R357) -/
  linkBad : Option Nat := none
deriving DecidableEq, Repr

/-- A queued copy: the frame's number, the time of its admission (ns), and whether its credit wait was counted (R301). -/
structure QEntry where
  fid : Nat
  at_ : Nat
  waited : Bool := false
deriving DecidableEq, Repr

/-- A token bucket: level in units of 2^−24 byte and the time of its last update (R263). -/
structure Bucket where
  lvl : Nat
  at_ : Nat
deriving DecidableEq, Repr

/-- Shaper state (R273, R274): C or the credit, and P, signed, in units of 2^−24 byte. -/
structure Shaper where
  /-- credit-based -/
  credit : Bool
  c : Int
  p : Int
  at_ : Nat
deriving DecidableEq, Repr

/-- A gate list in operation (R275): since which time, and the time of the last commit (R278), in ns of device time. -/
structure Gcl where
  oper : Bool := false
  start : Nat := 0
  commit : Nat := 0
  /-- the list that operated before: its start, its cycle in ns and its entries (R261: a frame's first byte can come before the swap) -/
  old : Option (Nat × Nat × List (Nat × Nat × Nat)) := none
deriving DecidableEq, Repr

/-- Running sample window of a queue (R280). -/
structure Sampling where
  n : Nat := 0
  depth : Nat := 0
  delay : Nat := 0
deriving DecidableEq, Repr

/-- The frame an egress is sending: of a queue; or a management reply, which no queue and no cell holds (R50). -/
structure Sending where
  q : Nat
  fid : Nat
  /-- time of its admission (ns) -/
  at_ : Nat := 0
  mgmt : Bool := false
deriving DecidableEq, Repr

/-- A frame as it left an egress: tag words (host lanes) and bytes; one that was ended early left with fewer of them. MODEL's record of an output. -/
structure SentFrame where
  w0 : Word
  w1 : Word
  bytes : List Byte
  /-- ended with K30.7 or cut -/
  bad : Bool := false
deriving DecidableEq, Repr

/-- Traffic manager beside its registers. Queues, shapers, samples and guard marks are keyed 8e + q; stream-gate lists at 112 + i. -/
structure Tm where
  frames : Tab (Option Stored) := []
  nextFid : Nat := 0
  queues : Tab (List QEntry) := []
  cur : Tab (Option Sending) := []
  pol : Tab (Option Bucket) := []
  met : Tab (Option Bucket) := []
  shp : Tab (Option Shaper) := []
  gcl : Tab Gcl := []
  /-- close time + 1 (ns) of the window whose guard held back the queue's head (R276) -/
  held : Tab Nat := []
  smp : Tab Sampling := []
  sent : Tab (Option SentFrame) := []
  /-- banks isolated by a fault reaction: TM_BANKEN bit to set again (R363) -/
  bankIso : BitVec 8 := 0
deriving DecidableEq, Repr

/-! ## Host lanes -/

/-- A lane beside its registers (R295–R303). -/
structure Lane where
  /-- consecutive good capability sets with RXOK; sets with GO sent; a matching GO received -/
  good : Nat := 0
  goSent : Nat := 0
  goSeen : Bool := false
  /-- agreed RATE and version; 0 before -/
  rate : Nat := 0
  ver : Nat := 0
  /-- the transmitter has stepped; the lane waits for its clock and a BUSEQ change (R305) -/
  clkWait : Bool := false
  isolated : Bool := false
  /-- transmit sleep waits for the frame in progress and its notices; sets with the TXSLEEP and the RXSLEEP notice still to send (R303) -/
  sleepTx : Bool := false
  txSets : Nat := 0
  rxSets : Nat := 0
  /-- resumed from transmit sleep: frames wait for the partner's RXOK (R303) -/
  txHold : Bool := false
  /-- slips that its word boundary lacks (R297) -/
  off : Nat := 0
  /-- queues whose credit a set has changed, with GRANTED before it and the tick of the set (R306) -/
  credWas : List (Nat × Nat × Nat) := []
  /-- management replies waiting (R50) -/
  mgmt : List (List Byte) := []
  /-- data bytes of the last ordered set sent: MODEL's record of an output -/
  setOut : List Byte := []
  /-- code groups of the last frame or ordered set sent (R288): MODEL's record of an output -/
  code : List (BitVec 10) := []
deriving DecidableEq, Repr

/-! ## Distaff -/

/-- A checkpoint (R314): its channel, the index of its first word, its time since the arm in 0.125 ns, its 1,024 words. -/
structure Ckp where
  ch : Nat
  word : Nat
  at_ : Nat
  body : List Word
deriving DecidableEq, Repr

/-- The distaff beside its registers (R308–R318). -/
structure Distaff where
  armAt : BitVec 96 := 0
  /-- the model's clock at the arm; the stream's word count of each channel's port at the arm -/
  armNow : Nat := 0
  armWord : List Nat := []
  /-- words of each channel's stream since the arm and before the port's last restart of PORT_SYMCNT; the channel's next word is the first after it -/
  armBase : List Nat := []
  restart : List Bool := []
  /-- the model's clock at the trigger (R316) -/
  trigNow : Option Nat := none
  /-- words held per channel (oldest first), words recorded since the arm, words still to record after the trigger, channels stopped -/
  words : List (List Word) := []
  total : List Nat := []
  left : List Nat := []
  stopped : BitVec 4 := 0
  /-- flags of each channel's last word at KIND 00 (R310) -/
  marks : List Nat := []
  /-- event records, oldest first -/
  events : List (Word × Word) := []
  /-- checkpoints, oldest first, at most four for a channel -/
  ckpts : List Ckp := []
  /-- checkpoints being taken, as at their symbol: copy before update (R314) -/
  taking : List Ckp := []
  /-- the frozen hank as one sequence (R317) -/
  hank : List Word := []
deriving DecidableEq, Repr

/-! ## Clocks, power, faults, self-test -/

/-- A clock source's monitor (R327, R331, R334): good windows in a row; for a loop, its lock detector, and its output blocked. -/
structure ClkSrc where
  good : Nat := 0
  locked : Bool := false
  blocked : Bool := true
  /-- fields of CLK_SRCSEL that have selected the loop while its output was blocked (R334) -/
  due : Word := 0
deriving DecidableEq, Repr

/-- A switched domain (R338–R343). -/
structure Dom where
  /-- 0 ON, 1 RET, 2 OFF -/
  st : Nat := 0
  /-- 0 none, 1 entering RET, 2 entering OFF, 3 waking -/
  chg : Nat := 0
  /-- a block answered with a delay -/
  delayed : Bool := false
  /-- TARGET written while a transition runs -/
  next : Option Nat := none
  isolated : Bool := false
  /-- its crossing queues are flushing (R335) -/
  flushing : Bool := false
deriving DecidableEq, Repr

/-- AON, rails and hold-up beside the PWR registers (R344–R354). -/
structure Pwr where
  dom : Tab Dom := []
  /-- 0 running, 1 entering park, 2 parked, 3 woken and waiting for VDD_CORE -/
  park : Nat := 0
  pwrReq : Bool := true
  core : Bool := true
  ret : Bool := true
  io : Bool := true
  wakeIn : Bool := false
  /-- the model's clock at the start of park entry (R345) and at the last setting of the gauge, with the net current into the reserve in µA since (R353) -/
  parkAt : Nat := 0
  holdAt : Nat := 0
  holdUa : Int := 0
  /-- what the boot sequencer will meet: VDD_CORE has returned while the device ran from the reserve (R354) -/
  bootIn : Option BootInputs := none
  /-- events ROOT enters when it next runs (R350, R351, R357): source, code, INFO -/
  owed : List (Nat × Nat × Nat) := []
deriving DecidableEq, Repr

/-- A fault event (R356) with the device time of its entry (R368). -/
structure Ev where
  src : Nat
  code : Nat
  info : Nat
  at_ : BitVec 96
  /-- arrival order -/
  seq : Nat
  /-- the model's clock at its arrival (R362) -/
  ns : Nat := 0
deriving DecidableEq, Repr

/-- A history record's two words (R368). -/
structure Rec where
  w0 : Word
  w1 : Word
deriving DecidableEq, Repr

/-- A fault source (R362–R364): state 0 normal, 1 fault, 2 latched; codes seen, each with the time of its last event (ns); times of recoveries (ns) that count. -/
structure FSrc where
  st : Nat := 0
  sev : Nat := 0
  code : Nat := 0
  seen : List (Nat × Nat) := []
  recs : List Nat := []
  total : Nat := 0
deriving DecidableEq, Repr

/-- The fault collector (R359–R370). -/
structure Flt where
  queue : List Ev := []
  latch : Tab (Option Ev) := []
  arrivals : Nat := 0
  hist : List Rec := []
  first : Option Rec := none
  ovf : Bool := false
  loss : Bool := false
  src : Tab FSrc := []
  /-- reactions that wait for their unit's power domain: source, severity and code (R370) -/
  late : List (Nat × Nat × Nat) := []
  /-- FAULT_N: pulse running; held low by HOLD after it; forced low by R332 -/
  pulse : Bool := false
  hold : Bool := false
  async : Bool := false
deriving DecidableEq, Repr

/-- A self-test in progress. -/
structure Test where
  cls : Nat
  unit : Nat
  ext : Bool
  seq : Nat := 0
  /-- waiting for the unit's condition (R373) -/
  waiting : Bool := false
  /-- the unit was in use before the test: a spindle running, a bank's TM_BANKEN bit set; and that the spindle slept -/
  was : Bool := false
  slept : Bool := false
  /-- fault events that had arrived when the test started (R375) -/
  since : Nat := 0
deriving DecidableEq, Repr

/-- Self-test beside its registers (R373). -/
structure Bist where
  cur : Option Test := none
  /-- next unit in class order: its class and number -/
  cls : Nat := 1
  unit : Nat := 0
  /-- withdrawn units, class and unit, whose domain has returned from OFF since: a pass returns them (R374) -/
  cycled : List (Nat × Nat) := []
  /-- single-buffered ports of `cycled` of whose halves one has passed since (R95) -/
  halfOk : List Nat := []
deriving DecidableEq, Repr

/-- An image commit (R396, R397): words staged, step, target slot, SEQ, flash operations left in the step. -/
structure Commit where
  buf : List Word
  step : Nat
  slot : Nat
  seq : Nat
  left : Nat
deriving DecidableEq, Repr

/-- Boot sequencer, images and CSP0 (R389–R400). -/
structure Boot where
  /-- 0 not started, 1 sequencer running, 2 supervisor started, 3 configuration applied -/
  phase : Nat := 0
  bare : Bool := false
  win : Option Nat := none
  /-- the core family and CSP0, or HLT, move to their loops as soon as these are ready (R330) -/
  coreDue : Bool := false
  hlDue : Bool := false
  /-- the strap selects HL0, and its quad still has to wake before EN can be set (R300) -/
  laneDue : Bool := false
  cfgIx : Nat := 0
  cfgWait : Bool := false
  /-- prefetch lines held, most recently used first: each with its 32 words as they were filled (R389) -/
  lines : List (Nat × List Word) := []
  commit : Option Commit := none
deriving DecidableEq, Repr

/-- Fuses (R54, R55, R391, R394): life-cycle bits, blown anti-rollback fuses, and a life-cycle fuse being programmed. -/
structure Fuses where
  lc : BitVec 4 := 1
  count : Nat := 0
  prog : Option (BitVec 4) := none
deriving DecidableEq, Repr

/-- Pads (R404–R407, R415): levels the board drives on the straps, PPS_OUT. -/
structure Pins where
  gpio : BitVec 32 := 0
  /-- levels that pads keep: while their function changes (R405), and with PULL = 11 while nothing drives them (R407) -/
  keeper : BitVec 32 := 0
  pps : Bool := false
deriving DecidableEq, Repr

/-- Words of the bobbin, lo to hi − 1 by offset, that the device has filled and the spec gives no content of: word k holds free value
base + k − lo (log entries 6, 126). -/
structure FreeRange where
  lo : Nat
  hi : Nat
  base : Nat
deriving DecidableEq, Repr

/-- The whole block. -/
structure State where
  /-- commands waiting, first in first out -/
  pending : List Instr := []
  /-- elapsed time, ns: MODEL's own clock -/
  now : Nat := 0
  /-- device time (R413) -/
  time : BitVec 96 := 0
  /-- SETSEQ or STEPSEQ changed and not yet applied (R414) -/
  setPend : Bool := false
  stepPend : Bool := false
  /-- MODEL's own counter of free values -/
  free : Nat := 0
  /-- register words by address; an unlisted address reads as RegMap.resetWord -/
  regs : Tab Word := []
  /-- per-requester words, keyed by requester number · 2^32 + address -/
  perReq : Tab Word := []
  guard : Tab (Option Guard) := []
  shadow : Tab Word := []
  reply : Tab Reply := []
  /-- accesses that wait, oldest first; only the first of a requester is at its domain -/
  waitQ : List Waiting := []
  inband : List InbandBuf := []
  nextReply : Nat := 0
  /-- words whose parity fails (R47) -/
  badpar : Tab Bool := []
  bobbin : Tab Word := []
  bobFree : List FreeRange := []
  flash : Tab Byte := []
  fuses : Fuses := {}
  csp1 : Csp1 := {}
  boot : Boot := {}
  ports : Tab Port := []
  lgs : Tab LineGroup := []
  spns : Tab Spindle := []
  lanes : Tab Lane := []
  rt : Runtime := {}
  knots : Knots := {}
  tm : Tm := {}
  dst : Distaff := {}
  clk : Tab ClkSrc := []
  pwr : Pwr := {}
  flt : Flt := {}
  bist : Bist := {}
  pins : Pins := {}
deriving DecidableEq, Repr

/-- Right after reset: every register at its reset value, every queue empty, nothing listed in any memory. -/
def State.reset : State := {}

end Sys2Proof.Machine
end

