-- ==== Sys2Proof/Machine/Ops.lean ====
section
/-! DEFINITION. Named operations over the state: bit fields, register words, units, counters, free values, the clock of the model, and the entry of a fault event into the collector. -/

namespace Sys2Proof.Machine

/-- What a command answers. -/
abbrev Out := Host.Outcome State Fault Refusal

/-! ## Bit fields -/

/-- Bits [hi:lo] of a word as a number. -/
def fld (w : Word) (hi lo : Nat) : Nat := w.toNat / 2 ^ lo % 2 ^ (hi + 1 - lo)

/-- A word with its bits [hi:lo] replaced. -/
def putFld (w : Word) (hi lo v : Nat) : Word :=
  BitVec.ofNat 48 (w.toNat / 2 ^ (hi + 1) * 2 ^ (hi + 1) + v % 2 ^ (hi + 1 - lo) * 2 ^ lo + w.toNat % 2 ^ lo)

/-- One bit of a word. -/
def bitOf (w : Word) (i : Nat) : Bool := decide (w.toNat / 2 ^ i % 2 = 1)

/-- 1 for true. -/
def bnat (b : Bool) : Nat := if b then 1 else 0

/-- A number put into a range. -/
def clampNat (lo hi v : Nat) : Nat := if v < lo then lo else if hi < v then hi else v

/-- An integer put into a range. -/
def clampInt (lo hi v : Int) : Int := if v < lo then lo else if hi < v then hi else v

/-- Two's complement reading of an n-bit field. -/
def signed (n v : Nat) : Int := if v < 2 ^ (n - 1) then (v : Int) else (v : Int) - (2 : Int) ^ n

/-- Two's complement n-bit field of an integer. -/
def unsigned (n : Nat) (v : Int) : Nat := (v % (2 : Int) ^ n).toNat

/-- Ceiling of a quotient. -/
def ceilDiv (a b : Nat) : Nat := (a + b - 1) / b

/-- `a` is newer than `b` in n-bit serial-number arithmetic (R10). -/
def serialNewer (n a b : Nat) : Bool :=
  let d := (a + 2 ^ n - b % 2 ^ n) % 2 ^ n
  decide (1 ≤ d ∧ d ≤ 2 ^ (n - 1) - 1)

/-- Element of a list, with a default. -/
def nth {α : Type} (d : α) : List α → Nat → α
  | [], _ => d
  | x :: _, 0 => x
  | _ :: t, n + 1 => nth d t n

/-- A list with one element replaced. -/
def setNth {α : Type} (v : α) : List α → Nat → List α
  | [], _ => []
  | _ :: t, 0 => v :: t
  | x :: t, n + 1 => x :: setNth v t n

/-- Apply a state change for each element, in order. -/
def forAll {α σ : Type} (f : σ → α → σ) : List α → σ → σ
  | [], s => s
  | a :: t, s => forAll f t (f s a)

/-! ## Register words -/

/-- The stored word of a register. -/
def State.reg (s : State) (a : Nat) : Word := Tab.get RegMap.resetWord s.regs a

/-- Store a register word. -/
def State.setReg (s : State) (a : Nat) (v : Word) : State :=
  { s with regs := Tab.set RegMap.resetWord s.regs a v }

/-- A field of a stored register. -/
def State.rf (s : State) (a hi lo : Nat) : Nat := fld (s.reg a) hi lo

/-- Store a field of a register. -/
def State.setRf (s : State) (a hi lo v : Nat) : State := s.setReg a (putFld (s.reg a) hi lo v)

/-- One bit of a stored register. -/
def State.rb (s : State) (a i : Nat) : Bool := bitOf (s.reg a) i

/-- Store one bit of a register. -/
def State.setRb (s : State) (a i : Nat) (b : Bool) : State := s.setRf a i i (bnat b)

/-- Add to a 48-bit counter that wraps (R43). -/
def State.addCnt (s : State) (a n : Nat) : State := s.setReg a (s.reg a + BitVec.ofNat 48 n)

/-- Count one. -/
def State.bump (s : State) (a : Nat) : State := s.addCnt a 1

/-- Count one, saturating at 2^48 − 1. -/
def State.bumpSat (s : State) (a : Nat) : State :=
  if s.reg a = BitVec.allOnes 48 then s else s.bump a

/-! ## Units -/

def State.port (s : State) (p : Nat) : Port := Tab.get (fun _ => {}) s.ports p
def State.setPort (s : State) (p : Nat) (x : Port) : State := { s with ports := Tab.set (fun _ => {}) s.ports p x }
def State.updPort (s : State) (p : Nat) (f : Port → Port) : State := s.setPort p (f (s.port p))
def State.lg (s : State) (g : Nat) : LineGroup := Tab.get (fun _ => {}) s.lgs g
def State.setLg (s : State) (g : Nat) (x : LineGroup) : State := { s with lgs := Tab.set (fun _ => {}) s.lgs g x }
def State.updLg (s : State) (g : Nat) (f : LineGroup → LineGroup) : State := s.setLg g (f (s.lg g))
/-- A spindle as it is after reset: HALTED under its SPN_CTL.HALT = 1 (R227). -/
def Spindle.reset (n : Nat) : Spindle :=
  { mode := if n = 0 then 0 else if n < 40 then 1 else 2, run := .halted }
def State.spn (s : State) (n : Nat) : Spindle := Tab.get Spindle.reset s.spns n
def State.setSpn (s : State) (n : Nat) (x : Spindle) : State := { s with spns := Tab.set Spindle.reset s.spns n x }
def State.updSpn (s : State) (n : Nat) (f : Spindle → Spindle) : State := s.setSpn n (f (s.spn n))
def State.lane (s : State) (n : Nat) : Lane := Tab.get (fun _ => {}) s.lanes n
def State.setLane (s : State) (n : Nat) (x : Lane) : State := { s with lanes := Tab.set (fun _ => {}) s.lanes n x }
def State.updLane (s : State) (n : Nat) (f : Lane → Lane) : State := s.setLane n (f (s.lane n))
def State.dom (s : State) (d : Nat) : Dom := Tab.get (fun _ => {}) s.pwr.dom d
def State.setDom (s : State) (d : Nat) (x : Dom) : State :=
  { s with pwr := { s.pwr with dom := Tab.set (fun _ => {}) s.pwr.dom d x } }
def State.updDom (s : State) (d : Nat) (f : Dom → Dom) : State := s.setDom d (f (s.dom d))
def State.src (s : State) (k : Nat) : ClkSrc := Tab.get (fun _ => {}) s.clk k
def State.setSrc (s : State) (k : Nat) (x : ClkSrc) : State := { s with clk := Tab.set (fun _ => {}) s.clk k x }
def State.updSrc (s : State) (k : Nat) (f : ClkSrc → ClkSrc) : State := s.setSrc k (f (s.src k))
def State.fsrc (s : State) (k : Nat) : FSrc := Tab.get (fun _ => {}) s.flt.src k
def State.setFsrc (s : State) (k : Nat) (x : FSrc) : State :=
  { s with flt := { s.flt with src := Tab.set (fun _ => {}) s.flt.src k x } }

/-- The number of the free value that word k holds. -/
def freeAt : List FreeRange → Nat → Option Nat
  | [], _ => none
  | r :: t, k => if r.lo ≤ k ∧ k < r.hi then some (r.base + (k - r.lo)) else freeAt t k

/-- The ranges without the words from a to b − 1. -/
def cutRanges (a b : Nat) : List FreeRange → List FreeRange
  | [] => []
  | r :: t =>
    let l : List FreeRange := if r.lo < min r.hi a then [{ r with hi := min r.hi a }] else []
    let u : List FreeRange := if max r.lo b < r.hi then [{ r with lo := max r.lo b, base := r.base + (max r.lo b - r.lo) }] else []
    l ++ u ++ cutRanges a b t

/-- A word of the bobbin by its word offset in the window (R32); what nothing has written reads 0 (DESIGN CHOICE, log entry 3). -/
def State.bob (s : State) (k : Nat) : Word :=
  match freeAt s.bobFree k with
  | some i => Config.freeWord i
  | none => Tab.get (fun _ => 0#48) s.bobbin k
def State.setBob (s : State) (k : Nat) (v : Word) : State :=
  { s with bobbin := Tab.set (fun _ => 0#48) s.bobbin k v, bobFree := cutRanges k (k + 1) s.bobFree }

/-- The n words from offset lo on lose what they hold. -/
def State.dropBob (s : State) (lo n : Nat) : State :=
  { s with bobbin := Tab.keep (fun k => decide (k < lo) || decide (lo + n ≤ k)) s.bobbin, bobFree := cutRanges lo (lo + n) s.bobFree }

/-- The device writes the n words from offset lo on, and the spec does not say with what (log entries 6, 126). -/
def State.freshBob (s : State) (lo n : Nat) : State :=
  let t := s.dropBob lo n
  { t with bobFree := { lo := lo, hi := lo + n, base := s.free } :: t.bobFree, free := s.free + n }

/-- A flash byte; an erased byte reads 0xFF (log entry 4). -/
def State.flashByte (s : State) (k : Nat) : Byte := Tab.get (fun _ => 0xFF#8) s.flash k
def State.setFlashByte (s : State) (k : Nat) (b : Byte) : State :=
  { s with flash := Tab.set (fun _ => 0xFF#8) s.flash k b }

/-- Big-endian value of bytes. -/
def bytesVal : List Byte → Nat
  | [] => 0
  | b :: t => b.toNat * 256 ^ t.length + bytesVal t

/-- The n bytes of a number, most significant first. -/
def valBytes : Nat → Nat → List Byte
  | 0, _ => []
  | n + 1, v => BitVec.ofNat 8 (v / 256 ^ n) :: valBytes n v

/-- A 48-bit word from its six bytes (R33: the first in bits [47:40]). -/
def wordOfBytes (bs : List Byte) : Word := BitVec.ofNat 48 (bytesVal bs)

/-- The six bytes of a word. -/
def bytesOfWord (w : Word) : List Byte := valBytes 6 w.toNat

/-- Bytes as words; a last short group is filled with zeros. -/
def wordsOfBytes : List Byte → List Word
  | a :: b :: c :: d :: e :: f :: t => wordOfBytes [a, b, c, d, e, f] :: wordsOfBytes t
  | [] => []
  | l => [wordOfBytes ((l ++ List.replicate (6 - l.length) 0#8).take 6)]

/-- Words as bytes. -/
def bytesOfWords : List Word → List Byte
  | [] => []
  | w :: t => bytesOfWord w ++ bytesOfWords t

/-- The flash bytes from a byte address. -/
def State.flashBytes (s : State) (at_ : Nat) : Nat → List Byte
  | 0 => []
  | n + 1 => s.flashByte at_ :: s.flashBytes (at_ + 1) n

/-- The flash words from a word offset of the flash window (R33). -/
def State.flashWord (s : State) (k : Nat) : Word := wordOfBytes (s.flashBytes (6 * k) 6)

/-- The words of a held line. -/
def heldLine (l : Nat) (lines : List (Nat × List Word)) : Option (List Word) := (lines.find? (fun x => decide (x.1 = l))).map (·.2)

/-- Line l stands first in the prefetch buffer of 8 lines, replaced least-recently-used: as it was filled, else filled whole from the flash (R389). -/
def State.useLine (s : State) (l : Nat) (lines : List (Nat × List Word)) : List (Nat × List Word) :=
  ((l, (heldLine l lines).getD ((List.range 32).map (fun i => s.flashWord (32 * l + i)))) :: lines.filter (fun x => !decide (x.1 = l))).take 8

/-- The line of flash word k is held. -/
def State.flashHit (s : State) (k : Nat) : Bool := (heldLine (k / 32) s.boot.lines).isSome

/-- Flash word k as a read through the prefetch buffer gives it: a held line's word is as it was filled. -/
def State.flashRead (s : State) (k : Nat) : Word :=
  match heldLine (k / 32) s.boot.lines with
  | some ws => nth 0#48 ws (k % 32)
  | none => s.flashWord k

/-- A read of flash word k fills its line on a miss, and with NEXT the following one. -/
def State.flashFill (s : State) (k : Nat) : State :=
  let ls := if s.flashHit k = false ∧ s.rb Reg.CSP0_PFCFG 0 then s.useLine (k / 32) (s.useLine (k / 32 + 1) s.boot.lines)
    else s.useLine (k / 32) s.boot.lines
  { s with boot := { s.boot with lines := ls } }

/-- A read of flash word k counts as a hit or a miss. -/
def State.flashTouch (s : State) (k : Nat) : State :=
  (s.flashFill k).bump (if s.flashHit k then Reg.CSP0_PFHIT else Reg.CSP0_PFMISS)

/-- Word k of the flash window lies within the flash (R33). -/
def State.flashHas (s : State) (k : Nat) : Bool := decide (6 * k + 6 ≤ s.rf Reg.CSP0_FLASHSIZE 31 0)

/-- A flash read must wait: a commit occupies the flash (R390, R397). -/
def State.flashBusy (s : State) : Bool := s.boot.commit.isSome

/-- Flash word k cannot be read: CSP0 in slave mode has released its pads, and its line is not held. R380 says nothing of such a read: as one whose
target is isolated it completes ABSENT, and a fetch waits (DESIGN CHOICE, log entry 173). -/
def State.flashGone (s : State) (k : Nat) : Bool := s.rb Reg.CSP0_CFG 47 && !s.flashHit k

/-- Consecutive bobbin words. -/
def State.bobWords (s : State) (k : Nat) : Nat → List Word
  | 0 => []
  | n + 1 => s.bob k :: s.bobWords (k + 1) n

/-- Write consecutive bobbin words. -/
def State.setBobWords (s : State) (k : Nat) : List Word → State
  | [] => s
  | w :: t => (s.setBob k w).setBobWords (k + 1) t

/-! ## Filled ranges -/

/-- Entries for n keys from lo on, without those that a default gives. -/
def fillFrom {α : Type} [DecidableEq α] (d f : Nat → α) (lo : Nat) : Nat → Tab α
  | 0 => []
  | n + 1 => if f lo = d lo then fillFrom d f (lo + 1) n else (lo, f lo) :: fillFrom d f (lo + 1) n

/-- The table with n keys from lo on set by f. -/
def fillTab {α : Type} [DecidableEq α] (d : Nat → α) (t : Tab α) (lo n : Nat) (f : Nat → α) : Tab α :=
  Tab.keep (fun j => decide (j < lo)) t ++ (fillFrom d f lo n ++ Tab.keep (fun j => decide (lo + n ≤ j)) t)

/-! ## Free values and time -/

/-- A free value: nothing constrains it (log entry 2). -/
def State.drawFree (s : State) : Word × State := (Config.freeWord s.free, { s with free := s.free + 1 })

/-- A number the spec leaves open, reduced to n bits. -/
def State.drawNat (s : State) (n : Nat) : Nat × State := ((Config.freeWord s.free).toNat % 2 ^ n, { s with free := s.free + 1 })

/-- Units of 2^−18 ns in a second. -/
def timeUnit : Nat := 10 ^ 9 * 2 ^ 18

/-- The device time as one number of 2^−18 ns units (R413). -/
def timeVal (t : BitVec 96) : Nat := t.toNat / 2 ^ 48 * timeUnit + t.toNat % 2 ^ 48

/-- The device time of a number of units, seconds modulo 2^48. -/
def timeOf (v : Nat) : BitVec 96 := BitVec.ofNat 96 (v / timeUnit % 2 ^ 48 * 2 ^ 48 + v % timeUnit)

/-- The device time plus a signed number of units. -/
def timeAdd (t : BitVec 96) (d : Int) : BitVec 96 :=
  timeOf (((timeVal t : Int) + d) % ((2 : Int) ^ 48 * timeUnit)).toNat

/-- The device time in ns ticks of 10^9 per second, fraction dropped. -/
def timeNs (t : BitVec 96) : Nat := timeVal t / 2 ^ 18

def timeSec (t : BitVec 96) : Nat := t.toNat / 2 ^ 48
def timeNsField (t : BitVec 96) : Nat := t.toNat / 2 ^ 18 % 2 ^ 30

/-- TIME runs on its fallback (R326): CLK_ACTIVE bit 9 is 0. -/
def State.timeFallback (s : State) : Bool := !s.rb Reg.CLK_ACTIVE 9

/-- ROOT runs: the boot sequencer has started, and VDD_CORE or the hold-up reserve (R352) feeds it. -/
def State.rootUp (s : State) : Bool := decide (s.boot.phase ≠ 0) && (s.pwr.core || s.rb Reg.PWR_HOLDSTAT 45)

/-- The set and the step waiting for the next tick (R414): the set first. -/
def applySetStep (s : State) (t : BitVec 96) : State :=
  let t1 := if s.setPend then BitVec.ofNat 96 ((s.reg Reg.TIME_SETS).toNat * 2 ^ 48 + (s.reg Reg.TIME_SETN).toNat) else t
  let t2 := if s.stepPend then timeAdd t1 (signed 48 (s.reg Reg.TIME_STEP).toNat * 2 ^ 18) else t1
  let s1 := { s with time := t2, setPend := false, stepPend := false }
  let s2 := if s.setPend then (s1.setRb Reg.TIME_STAT 47 true).setRf Reg.TIME_STAT 23 20 (s.rf Reg.TIME_CTL 23 20) else s1
  if s.stepPend then s2.setRf Reg.TIME_STAT 19 16 (s.rf Reg.TIME_CTL 19 16) else s2

/-- One TIME tick (R413, R414, R326): 2 ns plus ADJ, or 5 ns on the fallback. -/
def idleTick (s : State) : State :=
  let dt := if s.timeFallback then 5 else 2
  let s1 := { s with now := s.now + dt }
  if s.rootUp then
    let adj := if s.timeFallback then 0 else signed 24 (s.rf Reg.TIME_RATE 23 0)
    applySetStep s1 (timeAdd s.time ((dt * 2 ^ 18 : Nat) + adj))
  else s1

/-! ## Domains of addresses -/

/-- The switched power domain that serves a word address (R32, R15); none for ROOT and for unassigned addresses. PORT_STATE is served from ROOT (R79). -/
def domainOf (a : Nat) : Option Nat :=
  if a < 0x10000 then none
  else if a < 0x70000 then if (a - 0x10000) % 0x1000 = 0 then none else some ((a - 0x10000) / 0x4000)
  else if a < 0x76000 then some (24 + (a - 0x70000) / 0x1000)
  else if a < 0x80000 then none
  else if a < 0x84000 then some (44 + (a - 0x80000) / 0x1000)
  else if a < 0x90000 then none
  else if a < 0x100000 then some 48
  else if a < 0x103000 then some (30 + (a - 0x100000) / 0x800)
  else if a < 0x200000 then none
  else if a < 0x201000 then some 49
  else if a < 0x1000000 then none
  else if a < 0x1800000 then some (36 + (a - 0x1000000) / 0x100000)
  else none

/-- The domain is ON, not changing and not isolated, and its crossing queues are in service (R335). -/
def State.domOn (s : State) (d : Nat) : Bool :=
  let x := s.dom d
  decide (x.st = 0 ∧ x.chg = 0) && !x.isolated && !x.flushing

/-- The domain is powered (ON, or entering a lower state). -/
def State.domPowered (s : State) (d : Nat) : Bool :=
  decide ((s.dom d).st = 0 ∧ (s.dom d).chg ≠ 3)

/-! ## Entry of a fault event (R361) -/

def State.codeSev (s : State) (c : Nat) : Nat := s.rf (Reg.FLT_CODECFG c) 45 44
def State.codeEn (s : State) (c : Nat) : Bool := s.rb (Reg.FLT_CODECFG c) 46
def State.codeLocked (s : State) (c : Nat) : Bool := s.rb (Reg.FLT_CODECFG c) 47

def State.setFlt (s : State) (f : Flt) : State := { s with flt := f }

/-- Position, from the newest, of the newest queued event below a severity and without a locked code. -/
def newestBelow (s : State) (sev : Nat) : List Ev → Option Nat
  | [] => none
  | e :: t => if s.codeSev e.code < sev ∧ s.codeLocked e.code = false then some 0 else (newestBelow s sev t).map (· + 1)

/-- Remove the element at a position. -/
def dropNth {α : Type} : List α → Nat → List α
  | [], _ => []
  | _ :: t, 0 => t
  | x :: t, n + 1 => x :: dropNth t n

/-- An event is lost (R361, R369). -/
def State.loseEvent (s : State) : State :=
  (s.setFlt { s.flt with loss := true }).bump Reg.FLT_INLOST

/-- An event arrives at the collector: into the input queue of 64 entries, into its source's locked latch, in place of a
lesser event, or lost (R361). The device time of its entry is kept for the history (R368). -/
def State.raise (s : State) (src code info : Nat) : State :=
  let e : Ev := { src := src, code := code, info := info % 2 ^ 28, at_ := s.time, seq := s.flt.arrivals, ns := s.now }
  let s1 := s.setFlt { s.flt with arrivals := s.flt.arrivals + 1 }
  if s.codeLocked code then
    match Tab.get (fun _ => none) s.flt.latch src with
    | some _ => s1.bump Reg.FLT_REPEATCNT
    | none =>
      if s1.flt.queue.length < 64 then s1.setFlt { s1.flt with queue := s1.flt.queue ++ [e] }
      else s1.setFlt { s1.flt with latch := Tab.set (fun _ => none) s1.flt.latch src (some e) }
  else if s1.flt.queue.length < 64 then s1.setFlt { s1.flt with queue := s1.flt.queue ++ [e] }
  else
    match newestBelow s (s.codeSev code) s1.flt.queue.reverse with
    | some k => (s1.setFlt { s1.flt with queue := dropNth s1.flt.queue (s1.flt.queue.length - 1 - k) ++ [e] }).loseEvent
    | none => s1.loseEvent

/-- Raise an event, or, while ROOT is down, owe it to the next start of ROOT (R350, R351, R357). -/
def State.raiseOrOwe (s : State) (src code info : Nat) : State :=
  if s.rootUp then s.raise src code info
  else { s with pwr := { s.pwr with owed := s.pwr.owed ++ [(src, code, info)] } }

/-- Requester numbers of the fabric (R38): spindles 0–47, the host path 48, JTAG 49. -/
abbrev reqHost := 48
abbrev reqJtag := 49

end Sys2Proof.Machine
end

