-- ==== Sys2Proof/Machine/Code.lean ====
section
/-! DEFINITION. The line code of the host lanes: 8b/10b with its running disparity, and the symbols of frames and ordered sets (R288, R289, R295).
The spec names the tables of IEEE 802.3 Clause 36 and gives none of them; they stand here as the clause has them (PRESUMED, log entry 160). -/

namespace Sys2Proof.Machine

/-- The 5b/6b half of data symbols D0–D31 at negative running disparity, bit a first. -/
def table6 : List Nat :=
  [0x27, 0x1D, 0x2D, 0x31, 0x35, 0x29, 0x19, 0x38, 0x39, 0x25, 0x15, 0x34, 0x0D, 0x2C, 0x1C, 0x17] ++
  [0x1B, 0x23, 0x13, 0x32, 0x0B, 0x2A, 0x1A, 0x3A, 0x33, 0x26, 0x16, 0x36, 0x0E, 0x2E, 0x1E, 0x2B]

/-- The 3b/4b half of data symbols Dx.0–Dx.7 and of control symbols K28.0–K28.7 at negative running disparity, bit f first. -/
def table4 : List Nat := [0xB, 0x9, 0x5, 0xC, 0xD, 0xA, 0x6, 0xE]
def table4K : List Nat := [0xB, 0x6, 0xA, 0xC, 0xD, 0x5, 0x9, 0x7]

/-- Ones among the low n bits. -/
def onesIn (n v : Nat) : Nat := ((List.range n).filter (fun i => decide (v / 2 ^ i % 2 = 1))).length

/-- A half of n bits as it is sent at a running disparity (true: positive): the complement at positive disparity of a half that is not balanced,
or that `flips` although it is; and the disparity after it. -/
def half10 (n v : Nat) (flips pos : Bool) : Nat × Bool :=
  let uneven := decide (2 * onesIn n v ≠ n)
  (if pos && (uneven || flips) then 2 ^ n - 1 - v else v, if uneven then !pos else pos)

/-- The ten bits of a symbol (K or D, byte), bit a first, and the running disparity after it. -/
def code10 (k : Bool) (b : Byte) (pos : Bool) : BitVec 10 × Bool :=
  let x := b.toNat % 32
  let y := b.toNat / 32
  let h := half10 6 (if k ∧ x = 28 then 0x0F else nth 0 table6 x) (decide (x = 7)) pos
  let alt := decide (y = 7) && !k && (if h.2 then decide (x = 11 ∨ x = 13 ∨ x = 14) else decide (x = 17 ∨ x = 18 ∨ x = 20))
  let l := half10 4 (if k then nth 0 table4K y else if alt then 0x7 else nth 0 table4 y) (k || decide (y = 3)) h.2
  (BitVec.ofNat 10 (h.1 * 16 + l.1), l.2)

/-- Symbols coded one after another from a running disparity. -/
def codeAll : List (Bool × Byte) → Bool → List (BitVec 10)
  | [], _ => []
  | (k, b) :: t, pos => let c := code10 k b pos; c.1 :: codeAll t c.2

/-- Symbols Kx.y and Dx.y. -/
def ksym (x y : Nat) : Bool × Byte := (true, BitVec.ofNat 8 (32 * y + x))
def dsym (x y : Nat) : Bool × Byte := (false, BitVec.ofNat 8 (32 * y + x))

/-- The idle pair at a running disparity: K28.5, then D5.6 where the disparity after it is positive and D16.2 where it is not; the disparity after
either pair is positive. -/
def idlePair (pos : Bool) : List (Bool × Byte) := [ksym 28 5, if (code10 true 0xBC pos).2 then dsym 5 6 else dsym 16 2]

/-- The symbols of a frame: K27.7, the tag header, the frame, its end K29.7 (good) or K30.7, and D0.0 where the end stands at an even position. -/
def frameSyms (w0 w1 : Word) (bs : List Byte) (good : Bool) : List (Bool × Byte) :=
  let end_ := ksym (if good then 29 else 30) 7
  ksym 27 7 :: ((bytesOfWord w0 ++ bytesOfWord w1 ++ bs).map (fun b => (false, b)) ++ (if bs.length % 2 = 1 then [end_, dsym 0 0] else [end_]))

/-- The symbols of an ordered set: its K symbol and its bytes. -/
def setSyms (credit : Bool) (bs : List Byte) : List (Bool × Byte) := ksym 28 (if credit then 3 else 1) :: bs.map (fun b => (false, b))

/-- Code groups that leave a lane's transmitter for symbols after an idle pair, whose disparity is positive. -/
def lineCode (syms : List (Bool × Byte)) : List (BitVec 10) := codeAll syms true

end Sys2Proof.Machine
end

