-- ==== Sys2Proof/Machine/DstOps.lean ====
section
/-! DEFINITION. Port states, skein membership and test modes as the symbol clock needs them, the symbol counting of ports, and the distaff's event
stream and triggers (R57, R64, R75, R78, R101, R113, R310–R321). -/

namespace Sys2Proof.Machine

/-! ## Ports: state, skein, test mode -/

/-- PORT_STATE.STATE codes (R78). -/
abbrev stDisabled := 0
abbrev stListen := 1
abbrev stTrain := 2
abbrev stUp := 3
abbrev stRoving := 4
abbrev stCarding := 5
abbrev stSleep := 6
abbrev stFault := 7

def State.pst (s : State) (p : Nat) : Nat := s.rf (Reg.PORT_STATE p) 31 28
def State.pgen (s : State) (p : Nat) : Nat := s.rf (Reg.PORT_STATE p) 47 32
def State.pmode (s : State) (p : Nat) : Nat := s.rf (Reg.PORT_STATE p) 23 20
def State.prole (s : State) (p : Nat) : Nat := s.rf (Reg.PORT_STATE p) 25 24

/-- Quad, line group and local index of a port (R14). -/
def quadOf (p : Nat) : Nat := p / 4
def lgOf (p : Nat) : Nat := p / 16
def localOf (p : Nat) : Nat := p % 16

/-- PAM4 modes and 1000BASE-T1 carry skeins, LPI and OAM (R61, R113). -/
def hasOam (m : Nat) : Bool := decide (3 ≤ m ∧ m ≤ 7)

/-- PORT_MODE.FORCE as it acts: an unsupported code acts as 0 (R77). -/
def State.forceMode (s : State) (p : Nat) (w : Word) : Nat :=
  let m := fld w 11 8
  if 1 ≤ m ∧ m ≤ 7 ∧ s.rb (Reg.PORT_CAP p) m then m else 0

/-- The configured members of skein n, by local index; none while it is disabled. -/
def State.skMembers (s : State) (g n : Nat) : Nat :=
  let w := s.reg (Reg.LG_SKEIN g n)
  if bitOf w 47 then fld w 15 0 else 0

def natBit (v i : Nat) : Bool := decide (v / 2 ^ i % 2 = 1)

/-- The enabled skein that names local port i. -/
def State.skeinOf (s : State) (g i : Nat) : Option Nat := (List.range 8).find? (fun n => natBit (s.skMembers g n) i)

/-- The test mode that acts (R75): TM in DISABLED, outside a skein, with a mode in PORT_MODE.FORCE; 1–7 only where that mode's clause defines the
number (log entry 141). -/
def State.testMode (s : State) (p : Nat) : Nat :=
  let tm := s.rf (Reg.PORT_TESTMODE p) 3 0
  let m := s.forceMode p (s.reg (Reg.PORT_MODE p))
  if s.pst p = stDisabled ∧ (s.skeinOf (lgOf p) (localOf p)).isNone ∧ m ≠ 0 ∧
      ((1 ≤ tm ∧ tm ≤ 7 ∧ Config.clauseTest m tm = true) ∨ tm = 8 ∨ tm = 9) then tm else 0

/-- PORT_TESTMODE.ACTIVE. -/
def State.testActive (s : State) (p : Nat) : Bool := decide (s.testMode p ≠ 0)

/-- The mode whose symbol rate and transmitter a port uses: in a test mode that of PORT_MODE.FORCE as it stands in the register (R75). -/
def State.txMode (s : State) (p : Nat) : Nat := if s.testActive p then s.forceMode p (s.reg (Reg.PORT_MODE p)) else s.pmode p

/-- The mode at which a port's datapath and symbol clock run; in CARDING the ADC runs at the 125 MS/s of roving (R75, R185). -/
def State.lineMode (s : State) (p : Nat) : Nat := if s.pst p = stCarding then 8 else s.txMode p

/-- Line group g's clock runs (R336): RUN reads 1 in CLK_GATE, and SLP applies while every port is DISABLED or in SLEEP. -/
def State.lgClock (s : State) (g : Nat) : Bool :=
  (List.range 16).any (fun i => decide (s.pst (16 * g + i) ≠ stDisabled ∧ s.pst (16 * g + i) ≠ stSleep)) || s.rb (Reg.CLK_GATE (6 + g)) 1

/-- The distaff's clock runs while it records (R336): RUN of its CLK_GATE. A request restarts it; a word or event of a port is none (DESIGN CHOICE, log
entry 181). -/
def State.dstClock (s : State) : Bool := s.rb (Reg.CLK_GATE 5) 0

/-! ## Symbol counting -/

/-- An SH register's 96-bit value: bits [47:0] at A, [95:48] at A + 1. -/
def State.setSh (s : State) (a : Nat) (v : BitVec 96) : State :=
  (s.setReg a (v.extractLsb' 0 48)).setReg (a + 1) (v.extractLsb' 48 48)

/-- Symbols per nanosecond of a MODE code as a fraction (R57); roving samples at 125 MS/s (R171). -/
def symRate (m : Nat) : Nat × Nat :=
  if m = 1 then (125, 10000) else if m = 2 then (200, 3000) else if m = 3 then (750, 1000)
  else if m = 4 then (140625, 100000) else if m = 5 then (28125, 10000) else if m = 6 then (5625, 1000)
  else if m = 7 then (140625, 10000) else if m = 8 then (125, 1000) else (0, 1)

/-- Symbols per LG cycle (R57); below 2.5GBASE-T1 fewer than one, counted as 1. -/
def symCycle (m : Nat) : Nat := if m = 7 then 20 else if m = 6 then 8 else if m = 5 then 4 else if m = 4 then 2 else 1

/-- The count in which PORT_SYMCNT restarts on a whole number (R127): an LG-cycle boundary at a multiple of 4 symbols. -/
def symGrid (m : Nat) : Nat := if m = 7 then 20 else if m = 6 then 8 else 4

/-- Symbol or sample rate of a port. -/
def State.portRate (s : State) (p : Nat) : Nat × Nat := symRate (s.lineMode p)

/-- Symbols that the port's symbol clock has passed: the line group's divider, or as SLAVE the recovered clock of the partner, which is off by
`ppm` parts in a million (R64). -/
def State.groupSyms (s : State) (p : Nat) : Nat :=
  s.now * (s.portRate p).1 * ((10 ^ 6 + (s.port p).ppm) : Int).toNat / ((s.portRate p).2 * 10 ^ 6)

/-- PORT_SYMCNT: symbols since it restarted (R100, R101). -/
def State.symcnt (s : State) (p : Nat) : Nat := (s.groupSyms p - (s.port p).symBase) % 2 ^ 64

def State.dstState (s : State) : Nat := s.rf Reg.DST_STAT 47 45

/-- A hank is being recorded. -/
def State.dstRecording (s : State) : Bool := decide (s.dstState = 1 ∨ s.dstState = 2)

/-- Channel c records port p. -/
def State.chRecords (s : State) (p c : Nat) : Bool :=
  s.rb (Reg.DST_CH c) 47 && decide (s.rf (Reg.DST_CH c) 46 40 = p) && !(s.dst.stopped.getLsbD c)

/-- The first channel that records a port. -/
def State.channelOf (s : State) (p : Nat) : Option Nat := (List.range 4).find? (s.chRecords p)

/-- The port is recorded by the hank in progress. -/
def State.recorded (s : State) (p : Nat) : Bool := (s.channelOf p).isSome

/-- KIND of a port's stream (PORT_TAPCFG). -/
def State.tapKind (s : State) (p stream : Nat) : Nat := if stream = 0 then s.rf (Reg.PORT_TAPCFG p) 1 0 else s.rf (Reg.PORT_TAPCFG p) 5 4

/-- Words completed of the stream that channel c records. -/
def State.chDone (s : State) (c : Nat) : Nat :=
  let x := (s.port (s.rf (Reg.DST_CH c) 46 40)).rx
  if s.rf (Reg.DST_CH c) 39 39 = 0 then x.w0 else x.w1

/-- PORT_SYMCNT restarts at the next boundary of R127, the sub-rings are emptied and the transmit history restarts (R101, R129). The channels that
record the port go on counting their words from the arm (R308, R311), and each takes a checkpoint at its next word (R314). -/
def State.restartSym (s : State) (p : Nat) : State :=
  let g := symGrid (s.lineMode p)
  let mine := fun (c : Nat) => s.dstRecording && s.chRecords p c
  let s1 : State := { s with dst := { s.dst with
    armBase := (List.range 4).map (fun c => nth 0 s.dst.armBase c + (if mine c then s.chDone c - nth 0 s.dst.armWord c else 0))
    armWord := (List.range 4).map (fun c => if mine c then 0 else nth 0 s.dst.armWord c)
    restart := (List.range 4).map (fun c => mine c || nth false s.dst.restart c) } }
  s1.updPort p (fun x => { x with symBase := ceilDiv (s.groupSyms p) g * g, rx := { kind0 := x.rx.kind0, kind1 := x.rx.kind1 } })

/-- The port runs a carding sweep, in CARDING or in its own roving slots (R185, R186). -/
def State.sweeping (s : State) (p : Nat) : Bool :=
  decide (s.pst p = stCarding) || decide (s.pst p = stRoving ∧ s.rf (Reg.PORT_ROVSTAT p) 47 45 = 5)

/-- Length of a stream's words in sixteenths of a symbol or sample period (R100, R171, R185): four symbols; at KIND 11 two complex samples, of
32 MS/s from 125 MS/s in ROVING and of 62.5 MS/s in a sweep. -/
def State.wordLen (s : State) (p stream : Nat) : Nat :=
  if s.tapKind p stream = 3 ∧ s.pst p = stRoving ∧ s.sweeping p = false then 125 else 64

/-- Words of a stream before a symbol of its port, counted on from the stream's next word. -/
def State.wordsBefore (s : State) (p stream sym : Nat) : Nat :=
  let x := (s.port p).rx
  let a := if stream = 0 then x.at0 else x.at1
  let w := if stream = 0 then x.w0 else x.w1
  ((w : Int) + ((16 * sym : Nat) - (a : Int)) / (s.wordLen p stream : Int)).toNat

/-- Index of the recorded word under block decimation for the i-th word since the arm: block of b out of each g (R308). -/
def decWord (b g i : Nat) : Nat := i / g * b + (if i % g < b then i % g else b)

/-- Block and period of a DST_CHn word. -/
def chBlock (w : Word) : Nat := 2 ^ (6 + fld w 34 32)
def chPeriod (w : Word) : Nat := chBlock w * 2 ^ fld w 38 36

/-- The channel's word that covers a symbol of its port, counted from the arm. -/
def State.chWord (s : State) (c sym : Nat) : Nat :=
  let w := s.reg (Reg.DST_CH c)
  decWord (chBlock w) (chPeriod w) (nth 0 s.dst.armBase c + (s.wordsBefore (fld w 46 40) (fld w 39 39) sym - nth 0 s.dst.armWord c))

/-- Enabled channels, and the words that the region of each holds (R309). -/
def State.dstChannels (s : State) : List Nat := (List.range 4).filter (fun c => s.rb (Reg.DST_CH c) 47)
def State.dstRegion (s : State) : Nat :=
  match s.dstChannels.length with
  | 0 => 0
  | n => 2 ^ 20 / n / 4096 * 4096

/-- The checkpoint with which a channel's samples start (R314): the oldest whose samples are all held. -/
def State.firstCkp (s : State) (c : Nat) : Option Ckp :=
  s.dst.ckpts.find? (fun k => decide (k.ch = c ∧ nth 0 s.dst.total c - (nth [] s.dst.words c).length ≤ k.word))

/-- Time since the arm (0.125 ns) at which the hank starts: that of the earliest such checkpoint. -/
def State.hankStart (s : State) : Nat :=
  match s.dstChannels.filterMap s.firstCkp with
  | [] => 0
  | k :: t => t.foldl (fun m x => min m x.at_) k.at_

/-- Records from before the hank's start that n more records overwrite in the ring (R313). -/
def State.evDrop (s : State) (n : Nat) : Nat :=
  min (s.dst.events.length + n - 16384) (s.dst.events.takeWhile (fun e => decide (fld e.1 40 0 < s.hankStart))).length

/-- Append an event record with its CONT records (R311); where that would overwrite one from after the hank's start it is lost (R313). -/
def State.dstEvent (s : State) (typ : Nat) (spec : Bool) (unit info : Nat) (cont : List Word) : State :=
  if s.dstRecording ∧ s.dstClock then
    let t := (s.now - s.dst.armNow) * 8 % 2 ^ 41
    let w0 := BitVec.ofNat 48 (typ * 2 ^ 42 + bnat spec * 2 ^ 41 + t)
    let w1 := BitVec.ofNat 48 (unit % 256 * 2 ^ 40 + info % 2 ^ 40)
    let recs := (w0, w1) :: cont.map (fun d => (BitVec.ofNat 48 (0x3F * 2 ^ 42 + t), d))
    let evs := s.dst.events.drop (s.evDrop recs.length)
    if evs.length + recs.length ≤ 16384 then
      { s with dst := { s.dst with events := evs ++ recs } }
    else (s.bump Reg.DST_EVLOST).setRb Reg.DST_STAT 44 true
  else s

/-- An event of a recorded port at one of its symbols: INFO carries the channel word in [39:8]. -/
def State.dstPortEvent (s : State) (typ p sym low : Nat) (cont : List Word) : State :=
  match s.channelOf p with
  | some c => s.dstEvent typ false p (s.chWord c sym % 2 ^ 32 * 256 + low % 256) cont
  | none => s

/-- The ports on which a triggering hank sends a d3 trigger: recorded, d3 agreed, a mode with an OAM field (R321). -/
def State.d3Port (s : State) (p : Nat) : Bool :=
  s.recorded p && s.rb (Reg.PORT_STATE p) 19 &&
    decide (3 ≤ s.rf (Reg.PORT_STATE p) 23 20 ∧ s.rf (Reg.PORT_STATE p) 23 20 ≤ 7)

/-- The payload of a d3 trigger. -/
def State.d3Payload (s : State) (p cause : Nat) : Word :=
  BitVec.ofNat 48 (0xE * 2 ^ 44 + s.symcnt p % 4096 * 2 ^ 32 + s.rf Reg.DST_HANKID 15 0 * 2 ^ 16 + cause)

/-- A port is recorded, or, while no hank is being recorded, is the port of an enabled channel (R315, R316). -/
def State.triggers (s : State) (p : Nat) : Bool :=
  if s.dstRecording then s.recorded p else (List.range 4).any (fun c => s.rb (Reg.DST_CH c) 47 && decide (s.rf (Reg.DST_CH c) 46 40 = p))

/-- The d3 triggers that a triggering hank sends (R321). -/
def State.d3Send (s : State) (cause : Nat) : State :=
  if s.rb Reg.DST_TRIGCFG 39 ∧ cause ≠ 6 then
    forAll (fun s p => if s.d3Port p then s.updPort p (fun x => { x with d3Left := 4, d3Word := s.d3Payload p cause }) else s)
      (List.range 96) s
  else s

/-- A TRIGGER record with its cause, or any other record as it is. -/
def recause (cause unit : Nat) (partner : Nat) (e : Word × Word) : Word × Word :=
  if fld e.1 47 42 = 0x0B then (e.1, BitVec.ofNat 48 (unit % 256 * 2 ^ 40 + cause + partner % 2 ^ 16 * 2 ^ 16)) else e

/-- A trigger from an enabled source (R315, R316) at a unit of R311: an armed hank goes to POST, with POST × region / 16 words of each channel to
come. Of triggers at one instant the lowest cause stands; every other trigger outside ARMED is lost. -/
def State.dstTrigger (s : State) (cause unit partner : Nat) : State :=
  if cause = 1 ∨ s.rb Reg.DST_TRIGCFG (40 + cause - 1) then
    if s.dstState = 1 then
      let s1 := s.dstEvent 0x0B false unit (cause + partner % 2 ^ 16 * 2 ^ 16) []
      let s2 := ((s1.setRf Reg.DST_STAT 47 45 2).setRf Reg.DST_STAT 39 36 cause).setSh Reg.DST_TRIGTIME s.time
      let s3 : State := { s2.bump Reg.DST_TRIGCNT with
        dst := { s2.dst with left := List.replicate 4 (s.rf Reg.DST_TRIGCFG 35 32 * s.dstRegion / 16), trigNow := some s.now } }
      s3.d3Send cause
    else if s.dstState = 2 ∧ s.dst.trigNow = some s.now then
      if cause < s.rf Reg.DST_STAT 39 36 then
        (({ s with dst := { s.dst with events := s.dst.events.map (recause cause unit partner) } } : State).setRf Reg.DST_STAT 39 36 cause).d3Send cause
      else s
    else s.bump Reg.DST_TRIGLOST
  else s

end Sys2Proof.Machine
end

