-- ==== Sys2Proof/Machine/Frames.lean ====
section
/-! DEFINITION. Stored frames and egress queues: depth, discard, the frame being sent (R21, R268–R270). -/

namespace Sys2Proof.Machine

def State.frame (s : State) (fid : Nat) : Option Stored := Tab.get (fun _ => none) s.tm.frames fid
def State.setFrame (s : State) (fid : Nat) (x : Option Stored) : State :=
  { s with tm := { s.tm with frames := Tab.set (fun _ => none) s.tm.frames fid x } }
def State.queue (s : State) (e q : Nat) : List QEntry := Tab.get (fun _ => []) s.tm.queues (8 * e + q)
def State.setQueue (s : State) (e q : Nat) (l : List QEntry) : State :=
  { s with tm := { s.tm with queues := Tab.set (fun _ => []) s.tm.queues (8 * e + q) l } }
def State.cur (s : State) (e : Nat) : Option Sending := Tab.get (fun _ => none) s.tm.cur e
def State.setCur (s : State) (e : Nat) (x : Option Sending) : State :=
  { s with tm := { s.tm with cur := Tab.set (fun _ => none) s.tm.cur e x } }

/-- The egress is line port n, n = 0–95; 96–111 are the host lanes (R23). -/
def isLine (e : Nat) : Bool := decide (e < 96)

/-- Cells of a frame of L bytes (R21). -/
def cellsOf (len : Nat) : Nat := ceilDiv len 192

/-- Length DA to FCS of a stored frame. -/
def State.frameLen (s : State) (fid : Nat) : Nat :=
  match s.frame fid with
  | some f => f.bytes.length
  | none => 0

/-- Cells queued (TM_QSTAT.DEPTH). -/
def State.depth (s : State) (e q : Nat) : Nat :=
  (s.queue e q).foldl (fun n x => n + cellsOf (s.frameLen x.fid)) 0

/-- One copy of a frame leaves or is discarded; the cells are freed with the last copy (R268). -/
def State.dropCopy (s : State) (fid : Nat) : State :=
  match s.frame fid with
  | none => s
  | some f => if f.copies ≤ 1 then s.setFrame fid none else s.setFrame fid (some { f with copies := f.copies - 1 })

/-- Discard queued copies, counting each in the given counters. -/
def State.dropEntries (s : State) (cnts : List Nat) (l : List QEntry) : State :=
  forAll (fun s x => forAll State.bump cnts (s.dropCopy x.fid)) l s

/-- Discard every frame of a queue. -/
def State.flushQueue (s : State) (e q : Nat) (cnts : List Nat) : State :=
  (s.dropEntries cnts (s.queue e q)).setQueue e q []

/-- Discard the frames of the given queues of an egress, counted in TM_QDROPSTATE (R270) and in `more`. -/
def State.flushState (s : State) (e : Nat) (qs : List Nat) (more : List Nat) : State :=
  forAll (fun s q => s.flushQueue e q (Reg.TM_QDROPSTATE e q :: more)) qs s

/-- Device time in 2 ns ticks (R256). -/
def State.tick (s : State) : Nat := timeVal s.time / 2 ^ 19

/-- Shaper state of a queue (R273, R274). -/
def State.shp (s : State) (e q : Nat) : Option Shaper := Tab.get (fun _ => none) s.tm.shp (8 * e + q)
def State.setShp (s : State) (e q : Nat) (x : Option Shaper) : State :=
  { s with tm := { s.tm with shp := Tab.set (fun _ => none) s.tm.shp (8 * e + q) x } }

/-- A transmission from queue q ends: the queue's credit gains again from now on (R274). -/
def State.txOver (s : State) (e q : Nat) : State :=
  match s.shp e q with
  | some x => if x.credit then s.setShp e q (some { x with at_ := s.tick }) else s
  | none => s

/-- What leaves egress e last. -/
def State.lastSent (s : State) (e : Nat) : Option SentFrame := Tab.get (fun _ => none) s.tm.sent e
def State.setSent (s : State) (e : Nat) (f : Option SentFrame) : State :=
  { s with tm := { s.tm with sent := Tab.set (fun _ => none) s.tm.sent e f } }

/-- The frame being sent ends early. -/
def State.endSent (s : State) (e : Nat) : State := s.setSent e ((s.lastSent e).map (fun f => { f with bad := true }))

/-- A frame that is being sent is cut: it counts in TM_QDROPLOST (R271, R417). A management reply belongs to no queue, and is not sent again (R305). -/
def State.cutTx (s : State) (e : Nat) : State :=
  match s.cur e with
  | none => s
  | some c =>
    if c.mgmt then (s.setCur e none).endSent e
    else ((((s.setCur e none).endSent e).txOver e c.q).dropCopy c.fid).bump (Reg.TM_QDROPLOST e c.q)

/-- A frame that is being sent is cut and waits at the head of its queue to be sent again (R181). -/
def State.holdTx (s : State) (e : Nat) : State :=
  match s.cur e with
  | none => s
  | some c => ((s.setCur e none).txOver e c.q).setQueue e c.q ({ fid := c.fid, at_ := c.at_ } :: s.queue e c.q)

/-- Any queue of the egress holds a frame, or a frame is being sent. -/
def State.egressBusy (s : State) (e : Nat) : Bool :=
  (s.cur e).isSome || (List.range 8).any (fun q => !(s.queue e q).isEmpty)

/-- Cells of the stored frames that lie in bank b, and their number (TM_BANKUSEb). -/
def State.usedCells (s : State) (b : Nat) : List Nat :=
  s.tm.frames.flatMap (fun x =>
    match x.2 with
    | some f => f.cells.filter (fun c => decide (c / 32768 = b))
    | none => [])
def State.bankUse (s : State) (b : Nat) : Nat := (s.usedCells b).length

/-- A stored frame that is discarded for its cell links raises CELL_PARITY with the cell that failed (R357). -/
def State.linkEvent (s : State) (fid : Nat) : State :=
  match s.frame fid with
  | some f => (match f.linkBad with
    | some c => s.raise 0x0C0 0x1C c
    | none => s)
  | none => s

/-- A link between the cells of a stored frame fails its parity (R357). No command makes one fail. -/
def State.linkFails (s : State) (fid : Nat) : Bool :=
  match s.frame fid with
  | some f => f.linkBad.isSome
  | none => false

end Sys2Proof.Machine
end

