-- ==== Sys2Proof/Machine/Ports.lean ====
section
/-! DEFINITION. Port states and transitions, skein eligibility and service, coefficient halves (R30, R79–R81, R91–R95, R115–R125, R134–R166, R182, R239). -/

namespace Sys2Proof.Machine

/-- The port's quad is on (R79). -/
def State.quadOn (s : State) (p : Nat) : Bool := s.domOn (quadOf p)

/-! ## Skeins -/

/-- Self-test has withdrawn the victim slot in either half (BIST_CANCFAIL). -/
def State.slotFailed (s : State) (g i : Nat) : Bool :=
  let u := 16 * g + i
  s.rb (Reg.BIST_CANCFAIL (u / 48)) (u % 48)

/-- The port's quad is on and not isolated and the group's canceller is not isolated (R115). -/
def State.skHardware (s : State) (g i : Nat) : Bool :=
  s.quadOn (16 * g + i) && s.domOn (24 + g) && !(s.lg g).isolated

/-- Eligible to serve in skein n (R115). -/
def State.skEligible (s : State) (g i : Nat) : Bool :=
  match s.skeinOf g i with
  | none => false
  | some n =>
    let p := 16 * g + i
    s.skHardware g i && decide (s.pst p = stUp ∧ s.prole p = 1 ∧ s.pmode p = s.rf (Reg.LG_SKEIN g n) 43 40) && !s.slotFailed g i

/-- A word of a canceller victim slot (R123). -/
def slotKey (half victim off : Nat) : Nat := (half * 16 + victim) * 352 + off
def State.slotWord (s : State) (g half victim off : Nat) : Word :=
  Tab.get (fun _ => 0#48) (s.lg g).slots (slotKey half victim off)

/-- Bits of a slot word that the canceller holds (R123); the reserved ones read zero (R36). -/
def slotMask (off : Nat) (w : Word) : Word :=
  if off < 0x150 then w
  else if off = 0x150 then w &&& 0x2FBEFBEFBEF#48
  else if off = 0x151 then w &&& 0xFFFFFFF#48
  else if off = 0x152 then w &&& 3#48
  else 0

def State.setSlotWord (s : State) (g half victim off : Nat) (w : Word) : State :=
  s.updLg g (fun x => { x with slots := Tab.set (fun _ => 0#48) x.slots (slotKey half victim off) (slotMask off w) })

/-- The half that serves skein n. -/
def State.skHalf (s : State) (g n : Nat) : Nat := bnat ((s.lg g).half.getLsbD n)

/-- The half's slot names the victim (R123). -/
def State.skNamed (s : State) (g i half : Nat) : Bool := bitOf (s.slotWord g half i 0x152) 0

/-- The port serves (LG_SKSERVE, PORT_STATE.SKEINED). -/
def State.serves (s : State) (p : Nat) : Bool := (s.lg (lgOf p)).serve.getLsbD (localOf p)

/-- The reason of LG_SKOUT (R115): the first that applies in the order 5, 6, 1, 2, 3, 4. -/
def State.skReason (s : State) (g i : Nat) : Nat :=
  match s.skeinOf g i with
  | none => 0
  | some n =>
    let p := 16 * g + i
    if s.serves p then 0
    else if !s.skHardware g i then 5
    else if s.slotFailed g i then 6
    else if s.pst p ≠ stUp then 1
    else if s.prole p = 2 then 2
    else if s.pmode p ≠ s.rf (Reg.LG_SKEIN g n) 43 40 then 3
    else 4

/-! ## Operations of spindles that a transition ends -/

/-- Decide the status of the tagged operations that pass a test and have none yet. -/
def State.endOps (s : State) (pick : TagOp → Bool) (status : Nat) : State :=
  { s with spns := s.spns.map (fun x => (x.1, { x.2 with
      ops := x.2.ops.map (fun y => (y.1, y.2.map (fun o => if pick o && o.done.isNone then { o with done := some status } else o))) })) }

/-- The operation goes to the line group's replay datapath or to the hank, not to the live line (R225). -/
def Spindle.replays (x : Spindle) (o : TagOp) : Bool := x.replay && decide (o.kind = .gsw ∨ o.kind = .cwr ∨ o.kind = .cswSwap ∨ o.kind = .cswMirror)

/-- The same for the operations on the live line: those of a spindle in REPLAY stay (R225). -/
def State.endLive (s : State) (pick : TagOp → Bool) (status : Nat) : State :=
  { s with spns := s.spns.map (fun x => (x.1, { x.2 with
      ops := x.2.ops.map (fun y => (y.1, y.2.map (fun o =>
        if pick o && o.done.isNone && !(x.2.replays o) then { o with done := some status } else o))) })) }

/-- Fields of a gather descriptor (R211). -/
def gthSkein (v : Nat) : Bool := natBit v 47
def gthSrc (v : Nat) : Nat := v / 2 ^ 45 % 4
def gthPort (v : Nat) : Nat := v / 2 ^ 38 % 128
def gthGroup (v : Nat) : Nat := v / 2 ^ 42 % 8
def gthSkn (v : Nat) : Nat := v / 2 ^ 39 % 8

/-- The skein that a serving port serves in. -/
def State.servIn (s : State) (g i : Nat) : Nat := Tab.get (fun _ => 0) (s.lg g).servIn i

/-- Waiting gathers on port p complete ABSENT, those of a skein in which it serves too (R100, R128); `src`: those of the streams that pass. -/
def State.endGather (s : State) (p : Nat) (src : Nat → Bool) : State :=
  s.endLive (fun o => decide (o.kind = .gsw) && src (gthSrc o.ea) &&
    (if gthSkein o.ea then s.serves p && decide (gthGroup o.ea = lgOf p ∧ gthSkn o.ea = s.servIn (lgOf p) (localOf p))
     else decide (gthPort o.ea = p))) 2

/-- The serving members of skein n change: its waiting gathers complete ABSENT (R128). -/
def State.endSkGather (s : State) (g n : Nat) : State :=
  s.endLive (fun o => decide (o.kind = .gsw ∧ gthSkein o.ea ∧ gthGroup o.ea = g ∧ gthSkn o.ea = n)) 2

/-- Serving members of a skein. -/
def State.skServing (s : State) (g k : Nat) : List Nat :=
  (List.range 16).filter (fun i => s.serves (16 * g + i) && decide (s.servIn g i = k))

/-- The line group latches the difference of each serving member's PORT_SYMCNT to the reference's (R127); it is constant while they serve. -/
def State.skLatch (s : State) (g n : Nat) : State :=
  match s.skServing g n with
  | [] => s
  | r :: t => s.updLg g (fun x => { x with
      diff := (r :: t).foldl (fun d i => Tab.set (fun _ => 0) d i ((s.symcnt (16 * g + i) + 2 ^ 64 - s.symcnt (16 * g + r)) % 2 ^ 64)) x.diff })

/-- The lowest serving member of a skein, its reference (R127). -/
def State.skRef (s : State) (g n : Nat) : Option Nat := (s.skServing g n).head?

/-- A member stops serving (R125). -/
def State.skStop (s : State) (g i : Nat) : State :=
  if s.serves (16 * g + i) then
    (((s.updLg g (fun x => { x with serve := x.serve &&& ~~~(1#16 <<< i) })).bump (Reg.LG_SKLEAVE g)).endSkGather g (s.servIn g i)).skLatch g
      (s.servIn g i)
  else s

/-! ## Runtime commands that events end -/

/-- Fields of a command entry (R231). -/
def Cmd.op (c : Cmd) : Nat := fld c.w0 47 40
def Cmd.id (c : Cmd) : Nat := fld c.w0 31 16
def Cmd.tkind (c : Cmd) : Nat := fld c.w1 47 44
def Cmd.tindex (c : Cmd) : Nat := fld c.w1 43 32

/-- The command has not finished. -/
def Cmd.live (c : Cmd) : Bool := decide (c.st = .waiting ∨ c.st = .running)

/-- The command targets port p. -/
def Cmd.onPort (c : Cmd) (p : Nat) : Bool := decide (c.tkind = 1 ∧ c.tindex = p)

/-- GEN of a completion: PORT_STATE.GEN for a port target, else 0 (R232). -/
def State.cmdGen (s : State) (c : Cmd) : Nat := if c.tkind = 1 ∧ c.tindex < 96 then s.pgen c.tindex else 0

/-- Finish the live commands that pass a test, with a status, RESULT 0 and a GEN. -/
def State.endCmdsGen (s : State) (pick : Cmd → Bool) (status : Nat) (gen : Cmd → Nat) : State :=
  { s with rt := { s.rt with cmds := s.rt.cmds.map (fun c =>
      if c.live && pick c then { c with st := .finished status 0 (gen c) } else c) } }
def State.endCmds (s : State) (pick : Cmd → Bool) (status : Nat) : State := s.endCmdsGen pick status s.cmdGen

/-- The running command with opcode op on port p. -/
def State.runningOn (s : State) (p op : Nat) : Bool :=
  s.rt.cmds.any (fun c => c.onPort p && decide (c.op = op) && decide (c.st = .running))

/-- Finish the running command with opcode op on port p. -/
def State.endRunning (s : State) (p op status : Nat) : State :=
  s.endCmds (fun c => c.onPort p && decide (c.op = op) && decide (c.st = .running)) status

/-- Finish the running command with opcode op on port p with a RESULT. -/
def State.endRunningRes (s : State) (p op status : Nat) (result : Word) : State :=
  { s with rt := { s.rt with cmds := s.rt.cmds.map (fun c =>
      if c.onPort p && decide (c.op = op) && decide (c.st = .running) then { c with st := .finished status result (s.cmdGen c) } else c) } }

/-- Leaving UP cancels the commands that need it: PORT_SLEEP, PORT_FPCAPTURE, PORT_PLCA (R236, R238). -/
def State.endUpCmds (s : State) (p : Nat) : State :=
  ((s.endRunning p 0x14 9).endRunning p 0x17 9).endRunning p 0x1B 9

/-! ## Coefficient halves -/

/-- Bits of a coefficient word that a half holds (R91); the reserved ones read zero (R36). -/
def coefWord (k : Nat) (w : Word) : Word := if k < 0x253 then w else if k = 0x253 then w &&& 0x1F0F#48 else 0

/-- Half h is overwritten while the port is not UP: it no longer holds the coefficients of the last period of UP (R142). -/
def State.coefTouch (s : State) (p h : Nat) : State :=
  if s.pst p = stUp then s else s.updPort p (fun x => { x with coefKept := x.coefKept && !decide (x.upHalf = h) })

/-- A word of a port's half (R91). -/
def State.halfWord (s : State) (p h k : Nat) : Word :=
  match Tab.get (fun _ => none) (s.port p).half (1024 * h + k) with
  | some w => w
  | none =>
    match (s.port p).halfFree with
    | some b => coefWord k (Config.freeWord (b + 1024 * h + k))
    | none => 0

def State.setHalfWord (s : State) (p h k : Nat) (w : Word) : State :=
  s.updPort p (fun x => { x with half := Tab.set (fun _ => none) x.half (1024 * h + k) (some (coefWord k w)) })

/-- PORT_COEFSTAT.SERVING. -/
def State.servingHalf (s : State) (p : Nat) : Nat := s.rf (Reg.PORT_COEFSTAT p) 3 3

/-- A settle period of n symbols starts at the current symbol; a later change never shortens one (R102, R103). -/
def State.settle (s : State) (p n : Nat) : State :=
  s.updPort p (fun x => { x with settleEnd := max x.settleEnd (s.symcnt p + n) })

/-- Main echo taps of a mode (R85). -/
def mainTaps (m : Nat) : Nat :=
  if m = 7 ∨ m = 6 then 1024 else if m = 5 then 512 else if m = 4 ∨ m = 3 then 256 else if m = 2 then 64 else 0

/-- The mode has tail windows (R85). -/
def hasTails (m : Nat) : Bool := decide (3 ≤ m ∧ m ≤ 7)

/-- DFE taps of a mode (R85). -/
def dfeTaps (m : Nat) : Nat := if 2 ≤ m ∧ m ≤ 7 then 4 else 0

/-- Position and enable of tail window w in half h (R91). -/
def State.tailAt (s : State) (p h w : Nat) : Nat := fld (s.halfWord p h 0x252) (47 - 12 * w) (36 - 12 * w)
def State.tailEn (s : State) (p h w : Nat) : Bool := bitOf (s.halfWord p h 0x253) w

/-- Tail window w is disabled as half h starts to serve (R86): its position lies outside the range, or it overlaps another enabled
window. Overlap is judged against every enabled window, one that is itself out of range included (DESIGN CHOICE, log entry 137). -/
def State.badTail (s : State) (p h mode w : Nat) : Bool :=
  hasTails mode && s.tailEn p h w &&
    (decide (s.tailAt p h w < mainTaps mode ∨ 4064 < s.tailAt p h w) ||
      (List.range 4).any (fun v => decide (v ≠ w) && s.tailEn p h v &&
        decide (s.tailAt p h w < s.tailAt p h v + 32 ∧ s.tailAt p h v < s.tailAt p h w + 32)))

/-- Half h starts to serve in a mode (R86): its bad windows are disabled while it serves, and counted. -/
def State.serveHalf (s : State) (p h mode : Nat) : State :=
  let bad := (List.range 4).filter (s.badTail p h mode)
  (s.addCnt (Reg.PORT_TAILERR p) bad.length).updPort p (fun x => { x with tailOff := bad.foldl (fun v w => v + 2 ^ w) 0 })

/-- Fields of a coefficient target (R212). -/
def tgtKind (v : Nat) : Nat := v / 2 ^ 44 % 16
def tgtPort (v : Nat) : Nat := v / 2 ^ 37 % 128
def tgtGroup (v : Nat) : Nat := v / 2 ^ 41 % 8
def tgtSkn (v : Nat) : Nat := v / 2 ^ 38 % 8
def tgtVictim (v : Nat) : Nat := v / 2 ^ 34 % 16
def tgtOffset (v : Nat) : Nat := v % 1024

def TagOp.isCoef (o : TagOp) : Bool := decide (o.kind = .cwr ∨ o.kind = .cswSwap ∨ o.kind = .cswMirror)

/-- Coefficient requests on port p complete ABSENT, and so does a PORT_COEFLOAD that waits for its swap (R94, R212). -/
def State.endPortCoef (s : State) (p : Nat) : State :=
  let s1 := (s.endRunning p 0x1A 7).endLive (fun o => o.isCoef && decide (tgtKind o.ea = 0 ∧ tgtPort o.ea = p)) 2
  (s1.setRb (Reg.PORT_COEFSTAT p) 6 false).setRb (Reg.PORT_COEFSTAT p) 7 false

/-- A CWR to the roving transmit queue of a port that leaves ROVING completes ABSENT (R212). -/
def State.endRovCoef (s : State) (p : Nat) : State := s.endLive (fun o => decide (o.kind = .cwr ∧ tgtKind o.ea = 2 ∧ tgtPort o.ea = p)) 2

/-- Coefficient requests on a skein complete ABSENT (R124). -/
def State.endSkeinCoef (s : State) (g n : Nat) : State :=
  let s1 := s.endLive (fun o => o.isCoef && decide (tgtKind o.ea = 1 ∧ tgtGroup o.ea = g ∧ tgtSkn o.ea = n)) 2
  s1.updLg g (fun x => { x with pend := x.pend &&& ~~~(1#8 <<< n) })

/-! ## Transitions -/

/-- The anti-alias setting (R83): at the same mode a change of it is a filter change of its own. -/
def State.setFilt (s : State) (p f : Nat) : State :=
  if s.rf (Reg.PORT_AFE p) 11 8 = f then s else (s.setRf (Reg.PORT_AFE p) 11 8 f).settle p 4096

/-- Symbols of a settle period that still run (R103). -/
def State.settleLeft (s : State) (p : Nat) : Nat := (s.port p).settleEnd - s.symcnt p

/-- A change of rate that changes the kind of a port's shapers resets them: both buckets full, or a credit of zero that gains from now on (R272, R274). -/
def State.resetShapers (s : State) (p : Nat) (credit : Bool) : State :=
  forAll (fun t q => t.setShp p q (if credit then some { credit := true, c := 0, p := 0, at_ := t.tick } else none)) (List.range 8) s

/-- The modes whose shapers are credit-based: 2.5 Gbit/s and above (R272). -/
def creditMode (m : Nat) : Bool := decide (4 ≤ m ∧ m ≤ 7)

/-- The recovered clock of a SLAVE that starts to train is off by up to 200 ppm (R64): by how much is the partner's (FREE VALUE, log entry 2). In every
other state the port runs on its group's clock. -/
def State.partnerClock (s : State) (p st : Nat) : State :=
  if st = stTrain ∧ (s.port p).resRole = 2 then
    let d := s.drawNat 48
    d.2.updPort p (fun x => { x with ppm := ((d.1 % 401 : Nat) : Int) - 200 })
  else if st = stUp then s
  else s.updPort p (fun x => { x with ppm := 0 })

/-- The port's mode changes: PORT_SYMCNT restarts, the rate-change settle period runs and shortens none, coefficient requests end
(R83, R94, R101–R103); its shapers reset where their kind changes. -/
def State.setMode (s : State) (p m : Nat) : State :=
  if s.pmode p = m then s
  else
    let left := s.settleLeft p
    let s0 := if creditMode m = creditMode (s.pmode p) then s else s.resetShapers p (creditMode m)
    let s1 := ((s0.setRf (Reg.PORT_STATE p) 23 20 m).setRf (Reg.PORT_AFE p) 11 8 m).restartSym p
    ((s1.updPort p (fun x => { x with settleEnd := max 4096 left })).endPortCoef p).endGather p (fun _ => true)

/-- What leaving UP ends (R112, R108, R145, R270): estimates, LPI, link status, the frame being sent; the last period of UP is remembered. -/
def State.leaveUp (s : State) (p : Nat) : State :=
  let s1 := s.cutTx p
  let s2 := ((s1.setRb (Reg.PORT_MFB p) 47 false).setRb (Reg.PORT_GAP p) 47 false).setRb (Reg.PORT_SQI p) 47 false
  s2.updPort p (fun x => { x with
    coefKept := true, upMode := s.pmode p, upRole := s.prole p, upD1 := s.rb (Reg.PORT_STATE p) 17,
    upHalf := s.servingHalf p, rsMarks := 0, d2Align := false, fpRefused := 0 })

/-- Fields of PORT_STATE, PORT_PCSSTAT, PORT_PLCASTAT and PORT_SNR that hold only in some states. In CARDING the symbol count is that of the
ADC, and stream 0 delivers KIND 11 (R185). The decimator is configured as the runtime enters ROVING or CARDING (R99). -/
def State.stateFields (s : State) (p st : Nat) : State :=
  let x := s.port p
  let s1 := if st = stUp then s else (s.setRf (Reg.PORT_STATE p) 27 26 0).setRf (Reg.PORT_STATE p) 19 16 0
  let s2 := if st = stUp then s1 else (s1.setReg (Reg.PORT_PCSSTAT p) 0).setRf (Reg.PORT_PLCASTAT p) 1 0 0
  let s3 := (if st = stUp ∨ st = stTrain then s2 else s2.setRb (Reg.PORT_SNR p) 47 false).partnerClock p st
  if st = stTrain ∨ st = stUp then (s3.setMode p x.resMode).setRf (Reg.PORT_STATE p) 25 24 x.resRole
  else if st = stRoving then
    ((s3.setMode p 8).setRf (Reg.PORT_STATE p) 25 24 x.upRole).updPort p (fun y => { y with decim := true })
  else if st = stCarding then
    let s4 := ((s3.setMode p 0).setRf (Reg.PORT_STATE p) 25 24 0).setRf (Reg.PORT_TAPCFG p) 2 0 7
    let left := s4.settleLeft p
    (s4.restartSym p).updPort p (fun y => { y with decim := true, settleEnd := max 4096 left })
  else ((s3.setMode p 0).setRf (Reg.PORT_STATE p) 25 24 0).updPort p (fun y => { y with decim := false })

/-- Frames of the port's egress on entry to a state (R156, R179, R270). -/
def State.egressEntry (s : State) (p st : Nat) : State :=
  if st = stDisabled ∨ st = stCarding ∨ st = stFault then s.flushState p (List.range 8) []
  else if (st = stListen ∨ st = stTrain) ∧ (s.port p).fromRov = false ∧ s.rb (Reg.TM_ECFG p) 47 then
    s.flushState p (List.range 8) []
  else if st = stRoving then s.flushState p (List.range 7) [Reg.PORT_ROVDROP p]
  else if st = stSleep ∧ s.rb (Reg.PORT_SLEEPCFG p) 46 = false then s.flushState p (List.range 8) []
  else s

/-- The configuration that the runtime applies at an entry to LISTEN (R81, R107, R137). -/
def State.applyConfig (s : State) (p : Nat) : State :=
  s.updPort p (fun x => { x with
    applMode := s.reg (Reg.PORT_MODE p), applFec := s.reg (Reg.PORT_FECCFG p),
    applPlca := s.reg (Reg.PORT_PLCACFG p), applDial := s.reg (Reg.PORT_DIALECTCFG p), applSlub := s.reg (Reg.PORT_SLUBCFG p) })

/-- The STATE event of a recorded port (R311). -/
def State.dstPortState (s : State) (p st : Nat) : State :=
  if s.recorded p then s.dstEvent 0x07 false p (s.pgen p * 2 ^ 16 + st * 2 ^ 12 + s.pmode p * 2 ^ 8) [] else s

/-! ## Write delegation (R243, R244) -/

/-- A spindle's gather and write sets for port p: register and bit p % 48. -/
def dgReg (n p : Nat) : Nat := if p < 48 then Reg.SPN_DGATHER0 n else Reg.SPN_DGATHER1 n
def dwReg (n p : Nat) : Nat := if p < 48 then Reg.SPN_DWRITE0 n else Reg.SPN_DWRITE1 n

/-- Port p, or skein k = 8g + n, is write-delegated to a USER spindle. -/
def State.userPort (s : State) (p : Nat) : Bool :=
  (List.range 48).any (fun n => decide ((s.spn n).mode = 2) && s.rb (dwReg n p) (p % 48))
def State.userSkein (s : State) (k : Nat) : Bool :=
  (List.range 48).any (fun n => decide ((s.spn n).mode = 2) && s.rb (Reg.SPN_DSKW n) k)

/-- Port p, or skein k, is no longer write-delegated to USER spindles and goes back to the RUN spindles. -/
def State.regainPort (s : State) (p : Nat) : State :=
  forAll (fun t n =>
    if (t.spn n).mode = 2 then t.setRb (dwReg n p) (p % 48) false
    else if (t.spn n).mode = 1 then (t.setRb (dgReg n p) (p % 48) true).setRb (dwReg n p) (p % 48) true else t) (List.range 48) s
def State.regainSkein (s : State) (k : Nat) : State :=
  forAll (fun t n =>
    if (t.spn n).mode = 2 then t.setRb (Reg.SPN_DSKW n) k false
    else if (t.spn n).mode = 1 then (t.setRb (Reg.SPN_DSKG n) k true).setRb (Reg.SPN_DSKW n) k true else t) (List.range 48) s

/-- A write-delegated port leaves UP (R244): the delegation of the port and of its skein is withdrawn. -/
def State.withdrawWrite (s : State) (p : Nat) : State :=
  if s.userPort p then
    match s.skeinOf (lgOf p) (localOf p) with
    | some k => if s.userSkein (8 * lgOf p + k) then (s.regainPort p).regainSkein (8 * lgOf p + k) else s.regainPort p
    | none => s.regainPort p
  else s

/-! ## Transitions, continued -/

/-- A carding sweep in the port's own roving slots ends with ROVING: its command is cancelled. -/
def State.sweepAbort (s : State) (p : Nat) : State :=
  if s.rf (Reg.PORT_ROVSTAT p) 47 45 = 5 then (s.setRf (Reg.PORT_CARDSTAT p) 47 44 4).endRunning p 0x16 9 else s

/-- What changes the test mode or its mode restarts the port's symbol clock, the transmitter's PRBS-31 from a register that no rule gives (FREE VALUE, log
entry 2), and the checker (R75, R76); `s0` is the state before the change. -/
def State.testTurn (s s0 : State) (p : Nat) : State :=
  if s.testMode p = s0.testMode p ∧ s.txMode p = s0.txMode p then s
  else
    let d := s.drawNat 48
    (d.2.restartSym p).updPort p (fun x => { x with prbsTx := max 1 (d.1 % 2 ^ 31), prbsSync := false, prbsRx := 0, prbsGood := 0, prbsBad := 0 })

/-- A port state transition (R30): GEN + 1, STATE, and what the old state ends and the new one starts. A restart command that waits in LISTEN for a
new attempt is cancelled (R236), a frame being sent is cut (R417), a write to the roving queue ends (R212). -/
def State.enter (s : State) (p st : Nat) : State :=
  let old := s.pst p
  let s0 := if old = stListen then (s.endRunning p 0x12 9).endRunning p 0x13 9 else s
  let s1 := if old = stUp then s0.leaveUp p else if old = stRoving then (s0.cutTx p).endRovCoef p else s0
  let s2 := (s1.setRf (Reg.PORT_STATE p) 31 28 st).setRf (Reg.PORT_STATE p) 47 32 (s.pgen p + 1)
  let s3 := (s2.stateFields p st).egressEntry p st
  let s4 := if st = stListen then s3.applyConfig p else s3
  let s5 := if old = stDisabled then s4.setRf (Reg.PORT_TESTMODE p) 3 0 0 else s4
  let s6 := if st = stDisabled then s5.updPort p (fun x => { x with threshHost := false }) else s5
  let s7 := if (old = stRoving ∨ old = stTrain) ∧ st ≠ stRoving ∧ st ≠ stTrain then
      ((s6.sweepAbort p).setReg (Reg.PORT_ROVSTAT p) 0).updPort p (fun x => { x with rov := {} }) else s6
  let s8 := if old = stUp ∧ st ≠ stSleep then s7.endUpCmds p else s7
  let s9 := if 2 ≤ st ∧ st ≤ 5 then s8 else s8.endGather p (fun _ => true)
  let s10 := if old = stUp then s9.withdrawWrite p else s9
  let s11 := if s10.testActive p = s.testActive p then s10 else s10.testTurn s p
  s11.dstPortState p st

/-- Write PORT_LINKSTAT.CAUSE (R148). -/
def State.cause (s : State) (p c : Nat) : State := s.setRf (Reg.PORT_LINKSTAT p) 47 44 c

/-- The attempt's bookkeeping is cleared (a port that leaves LISTEN for good). -/
def Port.noAttempt (x : Port) : Port :=
  { x with attempt := false, wantAdmit := false, backoff := false, trainSig := false, wakePend := false }

/-- An exit from UP is remembered (R150). -/
def State.lossMemo (s : State) (p c : Nat) : State :=
  s.updPort p (fun x => { x with lossCause := c, lossAt := s.now })

/-- Entry to LISTEN: the port waits for admission (R241). -/
def State.toListen (s : State) (p : Nat) : State :=
  ((s.updPort p (fun x => { x with fromRov := false })).enter p stListen).updPort p (fun x =>
    { x.noAttempt with wantAdmit := true, sleepHs := 0, sleepCmd := false })

/-- Entry to LISTEN on a loss: PORT_LINKSTAT.ATTEMPT counts from it (R149). -/
def State.relisten (s : State) (p : Nat) : State := (s.toListen p).setRf (Reg.PORT_LINKSTAT p) 39 32 0

/-- Entry to DISABLED. -/
def State.toDisabled (s : State) (p : Nat) : State :=
  (s.enter p stDisabled).updPort p (fun x => { x.noAttempt with fromRov := false, fromSleep := false, sleepHs := 0, sleepCmd := false })

/-- Detector state on entry to SLEEP: it is armed by DETECTOR_ARM (R157). -/
def State.toSleep (s : State) (p : Nat) : State :=
  (s.enter p stSleep).updPort p (fun x => { x.noAttempt with
    fromRov := false, fromSleep := true, sleepHs := 0, sleepCmd := false, detArmed := false, wakeKind := 0, wakeLocal := false, falseDue := false })

/-- The step MU_EC starts from in cold training (phase 2 of R140). -/
def State.muEcStart (s : State) (p : Nat) : State := s.setRf (Reg.PORT_LMSCFG p) 3 0 0

/-- A cold training (R140): both halves and the gain take values the spec does not give (FREE VALUES, log entry 2); the serving half's tail windows
are checked (R86); MU_EC starts from 0. -/
def State.coldHalves (s : State) (p : Nat) : State :=
  let g := s.drawNat 6
  let s0 : State := { g.2.updPort p (fun x => { x with half := [], halfFree := some g.2.free, coefKept := false, warm := false }) with
    free := g.2.free + 2048 }
  let s1 := s0.serveHalf p (s0.servingHalf p) (s.port p).resMode
  let v := if 32 < g.1 then 32 else g.1
  let s2 := if s1.rf (Reg.PORT_AFE p) 5 0 = v then s1
    else ((s1.setRf (Reg.PORT_AFE p) 5 0 v).settle p 64).dstPortEvent 0x06 p (s1.symcnt p) v []
  if (s.port p).resMode = 1 then s2 else s2.muEcStart p

/-- The runtime trains warm (R142). R142 names no mode, and the model lets every mode train warm, 10BASE-T1S too, for which R141 gives no warm
budget (DESIGN CHOICE, log entry 164). -/
def State.warmOk (s : State) (p : Nat) : Bool :=
  let x := s.port p
  s.rb (Reg.PORT_LINKCFG p) 46 && x.coefKept && decide (x.resMode = x.upMode ∧ x.resRole = x.upRole)

/-- THRESH at an entry to TRAIN: 3/8 of the decision spacing, unless the host has written it (R107). -/
def State.setThresh (s : State) (p : Nat) : State :=
  if (s.port p).threshHost then s
  else s.setRf (Reg.PORT_SLUBCFG p) 9 0 (if (s.port p).resMode = 2 ∨ (s.port p).resMode = 3 then 24 else 48)

/-- The stored half is loaded as the serving half (R142). -/
def State.warmHalf (s : State) (p : Nat) : State :=
  let h := (s.port p).upHalf
  (s.setRf (Reg.PORT_COEFSTAT p) 3 3 h).serveHalf p h (s.port p).resMode

/-- Entry to TRAIN with the resolved mode and role (R135, R140, R142). -/
def State.toTrain (s : State) (p : Nat) : State :=
  let s1 := s.updPort p (fun x => { x with attempt := true, backoff := false, wantAdmit := false, trainAt := s.now, warm := s.warmOk p })
  let s2 := (s1.enter p stTrain).setThresh p
  if s.warmOk p then s2.warmHalf p else s2.coldHalves p

/-- A wait before the next attempt (R149): min(50 × 2^(k−2), BOMAX) ms before attempt k. -/
def waitMsOf (k bomax : Nat) : Nat := if k < 2 then 0 else if 14 < k then bomax else min (50 * 2 ^ (k - 2)) bomax

/-- An attempt ends without reaching UP: CAUSE, PORT_TRAINFAIL, and the restart wait (R148, R149, R166). -/
def State.attemptFail (s : State) (p c : Nat) : State :=
  let k := s.rf (Reg.PORT_LINKSTAT p) 39 32 + 1
  ((s.cause p c).bump (Reg.PORT_TRAINFAIL p)).updPort p (fun x =>
    { x with attempt := false, wantAdmit := false, trainSig := false, backoff := true, waitMs := waitMsOf k (s.rf (Reg.PORT_LINKCFG p) 11 0) })

/-- The detector is armed, if DETEN = 1, with the threshold and qualification that PORT_SLEEPCFG holds (R157, R166). -/
def State.armDetector (s : State) (p : Nat) : State :=
  let w := s.reg (Reg.PORT_SLEEPCFG p)
  s.updPort p (fun x => { x with detArmed := bitOf w 45, detThr := fld w 3 0, detQual := fld w 29 24 })

/-- A woken port whose 2 s ended during TRAIN returns to SLEEP when its attempt ends in LISTEN (R160). -/
def State.falseWake (s : State) (p : Nat) : State :=
  ((s.toSleep p).bump (Reg.PORT_FALSEWAKE p)).armDetector p

/-- The forced role of a port without negotiation (R63): a preference counts as forcing; none in 10BASE-T1S. -/
def forcedRole (mode role : Nat) : Nat := if mode = 1 then 0 else if role % 2 = 0 then 1 else 2

/-- The role setting advertised: forced MASTER for a skein member, prefer MASTER on its retry (R64, R116). -/
def State.roleSetting (s : State) (p : Nat) : Nat :=
  match s.skeinOf (lgOf p) (localOf p) with
  | some _ => if (s.port p).preferRetry then 0 else 2
  | none => fld (s.port p).applMode 14 13

/-- The field of the dialect page (R136): FORMAT 1, the offer, versions 1. -/
def dialectField (offer : Nat) : BitVec 32 :=
  BitVec.ofNat 32 (2 ^ 28 + bnat (natBit offer 0) * 2 ^ 27 + bnat (natBit offer 1) * 2 ^ 26 + bnat (natBit offer 2) * 2 ^ 25 + 2 ^ 20 + 2 ^ 16 + 2 ^ 12)

/-- Pages go out (R135); a recorded port notes each in a PAGE event, whose bits Clause 98 fixes (FREE VALUES, log entry 2; R311). -/
def State.sendPages (s : State) (p : Nat) (l : List TxPage) : State :=
  forAll (fun t g =>
    let t1 := t.updPort p (fun x => { x with anSent := x.anSent ++ [g] })
    if t1.recorded p then
      let d := t1.drawFree
      d.2.dstEvent 0x03 false p 0 [d.1]
    else t1) l s

/-- The base page of the port: modes, role setting, EEE, and the next-page bit whenever the dialect offer is not zero (R135). -/
def State.basePage (s : State) (p : Nat) : TxPage :=
  let w := (s.port p).applMode
  .base (BitVec.ofNat 8 (fld w 7 0)) (BitVec.ofNat 2 (s.roleSetting p)) (bitOf w 15) (decide (fld (s.port p).applDial 2 0 ≠ 0))

/-- An attempt starts (R134, R135, R149): ATTEMPT + 1; negotiation, or with AN = 0 training at once for a MASTER and for 10BASE-T1S. Without
negotiation no page tells whether the partner asks for precoding and allows low-power idle, and the spec does not say what stands for it: each is used
if the port's own bit asks for it and a FREE VALUE stands for the partner (log entry 144). A PORT_RESTART or PORT_CONFIG that waits for the attempt
completes (R237). -/
def State.startAttempt (s : State) (p : Nat) : State :=
  let w := (s.port p).applMode
  let a := s.rf (Reg.PORT_LINKSTAT p) 39 32
  let s1 := s.setRf (Reg.PORT_LINKSTAT p) 39 32 (if a < 255 then a + 1 else 255)
  let s1 := (s1.endRunning p 0x12 0).endRunning p 0x13 0
  let s2 := s1.updPort p (fun x => { x with attempt := true, wantAdmit := false, backoff := false, pages := [], anSent := [], trainSig := false })
  if bitOf w 12 then (s2.bump (Reg.PORT_ANCNT p)).sendPages p [s2.basePage p]
  else
    let m := s.forceMode p w
    let r := forcedRole m (fld w 14 13)
    let far := s2.drawNat 2
    let s3 := far.2.updPort p (fun x => { x with
      resMode := m, resRole := r, resDial := 0, resPre := bitOf w 16 && natBit far.1 0 && decide (4 ≤ m),
      resEee := bitOf w 15 && natBit far.1 1 && hasOam m, fromRov := decide (s.pst p = stRoving) })
    if m = 0 then s3 else if r = 2 then s3 else s3.toTrain p

/-- ISOLATE or SAFE reaction on the port's source: the port passes to FAULT and its running command is cancelled (R238, R239). -/
def State.portFault (s : State) (p : Nat) : State :=
  if s.pst p = stDisabled ∨ s.pst p = stFault then s
  else
    let s0 := s.endCmdsGen (fun c => c.onPort p && decide (c.st = .running)) 9 (fun _ => (s.pgen p + 1) % 65536)
    let s1 := if s.pst p = stCarding then s0.setRf (Reg.PORT_CARDSTAT p) 47 44 4 else s0
    let s2 := (s1.lossMemo p 5).cause p 5
    (s2.enter p stFault).updPort p (fun x => { x.noAttempt with fromRov := false, fromSleep := false })

/-- The port leaves with its quad (R79, R134, R161): to DISABLED, CAUSE 4 for an exit from UP, port commands ABSENT. -/
def State.portQuadOff (s : State) (p : Nat) : State :=
  let gen := if s.pst p = stDisabled then s.pgen p else (s.pgen p + 1) % 65536
  let s1 := s.endCmdsGen (fun c => c.onPort p && decide (c.st = .running)) 7 (fun _ => gen)
  let s2 := if s.pst p = stUp then (s1.lossMemo p 4).cause p 4 else s1.updPort p (fun x => { x with lossCause := 0 })
  let slept := decide (s.pst p = stSleep) || (s.port p).fromSleep
  let s3 := if s.pst p = stDisabled then s2 else s2.toDisabled p
  s3.updPort p (fun x => { x with fromSleep := slept })

/-- The egress admits, holds, takes queue 7 only, or discards (TM_ESTAT.STATE, R270). -/
def State.egressState (s : State) (e : Nat) : Nat :=
  if 96 ≤ e then 0
  else
    let st := s.pst e
    if st = stUp then 0
    else if st = stRoving ∨ (st = stTrain ∧ (s.port e).fromRov = true) then 2
    else if st = stListen ∨ st = stTrain then (if s.rb (Reg.TM_ECFG e) 47 then 3 else 1)
    else if st = stSleep then (if s.rb (Reg.PORT_SLEEPCFG e) 46 then 1 else 3)
    else 3

/-! ## The transmitter (R73–R75) -/

/-- Transmit level below nominal in units of 0.5 dB (R73); nominal in test modes 1–7. In a sweep PORT_CARDCFG.LVL sets it (R185). -/
def State.txAtten (s : State) (p : Nat) : Nat :=
  if s.sweeping p then 2 * fld (s.port p).cardCfg 28 24
  else if 1 ≤ s.testMode p ∧ s.testMode p ≤ 7 then 0 else s.rf (Reg.PORT_TXCFG p) 3 0

/-- The port is silent in ROVING (R173, R174): outside its preamble and its own slots, and with no symbol or sweep to send in them. -/
def State.rovSilent (s : State) (p : Nat) : Bool :=
  decide (s.pst p = stRoving) && !((s.port p).rov.air.isSome || ((s.port p).rov.slot && s.sweeping p))

/-- The port is in a quiet period of its transmit low-power idle, not in a refresh (R74, R151): the mode's clause times the two (log entry 140). -/
def State.lpiQuietNow (s : State) (p : Nat) : Bool := s.rb (Reg.PORT_PCSSTAT p) 3 && Config.lpiQuiet (96 + p) (s.symcnt p)

/-- The transmitter is quiet (R74), also during a restart wait (R149) and without a roving symbol to send (R173). -/
def State.txQuiet (s : State) (p : Nat) : Bool :=
  let st := s.pst p
  let x := s.port p
  decide (st = stDisabled ∧ s.testActive p = false) || decide (st = stSleep ∨ st = stFault)
    || (decide (st = stListen) && !(bitOf x.applMode 12) && decide (forcedRole (s.forceMode p x.applMode) (fld x.applMode 14 13) = 2) && !x.trainSig)
    || (decide (st = stListen) && x.backoff) || s.rovSilent p
    || s.lpiQuietNow p || s.rb (Reg.PORT_TXCFG p) 4 || x.safeQuiet || x.quietH || x.quietL || !s.quadOn p

end Sys2Proof.Machine
end

