-- ==== Sys2Proof/Machine/Datapath.lean ====
section
/-! DEFINITION. The datapath of the ports, symbol by symbol, as time passes: transmit symbols, echo and crosstalk cancellation, equaliser, slicer,
sign-sign LMS, timing recovery, tap words, SNR sums, d2 reports and the distaff's recording (R85–R108, R118–R121, R127–R130, R308–R311). -/

namespace Sys2Proof.Machine

/-! ## Numbers (DESIGN CHOICES, log entry 138) -/

/-- Tap i of a pair of Q1.22 coefficients: the even one is in [47:24] (R91). -/
def pairTap (w : Word) (i : Nat) : Int := signed 24 (if i % 2 = 0 then fld w 47 24 else fld w 23 0)

/-- A pair of taps as a word. -/
def tapPair (a b : Int) : Word := BitVec.ofNat 48 (unsigned 24 a * 2 ^ 24 + unsigned 24 b)

/-- A value in units of 2^−22 to the nearest whole number. -/
def qRound (v : Int) : Int := (v + 2 ^ 21) / 2 ^ 22

/-- The sum of n terms. -/
def sumTo (n : Nat) (f : Nat → Int) : Int := (List.range n).foldl (fun a i => a + f i) 0

/-- A 10-bit sample (R97). -/
def sat10 (v : Int) : Int := clampInt (-512) 511 v

/-- The decision for a slicer input in units of 2^−22 (R98): the nearest level of the mode. -/
def slice (m : Nat) (y : Int) : Int :=
  if 4 ≤ m then (if 128 * 2 ^ 22 ≤ y then 192 else if 0 ≤ y then 64 else if -128 * 2 ^ 22 ≤ y then -64 else -192)
  else if m = 2 ∨ m = 3 then (if 32 * 2 ^ 22 ≤ y then 64 else if -32 * 2 ^ 22 ≤ y then 0 else -64)
  else (if 0 ≤ y then 64 else -64)

/-- A slicer error in the units of R98, saturated to ±511. -/
def slicerErr (y d : Int) : Int := clampInt (-511) 511 (qRound (y - d * 2 ^ 22))

/-- (1+D) modulo decoding of PAM4 decisions (R87): levels −3, −1, +1, +3 count as 0 to 3. -/
def onePlusD (d prev : Int) : Int := ((d + 192) / 128 + (prev + 192) / 128) % 4 * 128 - 192

/-- The data symbol that a number chooses: a level of the mode; 10BASE-T1S sends nothing outside its own frames. -/
def dataLevel (m v : Nat) : Int :=
  if 4 ≤ m then 128 * ((v % 4 : Nat) : Int) - 192 else 64 * ((v % 3 : Nat) : Int) - 64

/-- One sign-sign update (R88): k = 8 + MU, frozen at MU = 15, limited to the Q1.22 range. -/
def lmsTap (mu : Nat) (e x c : Int) : Int :=
  if 14 < mu then c else clampInt (-(2 ^ 23)) (2 ^ 23 - 1) (c - 2 ^ (14 - mu) * (e.sign * x.sign))

/-! ## The records of a port -/

def State.updRx (s : State) (p : Nat) (f : Rx → Rx) : State := s.updPort p (fun x => { x with rx := f x.rx })

/-- A symbol period that has been sampled; an empty one outside. -/
def Rx.sym (x : Rx) (n : Int) : Sym := if n < 0 ∨ (x.got : Int) ≤ n then {} else Tab.get (fun _ => {}) x.syms (n.toNat % 512)

/-- The level sent in a symbol period; zero outside the history. -/
def Rx.level (x : Rx) (n : Int) : Int :=
  if n < 0 ∨ (x.got : Int) ≤ n then 0 else Tab.get (fun _ => 0) x.tx (n.toNat % 32768)

def State.sym (s : State) (p : Nat) (n : Int) : Sym := (s.port p).rx.sym n
def State.level (s : State) (p : Nat) (n : Int) : Int := (s.port p).rx.level n
def State.updSym (s : State) (p n : Nat) (f : Sym → Sym) : State :=
  s.updRx p (fun x => { x with syms := Tab.set (fun _ => {}) x.syms (n % 512) (f (Tab.get (fun _ => {}) x.syms (n % 512))) })

/-- A symbol carries a mark that its consumers exclude (R104), ERAS aside. -/
def Sym.marked (y : Sym) : Bool := y.settle || y.ovr || y.lpi

/-- Source number of the loop that clocks a port's symbols (R57, R171). -/
def State.portLoop (s : State) (p : Nat) : Nat := if 4 ≤ s.lineMode p ∧ s.lineMode p ≤ 7 then 3 + lgOf p else 9 + lgOf p

/-- The datapath takes in symbols: the port's state or its test mode (R75) gives it a rate, its quad is on and its group's clock runs; a loop's output
reaches the converters 20 µs after its lock (R334). -/
def State.rxRuns (s : State) (p : Nat) : Bool :=
  (decide (2 ≤ s.pst p ∧ s.pst p ≤ 5) || s.testActive p) && s.quadOn p && decide ((s.portRate p).1 ≠ 0) &&
    !(if 4 ≤ s.lineMode p ∧ s.lineMode p ≤ 7 then (s.port p).quietH else (s.port p).quietL) && !(s.src (s.portLoop p)).blocked && s.lgClock (lgOf p)

/-- The port receives line symbols, not chirps. -/
def State.rxLine (s : State) (p : Nat) : Bool := decide (1 ≤ s.lineMode p ∧ s.lineMode p ≤ 7)

/-! ## Crosstalk (R118–R121) -/

/-- A word of the victim slot that serves port p. -/
def State.victimWord (s : State) (p off : Nat) : Word :=
  match s.skeinOf (lgOf p) (localOf p) with
  | some k => s.slotWord (lgOf p) (s.skHalf (lgOf p) k) (localOf p) off
  | none => 0

/-- Tap i of a filter of the slot, which starts at word `off`. -/
def State.slotTap (s : State) (p off i : Nat) : Int := pairTap (s.victimWord p (off + i / 2)) i

/-- The aggressors of a serving victim: slot number and port, for each slot that is VALID and names another serving member (R118). -/
def State.aggressors (s : State) (p : Nat) : List (Nat × Nat) :=
  match s.skeinOf (lgOf p) (localOf p) with
  | none => []
  | some k =>
    if s.serves p then
      let map := s.victimWord p 0x150
      ((List.range 7).map (fun a => (a, 16 * lgOf p + fld map (6 * a + 3) (6 * a)))).filter (fun x =>
        bitOf map (6 * x.1 + 5) && decide (x.2 ≠ p) && natBit (s.skMembers (lgOf p) k) (localOf x.2) && s.serves x.2)
    else []

/-- The symbol of port q that the group handles with symbol n of port p: by the differences latched as they began to serve (R127). -/
def State.symOf (s : State) (p q : Nat) (n : Int) : Int :=
  let d := fun r => signed 64 (Tab.get (fun _ => 0) (s.lg (lgOf r)).diff (localOf r))
  n - d p + d q

/-- NEXT estimate (R118): taps on the levels sent in symbols n to n − 63. -/
def State.nextSum (s : State) (p n : Nat) : Int :=
  ((s.aggressors p).map (fun a => sumTo 64 (fun k => s.slotTap p (0x20 * a.1) k * s.level a.2 (s.symOf p a.2 n - k)))).sum

/-- A tentative decision as the FEXT filter takes it (R120): zero where its tap word is marked. -/
def State.fextSym (s : State) (q : Nat) (n : Int) (erased : Nat → Nat → Bool) : Int :=
  let w := n / 4 * 4
  if (List.range 4).any (fun i => (s.sym q (w + i)).marked || erased q (w + i).toNat) then 0 else (s.sym q n).tent

/-- FEXT estimate (R118): taps on the tentative decisions of symbols n + δ − 8 to n + δ + 7. -/
def State.fextSum (s : State) (p n : Nat) (erased : Nat → Nat → Bool) : Int :=
  ((s.aggressors p).map (fun a =>
    let d := signed 4 (fld (s.victimWord p 0x151) (4 * a.1 + 3) (4 * a.1))
    sumTo 16 (fun k => s.slotTap p (0xE0 + 8 * a.1) k * s.fextSym a.2 (s.symOf p a.2 n + d - 8 + k) erased))).sum

/-- The transmit precoder acts on port p (R121). -/
def State.precodes (s : State) (p : Nat) : Bool :=
  match s.skeinOf (lgOf p) (localOf p) with
  | some k => s.serves p && s.rb (Reg.LG_SKEIN (lgOf p) k) 46 && bitOf (s.victimWord p 0x152) 1 && s.rb (Reg.PORT_STATE p) 18
  | none => false

/-- The level sent in symbol n (R74, R121): nothing while quiet; the data symbol; with the precoder, plus its sum, limited to the DAC. -/
def State.txLevel (s : State) (p n : Nat) : Int :=
  let y := s.sym p n
  if y.quiet then 0
  else if s.precodes p then
    let r : Int := Config.dacRange (s.lineMode p)
    clampInt (-r) r (y.data + qRound ((s.aggressors p).map (fun a =>
      sumTo 16 (fun k => s.slotTap p (0x118 + 8 * a.1) k * (s.sym a.2 (s.symOf p a.2 n - k)).data))).sum)
  else y.data

/-! ## Echo, FFE, DFE (R85, R86, R91) -/

/-- Tap i of a filter of half h of port p, which starts at word `off`. -/
def State.tapOf (s : State) (p h off i : Nat) : Int := pairTap (s.halfWord p h (off + i / 2)) i

/-- A tap of the half that serves. -/
def State.tap (s : State) (p off i : Nat) : Int := s.tapOf p (s.servingHalf p) off i

/-- Tail window w takes part: the mode has it, it is enabled, and it was not disabled as the half began to serve (R86). -/
def State.tailOn (s : State) (p w : Nat) : Bool :=
  hasTails (s.lineMode p) && s.tailEn p (s.servingHalf p) w && !natBit (s.port p).tailOff w

def State.tailPos (s : State) (p w : Nat) : Nat := s.tailAt p (s.servingHalf p) w

/-- Echo estimate: the main taps of the mode and the tail windows. -/
def State.echoSum (s : State) (p n : Nat) : Int :=
  sumTo (mainTaps (s.lineMode p)) (fun i => s.tap p 0 i * s.level p (n - i)) +
    ((List.range 4).map (fun w =>
      if s.tailOn p w then sumTo 32 (fun i => s.tap p (0x200 + 16 * w) i * s.level p (n - s.tailPos p w - i)) else 0)).sum

/-- The FFE's main-cursor index in half h, and in the half that serves. -/
def State.cursorOf (s : State) (p h : Nat) : Nat := fld (s.halfWord p h 0x253) 12 8
def State.mainCursor (s : State) (p : Nat) : Nat := s.cursorOf p (s.servingHalf p)

/-- FFE output for symbol n, under the half that served the symbol (R92). -/
def State.ffe (s : State) (p n : Nat) : Int :=
  let h := (s.sym p n).half
  sumTo 32 (fun j => s.tapOf p h 0x240 j * (s.sym p (n + s.cursorOf p h - j)).sub)

/-- DFE estimate from past decisions. -/
def State.dfe (s : State) (p n : Nat) (dec : Sym → Int) : Int :=
  sumTo (dfeTaps (s.lineMode p)) (fun i => s.tapOf p (s.sym p n).half 0x250 i * dec (s.sym p (n - 1 - i)))

/-! ## Slubs (R105, R106) -/

def slubEn (w : Word) : Bool := bitOf w 47
def slubCap (w : Word) : Nat := 4 * fld w 41 32
def slubPost (w : Word) : Nat := fld w 31 24
def slubPre (w : Word) : Nat := fld w 21 16
def slubNhit (w : Word) : Nat := fld w 13 10

/-- Last symbol of the running erasure window: POST symbols after the last hit, no further than the cap. -/
def Port.slubLast (x : Port) : Nat := min (x.slub.last + slubPost x.applSlub) (x.slub.start + slubCap x.applSlub - 1)

/-- A symbol lies in a slub's erasure window. -/
def State.erased (s : State) (p n : Nat) : Bool :=
  let x := s.port p
  (x.slub.active && decide (x.slub.start ≤ n ∧ n ≤ x.slubLast)) || x.rx.wins.any (fun w => decide (w.1 ≤ n ∧ n ≤ w.2))

/-- A hit (R105, R106): it extends a running window; after a cap it keeps the detector waiting until 8 symbols have passed without one. -/
def State.slubHit (s : State) (p n : Nat) : State :=
  s.updPort p (fun x =>
    if x.slub.active ∧ n ≤ x.slubLast then { x with slub := { x.slub with last := n } }
    else if x.slub.blocked ∧ n ≤ x.slub.last + 8 then { x with slub := { x.slub with last := n }, rx := { x.rx with hits := [] } }
    else { x with slub := { x.slub with blocked := false }, rx := { x.rx with hits := (n :: x.rx.hits).take 128 } })

/-- The slicer error of symbol n is a hit; in ROVING the ADC sample stands in its place (R105, R171). -/
def State.isHit (s : State) (p n : Nat) : Bool :=
  let x := s.port p
  let y := s.sym p n
  slubEn x.applSlub && !y.lpi &&
    ((!y.settle && (if s.pst p = stRoving then decide (x.rov.impthr ≤ y.raw.natAbs)
        else s.rxLine p && decide (s.rf (Reg.PORT_SLUBCFG p) 9 0 ≤ y.err.natAbs)))
      || (s.rb (Reg.PORT_SLUBCFG p) 46 && y.ovr))

/-! ## Stages of a symbol -/

/-- The next bit of PRBS-31, x^31 + x^28 + 1, after the last 31 bits (R75; PRESUMED, log entry 166). -/
def prbsNext (r : Nat) : Nat := (r / 2 ^ 27 + r / 2 ^ 30) % 2
def prbsShift (r b : Nat) : Nat := (2 * r + b) % 2 ^ 31

/-- n bits of the sequence, the first the most significant, and the generator after them. -/
def prbsBits : Nat → Nat → Nat → Nat × Nat
  | 0, r, v => (v, r)
  | n + 1, r, v => prbsBits n (prbsShift r (prbsNext r)) (2 * v + prbsNext r)

/-- Bits of a symbol, the level that they choose, and the bits that a decision stands for (log entry 166). -/
def prbsWidth (m : Nat) : Nat := if 4 ≤ m then 2 else 1
def prbsLevel (m v : Nat) : Int := if 4 ≤ m then 128 * ((v % 4 : Nat) : Int) - 192 else 128 * ((v % 2 : Nat) : Int) - 64
def prbsOf (m : Nat) (d : Int) : List Nat :=
  let v := ((d + 192) / 128).toNat
  if 4 ≤ m then [v / 2 % 2, v % 2] else [bnat (decide (0 < d))]

/-- The data symbol of a period: of PRBS-31 in test mode 8 (R75), else what the PCS gives (FREE VALUE, log entry 2). -/
def State.dataSym (s : State) (p v : Nat) : Int × State :=
  let m := s.lineMode p
  if s.testMode p = 8 then
    let b := prbsBits (prbsWidth m) (s.port p).prbsTx 0
    (prbsLevel m b.1, s.updPort p (fun x => { x with prbsTx := b.2 }))
  else (if s.rxLine p then dataLevel m v else 0, s)

/-- A symbol is sampled (R82, R90, R92, R102, R105): what the line and the PCS bring is a FREE VALUE (log entry 2), the marks are the port's. Which
symbol is a timestamp anchor (R97) no rule says (FREE VALUE, log entry 168). -/
def State.sample (s : State) (p n : Nat) : State :=
  let x := s.port p
  let d := s.drawNat 48
  let quiet := s.txQuiet p
  let v := d.2.dataSym p (d.1 / 2 ^ 16)
  let y : Sym := {
    raw := signed 10 (d.1 % 1024), data := if quiet then 0 else v.1
    settle := decide (n < x.settleEnd), ovr := natBit d.1 10
    lpi := s.rb (Reg.PORT_PCSSTAT p) 4 && Config.lpiQuiet p d.1, mark := x.mark || natBit d.1 11, quiet := quiet, half := s.servingHalf p }
  let s1 := v.2.updPort p (fun z => { z with mark := false })
  let s2 := (s1.updSym p n (fun _ => y)).updRx p (fun z => { z with got := n + 1 })
  if y.ovr then s2.bump (Reg.PORT_OVRCNT p) else s2

/-- Its level goes to the DAC and into the transmit history (R129). -/
def State.send (s : State) (p n : Nat) : State :=
  let v := s.txLevel p n
  s.updRx p (fun x => { x with tx := Tab.set (fun _ => 0) x.tx (n % 32768) v })

/-- Echo and NEXT are subtracted before the FFE (R118). -/
def State.cancel (s : State) (p n : Nat) : State :=
  let v := sat10 (qRound ((s.sym p n).raw * 2 ^ 22 - s.echoSum p n - s.nextSum p n))
  s.updSym p n (fun y => { y with sub := v })

/-- The tentative decision (R119). Its DFE feeds back past tentative decisions: the rule says that final decisions feed the DFE and does not say
what stands before the tentative slicer (DESIGN CHOICE, log entry 138). -/
def State.tentative (s : State) (p n : Nat) : State :=
  let v := slice (s.lineMode p) (s.ffe p n - s.dfe p n Sym.tent)
  (s.updSym p n (fun y => { y with tent := v })).updRx p (fun x => { x with tentN := n + 1 })

/-- A bit that the PRBS-31 checker takes (R76): hunting, it follows the received bits and synchronises after 32 without an error (log entry 166);
synchronised, it counts bits and errors, until 32 in a row are in error. -/
def State.prbsBit (s : State) (p b : Nat) : State :=
  let x := s.port p
  let ok := decide (b = prbsNext x.prbsRx)
  if x.prbsSync then
    if 32 ≤ x.prbsBad then s
    else
      let s1 := s.bump (Reg.PORT_PRBSBIT p)
      (if ok then s1 else s1.bump (Reg.PORT_PRBSERR p)).updPort p (fun y => { y with
        prbsRx := prbsShift y.prbsRx (prbsNext y.prbsRx), prbsBad := if ok then 0 else y.prbsBad + 1 })
  else
    s.updPort p (fun y => { y with
      prbsRx := prbsShift y.prbsRx b, prbsGood := if ok then y.prbsGood + 1 else 0, prbsSync := ok && decide (31 ≤ y.prbsGood ∧ y.prbsRx ≠ 0), prbsBad := 0 })

/-- The final decision, its error, the decoded symbol, the slub detector, and in test mode 9 the PRBS checker (R76, R87, R98, R105, R119). The FEXT
filter sees ERAS on aggressor symbols of windows that are open as the victim decides: with 16 symbols of latency it cannot see a window that reaches
back to them later (DESIGN CHOICE, log entry 138). -/
def State.conclude (s : State) (p n : Nat) : State :=
  let m := s.lineMode p
  let y := s.ffe p n - s.fextSum p n s.erased - s.dfe p n Sym.dec
  let d := slice m y
  let o := if s.rb (Reg.PORT_STATE p) 16 then onePlusD d (s.sym p (n - 1)).dec else d
  let s1 := if s.rxLine p then s.updSym p n (fun z => { z with dec := d, err := slicerErr y d, out := o }) else s
  let s2 := s1.updRx p (fun x => { x with decN := n + 1 })
  let s3 := if s2.isHit p n then s2.slubHit p n else s2
  if s.testMode p = 9 then forAll (fun t b => t.prbsBit p b) (prbsOf m d) s3 else s3

/-! ## The loops (R88–R90) -/

/-- Both taps of a word of the serving half take one update. -/
def State.adaptWord (s : State) (p k mu : Nat) (e x0 x1 : Int) : State :=
  let h := s.servingHalf p
  let w := s.halfWord p h k
  s.setHalfWord p h k (tapPair (lmsTap mu e x0 (pairTap w 0)) (lmsTap mu e x1 (pairTap w 1)))

/-- Sign-sign LMS from symbol n: main echo taps, tail windows, FFE, DFE (R88). The positions and enables are left alone (R93). A symbol that the half
now idle served updates neither (R92, R94). -/
def State.adapt (s : State) (p n : Nat) : State :=
  let e := (s.sym p n).err
  let c := s.reg (Reg.PORT_LMSCFG p)
  let lv := fun (k : Nat) => s.level p ((n : Int) - k)
  let sb := fun (j : Nat) => (s.sym p (n + s.mainCursor p - j)).sub
  let dc := fun (i : Nat) => (s.sym p ((n : Int) - 1 - i)).dec
  let s1 := forAll (fun t k => t.adaptWord p k (fld c 3 0) e (lv (2 * k)) (lv (2 * k + 1))) (List.range (mainTaps (s.lineMode p) / 2)) s
  let s2 := forAll (fun t w =>
      if s.tailOn p w then
        forAll (fun u k => u.adaptWord p (0x200 + 16 * w + k) (fld c 7 4) e (lv (s.tailPos p w + 2 * k)) (lv (s.tailPos p w + 2 * k + 1)))
          (List.range 16) t
      else t) (List.range 4) s1
  let s3 := forAll (fun t k => t.adaptWord p (0x240 + k) (fld c 11 8) e (sb (2 * k)) (sb (2 * k + 1))) (List.range 16) s2
  forAll (fun t k => t.adaptWord p (0x250 + k) (fld c 15 12) e (dc (2 * k)) (dc (2 * k + 1))) (List.range (dfeTaps (s.lineMode p) / 2)) s3

/-- Timing recovery over one symbol (R89, R90), in units of 2^−40: the phase advances at the frequency term; on a symbol that is not marked both take the
phase detector's output e at the gains 2^−k and 2^−2k of a loop of bandwidth 2^−k of the symbol rate, k = 12 + TRBW. What the detector gives is a FREE
VALUE, and that the gains are these a DESIGN CHOICE (log entry 138). -/
def State.timing (s : State) (p : Nat) (skip : Bool) : State :=
  if skip then s.updRx p (fun x => { x with phase := x.phase + x.freq })
  else
    let a := s.drawNat 10
    let e := signed 10 a.1
    let k := 12 + s.rf (Reg.PORT_LMSCFG p) 17 16
    a.2.updRx p (fun x => { x with freq := x.freq + e * 2 ^ (40 - 2 * k), phase := x.phase + x.freq + e * 2 ^ (40 - k) })

/-- Slicer SNR sums over one symbol (R108): blocks of 65,536 symbols; only TRAIN and UP count. -/
def State.snrAdd (s : State) (p n : Nat) (skip : Bool) : State :=
  s.updRx p (fun x =>
    let use := !skip && decide (s.pst p = stTrain ∨ s.pst p = stUp)
    let c := x.snrCnt + bnat use
    let q := x.snrSum + (if use then (x.sym n).err.natAbs ^ 2 else 0)
    if n % 65536 = 65535 then { x with snrCnt := 0, snrSum := 0, snrLast := some (c, q) } else { x with snrCnt := c, snrSum := q })

/-- The d2 report over three consecutive symbols from n on (R130), not VALID unless all three are decided and unmarked. -/
def State.d2Word (s : State) (p n : Nat) : Word :=
  let y := fun (i : Nat) => s.sym p (n + i : Nat)
  let bad := decide ((s.port p).rx.decN < n + 3) || (List.range 3).any (fun i => (y i).marked || s.erased p (n + i))
  BitVec.ofNat 48 (0xD * 2 ^ 44 + n % 4096 * 2 ^ 32 + bnat (!bad) * 2 ^ 31 +
    (unsigned 10 (y 0).err * 2 ^ 20 + unsigned 10 (y 1).err * 2 ^ 10 + unsigned 10 (y 2).err))

/-- A report is taken (R130); the next follows after 1,024 to 4,095 symbols. -/
def State.d2Take (s : State) (p n : Nat) : State :=
  let d := s.drawNat 48
  d.2.updRx p (fun x => { x with report := some (s.d2Word p n), repNext := n + 1024 + d.1 % 3072 })

/-- d2 is agreed on a port whose mode has the OAM field. -/
def State.d2On (s : State) (p : Nat) : Bool := s.rb (Reg.PORT_STATE p) 18 && hasOam (s.lineMode p)

/-- The loops on group j of four symbols (R90): a word that carries SETTLE, OVR, ERAS or LPI is skipped; a coefficient takes at most one
update in an LG cycle, from its first symbol; the update of a swap's cycle is lost (R94). -/
def State.useGroup (s : State) (p j : Nat) : State :=
  let skip := (List.range 4).any (fun i => (s.sym p (4 * j + i : Nat)).marked || s.erased p (4 * j + i))
  let s1 := forAll (fun t i =>
    let n := 4 * j + i
    let t1 := (t.timing p skip).snrAdd p n skip
    if n % symCycle (s.lineMode p) = 0 then
      if (t1.port p).rx.lmsSkip then t1.updRx p (fun x => { x with lmsSkip := false })
      else if skip ∨ (t1.sym p n).half ≠ t1.servingHalf p then t1 else t1.adapt p n
    else t1) (List.range 4) s
  let r := (s1.port p).rx.repNext
  let s2 := if s.d2On p = false then s1.updRx p (fun x => { x with repNext := max r (4 * j + 4) })
    else if r + 3 ≤ 4 * j + 4 then s1.d2Take p r else s1
  s2.updRx p (fun x => { x with used := j + 1 })

/-! ## Tap words (R96–R99) -/

/-- Enable of a port's stream (PORT_TAPCFG). -/
def State.tapEn (s : State) (p stream : Nat) : Bool := s.rb (Reg.PORT_TAPCFG p) (if stream = 0 then 2 else 6)

/-- Where a stream's next word begins, in sixteenths of a symbol or sample period, and the ADC samples that it covers (R100, R171, R185). -/
def State.wordAt (s : State) (p stream : Nat) : Nat := if stream = 0 then (s.port p).rx.at0 else (s.port p).rx.at1
def State.wordSpan (s : State) (p stream : Nat) : Nat × Nat :=
  (s.wordAt p stream / 16, (s.wordAt p stream + s.wordLen p stream) / 16)

/-- Four samples, oldest first, as bits [39:0]. -/
def packSamples (f : Nat → Int) : Nat :=
  unsigned 10 (f 0) * 2 ^ 30 + unsigned 10 (f 1) * 2 ^ 20 + unsigned 10 (f 2) * 2 ^ 10 + unsigned 10 (f 3)

/-- The flags of the symbols from a on up to b, as bits [47:43] of the sample word (R97). -/
def State.wordFlags (s : State) (p a b : Nat) : Nat :=
  let any := fun (f : Sym → Bool) => (List.range (b - a)).any (fun i => f (s.sym p (a + i : Nat)))
  bnat (any Sym.settle) * 16 + bnat (any Sym.ovr) * 8 + bnat ((List.range (b - a)).any (fun i => s.erased p (a + i))) * 4 +
    bnat (any Sym.lpi) * 2 + bnat (any Sym.mark)

/-- Bits [39:0] of a word: raw samples, slicer errors or echo-subtracted samples; what the decimator delivers is a FREE VALUE (log entry 2). -/
def State.wordBody (s : State) (p kind a : Nat) : Nat × State :=
  if kind = 3 then s.drawNat 40
  else
    let y := fun (i : Nat) => s.sym p (a + i : Nat)
    (packSamples (fun i => if kind = 0 then (y i).raw else if kind = 1 then (y i).err else (y i).sub), s)

/-- Transmit symbols of a packed word (R310). -/
def txCode (m : Nat) (v : Int) : Nat :=
  if 4 ≤ m then ((v + 192) / 128).toNat % 4 else if m = 2 ∨ m = 3 then (if v = 0 then 0 else if 0 < v then 1 else 3) else 0

/-! ## Checkpoints (R314; their layout is a DESIGN CHOICE, log entry 154) -/

/-- A list as exactly n words. -/
def padWords (n : Nat) (l : List Word) : List Word := (l ++ List.replicate (n - l.length) 0#48).take n

/-- A number as a word, two's complement. -/
def intWord (v : Int) : Word := BitVec.ofNat 48 (unsigned 48 v)

/-- Members of a port's skein that serve in it, by their bits in the line group; none where it serves in none. -/
def State.servingMask (s : State) (p : Nat) : Nat :=
  match s.skeinOf (lgOf p) (localOf p) with
  | some sk => if s.serves p then
      ((List.range 16).map (fun i => if s.skeinOf (lgOf p) i = some sk ∧ s.serves (16 * lgOf p + i) then 2 ^ i else 0)).sum else 0
  | none => 0

/-- The 1,024 words of a checkpoint of channel c, whose next word is `k`, word `j` of its stream, which begins with symbol n. -/
def State.ckpBody (s : State) (c k j n t : Nat) : List Word :=
  let p := s.rf (Reg.DST_CH c) 46 40
  let x := s.port p
  let m : Int := (n : Int)
  let w := fun (v : Nat) => BitVec.ofNat 48 v
  let h := s.servingHalf p
  let head : List Word :=
    [w c, w k, w j, w t, w n, w (n / 2 ^ 48), s.reg (Reg.PORT_STATE p), w (s.rf (Reg.PORT_AFE p) 5 0),
     intWord x.rx.phase, intWord x.rx.freq, w (bnat x.slub.active + 2 * bnat x.slub.blocked + 4 * bnat x.slub.trig), w x.slub.start, w x.slub.last,
     w h, w (s.tapKind p (s.rf (Reg.DST_CH c) 39 39)), w (bnat (s.serves p) + 2 * s.servingMask p), w (Tab.get (fun _ => 0) (s.lg (lgOf p)).diff (localOf p))] ++
    (List.range 4).map (fun i => intWord (s.sym p (m - 1 - i)).dec) ++ (List.range 4).map (fun i => intWord (s.sym p (m - 1 - i)).tent) ++
    (List.range 7).map (fun i => intWord (s.sym p (m - 1 - i)).data)
  let slot := match s.skeinOf (lgOf p) (localOf p) with
    | some sk => if s.serves p then (List.range 339).map (s.slotWord (lgOf p) (s.skHalf (lgOf p) sk) (localOf p)) else []
    | none => []
  padWords 1024 (padWords 32 head ++ padWords 608 ((List.range 596).map (s.halfWord p h)) ++ padWords 340 slot ++
    w x.rx.hits.length :: (x.rx.hits.take 32).map w)

/-- The latest four checkpoints of a channel, with those of the others. -/
def keepFour (c : Nat) (l : List Ckp) : List Ckp :=
  if 4 < (l.filter (fun k => decide (k.ch = c))).length then
    match l.find? (fun k => decide (k.ch = c)) with
    | some x => l.erase x
    | none => l
  else l

/-- The checkpoint of channel c at its next word, which is about to be recorded. -/
def State.ckpNow (s : State) (c : Nat) : Ckp :=
  let p := s.rf (Reg.DST_CH c) 46 40
  let k := nth 0 s.dst.total c
  let t := (s.now - s.dst.armNow) * 8
  { ch := c, word := k, at_ := t, body := s.ckpBody c k (s.chDone c) (s.wordAt p (s.rf (Reg.DST_CH c) 39 39) / 16) t }

/-- A checkpoint joins those of its channel, which keeps its latest four. -/
def State.putCkp (s : State) (k : Ckp) : State := { s with dst := { s.dst with ckpts := keepFour k.ch (s.dst.ckpts ++ [k]) } }

/-- A checkpoint of channel c is taken at once (R315). -/
def State.takeCkp (s : State) (c : Nat) : State := s.putCkp (s.ckpNow c)

/-- Word k of a channel's recording starts a checkpoint (R314): it is the first word of a quarter of the channel's region, or the first after
PORT_SYMCNT restarted with a mode change. -/
def State.ckpDue (s : State) (c k : Nat) : Bool :=
  nth false s.dst.restart c || decide (k ≠ 0 ∧ 0 < s.dstRegion ∧ k % (s.dstRegion / 4) = 0)

/-- The checkpoint that a word starts is held, as it is at that word's symbol, until DST_CHECKPOINT has stored it. -/
def State.holdCkp (s : State) (c : Nat) : State :=
  if s.ckpDue c (nth 0 s.dst.total c) then
    { s with dst := { s.dst with taking := s.dst.taking ++ [s.ckpNow c], restart := setNth false s.dst.restart c } }
  else s

/-! ## Recording (R308–R311) -/

/-- Append to the element at a position. -/
def bumpNth (n : Nat) (l : List Nat) : List Nat := setNth (nth 0 l n + 1) l n

/-- Channel c records word j of its stream, which begins with symbol n (R308–R311): block decimation, the packed form of KIND 00 with its MARKS event,
SETTLE on the first two words. -/
def State.dstRecord (s0 : State) (c p kind j n flags : Nat) (w : Word) : State :=
  let i := nth 0 s0.dst.armBase c + (j - nth 0 s0.dst.armWord c)
  let left := nth 0 s0.dst.left c
  if chBlock (s0.reg (Reg.DST_CH c)) ≤ i % chPeriod (s0.reg (Reg.DST_CH c)) ∨ (s0.dstState = 2 ∧ left = 0) ∨ s0.dstClock = false then s0
  else
    let s := s0.holdCkp c
    let k := nth 0 s.dst.total c
    let fl := if k < 2 then flags % 16 + 16 else flags
    let y := fun (i : Nat) => s.sym p (n + i : Nat)
    let m := s.lineMode p
    let v : Word := if kind = 0 then
        BitVec.ofNat 48 (w.toNat % 2 ^ 40 * 256 + txCode m (y 0).data * 64 + txCode m (y 1).data * 16 + txCode m (y 2).data * 4 + txCode m (y 3).data)
      else if k < 2 then w ||| 0x800000000000#48 else w
    let mk := 2 * fl + bnat ((List.range 4).any (fun i => (y i).quiet)) + 1
    let s1 := if kind = 0 ∧ nth 0 s.dst.marks c ≠ mk then s.dstEvent 0x08 false p (k % 2 ^ 32 * 256 + (mk - 1)) [] else s
    let ws := nth [] s1.dst.words c ++ [v]
    { s1 with dst := { s1.dst with
        words := setNth (ws.drop (ws.length - s.dstRegion)) s1.dst.words c
        total := bumpNth c s1.dst.total
        left := if s.dstState = 2 then setNth (left - 1) s1.dst.left c else s1.dst.left
        marks := setNth mk s1.dst.marks c } }

/-- The next word of a stream is complete: into its sub-ring and to the channels that record it. The first word of a new kind carries MARK (R96); a
decimator that is not configured marks its words SETTLE (R99); a sweep's words are not roving ones (R185). -/
def State.emit (s : State) (p stream : Nat) : State :=
  let x := (s.port p).rx
  let j := if stream = 0 then x.w0 else x.w1
  let kind := s.tapKind p stream
  let sp := s.wordSpan p stream
  let was := if stream = 0 then x.kind0 else x.kind1
  let fl0 := s.wordFlags p sp.1 sp.2
  let fl1 := if was.isSome ∧ was ≠ some kind then fl0 / 2 * 2 + 1 else fl0
  let fl := if kind = 3 ∧ (s.port p).decim = false then fl1 % 16 + 16 else fl1
  let b := s.wordBody p kind sp.1
  let rov := kind = 3 ∧ s.pst p = stRoving ∧ s.sweeping p = false
  let w : Word := BitVec.ofNat 48 (fl * 2 ^ 43 + bnat (decide rov) * 2 ^ 42 + kind * 2 ^ 40 + b.1)
  let s1 := if s.tapEn p stream then
      b.2.updRx p (fun z => { z with
        ring := Tab.set (fun _ => none) z.ring (8192 * stream + j % 8192) (some (j, w))
        badRing := z.badRing.filter (fun k => !decide (k = 8192 * stream + j % 8192))
        kind0 := if stream = 0 then some kind else z.kind0, kind1 := if stream = 0 then z.kind1 else some kind })
    else s
  let s2 := if s.tapEn p stream then
      forAll (fun t c => if t.dstRecording ∧ t.chRecords p c ∧ t.rf (Reg.DST_CH c) 39 39 = stream then t.dstRecord c p kind j sp.1 fl w else t)
        (List.range 4) s1
    else s1
  let e := s.wordAt p stream + s.wordLen p stream
  s2.updRx p (fun z => if stream = 0 then { z with w0 := j + 1, at0 := e } else { z with w1 := j + 1, at1 := e })

/-! ## A tick -/

/-- Apply a stage to the symbols or words from a on, n of them. -/
def runFrom (f : State → Nat → State) (a : Nat) : Nat → State → State
  | 0, s => s
  | n + 1, s => runFrom f (a + 1) n (f s a)

/-- Symbols that wait before the marks of a symbol are final: the slub detector's hold (R107). -/
def State.hold (s : State) (p : Nat) : Nat := if slubEn (s.port p).applSlub then 72 else 0

/-- A serving member decides 16 symbols later (R119); what is no line signal is not decided. -/
def State.lag (s : State) (p : Nat) : Nat := if s.rxLine p = false then 0 else if s.serves p then 48 else 32

/-- Words of a stream that are complete and not yet written. -/
def State.wordsDue (s : State) (p stream : Nat) : Nat :=
  (16 * ((s.port p).rx.decN - s.hold p) - s.wordAt p stream) / s.wordLen p stream

/-- Ports whose datapath runs, with the symbols that have come since the last tick: the first, and how many. -/
def State.dueSyms (s : State) : List (Nat × Nat × Nat) :=
  ((List.range 96).filter s.rxRuns).map (fun p => (p, (s.port p).rx.got, s.symcnt p - (s.port p).rx.got))

/-- A stream's place moves on to its first word that begins at symbol c or later. -/
def skipWords (at_ len c : Nat) : Nat := ceilDiv (16 * c - at_) len

/-- A port whose clock has stopped takes in nothing: its counts move on past the symbols that were lost. -/
def State.rxSkip (s : State) (p : Nat) : State :=
  let c := s.symcnt p
  if s.rxRuns p ∨ (s.port p).rx.got = c ∨ c = 0 then s
  else
    let k0 := skipWords (s.wordAt p 0) (s.wordLen p 0) c
    let k1 := skipWords (s.wordAt p 1) (s.wordLen p 1) c
    s.updRx p (fun x => { x with
      syms := [], got := c, tentN := c, decN := c, used := ceilDiv c 4, w0 := x.w0 + k0, at0 := x.at0 + k0 * s.wordLen p 0
      w1 := x.w1 + k1, at1 := x.at1 + k1 * s.wordLen p 1 })

/-- The decisions that are due after a symbol (R119). -/
def State.tentDue (s : State) (p : Nat) : State :=
  let x := (s.port p).rx
  runFrom (fun v n => v.tentative p n) x.tentN (x.got - 32 - x.tentN) s
def State.concludeDue (s : State) (p : Nat) : State :=
  let x := (s.port p).rx
  runFrom (fun v n => v.conclude p n) x.decN (x.got - s.lag p - x.decN) s

/-- The tap words that are due, then the loops on the groups that are due. -/
def State.wordsLoops (s : State) (p : Nat) : State :=
  let s1 := forAll (fun t st => runFrom (fun v _ => v.emit p st) 0 (t.wordsDue p st) t) [0, 1] s
  let x := (s1.port p).rx
  if s1.rxLine p then runFrom (fun v j => v.useGroup p j) x.used ((x.decN - s1.hold p) / 4 - x.used) s1 else s1

/-- One symbol of every port that has an i-th one due, stage by stage, so that members of a skein meet each other's symbols (R119). -/
def State.symbolRound (s : State) (due : List (Nat × Nat × Nat)) (i : Nat) : State :=
  let act := due.filter (fun x => decide (i < x.2.2))
  let line := act.filter (fun x => s.rxLine x.1)
  let s1 := forAll (fun t x => t.sample x.1 (x.2.1 + i)) act s
  let s2 := forAll (fun t x => t.cancel x.1 (x.2.1 + i)) line (forAll (fun t x => t.send x.1 (x.2.1 + i)) line s1)
  let s3 := forAll (fun t x => t.concludeDue x.1) act (forAll (fun t x => t.tentDue x.1) line s2)
  forAll (fun t x => t.wordsLoops x.1) act s3

/-- Every due port's datapath takes in its new symbols, one after another. -/
def State.datapath (s0 : State) : State :=
  let s := forAll State.rxSkip (List.range 96) s0
  let due := s.dueSyms
  runFrom (fun t i => t.symbolRound due i) 0 ((due.map (fun x => x.2.2)).foldl max 0) s

end Sys2Proof.Machine
end

