-- ==== Sys2Proof/Machine/Domains.lean ====
section
/-! DEFINITION. Waking a switched power domain (R339, R342, R343). -/

namespace Sys2Proof.Machine

/-- One domain starts to wake; a domain whose entry is under way wakes when the entry has completed (R343). -/
def State.startWake (s : State) (d : Nat) : State :=
  let x := s.dom d
  let s1 := s.setRf (Reg.PWR_DOMCTL d) 1 0 0
  if x.chg = 3 then s
  else if x.chg = 1 ∨ x.chg = 2 then s1.setDom d { x with next := some 0 }
  else if x.st = 0 then s
  else s1.setDom d { x with chg := 3, delayed := false }

/-- The line group that a quad needs (R339). -/
def lgOfDom (d : Nat) : Option Nat := if d < 24 then some (24 + d / 4) else none

/-- Wake a domain: a quad's line group wakes first (R339). -/
def State.wakeDom (s : State) (d : Nat) : State :=
  match lgOfDom d with
  | some l => if (s.dom l).st ≠ 0 ∨ (s.dom l).chg ≠ 0 then (s.startWake l).startWake d else s.startWake d
  | none => s.startWake d

/-- A request wakes the domain (R342): PWR_WAKEDEMd counts. -/
def State.wakeOnDemand (s : State) (d : Nat) : State :=
  if (s.dom d).chg = 3 ∨ ((s.dom d).chg ≠ 0 ∧ (s.dom d).next = some 0) then s else (s.wakeDom d).bump (Reg.PWR_WAKEDEM d)

/-- AUTOWAKE of a domain. -/
def State.autowake (s : State) (d : Nat) : Bool := s.rb (Reg.PWR_DOMCTL d) 4

/-- What a request into a domain meets (R26, R342): it goes, it completes ABSENT, or it stalls while the domain wakes. -/
inductive Gate where
  | go
  | absent
  | stall
deriving DecidableEq, Repr

/-- The gate of domain d for a request; the queues of a domain that an isolation has flushed answer ABSENT until their handshake (R335). -/
def State.gate (s : State) (d : Nat) : Gate :=
  let x := s.dom d
  if x.isolated ∨ (x.st = 0 ∧ x.flushing) then .absent
  else if x.st = 0 ∧ x.chg = 0 then .go
  else if x.chg = 3 then .stall
  else if x.st = 0 ∧ x.delayed then .go
  else if s.autowake d then .stall
  else .absent

/-- Domain d lies behind a dual-clock queue for the core family (R325): line quads and groups, host quads. -/
def crossClock (d : Nat) : Bool := decide (d < 30 ∨ (44 ≤ d ∧ d < 48))

/-- A write into a queue that flushes, its other side lost or isolated, is dropped and counted in CLK_XDROPd of its writer, d being 3 for ROOT and 4
for SPN (R335; DESIGN CHOICE, log entry 163). -/
def State.crossDrop (s : State) (d writer : Nat) : State := if crossClock d then s.bump (Reg.CLK_XDROP (writer - 1)) else s

/-- UNIT of the block of domain d that holds a register word (R355): port, spindle or lane within the domain. -/
def unitIn (d a : Nat) : Nat :=
  match RegMap.at a with
  | none => 0
  | some (l, _, _) => if d < 24 ∨ (44 ≤ d ∧ d < 48) then l.inst % 4 else if 30 ≤ d ∧ d < 36 then l.inst % 8 else 0

/-- A request reaches a block, number `unit` of domain d, that still delays its answer: it refuses with reason 1. A TARGET written meanwhile is applied
as the transition has ended (R343; `State.settleNext`). -/
def State.refuseEntryAt (s : State) (d unit : Nat) : State :=
  let x := s.dom d
  if x.st = 0 ∧ x.delayed = true ∧ x.chg ≠ 0 ∧ x.chg ≠ 3 then
    ((((s.setDom d { x with chg := 0, delayed := false }).setRf (Reg.PWR_DOMCTL d) 1 0 0).setRf (Reg.PWR_DOMSTAT d) 43 40 1).setRf
      (Reg.PWR_DOMSTAT d) 39 32 unit).bump Reg.PWR_REFUSECNT
  else s

/-- The runtime state region's words in bank b (R249): first offset in the window, and how many. -/
def State.rtRange (s : State) (b : Nat) : Nat × Nat :=
  let base := s.rf Reg.MB_RTBASE 31 0
  let lo := max base (0x1000000 + b * 0x100000)
  let hi := min (base + 262144) (0x1000000 + (b + 1) * 0x100000)
  (lo - 0x1000000, hi - lo)

/-- The runtime state region lies in bank b. -/
def State.rtInBank (s : State) (b : Nat) : Bool := decide (0 < (s.rtRange b).2)

/-- The runtime writes its state to the region (R245, R249). No rule lays that state out in words: they hold free values (log entry 126). A part of
the region whose bank does not answer is not written. -/
def State.saveRuntime (s : State) : State :=
  forAll (fun t b => if t.rtInBank b && decide (t.gate (36 + b) = .go) then t.freshBob (t.rtRange b).1 (t.rtRange b).2 else t) (List.range 8) s

/-- The same of a domain with one block. -/
def State.refuseEntry (s : State) (d : Nat) : State := s.refuseEntryAt d 0

end Sys2Proof.Machine
end

