-- ==== Sys2Proof/Machine/Link.lean ====
section
/-! DEFINITION. Meanings of link life: admission, negotiation, training, loss, PLCA, RS decoding, sleep and wake (R62–R76, R134–R165, R241). -/

namespace Sys2Proof.Machine

/-! ## Admission (R241) -/

/-- A spindle has passed self-test, and no fault reaction has isolated it. -/
def State.spnPassed (s : State) (n : Nat) : Bool := !(s.spn n).withdrawn && !(s.spn n).isolated && decide ((s.spn n).run ≠ .notInService)

/-- A spindle is in service: power-on self-test has run, its cluster is on, and it is neither withdrawn nor isolated. -/
def State.spnInService (s : State) (n : Nat) : Bool := s.domOn (30 + n / 8) && s.spnPassed n && decide (s.boot.phase ≠ 0)

/-- The RUN spindles in service. -/
def State.runSpindles (s : State) : List Nat :=
  (List.range 48).filter (fun n => s.spnInService n && decide ((s.spn n).mode = 1))

/-- Ports admitted to negotiation and training, those of a restart attempt in ROVING among them. -/
def State.admitted (s : State) : Nat :=
  ((List.range 96).filter (fun p => (s.port p).attempt && decide (s.pst p = stListen ∨ s.pst p = stTrain ∨ s.pst p = stRoving))).length

/-- One more port can be admitted: fewer than 3 per RUN spindle are. -/
def State.admitRoom (s : State) : Bool := decide (s.admitted < 3 * s.runSpindles.length)

def State.waiting (s : State) (p : Nat) : Bool := (s.port p).wantAdmit && decide (s.pst p = stListen) && s.quadOn p

/-- p is first in order: descending TPRIO, then ascending number (R241). -/
def State.firstWaiting (s : State) (p : Nat) : Bool :=
  (List.range 96).all (fun j => !(s.waiting j) || decide (j = p) ||
    decide (s.rf (Reg.PORT_LINKCFG j) 42 40 < s.rf (Reg.PORT_LINKCFG p) 42 40) ||
    (decide (s.rf (Reg.PORT_LINKCFG j) 42 40 = s.rf (Reg.PORT_LINKCFG p) 42 40) && decide (p < j)))

/-- TRAIN_ADMIT (R241): the first waiting port starts an attempt while fewer than 3 ports per RUN spindle are admitted. -/
def execTrainAdmit (p : PortNo) (s : State) : Out :=
  if s.waiting p ∧ s.firstWaiting p ∧ s.admitRoom then .next (s.startAttempt p) else .next s

/-! ## Negotiation -/

/-- The highest mode in a set, bit m for MODE code m; 0 for none (R135). -/
def highestMode (v : Nat) : Nat := ((List.range 8).filter (fun m => decide (m ≠ 0) && natBit v m)).foldl max 0

/-- Role settings as PORT_MODE.ROLE codes them. -/
def isForced (r : Nat) : Bool := decide (2 ≤ r)

/-- Role resolution (R62): 1 MASTER, 2 SLAVE, none on a conflict. -/
def resolveRole (own far : Nat) (seed : Bool) : Option Nat :=
  if isForced own ∧ isForced far then (if own = far then none else if own = 2 then some 1 else some 2)
  else if isForced own then some (if own = 2 then 1 else 2)
  else if isForced far then some (if far = 2 then 2 else 1)
  else if own = far then some (if seed then 1 else 2)
  else some (if own = 0 then 1 else 2)

/-- Dialects agreed (R136, R137): [0] d1, [1] d2, [2] d3. -/
def agreeDialects (mode offer : Nat) (page : Option (BitVec 32)) : Nat :=
  match page with
  | none => 0
  | some w =>
    if w.toNat / 2 ^ 28 ≠ 1 then 0
    else
      let v := fun lo => decide (1 ≤ w.toNat / 2 ^ lo % 16)
      bnat (natBit offer 0 && natBit w.toNat 27 && v 20 && decide (mode ≠ 1)) +
      2 * bnat (natBit offer 1 && natBit w.toNat 26 && v 16 && hasOam mode) +
      4 * bnat (natBit offer 2 && natBit w.toNat 25 && v 12)

/-- An attempt fails: a port in LISTEN waits under R149; a port in ROVING stays there (R182). -/
def State.attemptEnd (s : State) (p c : Nat) : State :=
  if s.pst p = stRoving then
    ((s.cause p c).bump (Reg.PORT_TRAINFAIL p)).updPort p (fun x => { x with attempt := false })
  else s.attemptFail p c

/-- The exchange is complete (R135): mode, role, dialects, then TRAIN; or no common mode, or a role conflict. -/
def State.resolve (s : State) (p : Nat) (pg : AnPage) : State :=
  let x := s.port p
  let m := highestMode (pg.common.toNat &&& (fld x.applMode 7 0))
  if m = 0 then s.attemptEnd p 9
  else
    match (if m = 1 then some 0 else resolveRole (s.roleSetting p) pg.role.toNat pg.seed) with
    | none =>
      ((s.bump (Reg.PORT_ROLEFAIL p)).attemptEnd p 6).updPort p (fun y => { y with
        preferRetry := (s.skeinOf (lgOf p) (localOf p)).isSome })
    | some r =>
      let s1 := s.updPort p (fun y => { y with
        resMode := m, resRole := r, resDial := agreeDialects m (fld x.applDial 2 0) pg.dialect,
        resPre := bitOf x.applMode 16 && pg.precode && decide (4 ≤ m), resEee := bitOf x.applMode 15 && pg.eee,
        fromRov := decide (s.pst p = stRoving), preferRetry := false })
      s1.toTrain p

/-- What the port sends after the k-th page of an exchange that goes on (R135): the tagged message page after the base page, then the dialect
offer, then null message pages; next pages follow only if both ends set the next-page bit of their base pages. -/
def State.replyPages (s : State) (p k : Nat) (pg : AnPage) : List TxPage :=
  let offer := fld (s.port p).applDial 2 0
  if pg.last ∨ offer = 0 ∨ (pg.base ∧ pg.next = false) then []
  else if k = 1 then [.tagged 0x6A41D9#24] else if k = 2 then [.offer (dialectField offer)] else [.null]

/-- A page of the running attempt: answered, or, as the last, the exchange's end. -/
def State.takePage (s : State) (p : Nat) (pg : AnPage) : State :=
  let s1 := s.updPort p (fun y => { y with pages := y.pages ++ [pg.page] })
  let s2 := s1.sendPages p (s1.replyPages p (s1.port p).pages.length pg)
  if pg.last then s2.resolve p pg else s2

/-- AN_PAGE_RECEIVE (R135–R137, R149, R241): a base page may end a restart wait, and the port answers at once; where 3 ports per RUN spindle are
admitted already it waits for admission instead (DESIGN CHOICE, log entry 146). A page belongs to a running attempt, and may complete it. -/
def execAnPageReceive (p : PortNo) (pg : AnPage) (s : State) : Out :=
  let x := s.port p
  let s0 := if s.recorded p then s.dstEvent 0x03 false p 1 [pg.page] else s
  if x.backoff ∧ s.pst p = stListen then
    if pg.base ∧ bitOf x.applMode 12 ∧ (x.pages = [] ∨ pg.page ∉ x.pages) then
      .next (if s.admitRoom then (s0.startAttempt p).takePage p pg else s0.updPort p (fun y => { y with backoff := false, wantAdmit := true }))
    else .next s0
  else if x.attempt ∧ bitOf x.applMode 12 ∧ (s.pst p = stListen ∨ s.pst p = stRoving) then .next (s0.takePage p pg)
  else .next s0

/-- AN_ABANDON (R135): an unresolved attempt ends with CAUSE 0x7. -/
def execAnAbandon (p : PortNo) (s : State) : Out :=
  if (s.port p).attempt ∧ (s.pst p = stListen ∨ s.pst p = stRoving) then .next (s.attemptEnd p 7) else .next s

/-- TRAINING_SIGNAL_DETECT (R134): a forced SLAVE in LISTEN starts training. -/
def execTrainingSignalDetect (p : PortNo) (s : State) : Out :=
  let x := s.port p
  if x.attempt ∧ s.pst p = stListen ∧ bitOf x.applMode 12 = false ∧ x.resRole = 2 ∧ x.resMode ≠ 0 then
    .next ((s.updPort p (fun y => { y with trainSig := true })).toTrain p)
  else .next s

/-! ## Training -/

/-- WARM_CHECK (R142): on a mismatch the attempt continues cold. -/
def execWarmCheck (p : PortNo) (mismatch : Bool) (s : State) : Out :=
  if s.pst p = stTrain ∧ (s.port p).warm ∧ mismatch then
    .next ((s.bump (Reg.PORT_WARMMISS p)).coldHalves p)
  else .next s

/-- A skein member that comes UP as SLAVE leaves its skein (R116). -/
def State.skeinSlave (s : State) (p : Nat) : State :=
  match s.skeinOf (lgOf p) (localOf p) with
  | none => s
  | some _ =>
    if s.prole p = 2 then (s.bump (Reg.LG_SKSLAVE (lgOf p))).raise (0x060 + lgOf p) 0x08 p else s

/-- The step at which MU_EC stands when cold training ends (phase 2 of R140): the spec names none (FREE VALUE, log entry 2). -/
def State.muEcEnd (s : State) (p : Nat) : State :=
  let x := s.port p
  if x.warm ∨ x.resMode = 1 then s
  else
    let d := s.drawNat 4
    d.2.setRf (Reg.PORT_LMSCFG p) 3 0 d.1

/-- Entry to UP (R134, R137, R142, R145, R166). No rule gives an event for the partner's report, so PORT_PCSSTAT.REM_RX_OK, set here, stands until the
port leaves UP (DESIGN CHOICE, log entry 39). -/
def State.toUp (s : State) (p : Nat) : State :=
  let x := s.port p
  let us := (s.now - x.trainAt) / 1000
  let s1 := s.enter p stUp
  let s2 := ((s1.setRb (Reg.PORT_STATE p) 26 true).setRf (Reg.PORT_STATE p) 19 17 x.resDial).setRb (Reg.PORT_STATE p) 16 x.resPre
  let s3 := (s2.bump (Reg.PORT_TRAINCNT p)).setRb (Reg.PORT_LINKSTAT p) 43 x.warm
  let s4 := if x.warm then s3.bump (Reg.PORT_WARMCNT p) else s3
  let s5 := (s4.setRf (Reg.PORT_LINKSTAT p) 39 32 0).setRf (Reg.PORT_LINKSTAT p) 23 0 (if us < 2 ^ 24 then us else 2 ^ 24 - 1)
  let s6 := ((s5.setRb (Reg.PORT_SQI p) 47 false).setReg (Reg.PORT_ROVSTAT p) 0).muEcEnd p
  let s7 := s6.setRf (Reg.PORT_PCSSTAT p) 5 0 (if x.resMode = 1 then 0 else if hasOam x.resMode then 0x23 else 0x21)
  let s8 := s7.updPort p (fun y => { y.noAttempt with
    fromRov := false, fromSleep := false, wakeKind := 0, wakeLocal := false, falseDue := false, coefKept := true, rov := {},
    lossCause := 0, plcaOpp := 0, plcaAt := s.now, plcaBurst := 0, sqiFirst := true })
  s8.skeinSlave p

/-- LINK_UP (R134). -/
def execLinkUp (p : PortNo) (s : State) : Out :=
  if s.pst p = stTrain then .next (s.toUp p) else .next s

/-- TRAIN_FAIL (R141, R160, R182): back to LISTEN, or to ROVING when training was entered from it. -/
def execTrainFail (p : PortNo) (s : State) : Out :=
  if s.pst p = stTrain then
    if (s.port p).fromRov then
      let s1 := (s.updPort p (fun x => { x with attempt := false, fromRov := false })).enter p stRoving
      .next ((s1.cause p 8).bump (Reg.PORT_TRAINFAIL p))
    else
      let s1 := (s.toListen p).attemptFail p 8
      .next (if (s.port p).falseDue then s1.falseWake p else s1)
  else .next s

/-! ## Loss and restart -/

/-- Exit from UP on link loss (R147, R148, R315): counted, its cause kept, and a trigger of cause 3 on a recorded port. -/
def State.linkLoss (s : State) (p : Nat) : State :=
  let s1 := ((s.bump (Reg.PORT_LINKDN p)).cause p 1).lossMemo p 1
  let s2 := if s.triggers p then s1.dstTrigger 3 p 0 else s1
  if s.rb (Reg.PORT_LINKCFG p) 47 then s2.relisten p else s2.toDisabled p

/-- LINK_LOSS (R134, R147): a 10BASE-T1S port has no link status to lose. -/
def execLinkLoss (p : PortNo) (s : State) : Out :=
  if s.pst p = stUp ∧ s.pmode p ≠ 1 then .next (s.linkLoss p) else .next s

/-- BACKOFF_EXPIRE (R149): the wait ends and the port asks for admission again. -/
def execBackoffExpire (p : PortNo) (s : State) : Out :=
  if s.pst p = stListen ∧ (s.port p).backoff then
    .next (s.updPort p (fun x => { x with backoff := false, wantAdmit := true }))
  else .next s

/-- Entry to ROVING (R171, R193): PORT_ROVCFG is taken, stream 0 delivers KIND 11. -/
def State.enterRoving (s : State) (p : Nat) : State :=
  let cfg := s.reg (Reg.PORT_ROVCFG p)
  let s1 := s.updPort p (fun x => { x.noAttempt with
    fromRov := false,
    rov := { retry := fld cfg 31 20, rwin := fld cfg 19 10, ladmax := fld cfg 47 43, own := fld cfg 47 43, margin := fld cfg 39 32,
             impthr := fld cfg 9 0 } })
  (((s1.enter p stRoving).setReg (Reg.PORT_ROVFN p) 0).setReg (Reg.PORT_ROVSTAT p) 0).setRf (Reg.PORT_TAPCFG p) 2 0 7

/-! ## PLCA (R65–R68, R162–R165) -/

/-- A 10BASE-T1S port in UP with PLCA enabled, and its node ID. -/
def State.plcaOn (s : State) (p : Nat) : Bool :=
  decide (s.pst p = stUp ∧ s.pmode p = 1) && bitOf (s.port p).applPlca 11
def State.plcaId (s : State) (p : Nat) : Nat := fld (s.port p).applPlca 4 0
def State.plcaConflict (s : State) (p : Nat) : Bool := s.rb (Reg.PORT_PLCASTAT p) 2

/-- PLCA_BEACON (R67, R68, R164): the coordinator's BEACON, sent or received, starts a cycle; a waiting PLCA update takes effect. -/
def execPlcaBeacon (p : PortNo) (s : State) : Out :=
  if s.plcaOn p ∧ s.plcaConflict p = false then
    let s1 := s.setRf (Reg.PORT_PLCASTAT p) 1 0 (if s.plcaId p = 0 then 3 else 1)
    let s2 := match (s.port p).plcaNext with
      | some w => ((s1.setReg (Reg.PORT_PLCACFG p) w).updPort p (fun x => { x with applPlca := w, plcaNext := none })).endRunning p 0x1B 0
      | none => s1
    .next (s2.updPort p (fun x => { x with plcaOpp := 0, plcaAt := s.now, plcaBurst := 0 }))
  else .next s

/-- PLCA_BEACON_CONFLICT (R67). -/
def execPlcaBeaconConflict (p : PortNo) (s : State) : Out :=
  if s.plcaOn p ∧ s.plcaId p = 0 ∧ s.plcaConflict p = false then
    .next ((s.bump (Reg.PORT_PLCABCN p)).setRf (Reg.PORT_PLCASTAT p) 2 0 4)
  else .next s

/-- PLCA_BEACON_TIMEOUT (R68): a follower falls back to CSMA/CD. -/
def execPlcaBeaconTimeout (p : PortNo) (s : State) : Out :=
  if s.plcaOn p ∧ s.plcaId p ≠ 0 then .next (s.setRb (Reg.PORT_PLCASTAT p) 0 false) else .next s

/-- PLCA_BEACON_RETURN (R68). -/
def execPlcaBeaconReturn (p : PortNo) (s : State) : Out :=
  if s.plcaOn p ∧ s.plcaId p ≠ 0 then .next (s.setRb (Reg.PORT_PLCASTAT p) 0 true) else .next s

/-- PLCA is in force on the port: enabled, and PORT_PLCASTAT.ACTIVE. -/
def State.plcaLive (s : State) (p : Nat) : Bool := s.plcaOn p && s.rb (Reg.PORT_PLCASTAT p) 0

/-- Transmit opportunities of a cycle: NODECNT at the coordinator, which alone uses it, else as many as there are node IDs (R65, R66, R163). -/
def State.plcaCount (s : State) (p : Nat) : Nat := if s.plcaId p = 0 then fld (s.port p).applPlca 10 5 else 32

/-- A transmit opportunity is running. -/
def State.plcaCycle (s : State) (p : Nat) : Bool := s.plcaLive p && decide ((s.port p).plcaOpp < s.plcaCount p)

/-- The opportunity that runs is the port's own. -/
def State.plcaOwn (s : State) (p : Nat) : Bool := s.plcaCycle p && decide ((s.port p).plcaOpp = s.plcaId p)

/-- The cycle moves on to the next opportunity (R165). -/
def State.plcaMove (s : State) (p : Nat) : State :=
  s.updPort p (fun x => { x with plcaOpp := x.plcaOpp + 1, plcaAt := s.now, plcaBurst := 0 })

/-- Wait of the running opportunity in ns (R65): TOTMR bit times, and BTMR after a frame of the port's own burst; a bit time is 100 ns. -/
def State.plcaWait (s : State) (p : Nat) : Nat :=
  100 * (if (s.port p).plcaBurst = 0 then fld (s.port p).applPlca 19 12 else fld (s.port p).applPlca 35 28)

/-- The port's own frame in its opportunity has been sent (R65): up to MAXBC more may follow it. -/
def State.plcaSent (s : State) (p : Nat) : State :=
  if s.plcaOwn p then
    if (s.port p).plcaBurst < fld (s.port p).applPlca 27 20 then
      s.updPort p (fun x => { x with plcaBurst := x.plcaBurst + 1, plcaAt := s.now })
    else s.plcaMove p
  else s

/-- PLCA_TO_EXPIRE (R65, R165): an opportunity in which nothing was sent for its time is over, and the cycle moves on. -/
def execPlcaToExpire (p : PortNo) (s : State) : Out :=
  if s.plcaCycle p ∧ (s.cur p).isNone ∧ (s.port p).plcaAt + s.plcaWait p ≤ s.now then .next (s.plcaMove p) else .next s

/-- PLCA_SEEN_EXPIRE (R162). -/
def execPlcaSeenExpire (p : PortNo) (node : Fin 32) (s : State) : Out :=
  .next (s.setRb (Reg.PORT_PLCASEEN p) node false)

/-! ## RS decoding and the PRBS checker (R69–R72, R76) -/

/-- Parity symbols of the mode's code; 25GBASE-T1 per IEEE 802.3cy (PRESUMED, log entry 19). -/
def rsParity (m : Nat) : Nat := if m = 3 then 44 else if m = 7 then 90 else 34

/-- RS symbols of a codeword, and line symbols that carry the bits of one: PAM4 symbols carry 2 of its 10 bits; in 1000BASE-T1 six PAM3 symbols
carry its 9 bits (PRESUMED, log entry 19). -/
def rsSize (m : Nat) : Nat := if m = 3 then 450 else if m = 7 then 936 else 360
def rsSpan (m : Nat) : Nat := if m = 3 then 6 else 5

/-- Erased symbols of the codeword that starts at a line symbol (R70): those that touch a slub's erasure window. -/
def State.rsErased (s : State) (p first : Nat) : Nat :=
  let w := rsSpan (s.pmode p)
  ((List.range (rsSize (s.pmode p))).filter (fun k => (List.range w).any (fun i => s.erased p (first + w * k + i)))).length

/-- HI_SER of the mode's clause (FREE VALUE, log entry 145). -/
def State.hiSer (s : State) (p : Nat) : State :=
  let d := s.drawNat 1
  d.2.setRb (Reg.PORT_PCSSTAT p) 2 (decide (d.1 = 1))

/-- RS_DECODE (R69–R72) of the codeword from line symbol `first` on: e errors outside erasures, eb erased symbols whose value was wrong, and the
frames it touches that no uncorrectable codeword touched before. PORT_RSOVER counts only where erasures are applied (ERASE = 1); a symbol is counted as
corrected if its value was wrong, and a codeword as corrected if such a symbol was in it (DESIGN CHOICES, log entry 147). -/
def execRsDecode (p : PortNo) (first errs erasedBad frames : Nat) (s0 : State) : Out :=
  if s0.pst p = stUp ∧ hasOam (s0.pmode p) then
    let s := s0.hiSer p
    let par := rsParity (s.pmode p)
    let erased := s.rsErased p first
    let erase := bitOf (s.port p).applFec 0
    let use := erase && decide (erased ≤ par)
    let s1 := s.bump (Reg.PORT_RSCW p)
    let s2 := if erase ∧ par < erased then s1.bump (Reg.PORT_RSOVER p) else s1
    let s3 := if use then s2.addCnt (Reg.PORT_RSERAS p) erased else s2
    let total := errs + min erasedBad erased
    let ok := if use then decide (2 * errs + erased ≤ par) else decide (2 * total ≤ par)
    if ok then
      .next (if total = 0 then s3 else (s3.bump (Reg.PORT_RSCORR p)).addCnt (Reg.PORT_RSSYM p) total)
    else .next ((s3.bump (Reg.PORT_RSUNC p)).updPort p (fun x => { x with rsMarks := x.rsMarks + frames }))
  else .next s0

/-- PRBS_RESYNC (R76): after 32 errored bits in a row the checker looks for the sequence again; it counts each bit as it is checked (Datapath). -/
def execPrbsResync (p : PortNo) (_ _ : Unit) (s : State) : Out :=
  if s.testMode p = 9 ∧ (s.port p).prbsSync ∧ 32 ≤ (s.port p).prbsBad then
    .next (s.updPort p (fun x => { x with prbsSync := false, prbsGood := 0, prbsBad := 0 }))
  else .next s

/-! ## Sleep and wake (R155–R161) -/

/-- TC10 defines the handshake for 100BASE-T1 and 1000BASE-T1 (PRESUMED, log entry 20). -/
def hasTc10 (m : Nat) : Bool := decide (m = 2 ∨ m = 3)

/-- Frames queued bar sleep while WAKEONTX = 1 (R156). -/
def State.framesBarSleep (s : State) (p : Nat) : Bool := s.rb (Reg.PORT_SLEEPCFG p) 46 && s.egressBusy p

/-- PORT_STATE.LPI follows both directions without a GEN change (R80). -/
def State.lpiBits (s : State) (p : Nat) (tx rx : Bool) : State :=
  ((s.setRb (Reg.PORT_PCSSTAT p) 3 tx).setRb (Reg.PORT_PCSSTAT p) 4 rx).setRb (Reg.PORT_STATE p) 27 (tx || rx)

/-- The port stops sending low-power idle and starts to wake (R152, R161). -/
def State.leaveLpi (s : State) (p : Nat) : State :=
  if s.rb (Reg.PORT_PCSSTAT p) 3 then
    (s.lpiBits p false (s.rb (Reg.PORT_PCSSTAT p) 4)).updPort p (fun x => { x with txWaking := true })
  else s

/-- SLEEP_REQUEST_RECEIVE (R155): accepted, rejected (nothing changes), or ignored while a handshake runs. -/
def execSleepRequestReceive (p : PortNo) (s : State) : Out :=
  if s.pst p = stUp ∧ hasTc10 (s.pmode p) ∧ (s.port p).sleepHs = 0 ∧ s.rb (Reg.PORT_SLEEPCFG p) 47 ∧ s.framesBarSleep p = false then
    .next (s.updPort p (fun x => { x with sleepHs := 1 }))
  else .next s

/-- Entry to SLEEP from UP (R155): CAUSE 0x2; PORT_SLEEP completes OK. -/
def State.sleepNow (s : State) (p : Nat) : State :=
  let s1 := (s.cause p 2).lossMemo p 2
  (((s1.toSleep p).endRunning p 0x14 0).endRunning p 0x17 9).endRunning p 0x1B 9

/-- SLEEP_HANDSHAKE_DONE (R155). -/
def execSleepHandshakeDone (p : PortNo) (s : State) : Out :=
  if s.pst p = stUp ∧ (s.port p).sleepHs ≠ 0 then .next (s.sleepNow p) else .next s

/-- The port requests sleep itself, as for a PORT_SLEEP given in UP (R155, R156, R161): refused while frames bar it, and else out of low-power idle
first. -/
def State.askSleep (s : State) (p : Nat) : Option State :=
  if s.framesBarSleep p then none else some ((s.leaveLpi p).updPort p (fun x => { x with sleepHs := 2, sleepCmd := true }))

/-- PARTNER_SLEEP_REJECT (R155): the port stays UP and PORT_SLEEP completes REFUSED. A handshake that the partner started ends so too; a
PORT_SLEEP that had joined it then makes the port request sleep itself. -/
def execPartnerSleepReject (p : PortNo) (s : State) : Out :=
  if s.pst p = stUp ∧ (s.port p).sleepHs = 2 then
    .next ((s.updPort p (fun x => { x with sleepHs := 0, sleepCmd := false })).endRunning p 0x14 6)
  else if s.pst p = stUp ∧ (s.port p).sleepHs = 1 then
    let t := s.updPort p (fun x => { x with sleepHs := 0, sleepCmd := false })
    .next (if (s.port p).sleepCmd then
        (match s.askSleep p with
         | some u => u
         | none => t.endRunning p 0x14 6)
      else t)
  else .next s

/-- In SLEEP, or in DISABLED reached from SLEEP when the quad left on (R161). -/
def State.asleep (s : State) (p : Nat) : Bool :=
  decide (s.pst p = stSleep) || (decide (s.pst p = stDisabled) && (s.port p).fromSleep)

/-- DETECTOR_ARM (R157). -/
def execDetectorArm (p : PortNo) (s : State) : Out :=
  if s.asleep p ∧ s.rb (Reg.PORT_SLEEPCFG p) 45 then .next (s.armDetector p) else .next s

/-- LINE_ENERGY_DETECT (R157): the detector's level asserts or falls; it does so during a sleep handshake too (R161). -/
def execLineEnergyDetect (d : DetLevel) (s : State) : Out := .next (s.updPort d.port (fun x => { x with detLevel := d.level }))

/-- A woken port enters LISTEN, and PORT_WAKE completes; after a local or forwarded wake it has sent the TC10 wake pulse (R159). -/
def State.wakeEnter (s : State) (p : Nat) : State :=
  let x := s.port p
  ((s.toListen p).endRunning p 0x15 0).updPort p (fun y => { y with
    fromSleep := false, detArmed := false, wakeKind := x.wakeKind, wakeLocal := x.wakeLocal, falseDue := false,
    tc10 := if x.wakeLocal ∨ x.wakeKind = 2 then y.tc10 + 1 else y.tc10 })

/-- A wake of kind k (1 remote, 2 forwarded, 0 local): at once where the quad is on, and otherwise once it is on (R159). -/
def State.wakePort (s : State) (p k : Nat) (loc : Bool) : State :=
  let s1 := s.updPort p (fun x => { x with wakeKind := if k = 0 then x.wakeKind else k, wakeLocal := x.wakeLocal || loc })
  if s.quadOn p then s1.wakeEnter p
  else (s1.updPort p (fun x => { x with wakePend := true })).wakeDom (quadOf p)

/-- A local wake is due: a running PORT_WAKE, or a frame under WAKEONTX (R156, R159). -/
def State.localWakeDue (s : State) (p : Nat) : Bool :=
  s.runningOn p 0x15 || (s.rb (Reg.PORT_SLEEPCFG p) 46 && s.egressBusy p)

/-- The armed detector is asserted, and the wake is not counted as remote yet (R157, R161). -/
def State.remoteDue (s : State) (p : Nat) : Bool :=
  s.asleep p && (s.port p).detArmed && (s.port p).detLevel && decide ((s.port p).wakeKind ≠ 1)

/-- REMOTE_WAKE (R159, R161): a local wake that is due takes part in it. -/
def execRemoteWake (p : PortNo) (s : State) : Out :=
  if s.remoteDue p then .next ((s.bump (Reg.PORT_WAKECNT p)).wakePort p 1 (s.localWakeDue p)) else .next s

/-- The ports to which a remote wake of p is forwarded (R159). -/
def State.wakeGroup (s : State) (p j : Nat) : Bool :=
  decide (j ≠ p) && s.rb (Reg.PORT_SLEEPCFG j) 39 && decide (s.rf (Reg.PORT_SLEEPCFG j) 42 40 = s.rf (Reg.PORT_SLEEPCFG p) 42 40)
    && s.asleep j && !(s.port j).wakePend

/-- WAKE_FORWARD (R159). -/
def execWakeForward (p : PortNo) (s : State) : Out :=
  if (s.port p).wakeKind = 1 ∧ s.rb (Reg.PORT_SLEEPCFG p) 39 then
    .next (forAll (fun t j => if s.wakeGroup p j then t.wakePort j 2 false else t) (List.range 96) s)
  else .next s

/-- A local wake: also counted as remote if the detector asserted, and never a false wake (R161). -/
def State.localWake (s : State) (p : Nat) : State :=
  if s.remoteDue p then (s.bump (Reg.PORT_WAKECNT p)).wakePort p 1 true else s.wakePort p 0 true

/-- LOCAL_WAKE (R159, R161). -/
def execLocalWake (p : PortNo) (s : State) : Out := .next (if s.asleep p ∧ s.localWakeDue p then s.localWake p else s)

/-- FALSE_WAKE_TIMEOUT (R160). -/
def execFalseWakeTimeout (p : PortNo) (s : State) : Out :=
  let x := s.port p
  if x.wakeKind ≠ 0 ∧ x.wakeLocal = false then
    if s.pst p = stListen then
      .next (s.falseWake p)
    else if s.pst p = stTrain then .next (s.updPort p (fun y => { y with falseDue := true }))
    else .next s
  else .next s

/-- TX_OVERLOAD (R357): the fault event of source 0x000 + n, INFO [0] the leg. -/
def execTxOverload (p : PortNo) (legN : Bool) (s : State) : Out := .next (s.raise p 0x04 (bnat legN))

end Sys2Proof.Machine
end

