-- ==== Sys2Proof/Machine/Receive.lean ====
section
/-! DEFINITION. Meanings of the receive path: gain, recalibration, swaps and mirrors, slubs, SNR, matched-filter bound, SQI, receive LPI (R82–R112, R144–R146, R151–R153). -/

namespace Sys2Proof.Machine

/-! ## Gain and recalibration -/

/-- A write of PORT_AFE.GAIN (R82, R102): 33–63 stored as 32; a change is one gain step with a settle period of 64 symbols. -/
def State.setGain (s : State) (p g : Nat) : State :=
  let v := if 32 < g then 32 else g
  if s.rf (Reg.PORT_AFE p) 5 0 = v then s
  else ((s.setRf (Reg.PORT_AFE p) 5 0 v).settle p 64).dstPortEvent 0x06 p (s.symcnt p) v []

/-- A write of PORT_AFE.CALSEQ (R84): a change requests one recalibration, held while one runs. -/
def State.adcRecal (s : State) (p seq : Nat) : State :=
  if s.rf (Reg.PORT_AFE p) 19 16 = seq then s
  else
    let s1 := s.setRf (Reg.PORT_AFE p) 19 16 seq
    if s.rb (Reg.PORT_AFE p) 24 then s1.updPort p (fun x => { x with calHeld := some seq })
    else (s1.setRb (Reg.PORT_AFE p) 24 true).updPort p (fun x => { x with calRun := seq })

/-- ADC_RECAL_DONE (R84, R102). -/
def execAdcRecalDone (p : PortNo) (s : State) : Out :=
  if s.rb (Reg.PORT_AFE p) 24 then
    let x := s.port p
    let s1 := (s.setRf (Reg.PORT_AFE p) 23 20 x.calRun).settle p 256
    match x.calHeld with
    | some v => .next (s1.updPort p (fun y => { y with calRun := v, calHeld := none }))
    | none => .next (s1.setRb (Reg.PORT_AFE p) 24 false)
  else .next s

/-- RECAL_INTERVAL (R84): the runtime asks for one recalibration of a port in UP. That it writes CALSEQ + 1 is the model's choice: the rule
names no value (DESIGN CHOICE, log entry 142). -/
def execRecalInterval (p : PortNo) (s : State) : Out :=
  if s.pst p = stUp then .next (s.adcRecal p ((s.rf (Reg.PORT_AFE p) 19 16 + 1) % 16)) else .next s

/-! ## Coefficient swaps and mirrors (R92, R94) -/

/-- REASON a request on the port's halves is refused with: swap pending, mirror running, idle half under self-test (R94); 0 for none. A
single-buffered port has no idle half to test. -/
def State.coefBusy (s : State) (p : Nat) : Nat :=
  if s.rb (Reg.PORT_COEFSTAT p) 6 then 1
  else if s.rb (Reg.PORT_COEFSTAT p) 7 then 2
  else if s.rb (Reg.PORT_COEFSTAT p) 4 then 0
  else if s.rb (Reg.PORT_COEFSTAT p) 8 then 3
  else 0

/-- REASON of a refused CSW: also a single-buffered port (R94). -/
def State.cswRefusal (s : State) (p : Nat) : Nat :=
  if s.coefBusy p ≠ 0 then s.coefBusy p else if s.rb (Reg.PORT_COEFSTAT p) 4 then 4 else 0

/-- A CSW is refused: REASON and PORT_SWAPREF (R94). -/
def State.refuseCsw (s : State) (p reason : Nat) : State :=
  (s.setRf (Reg.PORT_COEFSTAT p) 15 12 reason).bump (Reg.PORT_SWAPREF p)

/-- Copy the serving half into the idle half, word for word (R92). -/
def State.copyHalf (s : State) (p : Nat) : State :=
  let h := s.servingHalf p
  (forAll (fun t k => t.setHalfWord p (1 - h) k (s.halfWord p h k)) (List.range 0x254) s).coefTouch p (1 - h)

/-- The accepted CSW on port p completes. -/
def State.endPortCsw (s : State) (p : Nat) (k : OpKind) : State :=
  s.endOps (fun o => decide (o.kind = k ∧ o.accepted = true ∧ tgtKind o.ea = 0 ∧ tgtPort o.ea = p)) 0

/-- SWAP_EFFECT (R86, R92, R94): the halves change roles; the next symbol carries MARK, and no LMS update falls into the cycle. -/
def execSwapEffect (p : PortNo) (s : State) : Out :=
  if s.rb (Reg.PORT_COEFSTAT p) 6 then
    let h := 1 - s.servingHalf p
    let s1 := ((s.setRf (Reg.PORT_COEFSTAT p) 3 3 h).setRb (Reg.PORT_COEFSTAT p) 6 false).bump (Reg.PORT_SWAPCNT p)
    let s2 := (s1.serveHalf p h (s.pmode p)).updPort p (fun x => { x with mark := true, rx := { x.rx with lmsSkip := true } })
    let s3 := (s2.endPortCsw p .cswSwap).endRunning p 0x1A 0
    .next (s3.dstPortEvent 0x05 p (s.symcnt p) h [])
  else .next s

/-- MIRROR_DONE (R92). -/
def execMirrorDone (p : PortNo) (s : State) : Out :=
  if s.rb (Reg.PORT_COEFSTAT p) 7 then
    .next (((s.copyHalf p).setRb (Reg.PORT_COEFSTAT p) 7 false).endPortCsw p .cswMirror)
  else .next s

/-! ## Slubs (R105–R107) -/

/-- A slub of at least SLUBMIN symbols triggers with cause 4, once (R315). -/
def State.slubTrigger (s : State) (p len : Nat) : State :=
  if s.triggers p ∧ (s.port p).slub.trig = false ∧ s.rf Reg.DST_TRIGCFG 15 0 ≤ len then
    (s.dstTrigger 4 p 0).updPort p (fun x => { x with slub := { x.slub with trig := true } })
  else s

/-- The first of the earliest NHIT hits that lie within 8 consecutive symbols; `hits` newest first. -/
def firstOfHits (nhit : Nat) (hits : List Nat) : Option Nat :=
  ((List.range (hits.length + 1 - nhit)).reverse.find? (fun i => decide (nth 0 hits i ≤ nth 0 hits (i + nhit - 1) + 7))).map
    (fun i => nth 0 hits (i + nhit - 1))

/-- NHIT hits of the detector within 8 symbols start a slub, whose window reaches PRE symbols back from the first of them (R105). -/
def State.slubStart (s : State) (p : Nat) : State :=
  let x := s.port p
  let w := x.applSlub
  match x.rx.hits with
  | [] => s
  | last :: _ =>
    match firstOfHits (slubNhit w) x.rx.hits with
    | some first =>
      if slubEn w ∧ x.slub.active = false then
        let st := first - slubPre w
        let s1 := s.updPort p (fun y => { y with
          slub := { active := true, start := st, last := last }, rx := { y.rx with hits := [] } })
        s1.slubTrigger p (last + slubPost w + 1 - st)
      else s
    | none => s

/-- SLUB_START (R105). -/
def execSlubStart (p : PortNo) (_ _ : Unit) (s : State) : Out := .next (s.slubStart p)

/-- A slub ends (R106, R311, R315): counters, the SLUB event, the trigger, and its window for the marks. At the cap it counts as long, and
the detector waits. -/
def State.slubEnd (s : State) (p : Nat) : State :=
  let x := s.port p
  let len := x.slubLast + 1 - x.slub.start
  let cap := decide (slubCap x.applSlub ≤ len)
  let s1 := (s.bump (Reg.PORT_SLUBCNT p)).addCnt (Reg.PORT_SLUBSYM p) len
  let s2 := (s1.dstPortEvent 0x04 p x.slub.start 0 [BitVec.ofNat 48 (len % 4096)]).slubTrigger p len
  let s3 := if cap then s2.bump (Reg.PORT_SLUBLONG p) else s2
  s3.updPort p (fun y => { y with
    slub := { active := false, last := max x.slub.last (x.rx.hits.headD 0), blocked := cap }
    rx := { y.rx with wins := ((x.slub.start, x.slubLast) :: y.rx.wins).take 64, hits := if cap then [] else y.rx.hits } })

/-- SLUB_WINDOW_END (R105): POST symbols have passed after the last hit. -/
def execSlubWindowEnd (p : PortNo) (_ : Unit) (s : State) : Out :=
  if (s.port p).slub.active ∧ (s.port p).slubLast < (s.port p).rx.decN then .next (s.slubEnd p) else .next s

/-- SLUB_CAP (R106): the window has reached 4 × MAXLEN symbols. -/
def execSlubCap (p : PortNo) (s : State) : Out :=
  let x := s.port p
  if x.slub.active ∧ x.slubLast < x.rx.decN ∧ slubCap x.applSlub ≤ x.slubLast + 1 - x.slub.start then .next (s.slubEnd p) else .next s

/-! ## SNR, matched-filter bound, SQI -/

/-- k of 0.01 dB is reached by the ratio num/den, to the nearest step: 10^(2k − 1) ≤ (num/den)^2000. -/
def cdbReached (num den k : Nat) : Bool := decide (10 ^ (2 * k) * den ^ 2000 ≤ 10 * num ^ 2000)

/-- The largest k in [lo, hi] that passes a falling test known to hold at lo; fuel bounds the halving. -/
def searchMax (f : Nat → Bool) : Nat → Nat → Nat → Nat
  | 0, lo, _ => lo
  | n + 1, lo, hi =>
    if hi ≤ lo then lo
    else
      let m := (lo + hi + 1) / 2
      if f m then searchMax f n m hi else searchMax f n lo (m - 1)

/-- 10·log10(num/den) in units of 0.01 dB to the nearest, capped at 6,000; none below 0 (R108). -/
def cdbOf (num den : Nat) : Option Nat :=
  if den = 0 then some 6000
  else if cdbReached num den 0 then some (searchMax (cdbReached num den) 13 0 6000)
  else none

/-- Es of R108, times 100. -/
def symbolEnergy (m : Nat) : Nat := if 4 ≤ m then 2048000 else if m = 1 then 409600 else 273067

/-- The SNR of a mean squared error in 0.01 dB; below 0 dB the spec gives no code (FREE VALUE, log entry 2). -/
def State.snrOf (s : State) (p count sumSq : Nat) : Nat × State :=
  match cdbOf (symbolEnergy (s.pmode p) * count) (100 * sumSq) with
  | some k => (k, s)
  | none => s.drawNat 16

/-- SNR_BLOCK_END (R108): the sums of the block that has ended. Without a VALID SNR the SQI is not valid either (R145). -/
def execSnrBlockEnd (p : PortNo) (_ _ : Unit) (s : State) : Out :=
  match (s.port p).rx.snrLast with
  | none => .next s
  | some (counted, sumSq) =>
    let s1 := s.updRx p (fun x => { x with snrLast := none })
    if s.pst p = stTrain ∨ s.pst p = stUp then
      if 16384 ≤ counted then
        let v := s1.snrOf p counted sumSq
        .next ((v.2.setRf (Reg.PORT_SNR p) 15 0 v.1).setRb (Reg.PORT_SNR p) 47 true)
      else .next ((s1.setRb (Reg.PORT_SNR p) 47 false).setRb (Reg.PORT_SQI p) 47 false)
    else .next s1

/-- A word of a port's sub-ring by its number; none where it is not yet written or no longer held. -/
def Rx.tapWord (x : Rx) (stream j : Nat) : Option Word :=
  match Tab.get (fun _ => none) x.ring (8192 * stream + j % 8192) with
  | some (k, w) => if k = j then some w else none
  | none => none

/-- n consecutive words; none unless all are held. -/
def Rx.tapWords (x : Rx) (stream j : Nat) : Nat → Option (List Word)
  | 0 => some []
  | n + 1 => (x.tapWord stream j).bind (fun w => (x.tapWords stream (j + 1) n).map (w :: ·))

/-- The four samples of a word, oldest first. -/
def wordSamples (w : Word) : List Int := [signed 10 (fld w 39 30), signed 10 (fld w 29 20), signed 10 (fld w 19 10), signed 10 (fld w 9 0)]

/-- A word carries none of SETTLE, OVR, ERAS and LPI and is of a kind. -/
def cleanWord (kind : Nat) (w : Word) : Bool := decide (fld w 47 44 = 0 ∧ fld w 41 40 = kind)

/-- The software's equaliser over a window (R109): for each symbol from `n` on its decision and slicer error, newest first; `pre` holds the
decisions before it, newest first. -/
def State.equalise (s : State) (p : Nat) (x : List Int) : Nat → Nat → List (Int × Int) → List (Int × Int)
  | 0, _, pre => pre
  | k + 1, n, pre =>
    let y := sumTo 32 (fun j => s.tap p 0x240 j * nth 0 x (n + s.mainCursor p - j))
      - sumTo (dfeTaps (s.pmode p)) (fun i => s.tap p 0x250 i * (nth (0, 0) pre i).1)
    let d := slice (s.pmode p) y
    s.equalise p x k (n + 1) ((d, slicerErr y d) :: pre)

/-- 10·log10(num/den) in 0.01 dB to the nearest, of either sign. -/
def cdbSigned (num den : Nat) : Int :=
  if cdbReached num den 0 then ((searchMax (cdbReached num den) 15 0 32767 : Nat) : Int) else -((searchMax (cdbReached den num) 15 0 32767 : Nat) : Int)

/-- The sum over the 32 bins of |H|² by the residual's density, as a fraction (R109). -/
def mfbSum (m : Nat) (x d : List Int) : Nat × Nat :=
  (List.range 32).foldl (fun a k =>
    let b := Config.mfbBin m x d k
    (a.1 * (b.2 + 1) + b.1 * a.2, a.2 * (b.2 + 1))) (0, 1)

/-- The matched-filter bound of a window: Es times the mean over the bins (R109). -/
def mfbOf (m : Nat) (x d : List Int) : Int := cdbSigned (symbolEnergy m * (mfbSum m x d).1) (3200 * (mfbSum m x d).2)

/-- MFB_ESTIMATE (R109): one window of 8,192 words of each stream from word `start` on. It is dropped unless every word is held and clean and the
equalised samples give the slicer errors; the first 64 and last 32 symbols, whose neighbours lie outside, are not compared (DESIGN CHOICE, log entry 143).
The SNR is that of the same window. -/
def execMfbEstimate (p : PortNo) (start : Nat) (_ : Unit) (s : State) : Out :=
  match (s.port p).rx.tapWords 0 start 8192, (s.port p).rx.tapWords 1 start 8192 with
  | some xs, some es =>
    let x := xs.flatMap wordSamples
    let e := es.flatMap wordSamples
    let eq := (s.equalise p x 32704 32 []).reverse
    if s.pst p = stUp ∧ xs.all (cleanWord 2) ∧ es.all (cleanWord 1) ∧ (eq.drop 32).map (·.2) = (e.drop 64).take 32672 then
      let mfb := BitVec.ofInt 16 (mfbOf (s.pmode p) x (eq.map (·.1)))
      let v := s.snrOf p 32768 ((e.map (fun q => q.natAbs ^ 2)).sum)
      let s1 := (v.2.setRf (Reg.PORT_MFB p) 15 0 mfb.toNat).setRb (Reg.PORT_MFB p) 47 true
      .next ((s1.setRf (Reg.PORT_GAP p) 15 0 (mfb - BitVec.ofNat 16 v.1).toNat).setRb (Reg.PORT_GAP p) 47 true)
    else .next s
  | _, _ => .next s

/-- Threshold of an SQI level in 0.01 dB (R144). -/
def sqiThreshold (m l : Nat) : Nat :=
  if 4 ≤ m then 1700 + 150 * (l - 1) else if m = 3 then 1400 + 150 * (l - 1)
  else if m = 2 then 1700 + 100 * (l - 1) else 1200 + 100 * (l - 1)

/-- The highest level whose threshold plus `extra` the SNR reaches; 0 below level 1. -/
def sqiLevel (m snr extra : Nat) : Nat :=
  ((List.range 8).filter (fun l => decide (l ≠ 0 ∧ sqiThreshold m l + extra ≤ snr))).foldl max 0

/-- A fall from ALARM or above to below ALARM (R146, R315). -/
def State.sqiAlarm (s : State) (p old new : Nat) : State :=
  let al := s.rf (Reg.PORT_SQICFG p) 2 0
  if s.rb (Reg.PORT_SQICFG p) 8 ∧ al ≤ old ∧ new < al then
    let s1 := (s.bump (Reg.PORT_SQIALARM p)).raise p 0x01 new
    if s.triggers p then s1.dstTrigger 5 p 0 else s1
  else s

/-- SQI_UPDATE (R145): a fall at once, a rise with 0.25 dB, the first update of a period of UP straight from the thresholds. -/
def execSqiUpdate (p : PortNo) (s : State) : Out :=
  if s.pst p = stUp then
    if s.rb (Reg.PORT_SNR p) 47 then
      let snr := s.rf (Reg.PORT_SNR p) 15 0
      let m := s.pmode p
      let cur := s.rf (Reg.PORT_SQI p) 2 0
      let plain := sqiLevel m snr 0
      if (s.port p).sqiFirst then
        .next ((((s.setRf (Reg.PORT_SQI p) 2 0 plain).setRf (Reg.PORT_SQI p) 10 8 plain).setRb (Reg.PORT_SQI p) 47 true).updPort p
          (fun x => { x with sqiFirst := false }))
      else
        let new := if plain < cur then plain else max cur (sqiLevel m snr 25)
        let s1 := ((s.setRf (Reg.PORT_SQI p) 2 0 new).setRf (Reg.PORT_SQI p) 10 8 (min new (s.rf (Reg.PORT_SQI p) 10 8))).setRb (Reg.PORT_SQI p) 47 true
        .next (s1.sqiAlarm p cur new)
    else .next (s.setRb (Reg.PORT_SQI p) 47 false)
  else .next s

/-! ## Low-power idle -/

/-- LPI_WAKE_DONE (R153): waiting frames become eligible. -/
def execLpiWakeDone (p : PortNo) (s : State) : Out :=
  .next (s.updPort p (fun x => { x with txWaking := false }))

/-- LPI_RX_CHANGE (R80, R151): entries are counted; GEN does not change. -/
def execLpiRxChange (p : PortNo) (enter : Bool) (s : State) : Out :=
  if s.pst p = stUp ∧ (s.port p).resEee ∧ hasOam (s.pmode p) then
    let was := s.rb (Reg.PORT_PCSSTAT p) 4
    let s1 := s.lpiBits p (s.rb (Reg.PORT_PCSSTAT p) 3) enter
    .next (if enter ∧ was = false then s1.bump (Reg.PORT_LPIRXCNT p) else s1)
  else .next s

end Sys2Proof.Machine
end

