-- ==== Sys2Proof/Machine/Crc.lean ====
section
/-! DEFINITION. The check codes of the spec: CRC-32 as the Ethernet FCS (R258, R176) and the CRC-8 of R289. -/

namespace Sys2Proof.Machine

/-- Shift steps of the reflected CRC-32. -/
def crcShift : Nat → Nat → Nat
  | 0, c => c
  | n + 1, c => crcShift n (if c % 2 = 1 then Nat.xor (c / 2) 0xEDB88320 else c / 2)

def crcBytes : List Byte → Nat → Nat
  | [], c => c
  | b :: t, c => crcBytes t (crcShift 8 (Nat.xor c b.toNat))

/-- The CRC-32 of an FCS: initial value 0xFFFF_FFFF, least significant bit first, complemented (R258). -/
def crc32 (bs : List Byte) : Nat := Nat.xor (crcBytes bs 0xFFFFFFFF) 0xFFFFFFFF

/-- The FCS bytes of a value, first transmitted first. -/
def fcsBytes (v : Nat) : List Byte := (valBytes 4 v).reverse

/-- The last four bytes of a frame are the FCS of the bytes before them. -/
def fcsGood (bs : List Byte) : Bool :=
  decide (4 ≤ bs.length) && decide (bs.drop (bs.length - 4) = fcsBytes (crc32 (bs.take (bs.length - 4))))

/-- A frame with its last four bytes replaced by its FCS. -/
def withFcs (bs : List Byte) : List Byte :=
  let h := bs.take (bs.length - 4)
  h ++ fcsBytes (crc32 h)

/-- Shift steps of the CRC-8 with polynomial 0x07, most significant bit first. -/
def crc8Shift : Nat → Nat → Nat
  | 0, c => c
  | n + 1, c => crc8Shift n (if 128 ≤ c then Nat.xor ((2 * c) % 256) 0x07 else 2 * c)

/-- CRC-8 of R289: initial value 0, no reflection, no complement. -/
def crc8 : List Byte → Nat → Nat
  | [], c => c
  | b :: t, c => crc8 t (crc8Shift 8 (Nat.xor c b.toNat))

/-- HCRC over the 11 bytes of W0 and W1[47:8]. -/
def hcrc (w0 w1 : Word) : Nat := crc8 ((bytesOfWord w0 ++ bytesOfWord w1).take 11) 0

/-- The tag header of a frame (R24, R290): descriptor, queue, version. -/
def tagHeader (d : Desc) (pri ver : Nat) : Word × Word :=
  let w0 := BitVec.ofNat 48 (d.src * 2 ^ 41 + pri * 2 ^ 38 + d.colour * 2 ^ 36 + bnat d.fcsBad * 2 ^ 35 + bnat d.trunc * 2 ^ 34
    + bnat d.roving * 2 ^ 33 + bnat d.tsValid * 2 ^ 32 + d.tsNs % 2 ^ 32)
  let w1 := BitVec.ofNat 48 (d.stream % 2 ^ 12 * 2 ^ 36 + d.len % 2 ^ 14 * 2 ^ 22 + d.genLo % 64 * 2 ^ 16 + ver % 256 * 2 ^ 8)
  (w0, w1 + BitVec.ofNat 48 (hcrc w0 w1))

end Sys2Proof.Machine
end

