-- ==== Sys2Proof/Machine/Skein.lean ====
section
/-! DEFINITION. Meanings of skeins and of the far-end assist (R113–R131, R321). -/

namespace Sys2Proof.Machine

/-- Number of members a mask names. -/
def popcount16 (v : Nat) : Nat := ((List.range 16).filter (natBit v)).length

/-- REASON a write of LG_SKEINn is refused with (R113); 0 for none. Where several causes apply the lowest code is recorded (DESIGN CHOICE, log
entry 149: the rule gives no order). -/
def State.skeinRefusal (s : State) (g n : Nat) (v : Word) : Nat :=
  let old := s.reg (Reg.LG_SKEIN g n)
  let mem := fld v 15 0
  if (List.range 8).any (fun m => decide (m ≠ n) && decide (s.skMembers g m &&& mem ≠ 0)) then 1
  else if 8 < popcount16 mem then 2
  else if bitOf v 47 ∧ popcount16 mem < 2 then 3
  else if fld v 43 40 < 3 ∨ 7 < fld v 43 40 ∨ (fld v 43 40 = 7 ∧ g ≠ 5) then 4
  else if bitOf v 47 ∧ bitOf old 47 ∧ fld v 43 40 ≠ fld old 43 40 then 5
  else 0

/-- A write of LG_SKEINn (R94, R113, R124): the status and the state. A change of MEMBERS, EN or MODE ends the requests on the skein's halves. -/
def State.skeinWrite (s : State) (g n : Nat) (v : Word) : Nat × State :=
  let r := s.skeinRefusal g n v
  if r ≠ 0 then (8, s.setRf (Reg.LG_SKCFGSTAT g) 3 0 r)
  else
    let old := s.reg (Reg.LG_SKEIN g n)
    let s1 := s.setReg (Reg.LG_SKEIN g n) (v &&& 0xCF000000FFFF#48)
    let s2 := forAll (fun t i =>
        if natBit (s1.skMembers g n) i ∧ natBit (s.skMembers g n) i = false then
          t.updPort (16 * g + i) (fun x => { x with preferRetry := false })
        else t) (List.range 16) s1
    let s3 := forAll (fun t i => t.testTurn s (16 * g + i)) (List.range 16) s2
    if fld v 15 0 ≠ fld old 15 0 ∨ bitOf v 47 ≠ bitOf old 47 ∨ fld v 43 40 ≠ fld old 43 40 then (0, s3.endSkeinCoef g n) else (0, s3)

/-- A member starts to serve (R125, R127). -/
def State.skJoin (s : State) (g n i : Nat) : State :=
  let s1 := s.updLg g (fun x => { x with serve := x.serve ||| (1#16 <<< i), servIn := Tab.set (fun _ => 0) x.servIn i n })
  ((s1.bump (Reg.LG_SKJOIN g)).endSkGather g n).skLatch g n

/-- SKEIN_SWAP_EFFECT (R119, R123–R125): the halves change; members that the new half names and that are eligible serve. -/
def execSkeinSwapEffect (g : LgNo) (n : Fin 8) (s : State) : Out :=
  if (s.lg g).pend.getLsbD n then
    let h := 1 - s.skHalf g n
    let s1 := (s.updLg g (fun x => { x with half := x.half ^^^ (1#8 <<< n.val), pend := x.pend &&& ~~~(1#8 <<< n.val) })).bump (Reg.LG_SKSWAP g)
    let s2 := forAll (fun t i =>
        if natBit (s.skMembers g n) i then
          if s.skEligible g i ∧ s.skNamed g i h then (if s.serves (16 * g + i) then t else t.skJoin g n i)
          else t.skStop g i
        else t) (List.range 16) s1
    let s3 := s2.endOps (fun o => decide (o.kind = .cswSwap ∧ o.accepted = true ∧ tgtKind o.ea = 1 ∧ tgtGroup o.ea = g ∧ tgtSkn o.ea = n)) 0
    .next (forAll (fun t i => if natBit (s.skMembers g n) i then t.dstPortEvent 0x05 (16 * g + i) (s.symcnt (16 * g + i)) (2 + h) [] else t)
      (List.range 16) s3)
  else .next s

/-- SKEIN_MEMBER_LEAVE (R125): a member that is no longer eligible, or no longer a member, is gated out. -/
def execSkeinMemberLeave (g : LgNo) (i : Fin 16) (s : State) : Out :=
  if s.skEligible g i = false then .next (s.skStop g i) else .next s

/-- MEMBERS of a skein, enabled or not. -/
def State.skNames (s : State) (g n : Nat) : Nat := s.rf (Reg.LG_SKEIN g n) 15 0

/-- REASON a swap or a write on a skein's idle half is refused with (R124); 0 for none. -/
def State.skBusy (s : State) (g n : Nat) : Nat :=
  if (s.lg g).pend.getLsbD n then 7
  else
    match s.bist.cur with
    | some t => if t.cls = 4 ∧ !t.waiting ∧ t.unit / 16 = g ∧ natBit (s.skNames g n) (t.unit % 16) then 8 else 0
    | none => 0

/-- A refused request on a skein's halves is recorded (R124). -/
def State.refuseSk (s : State) (g reason : Nat) : State := s.setRf (Reg.LG_SKCFGSTAT g) 3 0 reason

/-- A refused swap also counts in LG_SKREF (R124). -/
def State.refuseSkSwap (s : State) (g reason : Nat) : State := (s.refuseSk g reason).bump (Reg.LG_SKREF g)

/-- The aggressor map with only those slots VALID that name an eligible member. -/
def State.mapEligible (s : State) (g n : Nat) (w : Word) : Word :=
  (List.range 7).foldl (fun v a =>
    if natBit (s.skMembers g n) (fld w (6 * a + 3) (6 * a)) ∧ s.skEligible g (fld w (6 * a + 3) (6 * a)) then v
    else putFld v (6 * a + 5) (6 * a + 5) 0) w

/-- The runtime's slot of member i in a half it installs (R126, R131): named exactly if eligible, without a departed aggressor, and with PREN only
once d2 is agreed and the reports are aligned. -/
def State.sealSlot (s : State) (g n h i : Nat) : State :=
  let p := 16 * g + i
  let pren := bitOf (s.slotWord g h i 0x152) 1 && (s.port p).d2Align && s.d2On p
  (s.setSlotWord g h i 0x150 (s.mapEligible g n (s.slotWord g h i 0x150))).setSlotWord g h i 0x152
    (BitVec.ofNat 48 (2 * bnat pren + bnat (s.skEligible g i)))

/-- SKEIN_REFRESH (R126, R244): unless the skein is write-delegated, the runtime writes the idle half of an enabled skein and asks for the swap. It
computes the words from its gathers; here they are the command's. -/
def execSkeinRefresh (g : LgNo) (n : Fin 8) (ws : List (Fin 16 × Fin 339 × Word)) (s : State) : Out :=
  if s.skMembers g n = 0 ∨ s.userSkein (8 * g + n) ∨ s.domOn (24 + g) = false then .next s
  else if s.skBusy g n ≠ 0 then .next (s.refuseSkSwap g (s.skBusy g n))
  else
    let h := 1 - s.skHalf g n
    let mem := (List.range 16).filter (natBit (s.skMembers g n))
    let s1 := forAll (fun t x => if natBit (s.skMembers g n) x.1 then t.setSlotWord g h x.1 x.2.1 x.2.2 else t) ws s
    let s2 := forAll (fun t i => t.sealSlot g n h i) mem s1
    .next (s2.updLg g (fun x => { x with pend := x.pend ||| (1#8 <<< n.val) }))

/-- OAM_MESSAGE_SEND (R130, R321): a d3 trigger that is due, else the d2 report taken last, else the standard's own payload. Before the first
report has been taken the three symbols decided last stand in it. -/
def execOamMessageSend (p : PortNo) (_ _ : Unit) (s : State) : Out :=
  if s.pst p = stUp ∧ hasOam (s.pmode p) then
    let x := s.port p
    if 0 < x.d3Left ∧ s.rb (Reg.PORT_STATE p) 19 then
      .next (s.updPort p (fun y => { y with oam := y.d3Word, d3Left := y.d3Left - 1 }))
    else if s.rb (Reg.PORT_STATE p) 18 then
      .next (s.updPort p (fun y => { y with oam := x.rx.report.getD (s.d2Word p (x.rx.decN - 3)) }))
    else .next (s.updPort p (fun y => { y with oam := 0 }))
  else .next s

/-- D2_REPORT_RECEIVE (R131): counted as a report, or as bad by its TYPE. Whether a VALID report lets the runtime find the alignment follows from the
correlation of the reports with what the line did to the symbols sent (FREE VALUE, log entry 148). -/
def execD2ReportReceive (p : PortNo) (w : Word) (s : State) : Out :=
  if s.pst p = stUp ∧ s.rb (Reg.PORT_STATE p) 18 then
    if fld w 47 44 = 0xD then
      let s1 := s.bump (Reg.LG_D2RPT (lgOf p))
      if bitOf w 31 then
        let d := s1.drawNat 1
        .next (d.2.updPort p (fun x => { x with d2Align := x.d2Align || decide (d.1 = 1) }))
      else .next s1
    else .next (s.bump (Reg.LG_D2BAD (lgOf p)))
  else .next s

end Sys2Proof.Machine
end

