-- ==== Sys2Proof/Machine/Roving.lean ====
section
/-! DEFINITION. Meanings of roving's control and of carding (R167–R193). -/

namespace Sys2Proof.Machine

/-! ## Roving status and ladder -/

/-- PORT_ROVSTAT.PHASE as it reads; the phase under a carding sweep in the port's own slots (R186); SET. -/
def State.rphase (s : State) (p : Nat) : Nat := s.rf (Reg.PORT_ROVSTAT p) 47 45
def State.rlink (s : State) (p : Nat) : Nat := if s.rphase p = 5 then (s.port p).rov.back else s.rphase p
def State.rset (s : State) (p : Nat) : Nat := s.rf (Reg.PORT_ROVSTAT p) 44 40
def State.rfn (s : State) (p : Nat) : Nat := s.rf (Reg.PORT_ROVFN p) 31 0
def State.setFn (s : State) (p v : Nat) : State := s.setRf (Reg.PORT_ROVFN p) 31 0 v
def State.setOwnSnr (s : State) (p : Nat) (v : BitVec 16) : State := s.setRf (Reg.PORT_ROVSTAT p) 31 16 v.toNat
def State.setFarSnr (s : State) (p : Nat) (v : BitVec 16) : State := s.setRf (Reg.PORT_ROVSTAT p) 15 0 v.toNat
def State.updRov (s : State) (p : Nat) (f : Roving → Roving) : State := s.updPort p (fun x => { x with rov := f x.rov })

/-- The link's phase changes; a carding sweep in the own slots goes on above it. -/
def State.setPhase (s : State) (p v : Nat) : State :=
  if s.rphase p = 5 then s.updRov p (fun x => { x with back := v }) else s.setRf (Reg.PORT_ROVSTAT p) 47 45 v

/-- The port is in ROVING as roving master or slave (R174). -/
def State.rovMaster (s : State) (p : Nat) : Bool := decide (s.pst p = stRoving ∧ s.prole p ≠ 2)
def State.rovSlave (s : State) (p : Nat) : Bool := decide (s.pst p = stRoving ∧ s.prole p = 2)

/-- The ladder (R168): log2 of B/8 MHz, and K. -/
def ladder : List (Nat × Nat) :=
  [(0, 11), (0, 10), (1, 11), (0, 9), (1, 10), (2, 11), (0, 8), (1, 9), (2, 10), (0, 7), (1, 8), (2, 9),
   (0, 6), (1, 7), (2, 8), (0, 5), (1, 6), (2, 7), (1, 5), (2, 6), (2, 5)]

def ladB (i : Nat) : Nat := (nth (0, 11) ladder i).1
def ladK (i : Nat) : Nat := (nth (0, 11) ladder i).2

/-- A setting's own threshold 12 − 3K dB, in 0.01 dB (R169). -/
def rovThreshold (i : Nat) : Int := 1200 - 300 * (ladK i : Int)

/-- S (0.01 dB at setting cur) converted to a candidate's bandwidth reaches 12 − 3K + MARGIN (R177); in units of 10^−4 dB. -/
def rovReaches (snr : Int) (margin cur cand : Nat) : Bool :=
  decide (12 * 10000 - 30000 * (ladK cand : Int) + 1000 * margin ≤ snr * 100 - 30103 * ((ladB cand : Int) - ladB cur))

/-- The highest index up to LADMAX that S reaches. -/
def rovTarget (snr : Int) (margin cur ladmax : Nat) : Option Nat :=
  ((List.range 21).filter (fun i => decide (i ≤ ladmax) && rovReaches snr margin cur i)).getLast?

/-- The frame lies in a restart window (R181). -/
def inWindow (retry rwin fn : Nat) : Bool :=
  let per := retry / 4
  decide (0 < per ∧ per ≤ fn ∧ fn % per < ceilDiv rwin 4)

/-- The first multiple of 4 from `fn` on that lies outside every restart window. -/
def fneffFrom (retry rwin : Nat) : Nat → Nat → Nat
  | 0, fn => fn
  | k + 1, fn => if inWindow retry rwin fn then fneffFrom retry rwin k (fn + 4) else fn

/-! ## Slots (R168, R172, R173) -/

/-- A frame in ns. -/
abbrev frameNs : Nat := 4000000

/-- Symbol time of a setting in ns, and symbols of a slot of 1.8 ms. -/
def ladTs (i : Nat) : Nat := 125 * 2 ^ (ladK i - ladB i)
def ladSyms (i : Nat) : Nat := 1800000 / ladTs i

/-- Start of the port's own slot and of its partner's within a frame. -/
def State.slotOff (s : State) (p : Nat) : Nat := if s.prole p = 2 then 2000000 else 0
def State.farOff (s : State) (p : Nat) : Nat := if s.prole p = 2 then 0 else 2000000

/-- Symbols of the slots at `off` that have begun, or have ended, t ns after the grid's origin. -/
def symsBegun (i off t : Nat) : Nat :=
  t / frameNs * ladSyms i + (if t % frameNs < off then 0 else min (ladSyms i) ((t % frameNs - off) / ladTs i + 1))
def symsEnded (i off t : Nat) : Nat := t / frameNs * ladSyms i + min (ladSyms i) ((t % frameNs - off) / ladTs i)

/-- Start of symbol k of the slots at `off`, in ns after the origin. -/
def symStart (i off k : Nat) : Nat := k / ladSyms i * frameNs + off + k % ladSyms i * ladTs i

/-- The frame grid starts anew at a time and a frame number; the symbol counts with it. -/
def State.setGrid (s : State) (p t fn : Nat) : State :=
  (s.setFn p (if t ≤ s.now then fn + (s.now - t) / frameNs else fn)).updRov p (fun x => { x with
    org := some t, orgFn := fn, sent := 0, heard := 0, fly := [] })

/-- The grid goes on under a new setting from the frame that runs (R177). -/
def State.regrid (s : State) (p : Nat) : State :=
  match (s.port p).rov.org with
  | some o => if o ≤ s.now then s.setGrid p (s.now - (s.now - o) % frameNs) ((s.port p).rov.orgFn + (s.now - o) / frameNs) else s
  | none => s

/-! ## Coding (R167, R170) -/

/-- Parity of a number of up to 7 bits. -/
def parity7 (v : Nat) : Nat := ((List.range 7).filter (natBit v)).length % 2

/-- The rate-1/2 code, generators 133 and 171 octal, G1 first; `st` holds the last six bits, the newest on top (log entry 150). -/
def convBits : Nat → List Nat → Nat × List Nat
  | st, [] => (st, [])
  | st, u :: t =>
    let v := u * 64 + st
    let r := convBits (v / 2) t
    (r.1, parity7 (Nat.land v 0x5B) :: parity7 (Nat.land v 0x79) :: r.2)

/-- Bits of a byte, most significant first. -/
def byteBits (b : Byte) : List Nat := (List.range 8).map (fun i => b.toNat / 2 ^ (7 - i) % 2)

/-- The number whose Gray code the bits are, most significant first: each bit of it is the sum of the code bits down to that place. -/
def grayNumber (bits : List Nat) : Nat := (bits.foldl (fun a b => ((a.1 + b) % 2, 2 * a.2 + (a.1 + b) % 2)) (0, 0)).2

/-- The 16 symbols of a block (R170): coded bit j goes to symbol j mod 16, at bit position ⌊j/16⌋, the first the most significant (R167). -/
def blockSyms (k : Nat) (coded : List Nat) : List (BitVec 11) :=
  (List.range 16).map (fun i => BitVec.ofNat 11 (grayNumber ((List.range k).map (fun j => nth 0 coded (i + 16 * j)))))

/-! ## Roving frames (R176) -/

/-- A roving frame: SYNC, TYPE and LEN, HCRC, body. -/
def rovFrame (typ : Nat) (body : List Byte) : List Byte :=
  let h := 0xA5#8 :: valBytes 2 (typ * 2 ^ 14 + body.length % 2 ^ 14)
  h ++ [BitVec.ofNat 8 (crc8 h 0)] ++ body

/-- A control frame: code, fields, CRC-32. -/
def rovCtl (code : Nat) (fields : List (Nat × Nat)) : List Byte :=
  let b := BitVec.ofNat 8 code :: (fields.map (fun x => valBytes x.1 x.2)).flatten
  rovFrame 1 (b ++ fcsBytes (crc32 b))

/-- What a received frame is: nothing the receiver takes for one or of TYPE 2–3, bad, a data frame, or a control frame's code and fields. -/
inductive RovIn where
  | skip
  | bad
  | data (bytes : List Byte)
  | ctl (code : Nat) (fields : List Byte)
deriving DecidableEq, Repr

/-- A frame with a good HCRC and a LEN outside the range of its TYPE is discarded and counted as a bad one: R176 names the ranges and no outcome
(DESIGN CHOICE, log entry 165). -/
def rovParse (f : List Byte) : RovIn :=
  let len := bytesVal ((f.drop 1).take 2) % 2 ^ 14
  let body := (f.drop 4).take len
  if f.length < 4 ∨ f.headD 0 ≠ 0xA5#8 then .skip
  else if crc8 (f.take 3) 0 ≠ ((f.drop 3).headD 0).toNat then .bad
  else if body.length < len then .bad
  else if bytesVal ((f.drop 1).take 2) / 2 ^ 14 = 0 then (if 64 ≤ len ∧ len ≤ 2048 then .data body else .bad)
  else if bytesVal ((f.drop 1).take 2) / 2 ^ 14 = 1 then
    (if 8 ≤ len ∧ len ≤ 32 ∧ fcsGood body then .ctl (body.headD 0).toNat ((body.take (len - 4)).drop 1) else .bad)
  else .skip

/-- A control frame with the given code acts; a bad frame counts in PORT_ROVBAD; every other is not this command's. -/
def State.rovTakes (s : State) (p code : Nat) (frame : List Byte) (act : List Byte → State) : State :=
  if s.pst p = stRoving then
    match rovParse frame with
    | .bad => s.bump (Reg.PORT_ROVBAD p)
    | .ctl c fs => if c = code then act fs else s
    | _ => s
  else s

/-- Field of n bytes from byte a of a control frame's fields. -/
def rovFld (fs : List Byte) (a n : Nat) : Nat := bytesVal ((fs.drop a).take n)

/-- A control frame joins the port's stream, ahead of data frames. -/
def State.rovSend (s : State) (p code : Nat) (fields : List (Nat × Nat)) : State :=
  s.updPort p (fun y => { y with rov := { y.rov with ctl := y.rov.ctl ++ [rovCtl code fields] }, rovTx := rovCtl code fields })

/-! ## The transmit stream (R170, R173, R176) -/

/-- At a frame boundary the next frame enters the stream: a control frame before the data frame that the egress is sending. -/
def State.rovRefill (s : State) (p : Nat) : State :=
  let x := (s.port p).rov
  if x.out ≠ [] then s
  else
    match x.ctl with
    | f :: t => s.updRov p (fun y => { y with out := f, ctl := t, fly := y.fly ++ [(f, none)] })
    | [] =>
      match s.cur p with
      | some c =>
        if x.fid = some c.fid ∨ s.rphase p ≠ 3 then s
        else
          match s.frame c.fid with
          | some f => s.updRov p (fun y => { y with out := rovFrame 0 f.bytes, fid := some c.fid, fly := y.fly ++ [([], none)] })
          | none => s
      | none => s

/-- n bytes of the stream: frames back to back, and fill bytes 0x00. -/
def State.rovBytes (s : State) (p : Nat) : Nat → List Byte × State
  | 0 => ([], s)
  | n + 1 =>
    let s1 := s.rovRefill p
    let r := (s1.updRov p (fun x => { x with out := x.out.drop 1 })).rovBytes p n
    ((s1.port p).rov.out.headD 0 :: r.1, r.2)

/-- Frames all of whose bytes are coded leave with the symbol time `e`; the last still has bytes to come while `more` holds. -/
def flyEnd (e : Nat) (more : Bool) : List (List Byte × Option Nat) → List (List Byte × Option Nat)
  | [] => []
  | [x] => if more then [x] else [(x.1, some (x.2.getD e))]
  | x :: t => (x.1, some (x.2.getD e)) :: flyEnd e more t

/-- A block of 16 symbols, which holds K bytes, is coded into the transmit queue. -/
def State.rovBlock (s : State) (p : Nat) (bytes : List Byte) : State :=
  let r := convBits (s.port p).rov.enc (bytes.flatMap byteBits)
  s.updRov p (fun x => { x with
    enc := r.1, txq := x.txq ++ blockSyms (ladK (s.rset p)) r.2
    fly := flyEnd (x.sent + x.txq.length + 16) (decide (x.out ≠ [])) (x.fly.filter (fun f => f.2.all (fun e => decide (x.sent < e)))) })

/-- The port may send symbols: acquiring as master, or linked, outside a restart attempt and a carding sweep. -/
def State.rovMaySend (s : State) (p : Nat) : Bool :=
  decide (s.pst p = stRoving) && decide (s.rphase p = 1 ∨ s.rphase p = 3) && !(s.port p).rov.window

/-- Own symbols left before an agreed switch; none without one. -/
def State.rovLeft (s : State) (p : Nat) : Option Nat :=
  match (s.port p).rov.next with
  | some (_, f) => if (s.port p).rov.acked then some ((f - (s.port p).rov.orgFn) * ladSyms (s.rset p) - (s.port p).rov.sent) else none
  | none => none

/-- The runtime's modem fills the queue as long as it has space for a block: the stream is continuous, with fill bytes between frames (R170, R176).
Before an agreed switch it ends the old setting: six zero tail bits and fill to the end of a last block (R170). -/
def State.rovFill (s : State) (p : Nat) : Nat → State
  | 0 => s
  | n + 1 =>
    let s1 := s.rovRefill p
    let x := (s1.port p).rov
    let k := ladK (s.rset p)
    if 48 < x.txq.length ∨ x.ended then s1
    else if (s1.rovLeft p).all (fun l => decide (x.txq.length + 32 ≤ l)) then
      let b := s1.rovBytes p k
      (b.2.rovBlock p b.1).rovFill p n
    else
      let s2 := s1.updRov p (fun y => { y with ended := true })
      if (s1.rovLeft p).any (fun l => decide (x.txq.length + 16 ≤ l)) then s2.rovBlock p (List.replicate k 0) else s2

/-- The own symbol times that have begun take the queue's symbols; one with an empty queue is silence (R173). -/
def State.rovDrain (s : State) (p t : Nat) : State :=
  let i := s.rset p
  let off := s.slotOff p
  let b := symsBegun i off t
  let on := decide (off ≤ t % frameNs ∧ t % frameNs - off < ladSyms i * ladTs i)
  if s.rovMaySend p then
    s.updRov p (fun x =>
      let n := b - x.sent
      { x with
        sent := b, slot := on, txq := x.txq.drop n
        air := if !on then none else if n = 0 then x.air else (x.txq[n - 1]?).map Chirp.up })
  else s.updRov p (fun x => { x with sent := b, slot := on, air := none })

/-- Number of the KIND 11 word at a time in ns (R171). -/
def State.rovWordAt (s : State) (p t : Nat) : Nat := s.wordsBefore p 0 (t * 125 / 1000 - (s.port p).symBase)

/-- A partner's symbol whose words from a up to b have been discarded by more than 1/8 (R171): those marked, or no longer held. -/
def State.rovErased (s : State) (p a b : Nat) : Bool :=
  decide (b - a < 8 * ((List.range (b - a)).filter (fun j =>
    match (s.port p).rx.tapWord 0 (a + j) with
    | some w => decide (fld w 47 44 ≠ 0)
    | none => true)).length)

/-- The partner's symbols that have ended are judged once their words are written; each erased one counts (R171). -/
def State.rovHear (s : State) (p o t : Nat) : State :=
  let i := s.rset p
  let e := symsEnded i (s.farOff p) t
  let x := (s.port p).rov
  if s.rlink p = 4 ∨ x.window then s.updRov p (fun y => { y with heard := e })
  else
    let at_ := fun k => s.rovWordAt p (o + symStart i (s.farOff p) k)
    let end_ := fun k => s.rovWordAt p (o + symStart i (s.farOff p) k + ladTs i)
    let due := ((List.range (e - x.heard)).map (· + x.heard)).takeWhile (fun k => decide (end_ k ≤ (s.port p).rx.w0))
    (s.addCnt (Reg.PORT_ROVERAS p) ((due.filter (fun k => s.rovErased p (at_ k) (end_ k))).length)).updRov p
      (fun y => { y with heard := y.heard + due.length })

/-- The slave is linked from its first ACK slot (R174). -/
def State.rovLinkNow (s : State) (p : Nat) : State :=
  match (s.port p).rov.linkAt with
  | some t => if t ≤ s.now then (s.setPhase p 3).updRov p (fun x => { x with linkAt := none }) else s
  | none => s

/-- Before frame 0 the master sends the preamble (R174): eight up-chirps and two down-chirps at index 0. -/
def State.rovPreamble (s : State) (p o : Nat) : State :=
  let k := (s.now + 2560000 - o) / ladTs 0
  s.updRov p (fun x => { x with
    slot := false, air := if s.rphase p = 1 ∧ x.window = false then some (if k < 8 then .up 0 else .down) else none })

/-- Roving as time passes (R172): the preamble, the frame number, the own slots, the partner's, the stream. -/
def State.rovTick (s0 : State) (p : Nat) : State :=
  if s0.pst p = stRoving ∨ (s0.pst p = stTrain ∧ (s0.port p).fromRov) then
    let s := s0.rovLinkNow p
    match (s.port p).rov.org with
    | none => s
    | some o =>
      if s.now < o then s.rovPreamble p o
      else
        let s1 := s.setFn p ((s.port p).rov.orgFn + (s.now - o) / frameNs)
        let s2 := if s1.rovMaySend p then s1.rovFill p 4 else s1
        (s2.rovDrain p (s.now - o)).rovHear p o (s.now - o)
  else s0

/-! ## Acquisition (R174, R175) -/

/-- Acquisition starts (again): index 0, FN 0, the own LADMAX. The master sends the preamble of 2.56 ms and then HELLO from frame 0 on; the
slave listens. -/
def State.acquire (s : State) (p : Nat) : State :=
  let s1 := ((s.setFn p 0).setRf (Reg.PORT_ROVSTAT p) 44 40 0).setPhase p (if s.prole p = 2 then 2 else 1)
  let s2 := s1.updRov p (fun x => { x with
    next := none, acked := false, window := false, ladmax := x.own, txq := [], ctl := [], out := [], fid := none, enc := 0,
    fly := [], ended := false, org := none, air := none, linkAt := none })
  if s.prole p = 2 then s2
  else
    let x := (s2.port p).rov
    (s2.setGrid p (s.now + 2560000) 0).rovSend p 1 [(4, 0), (2, x.retry), (2, x.rwin), (1, x.own), (1, 1)]

/-- Entry to ROVING and start of acquisition in the role of the last period of UP (R150, R174). -/
def State.toRoving (s : State) (p : Nat) : State := (s.enterRoving p).acquire p

/-- ROVDLY_EXPIRE (R150): ROVDLY ms after a loss an attempt in progress is abandoned and the port moves to ROVING. -/
def execRovdlyExpire (p : PortNo) (s : State) : Out :=
  let x := s.port p
  let dly := s.rf (Reg.PORT_LINKCFG p) 27 16
  if x.upD1 ∧ x.lossCause = 1 ∧ dly ≠ 0 ∧ x.lossAt + dly * 10 ^ 6 ≤ s.now then
    if s.pst p = stListen then
      .next ((if x.attempt then (s.cause p 7).bump (Reg.PORT_TRAINFAIL p) else s).toRoving p)
    else if s.pst p = stTrain ∧ x.fromRov = false then
      .next (((s.toListen p).attemptFail p 8).toRoving p)
    else .next s
  else .next s

/-- Frames that a HELLO takes at index 0, less one: two blocks of 16 symbols in slots of 7. -/
abbrev helloFrames : Nat := 4

/-- ROVING_HELLO_RECEIVE (R174, R175): the slave adopts the master's RETRY, RWIN and FN and the lower LADMAX, and answers with ACK from its next
slot on, from which it is linked. The HELLO has taken five master slots, so the grid starts where four of its last symbols have just ended
(log entry 150). -/
def execRovingHelloReceive (p : PortNo) (frame : List Byte) (snr : BitVec 16) (_ _ _ : Unit) (s : State) : Out :=
  .next (s.rovTakes p 1 frame (fun fs =>
    if s.rovSlave p then
      let x := (s.port p).rov
      let s1 := (s.setOwnSnr p snr).setGrid p (s.now - 4 * ladTs 0) ((rovFld fs 0 4 + helloFrames) % 2 ^ 32)
      (s1.updRov p (fun y => { y with
        retry := rovFld fs 4 2, rwin := rovFld fs 6 2, ladmax := min x.own (rovFld fs 8 1), linkAt := some (s.now - 4 * ladTs 0 + s.slotOff p) })).rovSend p 2
        [(4, rovFld fs 0 4), (1, x.own), (2, snr.toNat)]
    else s))

/-- Frames of SETREQ (R176): 14 bytes behind what the stream still holds; the frame in which it ends. -/
def State.setreqEnd (s : State) (p : Nat) : Nat :=
  let x := (s.port p).rov
  let ahead := x.out.length + ((x.ctl.map List.length).sum) + 14
  x.orgFn + (x.sent + x.txq.length + 16 * ceilDiv ahead (ladK (s.rset p)) - 1) / ladSyms (s.rset p)

/-- The master re-chooses the setting (R177): SETREQ with an FNEFF at least 8 frames after the frame in which it ends. -/
def State.rechoose (s : State) (p : Nat) : State :=
  let x := (s.port p).rov
  let own := signed 16 (s.rf (Reg.PORT_ROVSTAT p) 31 16)
  let far := signed 16 (s.rf (Reg.PORT_ROVSTAT p) 15 0)
  match rovTarget (min own far) x.margin (s.rset p) x.ladmax with
  | none => s
  | some t =>
    if t = s.rset p then s
    else
      let f := fneffFrom x.retry x.rwin 100 (ceilDiv (s.setreqEnd p + 8) 4 * 4)
      (s.rovSend p 3 [(1, t), (4, f)]).updRov p (fun y => { y with next := some (t, f), acked := false, ended := false })

/-- ROVING_ACK_RECEIVE (R174, R175, R177): the master is linked, takes the lower of the two LADMAX and re-chooses the setting. -/
def execRovingAckReceive (p : PortNo) (frame : List Byte) (snr : BitVec 16) (_ _ : Unit) (s : State) : Out :=
  .next (s.rovTakes p 2 frame (fun fs =>
    if s.rovMaster p ∧ s.rlink p = 1 then
      let s1 := ((s.setOwnSnr p snr).setFarSnr p (BitVec.ofNat 16 (rovFld fs 5 2))).setPhase p 3
      (s1.updRov p (fun x => { x with ladmax := min x.own (rovFld fs 4 1) })).rechoose p
    else s))

/-! ## Stepping and fallback (R177, R178) -/

/-- ROVING_SETREQ_RECEIVE (R177): the slave answers with SETACK. -/
def execRovingSetreqReceive (p : PortNo) (frame : List Byte) (_ : Unit) (s : State) : Out :=
  .next (s.rovTakes p 3 frame (fun fs =>
    if s.rovSlave p ∧ s.rlink p = 3 ∧ rovFld fs 0 1 ≤ 20 then
      (s.rovSend p 4 [(1, rovFld fs 0 1), (4, rovFld fs 1 4)]).updRov p (fun x => { x with
        next := some (rovFld fs 0 1, rovFld fs 1 4), acked := true, ended := false })
    else s))

/-- ROVING_SETACK_RECEIVE (R177): decoded before FNEFF, it commits the master to the switch. -/
def execRovingSetackReceive (p : PortNo) (frame : List Byte) (_ : Unit) (s : State) : Out :=
  .next (s.rovTakes p 4 frame (fun fs =>
    if s.rovMaster p ∧ s.rlink p = 3 ∧ (s.port p).rov.next = some (rovFld fs 0 1, rovFld fs 1 4) ∧ s.rfn p < rovFld fs 1 4 then
      s.updRov p (fun x => { x with acked := true })
    else s))

/-- A new setting takes effect: its stream and its slot grid start with the frame that runs. -/
def State.rovSwitch (s : State) (p i : Nat) : State :=
  ((s.setRf (Reg.PORT_ROVSTAT p) 44 40 i).updRov p (fun x => { x with
    next := none, acked := false, ended := false, enc := 0, txq := [], fly := [] })).regrid p

/-- ROVING_SETTING_SWITCH (R177): at the master slot of FNEFF an end that is committed switches; without SETACK the master stays. -/
def execRovingSettingSwitch (p : PortNo) (s : State) : Out :=
  match (s.port p).rov.next with
  | some (i, f) =>
    if s.pst p = stRoving ∧ s.rlink p = 3 ∧ f ≤ s.rfn p then
      .next (if (s.port p).rov.acked then (s.rovSwitch p i).bump (Reg.PORT_ROVSTEP p)
        else s.updRov p (fun x => { x with next := none }))
    else .next s
  | none => .next s

/-- ROVING_SNRREP_RECEIVE (R177): the far SNR is kept, and a master re-chooses, after each one. -/
def execRovingSnrrepReceive (p : PortNo) (frame : List Byte) (snr : BitVec 16) (_ : Unit) (s : State) : Out :=
  .next (s.rovTakes p 5 frame (fun fs =>
    if s.rlink p = 3 then
      let s1 := (s.setFarSnr p (BitVec.ofNat 16 (rovFld fs 4 2))).setOwnSnr p snr
      if s.rovMaster p then s1.rechoose p else s1
    else s))

/-- An end sends SNRREP (R176). -/
def State.sendSnrrep (s : State) (p : Nat) (own : BitVec 16) : State :=
  (s.setOwnSnr p own).rovSend p 5 [(4, s.rfn p), (2, own.toNat)]

/-- ROVING_SNRREP_SEND (R176). -/
def execRovingSnrrepSend (p : PortNo) (snr : BitVec 16) (s : State) : Out :=
  if s.pst p = stRoving ∧ s.rlink p = 3 then .next (s.sendSnrrep p snr) else .next s

/-- ROVING_SNR_LOW (R178): four slots below 12 − 3K send SNRREP at once. -/
def execRovingSnrLow (p : PortNo) (snr : BitVec 16) (s : State) : Out :=
  if s.pst p = stRoving ∧ s.rlink p = 3 ∧ signed 16 snr.toNat < rovThreshold (s.rset p) then .next (s.sendSnrrep p snr)
  else .next s

/-- ROVING_FALLBACK (R178, R183): to index 0 at a frame whose FN is a multiple of 16, outside a restart window. -/
def execRovingFallback (p : PortNo) (_ : Unit) (s : State) : Out :=
  if s.pst p = stRoving ∧ s.rlink p = 3 ∧ s.rfn p % 16 = 0 then .next (s.rovSwitch p 0)
  else .next s

/-- ROVING_LOSS (R178): 64 further frames at index 0 below threshold. -/
def execRovingLoss (p : PortNo) (s : State) : Out :=
  if s.pst p = stRoving ∧ s.rlink p = 3 ∧ s.rset p = 0 then .next ((s.bump (Reg.PORT_ROVLOSS p)).acquire p) else .next s

/-- ROVING_ACQ_TIMEOUT (R174): no ACK by the end of frame 15; the master sends the preamble again and restarts FN at 0. -/
def execRovingAcqTimeout (p : PortNo) (s : State) : Out :=
  if s.rovMaster p ∧ s.rlink p = 1 ∧ 15 < s.rfn p then .next (s.acquire p) else .next s

/-! ## Restart windows (R175, R181, R182) -/

/-- Control frames that a window cuts: they have not left whole, and are sent again from their first byte (R181). -/
def Roving.cut (x : Roving) : List (List Byte) :=
  (x.fly.filter (fun f => decide (f.1 ≠ []) && f.2.all (fun e => decide (x.sent < e)))).map (·.1)

/-- The restart attempt of a port in ROVING, if it can be admitted (R241). -/
def State.rovAttempt (s : State) (p : Nat) : State := if s.admitRoom then s.startAttempt p else s

/-- ROVING_RESTART_WINDOW (R181): at a frame whose FN is a positive multiple of RETRY / 4 ms roving falls silent and one attempt runs; a roving frame that it
cuts waits to be sent again from its first byte. A carding sweep in the own slots goes on (log entry 150). With 3 ports per RUN spindle admitted already
the window passes without an attempt (R241; log entry 146). -/
def execRovingRestartWindow (p : PortNo) (_ : Unit) (s : State) : Out :=
  let x := (s.port p).rov
  if s.pst p = stRoving ∧ s.rlink p = 3 ∧ x.window = false ∧ 0 < s.rfn p ∧ 0 < x.retry / 4 ∧ s.rfn p % (x.retry / 4) = 0 then
    let s1 := ((s.setPhase p 4).bump (Reg.PORT_ROVRETRY p)).holdTx p
    .next ((s1.updRov p (fun y => { y with
      window := true, ctl := y.cut ++ y.ctl, fly := [], out := [], fid := none, txq := [], enc := 0, air := none })).rovAttempt p)
  else .next s

/-- ROVING_RETRY (R175): a port that is not linked runs a restart attempt. -/
def execRovingRetry (p : PortNo) (s : State) : Out :=
  if s.pst p = stRoving ∧ (s.rlink p = 1 ∨ s.rlink p = 2) ∧ (s.port p).rov.window = false then
    .next ((s.updRov p (fun x => { x with window := true })).rovAttempt p)
  else .next s

/-- The frame of FN lies past a linked port's restart window; the attempt of an unlinked port has no frames. -/
def State.windowOver (s : State) (p : Nat) : Bool :=
  decide (s.rlink p ≠ 4) || !(inWindow (s.port p).rov.retry (s.port p).rov.rwin (s.rfn p))

/-- Roving goes on after a restart attempt at the same setting. -/
def State.windowClose (s : State) (p : Nat) : State :=
  let s1 := s.updRov p (fun r => { r with window := false })
  if s1.rlink p = 4 then s1.setPhase p 3 else s1

/-- ROVING_WINDOW_END (R181, R182): without UP, roving resumes at the same setting; a training still running ends. -/
def execRovingWindowEnd (p : PortNo) (_ : Unit) (s : State) : Out :=
  let x := s.port p
  if x.rov.window ∧ s.windowOver p then
    if s.pst p = stTrain ∧ x.fromRov then
      let s1 := (s.updPort p (fun y => { y with attempt := false, fromRov := false })).enter p stRoving
      .next (((s1.cause p 8).bump (Reg.PORT_TRAINFAIL p)).windowClose p)
    else if s.pst p = stRoving then .next ((if x.attempt then s.attemptEnd p 7 else s).windowClose p)
    else .next s
  else .next s

/-! ## Offline carding (R184–R187) -/

/-- Class of an event (R187): the first row that matches. -/
def cardClass (x : CardPeak) : Nat :=
  if x.ptg then 5 else if 800 ≤ x.rho then 1 else if x.rho ≤ -800 then 2 else if 0 < x.rho then 3 else 4

/-- Insert by a key, smaller first. -/
def insertBy {α : Type} (key : α → Nat) (x : α) : List α → List α
  | [] => [x]
  | y :: t => if key x ≤ key y then x :: y :: t else y :: insertBy key x t

/-- Sort by a key. -/
def sortBy {α : Type} (key : α → Nat) : List α → List α
  | [] => []
  | x :: t => insertBy key x (sortBy key t)

/-- Distance of a beat frequency in cm, to the nearest (R187): VF · c · (f / 44.99 MHz/µs) / 2. -/
def peakDist (x : CardPeak) (vf : Nat) : Nat := (vf * x.beat * 299792458 * 100 * 2 + 89980000000000) / (2 * 89980000000000)

/-- Keep up to and with the first OPEN or SHORT. -/
def cutOpen : List CardPeak → List CardPeak
  | [] => []
  | x :: t => if cardClass x = 1 ∨ cardClass x = 2 then [x] else x :: cutOpen t

/-- The events reported (R187): |ρ| at or above THR, within DMAX, the 8 largest, in order of distance, none beyond an OPEN or SHORT. -/
def cardEvents (cfg : Word) (peaks : List CardPeak) : List CardPeak :=
  let ok := peaks.filter (fun x => decide (10 * fld cfg 23 16 ≤ x.rho.natAbs ∧ 1000 * peakDist x (fld cfg 41 32) ≤ 10330 * fld cfg 41 32))
  let big := ((sortBy (fun x => 100000 - min x.rho.natAbs 100000) ok).take 8)
  cutOpen (sortBy (fun x => x.beat) big)

/-- Write PORT_CARDEVT0 upwards; unused slots read 0. -/
def State.writeCardEvents (s : State) (p vf : Nat) : List CardPeak → Nat → State
  | [], k => forAll (fun t j => if k ≤ j then t.setReg (Reg.PORT_CARDEVT p j) 0 else t) (List.range 8) s
  | x :: t, k => (s.setReg (Reg.PORT_CARDEVT p k)
      (putFld (putFld (putFld 0 47 44 (cardClass x)) 31 16 (peakDist x vf)) 15 0 (unsigned 16 x.rho))).writeCardEvents p vf t (k + 1)

/-- The sweep's own front-end setting ends: in ROVING the port goes on where it was (R186), in a restart window that has begun meanwhile. -/
def State.sweepEnd (s : State) (p : Nat) : State := ((s.setRf (Reg.PORT_ROVSTAT p) 47 45 (s.port p).rov.back).setFilt p 8)

/-- A sweep in the own slots of a port in ROVING starts (R185, R186): the front end bypasses the filter, and PHASE reads 5. -/
def State.sweepStart (s : State) (p : Nat) : State :=
  ((s.updRov p (fun x => { x with back := s.rphase p })).setRf (Reg.PORT_ROVSTAT p) 47 45 5).setFilt p 0

/-- CARDING_DONE (R184, R186): results, then back to DISABLED or LISTEN; in ROVING the port stays. -/
def execCardingDone (p : PortNo) (discard : BitVec 7) (peaks : List CardPeak) (s : State) : Out :=
  if s.pst p = stCarding ∨ (s.pst p = stRoving ∧ s.rphase p = 5) then
    let cfg := (s.port p).cardCfg
    let evs := if 16 < discard.toNat then [] else cardEvents cfg peaks
    let st := putFld (putFld (putFld 0 47 44 (if 16 < discard.toNat then 3 else 2)) 43 40 evs.length) 38 32 discard.toNat
    let s1 := (s.writeCardEvents p (fld cfg 41 32) evs 0).setReg (Reg.PORT_CARDSTAT p) st
    let s2 := if s.pst p = stRoving then s1.sweepEnd p
      else if (s.port p).cardFrom = stDisabled then s1.toDisabled p else s1.toListen p
    .next (s2.endRunningRes p 0x16 0 (BitVec.ofNat 48 (fld st 47 32)))
  else .next s

/-! ## In-service carding (R189–R192) -/

/-- Raise a NOTE event for each bit of `new` that was 0 in `old` (R192). -/
def State.fpRise (s : State) (p old new extra : Nat) : State :=
  forAll (fun t b => if natBit new b ∧ natBit old b = false then t.raise p 0x02 (b + extra) else t) (List.range 32) s

/-- 10·log10(num/den) in 0.01 dB, to the nearest; −400 dB for no difference at all, +400 dB for no reference (log entry 151). -/
def dbCenti (num den : Nat) : Int :=
  if num = 0 then -40000
  else if den = 0 then 40000
  else if den ≤ num then ((searchMax (fun k => decide (10 ^ (2 * k) * den ^ 2000 ≤ 10 * num ^ 2000)) 16 0 40000 : Nat) : Int)
  else -((searchMax (fun k => decide (10 ^ (2 * k) * num ^ 2000 ≤ 10 * den ^ 2000)) 16 0 40000 : Nat) : Int)

/-- A of R191: −10·D_b to the nearest, held within 0 to 800. -/
def fpCode (num den : Nat) : Nat :=
  if num = 0 ∧ den ≠ 0 then 800
  else if den ≤ num then 0
  else searchMax (fun k => decide (10 ^ (2 * k) * num ^ 200 ≤ 10 * den ^ 200)) 10 0 800

/-- D_b ≥ −thr dB (R192). -/
def fpAlarmed (num den thr : Nat) : Bool := decide (den ≠ 0 ∨ num ≠ 0) && decide (den ^ 10 ≤ num ^ 10 * 10 ^ thr)

/-- 10^(−0.75·d/20) in units of 2^−30, cut off (R191; log entry 151). -/
def fpScale (d : Int) : Nat :=
  if 0 ≤ d then searchMax (fun n => decide (n ^ 80 * 10 ^ (3 * d.toNat) ≤ 2 ^ 2400)) 31 0 (2 ^ 30)
  else searchMax (fun n => decide (n ^ 80 ≤ 2 ^ 2400 * 10 ^ (3 * (-d).toNat))) 40 0 (2 ^ 39)

/-- The echo taps that words of a fingerprint hold (log entry 36), by their delay in symbols: 512 words of main taps of which the mode has
`main`, then four tail windows with their positions. -/
def fpTaps (main : Nat) (ws : List Word) : Tab Int :=
  let put := fun (t : Tab Int) (k : Nat) (v : Int) => Tab.set (fun _ => 0) t k v
  let t1 := (List.range main).foldl (fun t i => put t i (pairTap (nth 0#48 ws (2 + i / 2)) i)) []
  (List.range 4).foldl (fun t w =>
    if bitOf (nth 0#48 ws 579) w then
      (List.range 32).foldl (fun u i =>
        put u (fld (nth 0#48 ws 578) (47 - 12 * w) (36 - 12 * w) + i) (pairTap (nth 0#48 ws (514 + 16 * w + i / 2)) i)) t
    else t) t1

/-- Bin of tap k (R191): VF · c · k / (2 · fs) in bins of W; rate num/den symbols per ns. -/
def fpBin (vf binw k : Nat) (rate : Nat × Nat) : Nat := vf * 299792458 * k * rate.2 / (2 * rate.1 * 10 ^ 11 * binw)

/-- Difference energy of each bin and the fingerprint's energy, in the same unit (R191). A tap that only one of the two has counts as zero in the other. -/
def fpEnergy (c f : Tab Int) (scale vf binw : Nat) (rate : Nat × Nat) : List Nat × Nat :=
  let ks := (List.range 4096).filter (fun k => decide (Tab.get (fun _ => 0) c k ≠ 0 ∨ Tab.get (fun _ => 0) f k ≠ 0))
  let d := fun k => (Tab.get (fun _ => 0) c k * scale - Tab.get (fun _ => 0) f k * 2 ^ 30).natAbs ^ 2
  ((List.range 32).map (fun b => ((ks.filter (fun k => decide (fpBin vf binw k rate = b))).map d).sum),
   (ks.map (fun k => (Tab.get (fun _ => 0) f k * 2 ^ 30).natAbs ^ 2)).sum)

/-- PORT_FPDRIFTj words of 32 codes. -/
def fpWord (codes : List Nat) (j : Nat) : Word :=
  BitVec.ofNat 48 (nth 0 codes (4 * j) + nth 0 codes (4 * j + 1) * 2 ^ 12 + nth 0 codes (4 * j + 2) * 2 ^ 24 + nth 0 codes (4 * j + 3) * 2 ^ 36)

/-- A bit set as a number. -/
def bitsOf (f : Nat → Bool) (n : Nat) : Nat := (List.range n).foldl (fun v b => v + bnat (f b) * 2 ^ b) 0

/-- The words of a fingerprint (log entry 36): mode and gain code as PORT_FPSTAT places them, the velocity factor, 512 words of main taps,
64 of tail taps, 2 of tail positions and enables. -/
def State.fpWords (s : State) (p : Nat) : List Word :=
  let h := s.servingHalf p
  [BitVec.ofNat 48 (s.pmode p * 2 ^ 40 + s.rf (Reg.PORT_AFE p) 5 0 * 2 ^ 32), BitVec.ofNat 48 (s.rf (Reg.PORT_CARDCFG p) 41 32)] ++
    (List.range 576).map (s.halfWord p h) ++ [s.halfWord p h 0x252, s.halfWord p h 0x253]

/-- Sums for a least-squares slope over y_t, t = 0, 1, …: (n, Σt, Σt², Σy, Σty). -/
def lsqSums : List Int → Int → Int × Int × Int × Int × Int
  | [], _ => (0, 0, 0, 0, 0)
  | y :: t, k =>
    let r := lsqSums t (k + 1)
    (r.1 + 1, r.2.1 + k, r.2.2.1 + k * k, r.2.2.2.1 + y, r.2.2.2.2 + k * y)

/-- The slope of bin b over the points (oldest first, in 10^−5 dB) is at least TRENDTHR × 0.1 dB per 24 h (R192). -/
def trendSteep (pts : List (List Int)) (b trendh thr : Nat) : Bool :=
  let ys := pts.map (fun x => nth 0 x b)
  let m := lsqSums ys 0
  let num := m.1 * m.2.2.2.2 - m.2.1 * m.2.2.2.1
  let den := m.1 * m.2.2.1 - m.2.1 * m.2.1
  decide (0 < den ∧ (thr : Int) * 10000 * den * trendh ≤ num * 24)

/-- PORT_FPTREND as the trend points and the latest drift make it (R192), with the TRENDTHR and TRENDH of the last snapshot (R193). -/
def State.fpTrends (s : State) (p : Nat) : State :=
  let x := s.port p
  if x.trend.length < 8 then s
  else
    let al := bitsOf (fun b => trendSteep x.trend.reverse b (fld x.fpCfg 7 0) (fld x.fpCfg 15 8) && decide (-6000 ≤ nth 0 x.drift b)) 32
    (s.setRf (Reg.PORT_FPTREND p) 31 0 al).fpRise p (s.rf (Reg.PORT_FPTREND p) 31 0) al 32

/-- Comparison of the snapshot with the fingerprint (R190–R192): drifts, alarm bits, and the sums for the next trend point. -/
def State.fpCompare (s : State) (p : Nat) : State :=
  if s.rb (Reg.PORT_FPSTAT p) 47 ∧ s.rf (Reg.PORT_FPSTAT p) 43 40 = s.pmode p then
    let cfg := (s.port p).fpCfg
    let m := mainTaps (s.pmode p)
    let d : Int := (s.rf (Reg.PORT_AFE p) 5 0 : Int) - (s.rf (Reg.PORT_FPSTAT p) 37 32 : Int)
    let e := fpEnergy (fpTaps m (s.fpWords p)) (fpTaps m (s.port p).fp) (fpScale d) (s.rf (Reg.PORT_CARDCFG p) 41 32) (fld cfg 39 32)
      (symRate (s.pmode p))
    let codes := e.1.map (fun n => fpCode n e.2)
    let dbs := e.1.map (fun n => dbCenti n e.2)
    let al := bitsOf (fun b => fpAlarmed (nth 0 e.1 b) e.2 (fld cfg 23 16)) 32
    let old := s.rf (Reg.PORT_FPALARM p) 31 0
    let s1 := forAll (fun t j => t.setReg (Reg.PORT_FPDRIFT p j) (fpWord codes j)) (List.range 8) s
    let s2 := (s1.setRb (Reg.PORT_FPSTAT p) 46 true).setRf (Reg.PORT_FPALARM p) 31 0 al
    (((s2.updPort p (fun x => { x with
      drift := dbs, driftSum := (List.range 32).map (fun b => nth 0 x.driftSum b + nth 0 dbs b), driftCnt := x.driftCnt + 1 })).fpRise p old al 0).fpTrends p)
  else s

/-- A mirror for a snapshot is refused (R94, R189): after 10 refusals the snapshot is skipped. -/
def State.fpRefuse (s : State) (p : Nat) : State :=
  let s1 := s.refuseCsw p (s.cswRefusal p)
  if 10 ≤ (s.port p).fpRefused + 1 then (s1.bump (Reg.PORT_FPMISS p)).updPort p (fun x => { x with fpRefused := 0 })
  else s1.updPort p (fun x => { x with fpRefused := x.fpRefused + 1 })

/-- In-service carding runs on this port (R189). -/
def State.fpRuns (s : State) (p : Nat) : Bool :=
  decide (s.pst p = stUp ∧ s.pmode p ≠ 1) && s.rb (Reg.PORT_FPCFG p) 47

/-- A snapshot (R189–R191): a refused mirror is retried; else the serving half is mirrored and read. The runtime issues no mirror while the port
is write-delegated to a USER spindle (R244). -/
def State.snapshot (s : State) (p : Nat) : State :=
  if s.userPort p then s
  else if s.cswRefusal p ≠ 0 then s.fpRefuse p
  else (((s.copyHalf p).bump (Reg.PORT_FPSNAP p)).updPort p (fun x => { x with fpRefused := 0, fpCfg := s.reg (Reg.PORT_FPCFG p) })).fpCompare p

/-- FP_SNAPSHOT (R189): a new snapshot, with refusals of its own. -/
def execFpSnapshot (p : PortNo) (_ : Unit) (s : State) : Out :=
  if s.fpRuns p then .next ((s.updPort p (fun x => { x with fpRefused := 0 })).snapshot p) else .next s

/-- FP_SNAPSHOT_RETRY (R189): 10 ms after a refused mirror it is tried again. -/
def execFpSnapshotRetry (p : PortNo) (s : State) : Out :=
  if s.fpRuns p ∧ 0 < (s.port p).fpRefused then .next (s.snapshot p) else .next s

/-- FP_TREND_POINT (R192): the mean of each bin's drift is stored, the last 64 points are kept, the alarms are evaluated. -/
def execFpTrendPoint (p : PortNo) (s : State) : Out :=
  let x := s.port p
  if x.driftCnt = 0 then .next s
  else
    let pt : List Int := x.driftSum.map (fun v => v * 1000 / (x.driftCnt : Int))
    .next ((s.updPort p (fun y => { y with trend := (pt :: x.trend).take 64, driftSum := [], driftCnt := 0 })).fpTrends p).saveRuntime

end Sys2Proof.Machine
end

