-- ==== Sys2Proof/Machine/Gates.lean ====
section
/-! DEFINITION. Gate control lists of egresses and stream gates: windows, guards, changes and swaps (R261, R275–R278). -/

namespace Sys2Proof.Machine

/-- Lists 0–111 are those of the egresses, 112 + i those of stream gate instance i (1–63). -/
def State.gcl (s : State) (l : Nat) : Gcl := Tab.get (fun _ => {}) s.tm.gcl l
def State.setGcl (s : State) (l : Nat) (x : Gcl) : State :=
  { s with tm := { s.tm with gcl := Tab.set (fun _ => {}) s.tm.gcl l x } }

/-- Registers of a list. -/
def glCtl (l : Nat) : Nat := if l < 112 then Reg.TM_GCLCTL l else Reg.TM_SGCTL (l - 112)
def glAdmin (l : Nat) : Nat := if l < 112 then Reg.TM_GCLADMIN l else Reg.TM_SGADMIN (l - 112)
def glBases (l : Nat) : Nat := if l < 112 then Reg.TM_GCLBASES l else Reg.TM_SGBASES (l - 112)
def glBasen (l : Nat) : Nat := if l < 112 then Reg.TM_GCLBASEN l else Reg.TM_SGBASEN (l - 112)
def glOper (l : Nat) : Nat := if l < 112 then Reg.TM_GCLOPER l else Reg.TM_SGOPER (l - 112)
def glSwap (l : Nat) : Nat := if l < 112 then Reg.TM_GCLSWAP l else Reg.TM_SGSWAP (l - 112)
def glAE (l k w : Nat) : Nat := (if l < 112 then Reg.TM_GCLAE0 l k else Reg.TM_SGAE0 (l - 112) k) + w
def glOE (l k w : Nat) : Nat := (if l < 112 then Reg.TM_GCLOE0 l k else Reg.TM_SGOE0 (l - 112) k) + w
/-- Entries a list may have. -/
def glMax (l : Nat) : Nat := if l < 112 then 128 else 16

/-- A running entry: [from, to) within the cycle in ns, its gates, its guard in ns. -/
structure Seg where
  st : Nat
  en : Nat
  gates : Nat
  guard : Nat
deriving DecidableEq, Repr

/-- Entries (gates, interval in ns, guard in ns) cut at the cycle end; entries of no time are skipped. -/
def segsFrom (cycle : Nat) : List (Nat × Nat × Nat) → Nat → List Seg
  | [], _ => []
  | (g, iv, gd) :: t, at_ =>
    if iv = 0 then segsFrom cycle t at_
    else if cycle ≤ at_ then []
    else if cycle ≤ at_ + iv then [⟨at_, cycle, g, gd⟩]
    else ⟨at_, at_ + iv, g, gd⟩ :: segsFrom cycle t (at_ + iv)

/-- The last entry lasts until the cycle end (R275). -/
def stretchLast (cycle : Nat) : List Seg → List Seg
  | [] => []
  | [x] => [{ x with en := cycle }]
  | x :: t => x :: stretchLast cycle t

/-- The running entries of a list. One whose entries all have no time opens and closes no window and sets no guard: every gate is open, as while no list
operates (DESIGN CHOICE, log entry 26). -/
def segsOf (es : List (Nat × Nat × Nat)) (cycle : Nat) : List Seg :=
  match segsFrom cycle es 0 with
  | [] => if es.isEmpty then [] else [⟨0, cycle, 255, 0⟩]
  | l => stretchLast cycle l

/-- Cycle in ns, and the entries of the operational or of the admin list. -/
def State.glCycle (s : State) (l : Nat) (oper : Bool) : Nat := 2 * s.rf (if oper then glOper l else glAdmin l) 39 8
def State.glEntries (s : State) (l : Nat) (oper : Bool) : List (Nat × Nat × Nat) :=
  (List.range (s.rf (if oper then glOper l else glAdmin l) 7 0)).map (fun k =>
    let a := if oper then glOE l k 0 else glAE l k 0
    (s.rf a 47 40, 2 * s.rf a 31 0, 2 * s.rf (a + 1) 23 0))
def State.glSegs (s : State) (l : Nat) (oper : Bool) : List Seg := segsOf (s.glEntries l oper) (s.glCycle l oper)

/-- A change is committed and not yet in operation. -/
def State.glPending (s : State) (l : Nat) : Bool := s.rb (glCtl l) 24

/-- Admin base time in ns of device time. -/
def State.glBase (s : State) (l : Nat) : Nat := (s.reg (glBases l)).toNat * 10 ^ 9 + s.rf (glBasen l) 29 0

/-- The first a + n·c at or after t. -/
def firstAt (a c t : Nat) : Nat := if t ≤ a ∨ c = 0 then a else a + ceilDiv (t - a) c * c

/-- When the pending list comes into operation (R278). -/
def State.glSwapAt (s : State) (l : Nat) : Nat :=
  let g := s.gcl l
  if g.oper then firstAt g.start (s.glCycle l true) (max (s.glBase l) g.commit)
  else firstAt (s.glBase l) (s.glCycle l false) (g.commit + 1000)

/-- Gates act: EN = 1 and a list is operating (R275). -/
def State.gated (s : State) (l : Nat) : Bool := s.rb (glCtl l) 47 && (s.gcl l).oper

/-- The running entry at a position in the cycle. -/
def segAt (l : List Seg) (pos : Nat) : Option Seg := l.find? (fun x => decide (x.st ≤ pos ∧ pos < x.en))

/-- Bit i of a number. -/
def gateBit (v i : Nat) : Bool := decide (v / 2 ^ i % 2 = 1)

/-- End of the open run of bit q from position pos of a cycle, as (distance from pos, guard of its last entry), over at most `fuel` entries;
none while it has not ended. -/
def runEnd (l : List Seg) (cycle q : Nat) : Nat → Nat → Nat → Nat → Option (Nat × Nat)
  | 0, _, _, _ => none
  | fuel + 1, pos, dist, guard =>
    match segAt l pos with
    | none => some (dist, guard)
    | some x =>
      if gateBit x.gates q then runEnd l cycle q fuel (x.en % cycle) (dist + (x.en - pos)) x.guard
      else some (dist, guard)


/-- The gate of bit q at time t: closed; or open until a close with a guard (none: it does not close). -/
def State.gateState (s : State) (l q t : Nat) : Option (Option (Nat × Nat)) :=
  if s.gated l = false then some none
  else
    let segs := s.glSegs l true
    let cyc := s.glCycle l true
    let st := (s.gcl l).start
    match segAt segs ((t - st) % cyc) with
    | none => none
    | some x =>
      if gateBit x.gates q = false then none
      else
        let fromAdmin := fun (base guard : Nat) =>
          match runEnd (s.glSegs l false) (s.glCycle l false) q (s.rf (glAdmin l) 7 0 + 1) 0 0 guard with
          | some (d, g) => some (some (base + d, g))
          | none => some none
        match runEnd segs cyc q (segs.length + 1) ((t - st) % cyc) 0 0 with
        | some (d, g) =>
          if s.glPending l ∧ s.glSwapAt l ≤ t + d then fromAdmin (s.glSwapAt l) (match segs.getLast? with
            | some y => y.guard
            | none => 0)
          else some (some (t + d, g))
        | none =>
          if s.glPending l then fromAdmin (s.glSwapAt l) (match segs.getLast? with
            | some y => y.guard
            | none => 0)
          else some none

/-- The gate is open at time t. -/
def State.gateOpen (s : State) (l q t : Nat) : Bool := (s.gateState l q t).isSome

/-- A stream gate at the time of a frame's first byte (R261), which may lie before the list that operates now: the list before it then decides,
and where there was none the gate was open. -/
def State.streamOpen (s : State) (l t : Nat) : Bool :=
  let g := s.gcl l
  if s.gated l ∧ t < g.start then
    match g.old with
    | none => true
    | some (st, cyc, es) => (segAt (segsOf es cyc) ((t - st) % cyc)).any (fun x => gateBit x.gates 0)
  else s.gateOpen l 0 t

/-- Open time of bit q within the first `pos` ns of a cycle. -/
def openIn (l : List Seg) (q pos : Nat) : Nat :=
  l.foldl (fun n x => if gateBit x.gates q then n + (min x.en pos - min x.st pos) else n) 0

/-- Open time of bit q in [a, b) under the operational list. -/
def State.openBetween (s : State) (l q a b : Nat) : Nat :=
  if s.gated l = false then b - a
  else
    let segs := s.glSegs l true
    let cyc := s.glCycle l true
    let st := (s.gcl l).start
    let cum := fun t => (t - st) / cyc * openIn segs q cyc + openIn segs q ((t - st) % cyc)
    cum b - cum a

/-- The next opening of bit q of a list from a position in its cycle: distance to it, none where it never opens. -/
def nextIn (segs : List Seg) (cyc q pos : Nat) : Option Nat :=
  match segs.find? (fun x => gateBit x.gates q && decide (pos ≤ x.st)) with
  | some x => some (x.st - pos)
  | none => (segs.find? (fun x => gateBit x.gates q)).map (fun x => cyc - pos + x.st)

/-- The next opening of bit q after time t, none where it never opens: of the operational list, or of a pending one that comes into operation
before it (R278). -/
def State.nextOpen (s : State) (l q t : Nat) : Option Nat :=
  let own := nextIn (s.glSegs l true) (s.glCycle l true) q ((t - (s.gcl l).start) % s.glCycle l true)
  let sw := s.glSwapAt l - t
  if s.glPending l = false ∨ own.any (fun d => decide (d < sw)) then own
  else (nextIn (s.glSegs l false) (s.glCycle l false) q 0).map (fun d => sw + d)

/-! ## Changes (R278) -/

/-- A write of TM_GCLCTL or TM_SGCTL: the status and the state. -/
def State.glCtlWrite (s : State) (l : Nat) (v : Word) : Nat × State :=
  let a := glCtl l
  let chg := decide (fld v 19 16 ≠ s.rf a 19 16)
  let len := s.rf (glAdmin l) 7 0
  if chg ∧ s.glPending l then (8, s.setRf a 31 28 1)
  else if chg ∧ (len = 0 ∨ glMax l < len ∨ s.rf (glAdmin l) 39 8 = 0) then (8, s.setRf a 31 28 2)
  else
    let s1 := (s.setRf a 47 47 (fld v 47 47)).setRf a 19 16 (fld v 19 16)
    if chg then (0, (s1.setRb a 24 true).setGcl l { s.gcl l with commit := timeNs s.time }) else (0, s1)

/-- A write of an admin register or entry: refused while a change is pending. -/
def State.glAdminWrite (s : State) (l a : Nat) (v : Word) : Nat × State :=
  if s.glPending l then (8, s.setRf (glCtl l) 31 28 1) else (0, s.setReg a v)

/-- The committed list comes into operation. -/
def State.glDoSwap (s : State) (l : Nat) : State :=
  if s.glPending l then
    let st := s.glSwapAt l
    let s1 := forAll (fun t k => (t.setReg (glOE l k 0) (s.reg (glAE l k 0))).setReg (glOE l k 1) (s.reg (glAE l k 1))) (List.range (glMax l)) s
    let s2 := ((s1.setReg (glOper l) (s.reg (glAdmin l))).setRf (glCtl l) 23 20 (s.rf (glCtl l) 19 16)).setRb (glCtl l) 24 false
    (s2.bump (glSwap l)).setGcl l { s.gcl l with
      oper := true, start := st
      old := if (s.gcl l).oper then some ((s.gcl l).start, s.glCycle l true, s.glEntries l true) else none }
  else s

end Sys2Proof.Machine
end

