-- ==== Sys2Proof/Machine/TmOps.lean ====
section
/-! DEFINITION. The traffic manager's operations: cells, buckets, identification, policing, admission, shapers (R256–R274). -/

namespace Sys2Proof.Machine

/-- The traffic manager runs. -/
def State.tmOn (s : State) : Bool := s.domOn 48

/-! ## Cells (R268) -/

/-- Remove [a, b) from a list of disjoint intervals. -/
def subIv (a b : Nat) : List (Nat × Nat) → List (Nat × Nat)
  | [] => []
  | (x, y) :: t =>
    let l := if x < min y a then [(x, min y a)] else []
    let r := if max x b < y then [(max x b, y)] else []
    l ++ r ++ subIv a b t

/-- Words of the bobbin window that are kept free of cells: the runtime state region (R249) and the excluded ranges, as cell intervals. -/
def State.keptFree (s : State) : List (Nat × Nat) :=
  let iv := fun (base words : Nat) =>
    let lo := max base 0x1000000
    let hi := min (base + words) 0x1800000
    if lo < hi then ((lo - 0x1000000) / 32, ceilDiv (hi - 0x1000000) 32) else (0, 0)
  iv (s.rf Reg.MB_RTBASE 31 0) 262144 ::
    (List.range 8).map (fun k => iv (s.rf (Reg.TM_EXCLBASE k) 31 0) (32 * s.rf (Reg.TM_EXCLCNT k) 17 0))

/-- Cells in a list of disjoint intervals, and the i-th of them. -/
def ivSize (l : List (Nat × Nat)) : Nat := l.foldl (fun n x => n + (x.2 - x.1)) 0
def ivNth : List (Nat × Nat) → Nat → Nat
  | [], _ => 0
  | (x, y) :: t, i => if i < y - x then x + i else ivNth t (i - (y - x))

/-- The cells of bank b that may be allocated, in use or not. -/
def State.bankIv (s : State) (b : Nat) : List (Nat × Nat) :=
  s.keptFree.foldl (fun l x => subIv x.1 x.2 l) [(32768 * b, 32768 * b + 32768)]

/-- The bank takes new cells: TM_BANKEN and its domain on. -/
def State.bankOpen (s : State) (b : Nat) : Bool := s.rb Reg.TM_BANKEN b && s.domOn (36 + b)

/-- The free cells of bank b: open to the traffic manager, outside what is kept free, and not in use. -/
def State.freeIv (s : State) (b : Nat) : List (Nat × Nat) :=
  if s.bankOpen b then (s.usedCells b).foldl (fun l c => subIv c (c + 1) l) (s.bankIv b) else []

/-- TM_CELLS and TM_FREE. -/
def State.tmCells (s : State) : Nat := (List.range 8).foldl (fun n b => if s.bankOpen b then n + ivSize (s.bankIv b) else n) 0
def State.tmFree (s : State) : Nat := (List.range 8).foldl (fun n b => n + ivSize (s.freeIv b)) 0

/-- The next bank at or after b with a free cell. -/
def nextBank (free : List (List (Nat × Nat))) (b : Nat) : Option Nat :=
  ((List.range 8).map (fun i => (b + i) % 8)).find? (fun k => decide (0 < ivSize (nth [] free k)))

/-- n cells for frame `fid`, in successive banks that take cells from bank b on. -/
def placeCells (fid : Nat) : Nat → List (List (Nat × Nat)) → Nat → List Nat
  | 0, _, _ => []
  | n + 1, free, b =>
    match nextBank free b with
    | none => []
    | some k =>
      let l := nth [] free k
      let c := ivNth l (Config.cellPick fid n % ivSize l)
      c :: placeCells fid n (setNth (subIv c (c + 1) l) free k) (k + 1)

/-! ## Buckets (R262, R263) -/

/-- Fraction units in a byte. -/
abbrev byteU : Nat := 2 ^ 24

/-- Gain of a rate in kbit/s over a number of 2 ns ticks. -/
def gain (rate ticks : Nat) : Nat := rate * ticks * byteU / 4000000

/-- Counted length (R262): OVH of the egress with this identity, none for the spindle channel. -/
def State.counted (s : State) (ident len : Nat) : Nat :=
  let ovh : Int := if ident < 112 then signed 8 (s.rf (Reg.TM_ECFG ident) 7 0) else 0
  ((max 1 ((len : Int) + ovh)).toNat)

/-- A bucket brought up to tick t. -/
def fillTo (b : Option Bucket) (rate burst t : Nat) : Nat :=
  match b with
  | none => burst * byteU
  | some x => min (burst * byteU) (x.lvl + gain rate (t - x.at_))

def State.polBucket (s : State) (st : Nat) : Option Bucket := Tab.get (fun _ => none) s.tm.pol st
def State.setPol (s : State) (st : Nat) (b : Option Bucket) : State :=
  { s with tm := { s.tm with pol := Tab.set (fun _ => none) s.tm.pol st b } }
/-- Bucket k (0 for T1, 1 for T2) of meter m. -/
def State.metBucket (s : State) (m k : Nat) : Option Bucket := Tab.get (fun _ => none) s.tm.met (2 * m + k)
def State.setMet (s : State) (m k : Nat) (b : Option Bucket) : State :=
  { s with tm := { s.tm with met := Tab.set (fun _ => none) s.tm.met (2 * m + k) b } }

/-- TM_SPOLST and TM_MLEV. -/
def State.polLevel (s : State) (st : Nat) : Nat :=
  match s.polBucket st with
  | none => s.rf (Reg.TM_SPOL1 st) 23 0 * byteU
  | some b => b.lvl
def State.metLevel (s : State) (m k : Nat) : Nat :=
  match s.metBucket m k with
  | none => s.rf (if k = 0 then Reg.TM_MB1 m else Reg.TM_MB2 m) 23 0 * byteU
  | some b => b.lvl

/-! ## Identification (R257, R258) -/

/-- The outermost VLAN tag: its 16 control bits. -/
def vlanTci (bs : List Byte) : Option Nat :=
  let tpid := bytesVal ((bs.drop 12).take 2)
  if (tpid = 0x8100 ∨ tpid = 0x88A8) ∧ 16 ≤ bs.length then some (bytesVal ((bs.drop 14).take 2)) else none

/-- Destination address. -/
def frameDmac (bs : List Byte) : Word := wordOfBytes (bs.take 6)

/-- The nine key bytes. -/
def streamKey (ident : Nat) (bs : List Byte) : List Byte :=
  let t := vlanTci bs
  let tci := t.getD 0
  [BitVec.ofNat 8 (ident % 128), BitVec.ofNat 8 (bnat t.isSome * 128 + tci / 2 ^ 13 * 16 + tci % 2 ^ 12 / 256), BitVec.ofNat 8 (tci % 256)] ++ bs.take 6

/-- The entry's key equals the frame's. -/
def State.keyHit (s : State) (st ident : Nat) (bs : List Byte) : Bool :=
  let k := s.reg (Reg.TM_SKEY0 st)
  let t := vlanTci bs
  let tci := t.getD 0
  bitOf k 47 && bitOf k 46 && decide (fld k 38 32 = ident ∧ fld k 16 16 = bnat t.isSome ∧ fld k 15 13 = tci / 2 ^ 13 ∧
    fld k 11 0 = tci % 2 ^ 12 ∧ s.reg (Reg.TM_SKEY1 st) = frameDmac bs)

/-- The stream a frame takes: a matching way of its set, else its ingress default stream; none where it is disabled. -/
def State.lookup (s : State) (ident : Nat) (bs : List Byte) : Option Nat :=
  let set := crc32 (streamKey ident bs) % 1024
  match (List.range 4).find? (fun w => s.keyHit (4 * set + w) ident bs) with
  | some w => some (4 * set + w)
  | none =>
    let d := s.reg (Reg.TM_DEFSTREAM ident)
    if bitOf d 47 ∧ s.rb (Reg.TM_SKEY0 (fld d 11 0)) 47 then some (fld d 11 0) else none

/-! ## Policer and meter (R264, R265) -/

/-- Input colour: 0 green, 1 yellow, 2 red. -/
def inColour (ident : Nat) (tag : Nat) (bs : List Byte) : Nat :=
  let dei := match vlanTci bs with
    | some tci => tci / 2 ^ 12 % 2
    | none => 0
  if 96 ≤ ident ∧ ident < 112 ∧ tag ≠ 3 then tag else dei

/-- The single-rate policer: its result. -/
def State.police (s : State) (st inc l t : Nat) : Nat × State :=
  let w := s.reg (Reg.TM_SPOL0 st)
  if bitOf w 46 ∧ inc = 2 then (2, s.bump (Reg.TM_SRED st))
  else
    let lvl := fillTo (s.polBucket st) (fld w 24 0) (s.rf (Reg.TM_SPOL1 st) 23 0) t
    if l * byteU ≤ lvl then
      (if bitOf w 46 then inc else 0, s.setPol st (some ⟨lvl - l * byteU, t⟩))
    else (2, (s.setPol st (some ⟨lvl, t⟩)).bump (Reg.TM_SRED st))

/-- The two-rate three-colour meter: its result. -/
def State.meter (s : State) (m inc l t : Nat) : Nat × State :=
  let w := s.reg (Reg.TM_MCFG m)
  let ca := bitOf w 46
  let t1 := fillTo (s.metBucket m 0) (fld w 24 0) (s.rf (Reg.TM_MB1 m) 23 0) t
  let t2 := fillTo (s.metBucket m 1) (s.rf (Reg.TM_MR2 m) 24 0) (s.rf (Reg.TM_MB2 m) 23 0) t
  let n := l * byteU
  let r : Nat × Nat × Nat :=
    if bitOf w 45 = false then
      if (ca ∧ inc = 2) ∨ t2 < n then (2, t1, t2)
      else if (ca ∧ inc = 1) ∨ t1 < n then (1, t1, t2 - n)
      else (0, t1 - n, t2 - n)
    else
      if (ca = false ∨ inc = 0) ∧ n ≤ t1 then (0, t1 - n, t2)
      else if (ca = false ∨ inc ≠ 2) ∧ n ≤ t2 then (1, t1, t2 - n)
      else (2, t1, t2)
  let s1 := (s.setMet m 0 (some ⟨r.2.1, t⟩)).setMet m 1 (some ⟨r.2.2, t⟩)
  (r.1, if r.1 = 1 then s1.bump (Reg.TM_MYEL m) else if r.1 = 2 then s1.bump (Reg.TM_MRED m) else s1)

/-- Colour of a frame (R264–R266): 3 where neither acts. -/
def State.colourOf (s : State) (st ident tag : Nat) (bs : List Byte) : Nat × State :=
  let l := s.counted ident bs.length
  let inc := inColour ident tag bs
  let pen := s.rb (Reg.TM_SPOL0 st) 47
  let men := s.rb (Reg.TM_SACT2 st) 33
  let p := if pen then s.police st inc l s.tick else (inc, s)
  let m := if men then p.2.meter (s.rf (Reg.TM_SACT2 st) 32 23) p.1 l s.tick else (0, p.2)
  (if pen ∧ men then max p.1 m.1 else if pen then p.1 else if men then m.1 else 3, m.2)

/-! ## Shapers (R272–R274) -/

/-- Rate of an egress in Mbit/s (R57, R58, R284). -/
def modeRate (m : Nat) : Nat :=
  if m = 1 then 10 else if m = 2 then 100 else if m = 3 then 1000 else if m = 4 then 2500
  else if m = 5 then 5000 else if m = 6 then 10000 else if m = 7 then 25000 else 0
def laneRate (r : Nat) : Nat := nth 0 [1000, 2500, 5000, 10000, 20000] r
def State.egressRate (s : State) (e : Nat) : Nat :=
  if isLine e then modeRate (s.pmode e) else laneRate (s.rf (Reg.HL_STAT (e - 96)) 30 28)

/-- The shapers of the egress are credit-based. -/
def State.creditKind (s : State) (e : Nat) : Bool := !(isLine e) || decide (2500 ≤ s.egressRate e)

def State.shRate1 (s : State) (e q : Nat) : Nat := s.rf (Reg.TM_QSHP0 e q) 24 0
def State.shBurst1 (s : State) (e q : Nat) : Nat := s.rf (Reg.TM_QSHP0 e q + 1) 23 0
def State.shRate2 (s : State) (e q : Nat) : Nat := s.rf (Reg.TM_QSHP0 e q + 2) 24 0
def State.shBurst2 (s : State) (e q : Nat) : Nat := s.rf (Reg.TM_QSHP0 e q + 3) 23 0

/-- The queue is transmitting. -/
def State.sendingQ (s : State) (e q : Nat) : Bool :=
  match s.cur e with
  | some c => decide (c.q = q) && !c.mgmt
  | none => false

/-- Levels of a queue's shaper now: C and P, or the credit and 0. Full buckets or zero credit where nothing has moved it, or the kind changed.
Under STDCBS the credit of an empty queue is at most zero, and is held while the gate is closed (R274). -/
def State.shLevels (s : State) (e q : Nat) : Int × Int :=
  let t := s.tick
  if s.creditKind e then
    match s.shp e q with
    | some x =>
      if x.credit = false then (0, 0)
      else if s.sendingQ e q then (x.c, 0)
      else
        let std := s.rb (Reg.TM_QCFG e q) 46
        let dt := if std then s.openBetween e q (2 * x.at_) (2 * t) / 2 else t - x.at_
        let g : Int := (gain (s.shRate1 e q) dt : Nat)
        if std ∧ (s.queue e q).isEmpty then (min 0 (min x.c 0 + g), 0)
        else (max x.c (min (s.shBurst1 e q * byteU : Nat) (x.c + g)), 0)
    | none => (0, 0)
  else
    match s.shp e q with
    | some x =>
      if x.credit then ((s.shBurst1 e q * byteU : Nat), (s.shBurst2 e q * byteU : Nat))
      else
        (min (s.shBurst1 e q * byteU : Nat) (x.c + (gain (s.shRate1 e q) (t - x.at_) : Nat)),
         min (s.shBurst2 e q * byteU : Nat) (x.p + (gain (s.shRate2 e q) (t - x.at_) : Nat)))
    | none => ((s.shBurst1 e q * byteU : Nat), (s.shBurst2 e q * byteU : Nat))

/-- Keep the levels as of now: before an event that changes how they gain. -/
def State.shSync (s : State) (e q : Nat) : State :=
  let v := s.shLevels e q
  s.setShp e q (some { credit := s.creditKind e, c := v.1, p := v.2, at_ := s.tick })

/-- The gates of egress e are about to change: its credits that stop with their gate are brought up to now (R274). -/
def State.shGates (s : State) (e : Nat) : State :=
  forAll (fun t q => if t.rb (Reg.TM_QCFG e q) 46 ∧ (t.shp e q).isSome then t.shSync e q else t) (List.range 8) s

/-- A shaper starts: both buckets full, or a credit of zero that gains from now on (R272–R274). -/
def State.shStart (s : State) (e q : Nat) : State :=
  if s.creditKind e then s.setShp e q (some { credit := true, c := 0, p := 0, at_ := s.tick }) else s.setShp e q none

/-- Class of a queue under its shaper: 2 committed-eligible, 1 excess-eligible, 0 neither. -/
def State.shClass (s : State) (e q : Nat) : Nat :=
  if s.rb (Reg.TM_QCFG e q) 47 = false then 2
  else
    let v := s.shLevels e q
    if s.creditKind e then (if 0 ≤ v.1 then 2 else 0)
    else if v.2 < 0 then 0 else if v.1 < 0 then 1 else 2

/-- A start debits the shaper (R273, R274). -/
def State.shDebit (s : State) (e q len : Nat) : State :=
  if s.rb (Reg.TM_QCFG e q) 47 = false then s
  else
    let v := s.shLevels e q
    let l := s.counted e len
    if s.creditKind e then
      let r := s.egressRate e * 1000
      let d : Int := if r = 0 then 0 else ((l * byteU : Nat) : Int) * ((r : Int) - (s.shRate1 e q : Int)) / (r : Int)
      s.setShp e q (some { credit := true, c := max (v.1 - d) (-((s.shBurst2 e q * byteU : Nat) : Int)), p := 0, at_ := s.tick })
    else
      s.setShp e q (some { credit := false, c := v.1 - (l * byteU : Nat), p := v.2 - (l * byteU : Nat), at_ := s.tick })

/-! ## Admission (R267–R270) -/

/-- Number of the pool reserve and of the limit for a colour (none counts as green). -/
def State.poolRes (s : State) (c : Nat) : Nat :=
  s.rf (if c = 1 then Reg.TM_POOLRESY else if c = 2 then Reg.TM_POOLRESR else Reg.TM_POOLRESG) 17 0
def State.qLimit (s : State) (e q c : Nat) : Nat :=
  if c = 1 then s.rf (Reg.TM_QLIM e q) 17 0 else if c = 2 then s.rf (Reg.TM_QLIMR e q) 17 0 else s.rf (Reg.TM_QLIM e q) 41 24

/-- Device time in ns. -/
def State.ns (s : State) : Nat := timeNs s.time

/-- A copy joins a queue; under STDCBS the credit of the queue, empty until now, is brought up to now first (R274, R417). -/
def State.enqueue (s : State) (e q fid : Nat) : State :=
  let s1 := if (s.queue e q).isEmpty ∧ s.rb (Reg.TM_QCFG e q) 46 then s.shSync e q else s
  (s1.setQueue e q (s1.queue e q ++ [{ fid := fid, at_ := s.ns }])).bump (Reg.TM_QENQ e q)

/-- One egress copy is admitted to queue q, or dropped and counted: whether it was admitted. -/
def State.admitCopy (s : State) (e q c fid need free : Nat) : Bool × State :=
  let st := s.egressState e
  if st = 3 ∨ (st = 2 ∧ q ≠ 7) then
    let s1 := s.bump (Reg.TM_QDROPSTATE e q)
    (false, if st = 2 then s1.bump (Reg.PORT_ROVDROP e) else s1)
  else if s.depth e q + need ≤ s.qLimit e q c ∧ need + s.poolRes c ≤ free then
    (true, s.enqueue e q fid)
  else (false, s.bump (Reg.TM_QDROPADM e q))

/-- Admit the copies of a frame in ascending egress number: the egresses that took it. -/
def State.admitAll (s : State) (q c fid need free : Nat) : List Nat → List Nat × State
  | [] => ([], s)
  | e :: t =>
    let r := s.admitCopy e q c fid need free
    let u := State.admitAll r.2 q c fid need free t
    (if r.1 then e :: u.1 else u.1, u.2)

/-- A spindle's receive queue of 32 frames takes a frame (R267, R293). -/
def State.spnTakes (s : State) (n : Nat) : Bool := decide (n < 48 ∧ (s.spn n).rxq.length < 32) && s.spnInService n

/-- A frame arrives at a spindle's receive queue, with the descriptor as its tag (R213). -/
def State.toSpn (s : State) (n : Nat) (d : Desc) (pri : Nat) (bs : List Byte) (fid : Nat) : State :=
  let h := tagHeader d pri 3
  if s.spnTakes n then s.updSpn n (fun y => { y with rxq := y.rxq ++ [{ w0 := h.1, w1 := h.2, bytes := bs, fid := fid }] })
  else s.bump Reg.TM_SPNDROP

/-- A frame is stored once for its copies, its cells in successive banks (R21, R268). No rule lays its bytes out in a cell's words: these hold free
values (log entry 6). -/
def State.store (s : State) (d : Desc) (bs : List Byte) (copies : Nat) : State :=
  let fid := s.tm.nextFid
  let cells := placeCells fid (cellsOf bs.length) ((List.range 8).map s.freeIv) (Config.firstBank fid % 8)
  let s1 := (forAll (fun t c => t.freshBob (32 * c) 32) cells s).setFrame fid (some { desc := d, bytes := bs, cells := cells, copies := copies })
  { s1 with tm := { s1.tm with nextFid := fid + 1 } }

/-- A local wake starts for the sleeping ports among the egresses that took a frame; with the armed detector asserted it counts as remote too (R156,
R159, R161). -/
def State.wakeTaken (s : State) (l : List Nat) : State :=
  forAll (fun t e => if isLine e ∧ t.pst e = stSleep ∧ (t.port e).wakePend = false then t.localWake e else t) l s

/-- The egresses of an action, the ingress identity left out (R267); only host lanes for a bad frame (R260). -/
def State.actionEgresses (s : State) (st ident : Nat) (laneOnly : Bool) : List Nat :=
  (List.range 112).filter (fun e => decide (e ≠ ident) && (!laneOnly || decide (96 ≤ e)) &&
    (if e < 48 then s.rb (Reg.TM_SACT st 0) e else if e < 96 then s.rb (Reg.TM_SACT st 1) (e - 48) else s.rb (Reg.TM_SACT2 st) (e - 96)))

/-- Queue of a frame under the action. -/
def State.actionQueue (s : State) (st : Nat) (bs : List Byte) : Nat :=
  let w := s.reg (Reg.TM_SACT2 st)
  match vlanTci bs with
  | some tci => if bitOf w 37 then tci / 2 ^ 13 else fld w 36 34
  | none => fld w 36 34

/-- Apply the action to a frame that passed: whether an egress took it. -/
def State.forward (s : State) (d : Desc) (bs : List Byte) (laneOnly : Bool) : Bool × State :=
  let st := d.stream
  let q := s.actionQueue st bs
  let fid := s.tm.nextFid
  let need := cellsOf bs.length
  let r := s.admitAll q d.colour fid need s.tmFree (s.actionEgresses st d.src laneOnly)
  let w := s.reg (Reg.TM_SACT2 st)
  let spn := !laneOnly && bitOf w 44
  let took := spn && s.spnTakes (fld w 43 38)
  let s1 := if r.1.isEmpty ∧ took = false then r.2 else r.2.store d bs (r.1.length + bnat took)
  let s2 := s1.wakeTaken r.1
  let s3 := if spn then s2.toSpn (fld w 43 38) d q bs fid else s2
  (!r.1.isEmpty, if r.1.isEmpty ∧ took = false then s3.bump (Reg.TM_SNOEGR st) else s3)

/-- A frame for the traffic manager while the queues toward it flush is dropped, and counts once in CLK_XDROPd of the domain that wrote it: LGg for a
line port, HLR for a host lane (R335; DESIGN CHOICE, log entry 163). The spindles share the core family's clock. -/
def State.xdrop (s : State) (src : Nat) : State :=
  if src < 96 then s.bump (Reg.CLK_XDROP (6 + lgOf src)) else if src < 112 then s.bump (Reg.CLK_XDROP 13) else s

/-- The ingress pipeline (R256–R270): whether an egress took the frame. -/
def State.pipeline (s : State) (d0 : Desc) (tag : Nat) (first : Nat) (bs : List Byte) : Bool × State :=
  if s.tmOn = false then (false, s.xdrop d0.src)
  else
    match s.lookup d0.src bs with
    | none => (false, s.bump Reg.TM_NOMATCH)
    | some st =>
      let d := { d0 with stream := st }
      let s1 := s.bump (Reg.TM_SMATCH st)
      let act := s.reg (Reg.TM_SACT2 st)
      if d.fcsBad ∨ d.trunc then
        let s2 := s1.bump (Reg.TM_SFCSBAD st)
        if bitOf act 45 then s2.forward { d with colour := 3 } bs true else (false, s2)
      else if fld act 22 17 ≠ 0 ∧ s1.streamOpen (112 + fld act 22 17) first = false then
        (false, s1.bump (Reg.TM_SGATEDROP st))
      else
        let c := s1.colourOf st d.src tag bs
        if (c.1 = 1 ∧ bitOf act 47) ∨ (c.1 = 2 ∧ bitOf act 46) then (false, c.2.bump (Reg.TM_SCOLDROP st))
        else c.2.forward { d with colour := c.1 } bs false

/-- TS_NS of a time (R291). -/
def tsNsOf (t : BitVec 96) : Nat := (timeSec t * 10 ^ 9 + timeNsField t) % 2 ^ 32

end Sys2Proof.Machine
end

