-- ==== Sys2Proof/Machine/Tm.lean ====
section
/-! DEFINITION. Meanings of the traffic manager: ingress, transmission, gates, samples, and the frames of LPI and roving (R59, R71, R152, R162, R176–R180, R256–R282, R301, R417). -/

namespace Sys2Proof.Machine

/-! ## Ingress -/

/-- A frame received by line port p enters the pipeline (R59, R71): counted, cut at 9,216 bytes, marked. -/
def State.portFrame (s : State) (p : Nat) (bs : List Byte) (first : BitVec 96) (roving : Bool) : State :=
  let long := decide (9216 < bs.length)
  let cut := bs.take 9216
  let mark := decide (0 < (s.port p).rsMarks) && !roving
  let bad := long || mark || !(fcsGood cut)
  let s1 := (if mark then s.updPort p (fun x => { x with rsMarks := x.rsMarks - 1 }) else s).bump (Reg.PORT_RXFRM p)
  let s2 := if bad then s1.bump (Reg.PORT_RXBAD p) else s1
  (s2.pipeline
    { src := p, fcsBad := bad, trunc := long, roving := roving, tsNs := tsNsOf first, len := cut.length, genLo := s.pgen p % 64 }
    3 (timeNs first) cut).2

/-- Times of CSMA/CD at 10 Mbit/s in ns, and its limits (R65; PRESUMED, log entry 167): the gap between frames and the slot; attempts of a frame, and
collisions after which the range of the backoff grows no more. -/
abbrev csGap := 9600
abbrev csSlot := 51200
abbrev csAttempts := 16
abbrev csBackoff := 10

/-- The segment falls silent: the port defers for the gap between frames. -/
def State.csmaFree (s : State) (p : Nat) : State := s.updPort p (fun x => { x with csUntil := max x.csUntil (s.now + csGap) })

/-- The port's own frame has met another: it is sent again after the gap and a random number of slots (FREE VALUE, log entry 167), and after the last
attempt it is cut for good. -/
def State.csmaCollide (s : State) (p : Nat) : State :=
  let k := (s.port p).csTries + 1
  if csAttempts ≤ k then (s.cutTx p).updPort p (fun x => { x with csTries := 0, csUntil := s.now + csGap })
  else
    let d := s.drawNat 48
    (d.2.holdTx p).updPort p (fun x => { x with csTries := k, csUntil := s.now + csGap + csSlot * (d.1 % 2 ^ min k csBackoff) })

/-- A frame on a 10BASE-T1S segment (R65, R162). While the port itself sends, it is a collision: counted under PLCA, and the port's own frame is sent
again, under CSMA/CD after its backoff. Otherwise the node whose transmit opportunity runs has transmitted in it; the cycle moves on, unless the node keeps its opportunity for more
frames of a burst. -/
def State.segmentFrame (s : State) (p : Nat) (commit : Bool) : State :=
  if s.pmode p ≠ 1 then s
  else
    let s1 := if (s.cur p).isSome then (if s.plcaLive p then (s.bump (Reg.PORT_PLCACOL p)).holdTx p else s.csmaCollide p)
      else if s.plcaLive p then s else s.csmaFree p
    if s.plcaCycle p = false then s1
    else
      let s2 := if (s.cur p).isSome then s1 else s1.setRb (Reg.PORT_PLCASEEN p) ((s.port p).plcaOpp % 32) true
      if commit then s2 else s2.plcaMove p

/-- FRAME_INGRESS (R256): from a line port in UP, a host lane in RUN or the spindle channel. -/
def execFrameIngress (f : InFrame) (s : State) : Out :=
  if f.ident < 96 then
    if s.pst f.ident = stUp then .next ((s.segmentFrame f.ident f.commit).portFrame f.ident f.bytes f.first false) else .next s
  else if f.ident < 112 ∨ f.ident = 114 then
    if f.ident = 114 ∨ s.rf (Reg.HL_STAT (f.ident - 96)) 47 44 = 5 then
      let bs := f.bytes.take 9216
      let long := decide (9216 < f.bytes.length)
      .next (s.pipeline { src := f.ident, fcsBad := long || !(fcsGood bs), trunc := long, tsNs := tsNsOf f.first, len := bs.length }
        f.colour.toNat (timeNs f.first) bs).2
    else .next s
  else .next s

/-- ROVING_DATA_RECEIVE (R176, R180): a good header and a body within 64–2,048 bytes enter the pipeline with ROVING = 1. -/
def execRovingDataReceive (p : PortNo) (frame : List Byte) (first : BitVec 96) (_ : Unit) (s : State) : Out :=
  if s.pst p = stRoving then
    match rovParse frame with
    | .bad => .next (s.bump (Reg.PORT_ROVBAD p))
    | .data bs => .next ((s.bump (Reg.PORT_ROVRXFRM p)).portFrame p bs first true)
    | _ => .next s
  else .next s

/-! ## Transmission selection (R271–R276, R301) -/

/-- Units of credit a frame costs, and those available (R301): on the tick of a credit set those before it (R306). -/
def creditUnits (len : Nat) : Nat := ceilDiv len 64
def State.credAvail (s : State) (n q : Nat) : Nat :=
  let granted := match (s.lane n).credWas.find? (fun x => decide (x.1 = q ∧ x.2.2 = s.tick)) with
    | some x => x.2.1
    | none => s.rf (Reg.HL_CRED n q) 47 32
  let d := (granted + 2 ^ 16 - s.rf (Reg.HL_CRED n q) 31 16) % 2 ^ 16
  if 2 ^ 15 ≤ d then 0 else d

/-- The lane's frames are paced by credits. -/
def State.credited (s : State) (n : Nat) : Bool :=
  s.rb (Reg.HL_CFG n) 46 && decide (2 ≤ s.rf (Reg.HL_STAT n) 35 32)

/-- A lane's transmitter can take a frame: RUN, awake, its partner's receiver awake (R296, R303), and HLT on PLL_HL (R330). -/
def State.laneReady (s : State) (n : Nat) : Bool :=
  decide (s.rf (Reg.HL_STAT n) 47 44 = 5) && !s.rb (Reg.HL_STAT n) 39 && !s.rb (Reg.HL_STAT n) 36 && !(s.lane n).sleepTx && !(s.lane n).txHold
    && !(s.lane n).clkWait && s.rb Reg.CLK_ACTIVE 8

/-- Cell reads in flight: each frame that is being sent has one, as its cells are read one after another (DESIGN CHOICE, log entry 153). -/
def State.cellReads (s : State) : Nat := ((List.range 112).filter (fun e => match s.cur e with
  | some c => !c.mgmt
  | none => false)).length

/-- The egress's transmitter can take a frame now. Under PLCA a 10BASE-T1S port waits for its transmit opportunity, else for the gap and the
backoff of CSMA/CD (R65); a roving link for its own slot (R271); no start exceeds 1,024 cell reads in flight (R25). -/
def State.txReady (s : State) (e : Nat) : Bool :=
  s.tmOn && (s.cur e).isNone && decide (s.cellReads < 1024) &&
  (if isLine e then
    s.quadOn e && (decide (s.pst e = stUp) && !s.rb (Reg.PORT_PCSSTAT e) 3 && !(s.port e).txWaking &&
        (if s.pmode e = 1 then (if s.plcaLive e then s.plcaOwn e else decide ((s.port e).csUntil ≤ s.now)) else true)
      || decide (s.pst e = stRoving ∧ s.rphase e = 3) && (s.port e).rov.slot && !(s.port e).rov.window)
  else
    s.laneReady (e - 96))

/-- What the gate says of a queue now: closed, or open with the close its guard reaches. -/
inductive GateTest where
  | shut
  | start
  | guarded (close : Nat)
deriving DecidableEq, Repr

/-- The gate of queue q (R276); bypassed in ROVING (R179). -/
def State.gateTest (s : State) (e q : Nat) : GateTest :=
  if isLine e ∧ s.pst e = stRoving then .start
  else
    match s.gateState e q s.ns with
    | none => .shut
    | some none => .start
    | some (some (close, guard)) => if s.ns + guard < close then .start else .guarded close

/-- A queue's standing at this tick, its gate aside: 0 not eligible, else its class. Queue 7 alone in ROVING. -/
def State.qClass (s : State) (e q : Nat) : Nat :=
  match s.queue e q with
  | [] => 0
  | x :: _ =>
    if isLine e ∧ s.pst e = stRoving then (if q = 7 then 2 else 0)
    else if !(isLine e) ∧ s.credited (e - 96) ∧ s.credAvail (e - 96) q < creditUnits (s.frameLen x.fid) then 0
    else s.shClass e q

/-- The order of eligible queues: class, then number. -/
def rank (cls q : Nat) : Nat := if cls = 0 then 0 else 8 * cls + q + 1

/-- The queue that starts: the best-ranked whose gate admits it. -/
def State.best (s : State) (e : Nat) : Nat :=
  (List.range 8).foldl (fun b q => if s.gateTest e q = .start then max b (rank (s.qClass e q) q) else b) 0

/-- Windows that have closed since their guard held a head frame back count in TM_EGUARD (R276). -/
def State.closeHeld (s : State) (e : Nat) : State :=
  forAll (fun t q =>
    let h := Tab.get (fun _ => 0) t.tm.held (8 * e + q)
    if h ≠ 0 ∧ h ≤ t.ns + 1 then
      ({ t with tm := { t.tm with held := Tab.set (fun _ => 0) t.tm.held (8 * e + q) 0 } } : State).bump (Reg.TM_EGUARD e)
    else t) (List.range 8) s

/-- Mark the queues that only their guard holds back at this tick. -/
def State.markHeld (s : State) (e : Nat) : State :=
  let b := s.best e
  forAll (fun t q =>
    match s.gateTest e q with
    | .guarded close =>
      if b < rank (s.qClass e q) q then { t with tm := { t.tm with held := Tab.set (fun _ => 0) t.tm.held (8 * e + q) (close + 1) } } else t
    | _ => t) (List.range 8) s

/-- Head frames that wait for credit count once each (R301). -/
def State.markCredit (s : State) (e : Nat) : State :=
  if isLine e ∨ s.credited (e - 96) = false then s
  else
    forAll (fun t q =>
      match t.queue e q with
      | [] => t
      | x :: rest =>
        if x.waited = false ∧ t.credAvail (e - 96) q < creditUnits (t.frameLen x.fid) ∧ t.gateTest e q = .start ∧ t.shClass e q ≠ 0 then
          (t.setQueue e q ({ x with waited := true } :: rest)).bump (Reg.HL_CREDWAIT (e - 96))
        else t) (List.range 8) s

/-- A cell of a stored frame was lost with its bank (R281). -/
def State.cellLost (s : State) (fid : Nat) : Bool :=
  match s.frame fid with
  | some f => f.cells.any (fun c => decide (allCells ≤ c) || decide (s.gate (36 + c / 32768) = .absent))
  | none => false

/-- Counters of a head frame that is discarded at dequeue instead of sent: a cell lost with its bank (R281), a spindle-channel frame
under v1 or v2 (R294), a roving frame above 2,048 bytes (R179). -/
def State.dequeueDrop (s : State) (e q fid : Nat) : List Nat :=
  match s.frame fid with
  | none => [Reg.TM_QDROPLOST e q]
  | some f =>
    if s.cellLost fid then [Reg.TM_QDROPLOST e q, Reg.TM_BANKLOST]
    else if !(isLine e) ∧ f.desc.src = 114 ∧ s.rf (Reg.HL_STAT (e - 96)) 35 32 < 3 then [Reg.HL_TXVERDROP (e - 96)]
    else if isLine e ∧ s.pst e = stRoving ∧ 2048 < f.bytes.length then [Reg.PORT_ROVBIG e]
    else []

/-- The frame as it leaves. -/
def State.sentAs (s : State) (e q fid : Nat) : SentFrame :=
  match s.frame fid with
  | none => { w0 := 0, w1 := 0, bytes := [] }
  | some f =>
    if isLine e then { w0 := 0, w1 := 0, bytes := f.bytes }
    else
      let h := tagHeader f.desc q (s.rf (Reg.HL_STAT (e - 96)) 35 32)
      { w0 := h.1, w1 := h.2, bytes := f.bytes }

/-- The head frame of a queue starts. -/
def State.startTx (s : State) (e q fid : Nat) : State :=
  let len := s.frameLen fid
  let s1 := if isLine e ∧ s.pst e = stRoving then s else s.shDebit e q len
  let at_ := match s1.queue e q with
    | x :: _ => x.at_
    | [] => 0
  let s2 := (s1.setQueue e q ((s1.queue e q).drop 1)).setCur e (some { q := q, fid := fid, at_ := at_ })
  let s3 := s2.setSent e (some (s.sentAs e q fid))
  if !(isLine e) ∧ s.credited (e - 96) then
    s3.setRf (Reg.HL_CRED (e - 96) q) 31 16 (s.rf (Reg.HL_CRED (e - 96) q) 31 16 + creditUnits len)
  else s3

/-- The first bank of a frame that is not on: the cell read wakes it (R342). -/
def State.bankToWake (s : State) (fid : Nat) : Option Nat :=
  match s.frame fid with
  | none => none
  | some f => (f.cells.map (· / 32768)).find? (fun b => !(s.domOn (36 + b)))

/-- Select and start, discarding at dequeue what must not be sent; `fuel` bounds the discards. -/
def State.select (s : State) (e : Nat) : Nat → State
  | 0 => s
  | fuel + 1 =>
    let b := s.best e
    if b = 0 then s
    else
      let q := (b - 1) % 8
      match s.queue e q with
      | [] => s
      | x :: rest =>
        if s.linkFails x.fid then State.select (((s.setQueue e q rest).linkEvent x.fid).dropCopy x.fid) e fuel
        else match s.dequeueDrop e q x.fid with
        | [] =>
          match s.bankToWake x.fid with
          | some b => s.wakeOnDemand (36 + b)
          | none => s.startTx e q x.fid
        | cnts => State.select (forAll State.bump cnts ((s.setQueue e q rest).dropCopy x.fid)) e fuel

/-- Frames queued at an egress. -/
def State.queued (s : State) (e : Nat) : Nat := (List.range 8).foldl (fun n q => n + (s.queue e q).length) 0

/-- A management reply starts on HL0, ahead of any queued frame (R50, R291; DESIGN CHOICE, log entry 27). -/
def State.sendMgmt (s : State) (bs : List Byte) (rest : List (List Byte)) : State :=
  let h := tagHeader { src := 112, tsValid := false, len := bs.length } 0 (s.rf (Reg.HL_STAT 0) 35 32)
  ((s.updLane 0 (fun x => { x with mgmt := rest })).setCur 96 (some { q := 0, fid := 0, mgmt := true })).setSent 96
    (some { w0 := h.1, w1 := h.2, bytes := bs })

/-- TX_SELECT (R271). -/
def execTxSelect (e : EgrNo) (s : State) : Out :=
  let s1 := s.closeHeld e
  match (s1.lane 0).mgmt with
  | bs :: rest =>
    if e.val = 96 then (if s1.laneReady 0 ∧ (s1.cur 96).isNone then .next (s1.sendMgmt bs rest) else .next s1)
    else if s1.txReady e then .next (((s1.markHeld e).markCredit e).select e (s1.queued e + 1)) else .next s1
  | [] => if s1.txReady e then .next (((s1.markHeld e).markCredit e).select e (s1.queued e + 1)) else .next s1

/-- Source identity of a stored frame. -/
def State.srcOf (s : State) (fid : Nat) : Nat :=
  match s.frame fid with
  | some f => f.desc.src
  | none => 127

/-- A lane has sent a frame whole: its code groups (R288), and HL_TXFRM. -/
def State.laneSent (s : State) (n : Nat) : State :=
  let s1 := s.bump (Reg.HL_TXFRM n)
  match s.lastSent (96 + n) with
  | some f => s1.updLane n (fun x => { x with code := lineCode (frameSyms f.w0 f.w1 f.bytes true) })
  | none => s1

/-- FRAME_TX_DONE (R417): the frame's last byte left; a hank frame also counts in DST_EXPFRM (R318). -/
def execFrameTxDone (e : EgrNo) (s : State) : Out :=
  match s.cur e with
  | none => .next s
  | some c =>
    if c.mgmt then .next ((s.setCur e none).laneSent (e.val - 96))
    else
      let len := s.frameLen c.fid
      let s2 := ((((s.setCur e none).txOver e c.q).dropCopy c.fid).bump (Reg.TM_QDEQ e c.q)).addCnt (Reg.TM_QBYTES e c.q) len
      if isLine e then
        let s3 := s2.bump (Reg.PORT_TXFRM e)
        let s3 := if s.pmode e = 1 ∧ s.plcaLive e = false then (s3.csmaFree e).updPort e (fun x => { x with csTries := 0 }) else s3
        let s4 := if s.plcaOwn e then (s3.setRb (Reg.PORT_PLCASEEN e) (s.plcaId e % 32) true).plcaSent e else s3
        .next (if s.pst e = stRoving then s4.bump (Reg.PORT_ROVTXFRM e) else s4)
      else
        let s3 := s2.laneSent (e.val - 96)
        .next (if s.srcOf c.fid = 113 then s3.bump Reg.DST_EXPFRM else s3)

/-! ## Gates -/

/-- GATE_ENTRY_ADVANCE (R275, R276): what holds at the tick follows from the list; windows that closed are counted. -/
def execGateEntryAdvance (e : EgrNo) (s : State) : Out := .next (s.closeHeld e)

/-- GCL_SWAP (R278): shapers that stop with their gate are brought up to the swap first. -/
def execGclSwap (e : EgrNo) (s : State) : Out :=
  if s.glPending e then .next ((s.shGates e).glDoSwap e) else .next s

/-- SG_SWAP (R278). Instance 0 does not exist. -/
def execSgSwap (i : Fin 64) (s : State) : Out := if i.val = 0 then .next s else .next (s.glDoSwap (112 + i))

/-! ## Samples (R279, R280) -/

/-- The bin of a value in units of U. -/
def histBin (v u : Nat) : Nat := ((List.range 15).filter (fun k => decide (u * 2 ^ k ≤ v))).length

/-- QUEUE_SAMPLE. -/
def execQueueSample (e : EgrNo) (q : Fin 8) (s : State) : Out :=
  if s.tmOn then
    let w := s.reg (Reg.TM_QSAMPLE e q)
    let depth := s.depth e q
    let delay := match s.queue e q with
      | [] => 0
      | x :: _ => s.ns - x.at_
    let s1 := ((s.bump (Reg.TM_QSAMPLES e q)).bump (Reg.TM_QHISTD e q (histBin depth (2 ^ fld w 27 24)))).bump
      (Reg.TM_QHISTL e q (histBin delay (8 * 2 ^ fld w 31 28)))
    let s2 := (s1.setRf (Reg.TM_QMAXDEPTH e q) 41 24 (max depth (s.rf (Reg.TM_QMAXDEPTH e q) 41 24))).setReg (Reg.TM_QMAXDLY e q)
      (BitVec.ofNat 48 (max delay (s.reg (Reg.TM_QMAXDLY e q)).toNat))
    let m := Tab.get (fun _ => ({} : Sampling)) s.tm.smp (8 * e + q)
    let m1 : Sampling := { n := m.n + 1, depth := max m.depth depth, delay := max m.delay delay }
    let put := fun (t : State) (v : Sampling) => ({ t with tm := { t.tm with smp := Tab.set (fun _ => {}) t.tm.smp (8 * e + q) v } } : State)
    if fld w 47 32 ≤ m1.n then
      .next (put ((s2.setRf (Reg.TM_QMAXDEPTH e q) 17 0 m1.depth).setReg (Reg.TM_QWINDLY e q) (BitVec.ofNat 48 m1.delay)) {})
    else .next (put s2 m1)
  else .next s

/-! ## Low-power idle (R152) -/

/-- With GATEWAKE = 1 the queue's frames wait only behind a closed gate, not behind its shaper too, and the gate opens more than Tw + 2 µs and `more` ns
from now. -/
def State.gateWaits (s : State) (p q more : Nat) : Bool :=
  s.rb (Reg.PORT_LPICFG p) 16 && !(s.gateOpen p q s.ns) && decide (s.shClass p q ≠ 0) &&
    (match s.nextOpen p q s.ns with
     | none => true
     | some d => decide (more + Config.lpiWakeNs (s.pmode p) + 2000 < d))

/-- A queue does not keep its egress busy: empty, or behind a gate that opens late enough. -/
def State.queueIdle (s : State) (p q : Nat) : Bool :=
  (s.queue p q).isEmpty || s.gateWaits p q (s.rf (Reg.PORT_LPICFG p) 15 0 * 1000)

/-- LPI_TX_REQUEST (R151, R152): the egress has been idle for IDLE µs. -/
def execLpiTxRequest (p : PortNo) (s : State) : Out :=
  if s.pst p = stUp ∧ (s.port p).resEee ∧ hasOam (s.pmode p) ∧ s.rb (Reg.PORT_PCSSTAT p) 3 = false ∧ (s.port p).txWaking = false ∧
      (s.cur p).isNone ∧ (List.range 8).all (s.queueIdle p) then
    .next ((s.lpiBits p true (s.rb (Reg.PORT_PCSSTAT p) 4)).bump (Reg.PORT_LPITXCNT p))
  else .next s

/-- The egress asks for the end of transmit low-power idle: a queue holds a frame, and under GATEWAKE = 1 its gate opens within Tw + 2 µs, or it waits for
more than its gate. -/
def State.lpiWakeDue (s : State) (p : Nat) : Bool := (List.range 8).any (fun q => !((s.queue p q).isEmpty || s.gateWaits p q 0))

/-- LPI_TX_WAKE (R152): the port stops sending low-power idle and starts to wake. -/
def execLpiTxWake (p : PortNo) (s : State) : Out :=
  if s.pst p = stUp ∧ s.rb (Reg.PORT_PCSSTAT p) 3 ∧ s.lpiWakeDue p then .next (s.leaveLpi p) else .next s

end Sys2Proof.Machine
end

