-- ==== Sys2Proof/Machine/Lanes.lean ====
section
/-! DEFINITION. Meanings of the Plylink host lanes: bring-up, ordered sets, credits, loss, sleep (R295–R306). -/

namespace Sys2Proof.Machine

/-- HL_STAT.STATE codes (R296). -/
abbrev laOff := 0
abbrev laSearch := 1
abbrev laExchange := 2
abbrev laStep := 3
abbrev laRealign := 4
abbrev laRun := 5
abbrev laNover := 6
abbrev laLost := 7

def State.lst (s : State) (n : Nat) : Nat := s.rf (Reg.HL_STAT n) 47 44
def State.setLst (s : State) (n v : Nat) : State := s.setRf (Reg.HL_STAT n) 47 44 v
def State.laneOn (s : State) (n : Nat) : Bool := s.domOn (44 + n / 4)
def State.aligned (s : State) (n : Nat) : Bool := s.rb (Reg.HL_STAT n) 43
def State.setAligned (s : State) (n : Nat) (b : Bool) : State := s.setRb (Reg.HL_STAT n) 43 b

/-- Egress of a lane. -/
def laneEgr (n : Nat) : Nat := 96 + n

/-- A frame being sent is cut short, and counts in HL_TXABORT and, as one cut part-way, in TM_QDROPLOST (R305, R417). -/
def State.stopTx (s : State) (n : Nat) : State :=
  if (s.cur (laneEgr n)).isSome then (s.cutTx (laneEgr n)).bump (Reg.HL_TXABORT n) else s

/-- A frame being sent is ended with K30.7 (R305), behind as many of its bytes as had left: time decides how many, a free value (log entry 67). -/
def State.abortTx (s : State) (n : Nat) : State :=
  match s.cur (laneEgr n), s.lastSent (laneEgr n) with
  | some _, some f =>
    let d := s.drawNat 14
    let bs := f.bytes.take (d.1 % (f.bytes.length + 1))
    ((d.2.stopTx n).setSent (laneEgr n) (some { f with bytes := bs, bad := true })).updLane n (fun x => { x with
      code := lineCode (frameSyms f.w0 f.w1 bs false) })
  | _, _ => s.stopTx n

/-- The exchange starts afresh. -/
def Lane.fresh (x : Lane) : Lane := { x with good := 0, goSent := 0, goSeen := false, rate := 0, ver := 0 }

/-- Bring-up from SEARCH at 1.25 GBd (R299); a transmitter that still waits for its clock and a change of BUSEQ stays quiet (R305, R332). -/
def State.bringUp (s : State) (n : Nat) : State :=
  ((((s.abortTx n).updLane n Lane.fresh).setLst n laSearch).setAligned n false).setRf (Reg.HL_STAT n) 30 28 0

/-- A restart of bring-up, counted. -/
def State.restartBu (s : State) (n : Nat) : State := (s.bringUp n).bump (Reg.HL_BRINGUP n)

/-- The lane goes OFF (R296, R303, R305): by EN = 0 or isolation. -/
def State.laneOff (s : State) (n : Nat) : State :=
  let s1 := ((s.abortTx n).updLane n (fun x => { x.fresh with sleepTx := false, txSets := 0, rxSets := 0, txHold := false }))
  let s2 := (s1.setReg (Reg.HL_STAT n) (s1.reg (Reg.HL_STAT n) &&& 0x000F0FFF0000#48)).setRb (Reg.HL_STAT n) 39 (s.lane n).clkWait
  (s2.setRb (Reg.HL_CTL n) 9 false).setRb (Reg.HL_CTL n) 8 false

/-- Alignment is lost: RUN becomes LOST, EXCHANGE searches again (R297, R302). -/
def State.unalign (s : State) (n : Nat) : State :=
  let s1 := s.setAligned n false
  if s.lst n = laRun then s1.setLst n laLost
  else if s.lst n = laExchange then (s1.setLst n laSearch).updLane n Lane.fresh
  else s1

/-- This lane's receive direction sleeps (R302). -/
def State.rxSleeps (s : State) (n : Nat) : Bool := s.rb (Reg.HL_STAT n) 37 || s.rb (Reg.HL_CTL n) 9

/-- LOS (bit 41) or LOL (bit 40) rises. -/
def State.laneLoss (s : State) (n bit cnt info : Nat) : State :=
  if s.lst n = laOff ∨ s.rb (Reg.HL_STAT n) bit then s
  else
    let s1 := ((s.setRb (Reg.HL_STAT n) bit true).bump cnt).unalign n
    if s.lst n = laRun ∧ s.rxSleeps n = false then s1.raise (0x070 + n) 0x0D info else s1

/-! ## Agreement (R298, R300) -/

/-- Versions and highest rate the device advertises. -/
def State.ownVers (s : State) (n : Nat) : Nat := if s.boot.phase = 3 then s.rf (Reg.HL_CFG n) 10 8 else 1
def State.ownRate (s : State) (n : Nat) : Nat := if s.boot.phase = 3 then s.rf (Reg.HL_CFG n) 2 0 else 0

/-- Highest version both ends speak; 0 for none. -/
def agreeVer (a b : Nat) : Nat := ((List.range 4).filter (fun v => decide (v ≠ 0) && gateBit a (v - 1) && gateBit b (v - 1))).foldl max 0

/-- A lane that finds no common version, or different byte-5 values (R298). -/
def State.laneNover (s : State) (n : Nat) : State :=
  ((s.setLst n laNover).updLane n Lane.fresh).raise (0x070 + n) 0x0C 0

/-- A good ordered set of length k with its CRC-8 in the last byte. -/
def setGood (k : Nat) (bytes : List Byte) : Bool :=
  decide (bytes.length = k) && decide ((nth 0#8 bytes (k - 1)).toNat = crc8 (bytes.take (k - 1)) 0)

/-- Byte i, counted from 1, of an ordered set. -/
def setByte (bytes : List Byte) (i : Nat) : Nat := (nth 0#8 bytes (i - 1)).toNat

/-- A TXSLEEP notice that arrives together with LOS: the LANE_LOSS event of that moment, not yet served, is none (R306). -/
def State.sleptNotLost (s : State) (n : Nat) : State :=
  s.setFlt { s.flt with queue := s.flt.queue.filter (fun e => !decide (e.src = 0x070 + n ∧ e.code = 0x0D ∧ e.ns = s.now)) }

/-- What every good capability set brings, whatever the state: HL_PARTNER, REMALIGNED and the notices. -/
def State.capNotices (s0 : State) (n : Nat) (bytes : List Byte) : State :=
  let s := if gateBit (setByte bytes 4) 2 then s0.sleptNotLost n else s0
  let f := setByte bytes 4
  let ok := gateBit f 0
  let s1 := s.setReg (Reg.HL_PARTNER n) (BitVec.ofNat 48 (bytesVal ((bytes.drop 1).take 5)))
  let s2 := (s1.setRb (Reg.HL_STAT n) 42 ok).setRb (Reg.HL_STAT n) 37 (gateBit f 2)
  let s3 := s2.setRb (Reg.HL_STAT n) 36 (gateBit f 3 || (s.rb (Reg.HL_STAT n) 36 && !ok))
  if ok then s3.updLane n (fun x => { x with txHold := false }) else s3

/-- CAPABILITY_SET_RECEIVE (R295, R298). -/
def execCapabilitySetReceive (n : LaneNo) (bytes : List Byte) (s : State) : Out :=
  if s.lst n = laOff ∨ s.rb (Reg.HL_STAT n) 38 then .next s
  else if setGood 7 bytes = false ∨ setByte bytes 1 ≠ 1 then
    .next ((s.bump (Reg.HL_OSBAD n)).updLane n (fun x => { x with good := 0 }))
  else
    let s1 := s.capNotices n bytes
    if s.lst n = laExchange then
      let ver := agreeVer (s.ownVers n) (setByte bytes 2)
      let rate := min (s.ownRate n) (setByte bytes 3 % 8)
      let f := setByte bytes 4
      if ver = 0 then .next (s1.laneNover n)
      else if gateBit f 1 ∧ setByte bytes 5 ≠ rate * 16 + ver then .next (s1.laneNover n)
      else
        let good := if gateBit f 0 then (s.lane n).good + 1 else 0
        let agreed := decide (3 ≤ good) || decide ((s.lane n).ver ≠ 0)
        let s2 := s1.updLane n (fun x => { x with
          good := good, goSeen := x.goSeen || gateBit f 1
          ver := if agreed then ver else x.ver, rate := if agreed then rate else x.rate })
        .next (if agreed then s2.setRf (Reg.HL_STAT n) 35 32 ver else s2)
    else .next s1

/-- A transmitter that sends: the lane is not OFF, quiet or without its clock, HLT on PLL_HL (R305, R330). -/
def State.laneSends (s : State) (n : Nat) : Bool :=
  decide (s.lst n ≠ laOff) && !s.rb (Reg.HL_STAT n) 39 && !(s.lane n).clkWait && s.rb Reg.CLK_ACTIVE 8

/-- Bytes of the capability set the lane sends now. -/
def State.capSet (s : State) (n : Nat) : List Byte :=
  let x := s.lane n
  let go := decide (x.ver ≠ 0)
  let b := [0x01#8, BitVec.ofNat 8 (s.ownVers n), BitVec.ofNat 8 (s.rf (Reg.HL_STAT n) 30 28 * 16 + s.ownRate n),
    BitVec.ofNat 8 (bnat (s.aligned n) + 2 * bnat go + 4 * bnat (s.rb (Reg.HL_CTL n) 8) + 8 * bnat (s.rb (Reg.HL_CTL n) 9)),
    BitVec.ofNat 8 (if go then x.rate * 16 + x.ver else 0), 0#8]
  b ++ [BitVec.ofNat 8 (crc8 b 0)]

/-- An ordered set leaves, between frames (R289). -/
def State.sendSet (s : State) (n : Nat) (bs : List Byte) : State :=
  s.updLane n (fun x => { x with setOut := bs, code := lineCode (setSyms false bs) })

/-- The receiver powers down (R303): it is no longer aligned. -/
def State.rxPowerDown (s : State) (n : Nat) : State :=
  ((s.setRb (Reg.HL_STAT n) 38 true).setAligned n false).updLane n (fun y => { y with rxSets := 0 })

/-- A set with a sleep notice has been sent: after the eighth the transmitter goes quiet, or the receiver powers down (R303). A transmitter that goes
quiet can give no more RXSLEEP notices: the receiver powers down with it (DESIGN CHOICE, log entry 161). -/
def State.noticeSent (s : State) (n : Nat) : State :=
  let x := s.lane n
  let s1 := if x.txSets = 0 then s
    else if x.txSets = 1 then (s.setRb (Reg.HL_STAT n) 39 true).updLane n (fun y => { y with txSets := 0, sleepTx := false })
    else s.updLane n (fun y => { y with txSets := y.txSets - 1 })
  if x.rxSets = 0 then s1
  else if x.rxSets = 1 ∨ x.txSets = 1 then s1.rxPowerDown n
  else s1.updLane n (fun y => { y with rxSets := y.rxSets - 1 })

/-- CAPABILITY_SET_SEND (R295, R298, R303). -/
def execCapabilitySetSend (n : LaneNo) (s : State) : Out :=
  if s.laneSends n ∧ (s.cur (laneEgr n)).isNone then
    .next (((s.sendSet n (s.capSet n)).updLane n (fun x => { x with goSent := if x.ver ≠ 0 then x.goSent + 1 else 0 })).noticeSent n)
  else .next s

/-- A credit set's new GRANTED of queue q; a frame that starts on this tick is judged on the one before (R306). -/
def State.grant (s : State) (n q v : Nat) : State :=
  let was := (s.lane n).credWas
  let now := if was.any (fun y => decide (y.1 = q ∧ y.2.2 = s.tick)) then was
    else (q, s.rf (Reg.HL_CRED n q) 47 32, s.tick) :: was.filter (fun y => !decide (y.1 = q))
  (s.updLane n (fun x => { x with credWas := now })).setRf (Reg.HL_CRED n q) 47 32 v

/-- CREDIT_SET_RECEIVE (R295, R301). -/
def execCreditSetReceive (n : LaneNo) (bytes : List Byte) (s : State) : Out :=
  if s.lst n = laOff ∨ s.rb (Reg.HL_STAT n) 38 then .next s
  else if setGood 7 bytes = false ∨ s.rf (Reg.HL_STAT n) 35 32 < 2 then .next (s.bump (Reg.HL_OSBAD n))
  else
    .next ((s.grant n (setByte bytes 1 % 8) (bytesVal ((bytes.drop 1).take 2))).grant n (setByte bytes 4 % 8) (bytesVal ((bytes.drop 4).take 2)))

/-- TIME_ORDERED_SET_SEND (R295). -/
def execTimeOrderedSetSend (n : LaneNo) (s : State) : Out :=
  if s.lst n = laRun ∧ s.laneSends n ∧ s.rf (Reg.HL_STAT n) 35 32 = 3 ∧ s.rb (Reg.HL_CFG n) 45 ∧ (s.cur (laneEgr n)).isNone then
    let b := 0x02#8 :: (valBytes 6 (timeSec s.time) ++ valBytes 6 (s.time.toNat % 2 ^ 48) ++ [0#8])
    .next (s.sendSet n (b ++ [BitVec.ofNat 8 (crc8 b 0)]))
  else .next s

/-! ## Bring-up -/

/-- The supervisor runs the search: with AUTOBU, and on HL0 while it carries management (R53, R297). -/
def State.supSearch (s : State) (n : Nat) : Bool :=
  decide (2 ≤ s.boot.phase) && (s.rb (Reg.HL_CFG n) 47 || (decide (n = 0) && s.rb Reg.ID_MGMTPATH 0))

/-- SLIPSEQ and SLIPDONE advance by k slips. -/
def State.slipBy (s : State) (n k : Nat) : State :=
  let v := (s.rf (Reg.HL_CTL n) 23 20 + k) % 16
  ((s.setRf (Reg.HL_CTL n) 23 20 v).setRf (Reg.HL_STAT n) 23 20 v).updLane n (fun x => { x with off := (x.off + 10 - k % 10) % 10 })

/-- Queue credits start at zero at the entry to RUN (R301). -/
def State.enterRun (s : State) (n : Nat) : State :=
  forAll (fun t q => t.setReg (Reg.HL_CRED n q) 0) (List.range 8) ((s.setLst n laRun).updLane n (fun x => { x with credWas := [] }))

/-- The receiver is aligned: SEARCH goes on to EXCHANGE, a lost lane back to RUN (R302). -/
def State.alignUp (s : State) (n : Nat) : State :=
  let st := s.lst n
  if st = laSearch then ((s.setAligned n true).setLst n laExchange).updLane n Lane.fresh
  else if st = laRealign ∨ st = laNover then s.setAligned n true
  else if st = laLost ∧ s.rb (Reg.HL_STAT n) 41 = false ∧ s.rb (Reg.HL_STAT n) 40 = false ∧ (s.lane n).clkWait = false ∧ s.rb Reg.CLK_ACTIVE 8 then
    (s.setAligned n true).enterRun n
  else s

/-- HL_ALIGN (R297): the word boundary stands right, after the slips that the supervisor's search makes where it runs it; a powered-down receiver
aligns to nothing (R303). -/
def execHlAlign (n : LaneNo) (s : State) : Out :=
  if s.lst n = laOff ∨ s.rb (Reg.HL_STAT n) 38 then .next s
  else if (s.lane n).off = 0 then .next (s.alignUp n)
  else if s.supSearch n then .next ((s.slipBy n (s.lane n).off).alignUp n)
  else .next s

/-- HL_ALIGN_LOSS (R297): 4 code errors within 256 symbols, outside a frame each counted in HL_CODEERR (R288). -/
def execHlAlignLoss (n : LaneNo) (s : State) : Out :=
  if s.aligned n then .next ((s.unalign n).addCnt (Reg.HL_CODEERR n) 4) else .next s

/-- HL_STEP (R298): 16 sets with GO sent and a matching GO received. 1.25 GBd keeps its alignment and passes straight to REALIGN. -/
def execHlStep (n : LaneNo) (s : State) : Out :=
  let x := s.lane n
  if s.lst n = laExchange ∧ x.ver ≠ 0 ∧ 16 ≤ x.goSent ∧ x.goSeen then
    if x.rate = 0 then .next (s.setLst n laRealign)
    else .next (((s.setLst n laStep).setAligned n false).setRf (Reg.HL_STAT n) 30 28 x.rate)
  else .next s

/-- HL_RX_LOCK (R297, R298): the receiver locks; in STEP the lane enters REALIGN. The word boundary stands anywhere: a free value (log entry 180). -/
def execHlRxLock (n : LaneNo) (s : State) : Out :=
  if s.lst n = laOff then .next s
  else
    let d := s.drawFree
    let s1 := ((d.2.setRb (Reg.HL_STAT n) 41 false).setRb (Reg.HL_STAT n) 40 false).updLane n (fun x => { x with off := d.1.toNat % 10 })
    .next (if s.lst n = laStep then (s1.setLst n laRealign).setAligned n false else s1)

/-- HL_RUN (R299, R301), its transmitter with its clock (R305, R330). -/
def execHlRun (n : LaneNo) (s : State) : Out :=
  if s.lst n = laRealign ∧ s.aligned n ∧ s.rb (Reg.HL_STAT n) 42 ∧ s.rf (Reg.HL_PARTNER n) 31 28 = s.rf (Reg.HL_STAT n) 30 28 ∧
      (s.lane n).clkWait = false ∧ s.rb Reg.CLK_ACTIVE 8 then .next (s.enterRun n)
  else .next s

/-- HL_LOS (R302). -/
def execHlLos (n : LaneNo) (s : State) : Out := .next (s.laneLoss n 41 (Reg.HL_LOSCNT n) 1)
/-- HL_LOL (R302). -/
def execHlLol (n : LaneNo) (s : State) : Out := .next (s.laneLoss n 40 (Reg.HL_LOLCNT n) 2)

/-- HL_REBU_EXPIRE (R302): no recovery within REBU ms. A lane whose clock has failed waits for it (R305). -/
def execHlRebuExpire (n : LaneNo) (s : State) : Out :=
  if s.lst n = laLost ∧ (s.lane n).clkWait = false then .next (s.restartBu n) else .next s

/-- HL_TX_ABORT (R305). -/
def execHlTxAbort (n : LaneNo) (s : State) : Out := .next (s.abortTx n)

/-- The lanes' clock fails (R305, R332): every transmitter goes quiet at once, one of a lane that is OFF too; a frame being sent is cut and counted in
both counters, and the lane waits for its clock and a change of BUSEQ. -/
def State.lanesClockFail (s : State) : State :=
  forAll (fun t n =>
    if t.laneOn n then
      let t1 := if t.lst n ≠ laOff then (t.stopTx n).setLst n laLost else t
      (t1.setRb (Reg.HL_STAT n) 39 true).updLane n (fun x => { x.fresh with clkWait := true, sleepTx := false, txSets := 0 })
    else t) (List.range 16) s

/-! ## Transmit levels (R287) -/

/-- Swing in mV peak-to-peak differential, and de-emphasis in tenths of a dB. -/
def State.hlSwing (s : State) (n : Nat) : Nat := 600 + 50 * s.rf (Reg.HL_TXCFG n) 11 8
def State.hlDeemph (s : State) (n : Nat) : Nat := 5 * s.rf (Reg.HL_TXCFG n) 3 0

/-! ## Received code groups (R288) -/

/-- The symbol that a code group spells at a running disparity, and the disparity after it; none for a code violation, a disparity error or a control
symbol that the table of R288 does not hold. -/
def decode10 (g : BitVec 10) (pos : Bool) : Option (Bool × Byte × Bool) :=
  let ks : List (Bool × Byte) := [ksym 28 5, ksym 27 7, ksym 29 7, ksym 30 7, ksym 28 3, ksym 28 1]
  let ds : List (Bool × Byte) := (List.range 256).map (fun b => (false, BitVec.ofNat 8 b))
  ((ks ++ ds).find? (fun x => decide ((code10 x.1 x.2 pos).1 = g))).map (fun x => (x.1, x.2, (code10 x.1 x.2 pos).2))

/-- Disparity after a group: that of its surplus of ones or zeros. -/
def dispAfter (g : BitVec 10) (pos : Bool) : Bool :=
  let n := onesIn 10 g.toNat
  if 5 < n then true else if n < 5 then false else pos

/-- Positions of the code errors among groups from an idle pair on. -/
def codeErrors : List (BitVec 10) → Bool → Nat → List Nat
  | [], _, _ => []
  | g :: t, pos, i =>
    match decode10 g pos with
    | some x => codeErrors t x.2.2 (i + 1)
    | none => i :: codeErrors t (dispAfter g pos) (i + 1)

/-- 4 of the errors lie within 256 symbols (R297). -/
def fourNear : List Nat → Bool
  | a :: b :: c :: d :: t => decide (d - a < 256) || fourNear (b :: c :: d :: t)
  | _ => false

/-- Code groups received outside a frame by an aligned receiver: each error counts, and 4 within 256 symbols end the alignment. -/
def State.groupsIn (s : State) (n : Nat) (gs : List (BitVec 10)) : State :=
  if gs.isEmpty ∨ s.laneOn n = false ∨ s.lst n = laOff ∨ s.rb (Reg.HL_STAT n) 38 ∨ s.aligned n = false then s
  else
    let errs := codeErrors gs true 0
    let s1 := s.addCnt (Reg.HL_CODEERR n) errs.length
    if fourNear errs then s1.unalign n else s1

/-! ## HL_CTL (R297, R299, R303, R304) -/

/-- Transmit sleep is asked for: the frame in progress finishes and 8 sets carry the notice; or it ends. -/
def State.laneTxSleep (s : State) (n : Nat) (on : Bool) : State :=
  if on then s.updLane n (fun x => { x with sleepTx := true, txSets := 8 })
  else (s.setRb (Reg.HL_STAT n) 39 false).updLane n (fun x => { x with sleepTx := false, txSets := 0, txHold := true })

/-- Receive sleep is asked for: 8 sets carry the notice, and a transmitter that sleeps itself can give none, so the receiver powers down at once
(DESIGN CHOICE, log entry 161); or it ends: power-up runs REALIGN, where the lane had passed it (R303). -/
def State.laneRxSleep (s : State) (n : Nat) (on : Bool) : State :=
  if on then (if s.laneSends n then s.updLane n (fun x => { x with rxSets := 8 }) else s.rxPowerDown n)
  else
    let s1 := (s.setRb (Reg.HL_STAT n) 38 false).updLane n (fun x => { x with rxSets := 0 })
    if s.lst n = laRun ∨ s.lst n = laLost ∨ s.lst n = laRealign then (s1.setAligned n false).setLst n laRealign else s1

/-- REASON a write that sets a sleep bit is refused with (R304); 0 for none. -/
def State.sleepRefusal (s : State) (n : Nat) : Nat :=
  if n = 0 ∧ s.rb Reg.ID_MGMTPATH 0 then 1 else if s.lst n ≠ laRun then 2 else 0

/-- A write of HL_CTL: the status and the state. -/
def State.hlCtlWrite (s : State) (n : Nat) (v : Word) : Nat × State :=
  let old := s.reg (Reg.HL_CTL n)
  let sets := (bitOf v 9 && !(bitOf old 9)) || (bitOf v 8 && !(bitOf old 8))
  if sets ∧ s.sleepRefusal n ≠ 0 then (8, s.setRf (Reg.HL_STAT n) 27 24 (s.sleepRefusal n))
  else
    let s1 := s.setReg (Reg.HL_CTL n) (v &&& 0x800000FF0300#48)
    let s2 := if fld v 23 20 ≠ fld old 23 20 then
        (let t := (s1.setRf (Reg.HL_STAT n) 23 20 (fld v 23 20)).updLane n (fun x => { x with off := (x.off + 9) % 10 })
         if s.aligned n then t.unalign n else t) else s1
    let s3 := if bitOf v 8 ≠ bitOf old 8 then s2.laneTxSleep n (bitOf v 8) else s2
    let s4 := if bitOf v 9 ≠ bitOf old 9 then s3.laneRxSleep n (bitOf v 9) else s3
    let s5 := if fld v 19 16 ≠ fld old 19 16 then
        (let t := s4.setRf (Reg.HL_STAT n) 19 16 (fld v 19 16)
         let u := if (s.lane n).clkWait ∧ s.rb Reg.CLK_ACTIVE 8 then
             (t.updLane n (fun x => { x with clkWait := false })).setRb (Reg.HL_STAT n) 39 (bitOf v 8) else t
         if s.lst n = laOff then u.bump (Reg.HL_BRINGUP n) else u.restartBu n) else s4
    let s6 := if bitOf v 47 ∧ bitOf old 47 = false ∧ (s.lane n).isolated = false then s5.bringUp n
      else if bitOf v 47 = false ∧ bitOf old 47 then s5.laneOff n else s5
    (0, s6)

end Sys2Proof.Machine
end

