-- ==== Sys2Proof/Machine/Replay.lean ====
section
/-! DEFINITION. Reading a hank, and the replay datapath of a line group as a spindle in REPLAY meets it (R225, R314, R317, R319, R320). -/

namespace Sys2Proof.Machine

/-! ## The hank as a replay reads it (R317, R319) -/

/-- The word at an index of the frozen hank; zero beyond its length (R317). -/
def State.hankWord (s : State) (k : Nat) : Word := nth 0#48 s.dst.hank k

/-- The replay that a spindle works with: the line group whose datapath runs, or has run, for it. -/
def State.replayOf (s : State) (n : Nat) : Option Nat :=
  (List.range 6).find? (fun g => decide ((s.lg g).replay.st ≠ 0 ∧ (s.lg g).replay.spn = n))

def State.updReplay (s : State) (g : Nat) (f : Replay → Replay) : State := s.updLg g (fun x => { x with replay := f x.replay })

/-- A word of the hank that line group g replays: of the distaff, or imported into the bobbin. -/
def State.repWord (s : State) (g k : Nat) : Word :=
  let x := (s.lg g).replay
  if x.src then s.bob (x.base - 0x1000000 + k) else s.hankWord k

/-- Channels, first word and words of each, checkpoints, event records of the hank. -/
def State.repCh (s : State) (g c : Nat) : Word := s.repWord g (7 + c)
def State.repFirst (s : State) (g c : Nat) : Nat := (s.repWord g (11 + c)).toNat
def State.repLen (s : State) (g c : Nat) : Nat := (s.repWord g (15 + c)).toNat
def State.repCks (s : State) (g : Nat) : Nat := (s.repWord g 19).toNat
def State.repEvs (s : State) (g : Nat) : Nat := (s.repWord g 20).toNat

/-- Event record i. -/
def State.repEv (s : State) (g i : Nat) : Word × Word :=
  let a := 32 + 1024 * s.repCks g + 2 * i
  (s.repWord g a, s.repWord g (a + 1))

/-- Word k of channel c, counted from the first that the hank holds. -/
def State.repSample (s : State) (g c k : Nat) : Word :=
  s.repWord g (32 + 1024 * s.repCks g + 2 * s.repEvs g + ((List.range c).map (s.repLen g)).sum + k)

/-- Word i of the first checkpoint of channel c; zero without one. -/
def State.repCkp (s : State) (g c i : Nat) : Word :=
  match (List.range (min 16 (s.repCks g))).find? (fun b => decide (s.repWord g (32 + 1024 * b) = BitVec.ofNat 48 c)) with
  | some b => s.repWord g (32 + 1024 * b + i)
  | none => 0

/-- The channel that recorded a stream of a port. -/
def State.repChannel (s : State) (g p stream : Nat) : Option Nat :=
  (List.range 4).find? (fun c => let w := s.repCh g c; bitOf w 47 && decide (fld w 46 40 = p ∧ fld w 39 39 = stream))

/-- Symbols of channel c that the datapath has processed, at 1/16 of real time (R319); all of them once the replay is done. -/
def State.repReached (s : State) (g c sym : Nat) : Bool :=
  let x := (s.lg g).replay
  let st := s.repCkp g c 6
  let r := if fld st 31 28 = 5 then (125, 1000) else symRate (fld st 23 20)
  decide (x.st = 2) || decide (sym * r.2 * 16 ≤ (s.now - x.at_) * r.1)

/-- The channel word that the datapath has reached. -/
def State.repPos (s : State) (g c : Nat) : Nat :=
  let st := s.repCkp g c 6
  let r := if fld st 31 28 = 5 then (125, 1000) else symRate (fld st 23 20)
  s.repFirst g c + (s.now - (s.lg g).replay.at_) * r.1 / (64 * r.2)

/-- The first enabled channel of the hank. -/
def State.repLead (s : State) (g : Nat) : Nat := ((List.range 4).find? (fun c => bitOf (s.repCh g c) 47)).getD 0

/-- The recorded time at the point that the replay has reached (R225): arm time, start of the hank, 1/16 of the time since the replay started. -/
def State.repTime (s : State) (g : Nat) : BitVec 96 :=
  let arm : BitVec 96 := s.repWord g 3 ++ s.repWord g 2
  timeAdd arm ((((s.repCkp g (s.repLead g) 3).toNat * 2 ^ 15 + (s.now - (s.lg g).replay.at_) * 2 ^ 14 : Nat)) : Int)

/-- Flags SETTLE, OVR, ERAS, LPI, MARK, TXQ of word k (from the arm) of port p: those of its last MARKS event. -/
def State.repMarks (s : State) (g p k : Nat) : Nat :=
  (List.range (min 16384 (s.repEvs g))).foldl (fun v i =>
    let e := s.repEv g i
    if fld e.1 47 42 = 8 ∧ fld e.2 47 40 = p ∧ fld e.2 39 8 ≤ k then fld e.2 5 0 else v) 0

/-- A word of the channel as a gather delivers it (R97): a packed word is put back into the form of a sample word. -/
def State.repTap (s : State) (g c k : Nat) : Word :=
  let w := s.repSample g c (k - s.repFirst g c)
  if s.repCkp g c 14 = 0 then BitVec.ofNat 48 (s.repMarks g (fld (s.repCh g c) 46 40) k / 2 * 2 ^ 43 + w.toNat / 2 ^ 8) else w

/-- Index from the arm of word j of the stream, none where the channel did not record it. -/
def State.repIndex (s : State) (g c : Nat) (j : Int) : Option Nat :=
  let b := chBlock (s.repCh g c)
  let q := chPeriod (s.repCh g c)
  let k0 := (s.repCkp g c 1).toNat
  let i : Int := ((k0 / b * q + k0 % b : Nat) : Int) + (j - (s.repCkp g c 2).toNat)
  if i < 0 ∨ b ≤ i.toNat % q then none
  else
    let k := decWord b q i.toNat
    if s.repFirst g c ≤ k ∧ k < s.repFirst g c + s.repLen g c then some k else none

/-- n words of channel c from the one that START names on: none beyond what was recorded; not yet while the datapath has not reached them. -/
inductive RepWindow where
  | absent
  | ahead
  | full (ws : List Word)
deriving DecidableEq, Repr

def State.repWindow (s : State) (g c : Nat) (j : Int) (n : Nat) : RepWindow :=
  let ks := (List.range n).map (fun (i : Nat) => s.repIndex g c (j + (i : Int)))
  let sym := ((j + (n : Int)) * 4 - (s.repCkp g c 2).toNat * 4).toNat
  if ks.any Option.isNone then .absent
  else if s.repReached g c sym then .full ((ks.filterMap id).map (s.repTap g c))
  else .ahead

/-! ## The replay datapath's own machine (R225, R319) -/

/-- The machine as the replay datapath of line group g has it: its own ports, registers and cancellers in place of the live ones. -/
def State.repState (s : State) (g : Nat) : State :=
  let x := (s.lg g).replay
  forAll (fun t c => t.updLg c.1 (fun l => { l with slots := c.2.slots, half := c.2.half, serve := c.2.serve, servIn := c.2.servIn, diff := c.2.diff }))
    x.canc { s with ports := x.ports, regs := x.regs }

/-- The live machine after the replay datapath of line group g has gone on to t: the replay's own part, the operations that it has answered, and the
free values drawn. -/
def State.repKeep (s t : State) (g : Nat) : State :=
  let canc := t.lgs.map (fun x => (x.1, ({ slots := x.2.slots, half := x.2.half, serve := x.2.serve, servIn := x.2.servIn, diff := x.2.diff } : Canc)))
  ({ s with spns := t.spns, free := t.free } : State).updReplay g (fun _ => { (t.lg g).replay with ports := t.ports, regs := t.regs, canc := canc })

/-- n differences (R320): each counts, and the first of a replay sets LG_REPFIRST. -/
def State.repDiff (s : State) (g n : Nat) (first : Nat × Nat) : State :=
  let s1 := (s.addCnt (Reg.LG_REPMIS g) n).updReplay g (fun x => { x with diffs := x.diffs + n })
  if n = 0 ∨ (s.lg g).replay.diffs ≠ 0 then s1
  else s1.setReg (Reg.LG_REPFIRST g) (BitVec.ofNat 48 (first.1 * 2 ^ 32 + first.2 % 2 ^ 32))

/-- Something happens in the replay datapath; the differences that it brings count. -/
def State.repDo (s : State) (g : Nat) (f : State → State) : State :=
  let t := s.repKeep (f (s.repState g)) g
  let l := (t.lg g).replay.found
  (t.repDiff g l.length (l.headD (0, 0))).updReplay g (fun x => { x with found := [] })

/-- In the replay datapath: a difference at a word of a channel. -/
def State.repFound (t : State) (g : Nat) (d : Nat × Nat) : State := t.updReplay g (fun x => { x with found := x.found ++ [d] })

/-! ## What it loads (R314, R319) -/

/-- Channel c records its port raw: KIND 00. -/
def State.repKind0 (s : State) (g c : Nat) : Bool := bitOf (s.repCh g c) 47 && decide (s.repCkp g c 14 = 0 ∧ 32 ≤ s.repCks g * 1024)

/-- Channels whose port the datapath reproduces, each port once: recorded at KIND 00, every word; 25GBASE-T1 in LG5 alone (R319). -/
def State.repRuns (s : State) (g c : Nat) : Bool :=
  s.repKind0 g c && decide (fld (s.repCh g c) 38 36 = 0) && (decide (g = 5) || decide (fld (s.repCkp g c 6) 23 20 ≠ 7))
def State.repPorts (s : State) (g : Nat) : List (Nat × Nat) :=
  ((List.range 4).filter (fun c => s.repRuns g c &&
    (List.range c).all (fun b => !(s.repRuns g b) || decide (fld (s.repCh g b) 46 40 ≠ fld (s.repCh g c) 46 40)))).map
    (fun c => (fld (s.repCh g c) 46 40, c))

/-- First symbol of a channel's checkpoint. -/
def State.repSym0 (s : State) (g c : Nat) : Nat := (s.repCkp g c 4).toNat + 2 ^ 48 * (s.repCkp g c 5).toNat

/-- Port p from the first checkpoint of channel c (R314, in the layout of log entry 154); what the checkpoint does not hold is as on the live port. -/
def State.repPort (s : State) (g c p : Nat) : Port :=
  let k := fun i => s.repCkp g c i
  let iv := fun i => signed 48 (k i).toNat
  let n := s.repSym0 g c
  let syms := (List.range 7).foldl (fun (t : Tab Sym) i =>
    Tab.set (fun _ => {}) t ((n + 511 - i) % 512) { dec := if i < 4 then iv (17 + i) else 0, tent := if i < 4 then iv (21 + i) else 0, data := iv (25 + i) }) []
  let tx := (List.range 7).foldl (fun (t : Tab Int) i => Tab.set (fun _ => 0) t ((n + 32767 - i) % 32768) (iv (25 + i))) []
  { s.port p with
    rx := { syms := syms, got := n, tentN := n, decN := n, used := n / 4, tx := tx, phase := iv 8, freq := iv 9
            hits := (List.range (min 32 (k 980).toNat)).map (fun i => (k (981 + i)).toNat) }
    slub := { active := (k 10).getLsbD 0, blocked := (k 10).getLsbD 1, trig := (k 10).getLsbD 2, start := (k 11).toNat, last := (k 12).toNat }
    half := (List.range 596).map (fun i => (1024 * ((k 13).toNat % 2) + i, some (coefWord i (k (32 + i)))))
    halfFree := none, settleEnd := 0, tailOff := 0, mark := false }

/-- One recorded port is loaded: its registers PORT_STATE, gain and serving half, and its victim slot where it served in a skein. -/
def State.repLoadPort (s : State) (g : Nat) (t : State) (x : Nat × Nat) : State :=
  let p := x.1
  let k := fun i => s.repCkp g x.2 i
  let t1 := (((t.setPort p (s.repPort g x.2 p)).setReg (Reg.PORT_STATE p) (k 6)).setRf (Reg.PORT_COEFSTAT p) 3 3 ((k 13).toNat % 2)).setRf
    (Reg.PORT_AFE p) 5 0 ((k 7).toNat % 64)
  match t.skeinOf (lgOf p) (localOf p), (k 15).getLsbD 0 with
  | some sk, true =>
    let lo := slotKey (t.skHalf (lgOf p) sk) (localOf p) 0
    t1.updLg (lgOf p) (fun l => { l with
      slots := fillTab (fun _ => 0#48) l.slots lo 339 (fun j => slotMask (j - lo) (k (640 + (j - lo))))
      serve := l.serve ||| (1#16 <<< localOf p), servIn := Tab.set (fun _ => 0) l.servIn (localOf p) sk
      diff := Tab.set (fun _ => 0) l.diff (localOf p) (k 16).toNat })
  | _, _ => t1.updLg (lgOf p) (fun l => { l with serve := l.serve &&& ~~~(1#16 <<< localOf p) })

/-- The datapath loads the first checkpoint of each port that it reproduces (R319); its other registers start as the live ones stand (DESIGN CHOICE, log
entry 63: a checkpoint does not hold them). -/
def State.repLoad (s : State) (g : Nat) : State := s.repKeep (forAll (fun t x => s.repLoadPort g t x) (s.repPorts g) s) g

/-! ## Coefficients in replay (R225) -/

/-- Key of a target. -/
def repKey (v : Nat) : Nat := if tgtKind v = 1 then 96 + 8 * tgtGroup v + tgtSkn v else tgtPort v

/-- In the replay datapath: the halves of a target change places. -/
def State.repFlip (t : State) (v : Nat) : State :=
  if tgtKind v = 1 then t.updLg (tgtGroup v) (fun l => { l with half := l.half ^^^ (1#8 <<< tgtSkn v) })
  else
    let p := tgtPort v
    let h := 1 - t.servingHalf p
    (t.setRf (Reg.PORT_COEFSTAT p) 3 3 h).serveHalf p h (t.pmode p)

/-- Recorded swaps of a target, in order: the channel word of the first symbol under the new half. -/
def State.repSwaps (s : State) (g v : Nat) : List Nat :=
  (List.range (min 16384 (s.repEvs g))).filterMap (fun i =>
    let e := s.repEv g i
    let p := fld e.2 47 40
    if fld e.1 47 42 = 5 ∧ (if tgtKind v = 1 then bitOf e.2 1 && decide (lgOf p = tgtGroup v) else !bitOf e.2 1 && decide (p = tgtPort v)) then
      some (fld e.2 39 8)
    else none)

/-- Issue numbers of the `CSW`s of the replay spindle on a target that wait for the datapath. -/
def State.repWaiting (t : State) (g v : Nat) : List Nat :=
  let x := t.spn (t.lg g).replay.spn
  if x.replay then x.ops.filterMap (fun y => match y.2 with
    | some o => if o.kind = .cswSwap ∧ o.accepted ∧ o.done.isNone ∧ repKey o.ea = repKey v then some o.seq else none
    | none => none)
  else []

/-- In the replay datapath: a recorded swap of a target is reached. The oldest `CSW` of the replay spindle that waits for it takes effect and completes
(R319); with none it is not reproduced, a difference (R320). -/
def State.repSwapAt (t : State) (g c w v : Nat) : State :=
  let t1 := t.updReplay g (fun y => { y with swaps := Tab.set (fun _ => 0) y.swaps (repKey v) (Tab.get (fun _ => 0) y.swaps (repKey v) + 1) })
  match (t.repWaiting g v).min? with
  | some q => (t1.repFlip v).updSpn (t.lg g).replay.spn (fun y => { y with ops := y.ops.map (fun z => (z.1, z.2.map (fun o =>
      if o.seq = q then { o with done := some 0 } else o))) })
  | none => t1.repFound g (c, w)

/-! ## Running (R319, R320) -/

/-- The SWAP and GAIN events that name word w of port p take effect at its first symbol. -/
def State.repWordEvents (t : State) (g c p w : Nat) : State :=
  forAll (fun u i =>
    let e := u.repEv g i
    if fld e.2 47 40 ≠ p ∨ fld e.2 39 8 ≠ w then u
    else if fld e.1 47 42 = 6 then u.setRf (Reg.PORT_AFE p) 5 0 (fld e.2 5 0)
    else if fld e.1 47 42 = 5 then
      u.repSwapAt g c w (if bitOf e.2 1 then 2 ^ 44 + lgOf p * 2 ^ 41 + (u.skeinOf (lgOf p) (localOf p)).getD 0 * 2 ^ 38 else p * 2 ^ 37)
    else u) (List.range (min 16384 (t.repEvs g))) t

/-- The transmit symbol of a code (R310). -/
def txLevelOf (m v : Nat) : Int := if 4 ≤ m then 128 * ((v % 4 : Nat) : Int) - 192 else if m = 2 ∨ m = 3 then (if v = 1 then 64 else if v = 3 then -64 else 0) else 0

/-- The next recorded symbol of a port comes in: its raw sample, its transmit symbol and its word's flags. -/
def State.repFeed (t : State) (g p c : Nat) : State :=
  let n := (t.port p).rx.got
  let i := n - t.repSym0 g c
  let w := (t.repCkp g c 1).toNat + i / 4
  let l := i % 4
  let t1 := if l = 0 then t.repWordEvents g c p w else t
  let v := t1.repSample g c (w - t1.repFirst g c)
  let fl := t1.repMarks g p w
  let y : Sym := {
    raw := signed 10 (fld v (47 - 10 * l) (38 - 10 * l)), data := txLevelOf (t1.lineMode p) (fld v (7 - 2 * l) (6 - 2 * l))
    settle := natBit fl 5, ovr := natBit fl 4, lpi := natBit fl 2, mark := natBit fl 1, quiet := natBit fl 0, half := t1.servingHalf p }
  (t1.updSym p n (fun _ => y)).updRx p (fun z => { z with got := n + 1 })

/-- The slub detector of a replayed port; a slub that ends is compared with the recorded ones. -/
def State.repSlub (t : State) (g p c : Nat) : State :=
  let x := t.port p
  if x.slub.active ∧ x.slubLast < x.rx.decN then
    let len := x.slubLast + 1 - x.slub.start
    let w := (t.repCkp g c 1).toNat + (x.slub.start - t.repSym0 g c) / 4
    let rec_ := (List.range (min 16384 (t.repEvs g))).any (fun i => let e := t.repEv g i
      decide (fld e.1 47 42 = 4 ∧ fld e.2 47 40 = p ∧ fld e.2 39 8 = w ∧ fld (t.repEv g (i + 1)).2 11 0 = len % 4096))
    let t1 := (t.slubEnd p).updReplay g (fun y => { y with slubs := (p, w, len) :: y.slubs })
    if rec_ then t1 else t1.repFound g (c, w)
  else if x.slub.active then t else t.slubStart p

/-- Group j of four symbols of a replayed port is final: its flags against the MARKS events, its errors against the KIND 01 channels of the port; then the
loops use it. -/
def State.repGroup (t : State) (g p c j : Nat) : State :=
  let n := 4 * j
  let n0 := t.repSym0 g c
  if n < n0 then t.useGroup p j
  else
    let w := (t.repCkp g c 1).toNat + (n - n0) / 4
    let fl := 2 * t.wordFlags p n (n + 4) + bnat ((List.range 4).any (fun i => (t.sym p (n + i : Nat)).quiet))
    let was := match Tab.get (fun _ => 0) (t.lg g).replay.marks p with
      | 0 => if w = 0 then none else some (t.repMarks g p (w - 1))
      | v + 1 => some v
    let ev := ((List.range (min 16384 (t.repEvs g))).map (t.repEv g)).find? (fun e => decide (fld e.1 47 42 = 8 ∧ fld e.2 47 40 = p ∧ fld e.2 39 8 = w))
    let t1 := if (if was = some fl then none else some fl) = ev.map (fun e => fld e.2 5 0) then t else t.repFound g (c, w)
    let t2 := t1.updReplay g (fun y => { y with marks := Tab.set (fun _ => 0) y.marks p (fl + 1) })
    let t3 := forAll (fun u c' =>
      let m0 := u.repSym0 g c'
      let w' := (u.repCkp g c' 1).toNat + (n - m0) / 4
      if bitOf (u.repCh g c') 47 ∧ fld (u.repCh g c') 46 40 = p ∧ u.repCkp g c' 14 = 1 ∧ fld (u.repCh g c') 38 36 = 0 ∧ m0 ≤ n ∧ (n - m0) % 4 = 0 ∧
          w' < u.repFirst g c' + u.repLen g c' ∧
          (u.repSample g c' (w' - u.repFirst g c')).toNat % 2 ^ 40 ≠ packSamples (fun i => (u.sym p (n + i : Nat)).err) then u.repFound g (c', w')
      else u) (List.range 4) t2
    t3.useGroup p j

/-- One symbol of every port that has an i-th one due, stage by stage as on the live line (R119). -/
def State.repRound (g : Nat) (due : List (Nat × Nat × Nat)) (t : State) (i : Nat) : State :=
  let act := due.filter (fun x => decide (i < x.2.2))
  let t1 := forAll (fun u x => u.repFeed g x.1 x.2.1) act t
  let t2 := forAll (fun u x => u.cancel x.1 (u.port x.1).rx.got.pred) act (forAll (fun u x => u.send x.1 (u.port x.1).rx.got.pred) act t1)
  let t3 := forAll (fun u x => (u.concludeDue x.1).repSlub g x.1 x.2.1) act (forAll (fun u x => u.tentDue x.1) act t2)
  forAll (fun u x =>
    let r := (u.port x.1).rx
    runFrom (fun v j => v.repGroup g x.1 x.2.1 j) r.used ((r.decN - u.hold x.1) / 4 - r.used) u) act t3

/-- The recorded time, in 0.125 ns since the arm, of the first enabled channel's checkpoint. -/
def State.repStart (s : State) (g : Nat) : Nat := (s.repCkp g (s.repLead g) 3).toNat

/-- The ports take in their recorded symbols up to a recorded time. -/
def State.repTo (t : State) (g x : Nat) : State :=
  let due := (t.repPorts g).map (fun y =>
    let r := symRate (fld (t.repCkp g y.2 6) 23 20)
    let n := min ((x - t.repStart g) * r.1 / (8 * r.2)) (4 * (t.repFirst g y.2 + t.repLen g y.2 - (t.repCkp g y.2 1).toNat))
    (y.1, y.2, n - ((t.port y.1).rx.got - t.repSym0 g y.2)))
  runFrom (State.repRound g due) 0 ((due.map (fun y => y.2.2)).foldl max 0) t

/-- REGWR and STATE act on the datapath's own registers; a command and a page concern the runtime, which the replay spindle runs. -/
def State.repApply (t : State) (g i : Nat) : State :=
  let e := t.repEv g i
  let a := fld e.2 31 0
  let p := fld e.2 47 40
  if fld e.1 47 42 = 1 ∧ 0x10000 ≤ a ∧ a < 0x80000 then t.setReg a (t.repEv g (i + 1)).2
  else if fld e.1 47 42 = 7 ∧ p < 96 then
    ((t.setRf (Reg.PORT_STATE p) 47 32 (fld e.2 31 16)).setRf (Reg.PORT_STATE p) 30 28 (fld e.2 15 12)).setRf (Reg.PORT_STATE p) 23 20 (fld e.2 11 8)
  else t

/-- The datapath runs to recorded time x, applying the recorded events in TIME order; `fuel` bounds their number. -/
def State.repEvents (g x : Nat) : Nat → State → State
  | 0, t => t.repTo g x
  | fuel + 1, t =>
    let i := (t.lg g).replay.ev
    if i < min 16384 (t.repEvs g) ∧ fld (t.repEv g i).1 40 0 ≤ x then
      State.repEvents g x fuel (((t.repTo g (fld (t.repEv g i).1 40 0)).repApply g i).updReplay g (fun y => { y with ev := i + 1 }))
    else t.repTo g x

/-- A running replay goes on to where it is now, at 1/16 of real time. -/
def State.repTick (s : State) (g : Nat) : State :=
  if (s.lg g).replay.st = 1 then s.repDo g (State.repEvents g (s.repStart g + (s.now - (s.lg g).replay.at_) / 2) 16385) else s

/-- The replay runs to its end: recorded slubs that it has not met are differences too. -/
def State.repEnd (s : State) (g : Nat) : State :=
  s.repDo g (fun t0 =>
    let t := State.repEvents g (2 ^ 41) 16385 t0
    forAll (fun u i =>
      let e := u.repEv g i
      let len := fld (u.repEv g (i + 1)).2 11 0
      match (u.repPorts g).find? (fun y => decide (y.1 = fld e.2 47 40)) with
      | some y => if fld e.1 47 42 = 4 ∧ (u.lg g).replay.slubs.any (fun z => decide (z.1 = y.1 ∧ z.2.1 = fld e.2 39 8 ∧ z.2.2 % 4096 = len)) = false then
          u.repFound g (y.2, fld e.2 39 8) else u
      | none => u) (List.range (min 16384 (t.repEvs g))) t)

/-- A swap in replay, at the point that the datapath has reached: it waits for the next recorded one; with none left it is a difference (R320), and done
at once. -/
def State.repSwap (s : State) (g v : Nat) : Bool × State :=
  let m := Tab.get (fun _ => 0) (s.lg g).replay.swaps (repKey v) + (s.repWaiting g v).length
  if (s.lg g).replay.st = 1 ∧ m < (s.repSwaps g v).length then (false, s)
  else (true, s.repDo g (fun t => (t.repFlip v).repFound g (t.repLead g, t.repPos g (t.repLead g))))

/-- Every recorded port was recorded raw, all words, and is reproduced; every serving member of its skein was recorded at KIND 00 (R320). -/
def State.repAllRaw (s : State) (g : Nat) : Bool :=
  (List.range 4).all (fun c =>
    let p := fld (s.repCh g c) 46 40
    let rec_ := fun (q : Nat) (all : Bool) => (List.range 4).any (fun b => decide (fld (s.repCh g b) 46 40 = q) && (if all then s.repRuns g b else s.repKind0 g b))
    !(bitOf (s.repCh g c) 47) || (rec_ p true && (List.range 16).all (fun i => !(natBit ((s.repCkp g c 15).toNat / 2) i) || rec_ (16 * lgOf p + i) false)))

end Sys2Proof.Machine
end

