-- ==== Sys2Proof/Machine/KnotOps.lean ====
section
/-! DEFINITION. Knots: acquisition, release, broken release, epochs (R250–R252). -/

namespace Sys2Proof.Machine

/-- Owner codes of KNOT_STATEn. -/
abbrev ownerHost := 48
abbrev ownerNone := 63

def State.knotHeld (s : State) (k : Nat) : Bool := s.rb (Reg.KNOT_STATE k) 47
def State.knotBroken (s : State) (k : Nat) : Bool := s.rb (Reg.KNOT_STATE k) 46
def State.knotOwner (s : State) (k : Nat) : Nat := s.rf (Reg.KNOT_STATE k) 45 40

/-- The epoch of an owner: its cluster's, or the host's. -/
def State.epochOf (s : State) (owner : Nat) : Nat :=
  if owner = ownerHost then s.knots.hostEpoch else Tab.get (fun _ => 0) s.knots.epochs (owner / 8)

/-- A cluster's or the host's epoch counts, modulo 256. -/
def State.bumpEpoch (s : State) (c : Nat) : State :=
  { s with knots := { s.knots with epochs := Tab.set (fun _ => 0) s.knots.epochs c ((Tab.get (fun _ => 0) s.knots.epochs c + 1) % 256) } }

def State.bumpHostEpoch (s : State) : State :=
  { s with knots := { s.knots with hostEpoch := (s.knots.hostEpoch + 1) % 256 } }

/-- Waiting LCK requests, (spindle, tag), oldest first. -/
def State.waiters (s : State) (k : Nat) : List (Nat × Nat) := Tab.get (fun _ => []) s.knots.waiters k
def State.setWaiters (s : State) (k : Nat) (l : List (Nat × Nat)) : State :=
  { s with knots := { s.knots with waiters := Tab.set (fun _ => []) s.knots.waiters k l } }

/-- End of the host's lease on a knot, in ns of the model's clock. -/
def State.leaseEnd (s : State) (k : Nat) : Nat := Tab.get (fun _ => 0) s.knots.leaseEnd k
def State.setLeaseEnd (s : State) (k t : Nat) : State :=
  { s with knots := { s.knots with leaseEnd := Tab.set (fun _ => 0) s.knots.leaseEnd k t } }

/-- The knot is acquired: HELD, OWNER, and the owner's epoch; BROKEN stays until the next normal release. -/
def State.takeKnot (s : State) (k owner : Nat) : State :=
  s.setReg (Reg.KNOT_STATE k) (BitVec.ofNat 48 (2 ^ 47 + bnat (s.knotBroken k) * 2 ^ 46 + owner * 2 ^ 40 + s.epochOf owner * 2 ^ 32))

/-- A normal release. -/
def State.freeKnot (s : State) (k : Nat) : State :=
  (s.setReg (Reg.KNOT_STATE k) (BitVec.ofNat 48 (ownerNone * 2 ^ 40))).setLeaseEnd k 0

/-- A broken release (R250). -/
def State.breakKnot (s : State) (k : Nat) : State :=
  let o := s.knotOwner k
  (((s.setReg (Reg.KNOT_STATE k) (BitVec.ofNat 48 (2 ^ 46 + ownerNone * 2 ^ 40))).setLeaseEnd k 0).bump Reg.KNOT_BROKENCNT).raise
    (if o < 48 then 0x080 + o else 0x0F2) 0x13 k

/-- Every knot of an owner is released broken. -/
def State.breakKnots (s : State) (owner : Nat) : State :=
  forAll (fun t k => if t.knotHeld k ∧ t.knotOwner k = owner then t.breakKnot k else t) (List.range 64) s

/-- A spindle's waiting requests are withdrawn from every knot. -/
def State.dropWaiter (s : State) (n : Nat) : State :=
  { s with knots := { s.knots with
      waiters := (s.knots.waiters.map (fun x => (x.1, x.2.filter (fun y => !decide (y.1 = n))))).filter (fun x => !x.2.isEmpty) } }

end Sys2Proof.Machine
end

