-- ==== Sys2Proof/Machine/Flags.lean ====
section
/-! DEFINITION. Completion status codes (R40, R199) and the TS word that shows them to a spindle. -/

namespace Sys2Proof.Machine

abbrev stOK := 0
abbrev stNOMAP := 1
abbrev stABSENT := 2
abbrev stDENIED := 3
abbrev stPENDING := 4
abbrev stGUARDFAIL := 5
abbrev stRDONLY := 6
abbrev stPARITY := 7
abbrev stREFUSED := 8
abbrev stBROKEN := 9
abbrev stTOOLONG := 10

/-- The operation in flight on tag t. -/
def Spindle.op (x : Spindle) (t : Nat) : Option TagOp := Tab.get (fun _ => none) x.ops t

def Spindle.setOp (x : Spindle) (t : Nat) (o : Option TagOp) : Spindle :=
  { x with ops := Tab.set (fun _ => none) x.ops t o }

/-- STATUS of tag t. -/
def Spindle.tagStatus (x : Spindle) (t : Nat) : Nat := Tab.get (fun _ => 0) x.status t

/-- PEND: tags with a non-speculative operation in flight. -/
def Spindle.pendMask (x : Spindle) : Nat :=
  (List.range 8).foldl (fun m t =>
    match x.op t with
    | some o => if o.spec then m else m + 2 ^ t
    | none => m) 0

/-- TS (R199). -/
def Spindle.ts (x : Spindle) : Word :=
  BitVec.ofNat 48 (x.pendMask * 2 ^ 40 + (List.range 8).foldl (fun m t => m + x.tagStatus t % 16 * 16 ^ t) 0)

end Sys2Proof.Machine
end

