-- ==== Sys2Proof/Machine/Operands.lean ====
section
/-! DEFINITION. Operand forms of the Wovin instructions: the fields of bits [39:0], the zero-field checks of R202, scalar and vector registers, local memory (R194–R205). -/

namespace Sys2Proof.Machine

/-! ## Fields of bits [39:0] (R201) -/

def opD (w : BitVec 40) : Nat := w.toNat / 2 ^ 35
def opA (w : BitVec 40) : Nat := w.toNat / 2 ^ 30 % 32
def opB (w : BitVec 40) : Nat := w.toNat / 2 ^ 25 % 32
def opT (w : BitVec 40) : Nat := w.toNat / 2 ^ 27 % 8
/-- Sign-extended immediates. -/
def imm30 (w : BitVec 40) : Word := (w.extractLsb' 0 30).signExtend 48
def imm35 (w : BitVec 40) : Word := (w.extractLsb' 0 35).signExtend 48
def off27 (w : BitVec 40) : Word := (w.extractLsb' 0 27).signExtend 48
/-- Unsigned low fields. -/
def low (w : BitVec 40) (n : Nat) : Nat := w.toNat % 2 ^ n
/-- Vector format. -/
def opVD (w : BitVec 40) : Nat := w.toNat / 2 ^ 36
def opVA (w : BitVec 40) : Nat := w.toNat / 2 ^ 32 % 16
def opVB (w : BitVec 40) : Nat := w.toNat / 2 ^ 28 % 16
def opVC (w : BitVec 40) : Nat := w.toNat / 2 ^ 24 % 16
def opFN (w : BitVec 40) : Nat := w.toNat / 2 ^ 16 % 256
def opG (w : BitVec 40) : Nat := w.toNat / 2 ^ 11 % 32

/-- The bits of a mask are zero. -/
def zeros (w : BitVec 40) (mask : Nat) : Bool := decide (w &&& BitVec.ofNat 40 mask = 0)

/-- Must-be-zero bits of the scalar formats (R201, R202). -/
def zRR : Nat := 2 ^ 25 - 1
def zCLZ : Nat := 2 ^ 30 - 1
def zLIH : Nat := 2 ^ 35 - 2 ^ 13
def zJAL : Nat := 2 ^ 35 - 2 ^ 30

/-- Must-be-zero bits of a vector instruction that names the given fields; `fn` has a bit for each FN bit it names. -/
def zV (d a b c g : Bool) (fn : Nat) : Nat :=
  (if d then 0 else 15 * 2 ^ 36) + (if a then 0 else 15 * 2 ^ 32) + (if b then 0 else 15 * 2 ^ 28) +
  (if c then 0 else 15 * 2 ^ 24) + (255 - fn) * 2 ^ 16 + (if g then 0 else 31 * 2 ^ 11) + (2 ^ 11 - 1)

/-- Must-be-zero bits of a system instruction that names the given fields; `imm` has a bit for each IMM27 bit it names. -/
def zS (d a t : Bool) (imm : Nat) : Nat :=
  (if d then 0 else 31 * 2 ^ 35) + (if a then 0 else 31 * 2 ^ 30) + (if t then 0 else 7 * 2 ^ 27) + (2 ^ 27 - 1 - imm)

/-! ## Registers (R194, R198) -/

/-- A scalar register; g0 reads zero. -/
def Spindle.gr (x : Spindle) (r : Nat) : Word := if r = 0 then 0 else Tab.get (fun _ => 0#48) x.g r

/-- Write a scalar register; writes to g0 are discarded. -/
def Spindle.setGr (x : Spindle) (r : Nat) (v : Word) : Spindle :=
  if r = 0 then x else { x with g := Tab.set (fun _ => 0#48) x.g r v }

/-- Lane i of vector register r. -/
def Spindle.vl (x : Spindle) (r i : Nat) : Word := Tab.get (fun _ => 0#48) x.v (8 * r + i)

def Spindle.setVl (x : Spindle) (r i : Nat) (v : Word) : Spindle :=
  { x with v := Tab.set (fun _ => 0#48) x.v (8 * r + i) v }

/-- Write the eight lanes of a register. -/
def Spindle.setVr (x : Spindle) (r : Nat) (f : Nat → Word) : Spindle :=
  (((((((x.setVl r 0 (f 0)).setVl r 1 (f 1)).setVl r 2 (f 2)).setVl r 3 (f 3)).setVl r 4 (f 4)).setVl r 5 (f 5)).setVl r 6 (f 6)).setVl r 7 (f 7)

/-- A register is pending: the destination of an operation in flight (R214). g0 never is, since nothing is written to it (R198). -/
def Spindle.pendingReg (x : Spindle) (r : Nat) : Bool :=
  decide (r ≠ 0) && (List.range 8).any (fun t =>
    match x.op t with
    | some o => decide (o.dst = some r)
    | none => false)

/-! ## Local memory (R195, R205, R206) -/

/-- First local address; 16,384 words lie from it (R34). -/
abbrev dmemBase : Nat := 0xFFFF0000

/-- n words from a local address lie in DMEM. -/
def localOk (ea n : Nat) : Bool := decide (dmemBase ≤ ea ∧ ea + n ≤ dmemBase + 0x4000)

/-- The first address of a range that lies outside DMEM. -/
def firstBadLocal (ea : Nat) : Nat := if dmemBase ≤ ea ∧ ea < dmemBase + 0x4000 then dmemBase + 0x4000 else ea

def Spindle.dm (x : Spindle) (k : Nat) : Word := Tab.get (fun _ => 0#48) x.dmem k

/-- A store writes good check bits. -/
def Spindle.setDm (x : Spindle) (k : Nat) (v : Word) : Spindle :=
  { x with dmem := Tab.set (fun _ => 0#48) x.dmem k v, eccD := Tab.set (fun _ => 0) x.eccD k 0 }

def Spindle.setDms (x : Spindle) (k : Nat) : List Word → Spindle
  | [] => x
  | w :: t => (x.setDm k w).setDms (k + 1) t

def Spindle.dms (x : Spindle) (k : Nat) : Nat → List Word
  | 0 => []
  | n + 1 => x.dm k :: x.dms (k + 1) n

def Spindle.im (x : Spindle) (k : Nat) : Word := Tab.get (fun _ => 0#48) x.imem k

def Spindle.setIm (x : Spindle) (k : Nat) (v : Word) : Spindle :=
  { x with imem := Tab.set (fun _ => 0#48) x.imem k v, eccI := Tab.set (fun _ => 0) x.eccI k 0 }

/-- Ranges [k, k + n) and [j, j + m) share a word. -/
def overlap (k n j m : Nat) : Bool := decide (k < j + m ∧ j < k + n)

/-- A local access of n words at address ea must wait for an operation in flight (R206). -/
def Spindle.localHeld (x : Spindle) (ea n : Nat) (store : Bool) : Bool :=
  (List.range 8).any (fun t =>
    match x.op t with
    | some o =>
      ((decide (o.kind = .gsw ∨ o.kind = .frx)) || (store && decide (o.kind = .cwr ∨ o.kind = .ftx))) && overlap ea n o.loc o.len
    | none => false)

/-- Errors in n words from k: (number of single-bit errors, first word with a double-bit error). -/
def Spindle.eccScan (x : Spindle) (k : Nat) : Nat → Nat × Option Nat
  | 0 => (0, none)
  | n + 1 =>
    let r := x.eccScan (k + 1) n
    let e := Tab.get (fun _ => 0) x.eccD k
    if e = 2 then (r.1, some k) else if e = 1 then (r.1 + 1, r.2) else r

/-- Change the unresolved branch on whose path the operation with issue number `seq` lies. -/
def onPath (seq : Nat) (f : Ckpt → Ckpt) : List Ckpt → List Ckpt
  | [] => []
  | c :: t => if t.any (fun d => decide (d.at_ ≤ seq)) then c :: onPath seq f t else f c :: t

def Spindle.updPath (x : Spindle) (seq : Nat) (f : Ckpt → Ckpt) : Spindle := { x with ckpts := onPath seq f x.ckpts }

/-- A word of DMEM is read by other than a local load (R195): a corrected error counts in SPN_ECCCOR, a double-bit error in SPN_ECCUNC, and its
data is a FREE VALUE (log entry 159). -/
def State.dmRead (s : State) (n k : Nat) : Word × State :=
  let e := Tab.get (fun _ => 0) (s.spn n).eccD k
  if e = 2 then (s.drawFree.1, s.drawFree.2.bump (Reg.SPN_ECCUNC n))
  else ((s.spn n).dm k, if e = 1 then s.bump (Reg.SPN_ECCCOR n) else s)

/-- The same for IMEM. -/
def State.imRead (s : State) (n k : Nat) : Word × State :=
  let e := Tab.get (fun _ => 0) (s.spn n).eccI k
  if e = 2 then (s.drawFree.1, s.drawFree.2.bump (Reg.SPN_ECCUNC n))
  else ((s.spn n).im k, if e = 1 then s.bump (Reg.SPN_ECCCOR n) else s)

/-- m words of DMEM. -/
def State.dmsRead (s : State) (n k : Nat) : Nat → List Word × State
  | 0 => ([], s)
  | m + 1 =>
    let r := s.dmRead n k
    let t := r.2.dmsRead n (k + 1) m
    (r.1 :: t.1, t.2)

end Sys2Proof.Machine
end

