-- ==== Sys2Proof/Machine/Spindle.lean ====
section
/-! DEFINITION. Issue of a Wovin instruction: fetch, legality, stalls, run-ahead, exceptions, retirement, the end of a tagged operation (R195–R223, R25, R27). -/

namespace Sys2Proof.Machine

/-! ## Fetch (R195, R196) -/

/-- What a fetch at the PC gives. -/
inductive Fetched where
  | word (w : Word) (corrected : Bool)
  | outside
  | ecc
deriving DecidableEq, Repr

/-- The word at the spindle's PC; beyond the flash it is zero (R33). -/
def State.fetch (s : State) (n : Nat) : Fetched :=
  let x := s.spn n
  if x.pc < 0x2000 then
    let e := Tab.get (fun _ => 0) x.eccI x.pc
    if e = 2 then .ecc else .word (x.im x.pc) (decide (e = 1))
  else if x.mode = 0 ∧ x.pc ≤ 0x4001FFF then .word (if s.flashHas (x.pc - 0x2000) then s.flashRead (x.pc - 0x2000) else 0) false
  else .outside

/-- Opcodes that this issue of the instruction set lists (R203–R216). -/
def opcodeListed (o : Nat) : Bool :=
  decide (o < 0x10) || (decide (o < 0x20) && decide (o ≠ 0x11 ∧ o ≠ 0x1B ∧ o ≠ 0x1E)) || decide (0x20 ≤ o ∧ o ≤ 0x22) ||
  decide (0x30 ≤ o ∧ o ≤ 0x33) || decide (0x40 ≤ o ∧ o ≤ 0x4B) || decide (0x50 ≤ o ∧ o ≤ 0x57) ||
  decide (0x60 ≤ o ∧ o ≤ 0x7B) || decide (0x80 ≤ o ∧ o ≤ 0x88)

/-! ## Exceptions (R221–R223) -/

/-- The operation waits for something outside (R217): MBR for a word, FRX for a frame, LCK for its knot, CWR for space in a roving queue. -/
def State.opWaits (s : State) (n : Nat) (o : TagOp) : Bool :=
  o.done.isNone && (match o.kind with
    | .mbr => (s.spn n).mbox.isEmpty
    | .frx => (s.spn n).rxq.isEmpty
    | .lck => !o.try_
    | .cwr => decide (tgtKind o.ea = 2 ∧ 64 ≤ (s.port (tgtPort o.ea)).rov.txq.length)
    | _ => false)

/-- A halt starts (R217): issue stops, and what still waits is withdrawn with ABSENT. -/
def State.haltSpn (s : State) (n : Nat) : State :=
  let s1 := s.updSpn n (fun x => { x with
    run := .halting
    ops := x.ops.map (fun y => (y.1, y.2.map (fun o => if s.opWaits n o then { o with done := some stABSENT } else o))) })
  s1.dropWaiter n

/-- An exception of spindle n. Inside a handler it halts the spindle and raises its fault with the cause as INFO. -/
def State.except (s : State) (n code info : Nat) : State :=
  let x := s.spn n
  if x.exc then
    (((s.haltSpn n).updSpn n (fun y => { y with dbl := true })).breakKnots n).raise (0x080 + n) 0x10 code
  else
    let cause := BitVec.ofNat 48 (code * 2 ^ 40 + info % 2 ^ 32)
    let epc := BitVec.ofNat 48 (if code = 4 then x.pc + 1 else x.pc)
    let s1 := s.setSpn n { x with epc := epc, ecause := cause, exc := true, pc := 4 }
    ((s1.setReg (Reg.SPN_EPC n) epc).setReg (Reg.SPN_ECAUSE n) cause).bump (Reg.SPN_EXCCNT n)

/-! ## Issue -/

/-- What an instruction does once nothing holds it. -/
inductive Act where
  /-- it takes effect; the PC advances by one -/
  | retire (s : State)
  /-- it takes effect and names the next PC -/
  | jump (s : State) (pc : Nat)
  /-- it raises an exception -/
  | raise (code info : Nat)
  /-- it stalls, counted in SPN_STALLCNT (R227) -/
  | stall
  /-- it stalls uncounted -/
  | hold

/-- One instruction issues: retired instructions count (R227), and those ahead of an unresolved branch (R218). -/
def Spindle.step (x : Spindle) (pc : Nat) : Spindle :=
  { x with pc := pc % 2 ^ 48, inst := (x.inst + 1) % 2 ^ 96, ckpts := x.ckpts.map (fun c => { c with count := c.count + 1 }) }

/-- The spindle's run-ahead lets a further instruction issue: none ahead, or one that R219 allows within 32 (the branch counts itself). -/
def Spindle.mayIssue (x : Spindle) (ahead : Bool) : Bool :=
  match x.ckpts with
  | [] => true
  | c :: _ => ahead && decide (c.count ≤ 32)

/-- The instruction came from PC `pc`: a fetch of the flash passes through the prefetch buffer (R196, R389). -/
def State.fetched (s : State) (pc : Nat) : State :=
  if 0x2000 ≤ pc ∧ s.flashHas (pc - 0x2000) then s.flashTouch (pc - 0x2000) else s

/-- A fetch of a flash word waits while a commit occupies the flash (R390), or while CSP0 has released its pads. -/
def State.fetchWaits (s : State) (n : Nat) : Bool :=
  let x := s.spn n
  decide (0x2000 ≤ x.pc ∧ x.mode = 0 ∧ x.pc ≤ 0x4001FFF) && s.flashHas (x.pc - 0x2000) && (s.flashBusy || s.flashGone (x.pc - 0x2000))

/-- Apply what an instruction does. An exception on a predicted path waits until the path is confirmed (R219, R222);
IECC and DECC count in SPN_ECCUNC (R195). -/
def State.apply (s : State) (n : Nat) (a : Act) : State :=
  match a with
  | .retire t => (t.updSpn n (fun x => x.step (x.pc + 1))).fetched (s.spn n).pc
  | .jump t pc => (t.updSpn n (fun x => x.step pc)).fetched (s.spn n).pc
  | .raise code info =>
    if (s.spn n).ckpts.isEmpty then
      let t := (if code = 5 ∨ code = 6 then s.bump (Reg.SPN_ECCUNC n) else s).except n code info
      if code = 2 then t else t.fetched (s.spn n).pc
    else s
  | .stall => s.bump (Reg.SPN_STALLCNT n)
  | .hold => s

/-- Issue by spindle n of the row with opcode `opc` whose word carries `w`: fields, registers that must not be pending,
whether it may issue on a predicted path, and what it does. A row whose word does not stand at the PC has no effect,
but for the exceptions that the fetch itself raises. -/
def State.issue (s : State) (n opc : Nat) (w : BitVec 40) (ok : Bool) (regs : List Nat) (ahead : Bool) (act : State → Act) : State :=
  let x := s.spn n
  if x.run ≠ .running ∨ s.domOn (30 + n / 8) = false ∨ s.fetchWaits n then s
  else
    match s.fetch n with
    | .outside => s.apply n (.raise 2 x.pc)
    | .ecc => s.apply n (.raise 5 x.pc)
    | .word u corrected =>
      let s1 := if corrected then s.bump (Reg.SPN_ECCCOR n) else s
      if opcodeListed (fld u 47 40) = false then s1.apply n (.raise 1 (fld u 47 40))
      else if u ≠ BitVec.ofNat 48 (opc * 2 ^ 40 + w.toNat) then s
      else
        if ok = false then s1.apply n (.raise 1 opc)
        else if x.mayIssue ahead = false then s1
        else if regs.any x.pendingReg then s1.apply n .stall
        else s1.apply n (act s1)

/-- A scalar result. -/
def State.retGr (s : State) (n d : Nat) (v : Word) : Act := .retire (s.updSpn n (fun x => x.setGr d v))

/-! ## Unresolved branches (R218–R220) -/

/-- The condition of a branch. -/
def branchTaken (opc : Nat) (a b : Word) : Bool :=
  if opc = 0x50 then decide (a = b) else if opc = 0x51 then decide (a ≠ b)
  else if opc = 0x52 then a.slt b else if opc = 0x53 then !(a.slt b)
  else if opc = 0x54 then a.ult b else !(a.ult b)

/-- A branch with a pending operand: predicted taken when its offset is negative, while SPECEN = 1 and at most two lie ahead of the oldest unresolved one. -/
def State.predict (s : State) (n opc ra rb : Nat) (off : Word) : Act :=
  let x := s.spn n
  if x.specen ∧ x.ckpts.length < 3 then
    let pred := off.slt 0
    let tgt := (x.pc + off.toNat) % 2 ^ 48
    let c : Ckpt := { opc := opc, ra := ra, rb := rb, taken := tgt, next := x.pc + 1, pred := pred, at_ := x.issued,
                      g := x.g, v := x.v, status := x.status, inst := (x.inst + 1) % 2 ^ 96 }
    .jump (s.setSpn n { x with ckpts := x.ckpts ++ [c] }) (if pred then tgt else x.pc + 1)
  else .stall

/-- The pending registers of the oldest branch have been written. -/
def Spindle.resolvable (x : Spindle) (c : Ckpt) : Bool :=
  !((List.range 8).any (fun t =>
    match x.op t with
    | some o => decide (o.seq < c.at_) && (decide (o.dst = some c.ra ∧ c.ra ≠ 0) || decide (o.dst = some c.rb ∧ c.rb ≠ 0))
    | none => false))

/-- Records of cancelled loads (R312). -/
def State.specCan (s : State) (n : Nat) (l : List Nat) : State :=
  forAll (fun t a => if t.dstRecording then (t.dstEvent 0x0A true (128 + n) a []).bump Reg.DST_SPECREC else t) l s

/-- What the loads of a confirmed path have counted (R220). -/
def State.pathCounts (s : State) (n : Nat) (c : Ckpt) : State :=
  ((s.addCnt (Reg.SPN_ECCCOR n) c.ecc).addCnt Reg.CSP0_PFHIT c.hits).addCnt Reg.CSP0_PFMISS c.misses

/-- The oldest branch resolves: its path commits, or is cancelled (R220). -/
def State.resolveBranch (s : State) (n : Nat) : State :=
  let x := s.spn n
  match x.ckpts with
  | [] => s
  | c :: rest =>
    if x.resolvable c = false then s
    else
      let y := { x with g := c.g }
      let t := branchTaken c.opc (y.gr c.ra) (y.gr c.rb)
      if t = c.pred then
        let lim := match rest with
          | [] => x.issued
          | d :: _ => d.at_
        (s.pathCounts n c).setSpn n { x with
          ckpts := rest
          ops := x.ops.map (fun z => (z.1, z.2.map (fun o => if o.seq < lim then { o with spec := false } else o))) }
      else
        let s1 := s.setSpn n { x with
          ckpts := []
          g := c.g, v := c.v, status := c.status, inst := c.inst
          pc := if t then c.taken else c.next
          ops := (x.ops.filter (fun z =>
            match z.2 with
            | some o => decide (o.seq < c.at_)
            | none => false)) }
        (s1.addCnt (Reg.SPN_SPECCAN n) c.loads.length).specCan n c.loads

/-! ## Completion of a tagged operation (R199, R214) -/

/-- A sleeping spindle issues again (R216). -/
def Spindle.wake (x : Spindle) : Spindle := if x.run = .sleeping then { x with run := .running } else x

/-- Tag t completes: STATUS and the destination register in the same cycle; the destination receives zero unless the status is OK or PARITY.
What an older unresolved branch would restore receives the same. -/
def State.finishTag (s : State) (n t status : Nat) (data : Word) : State :=
  let x := s.spn n
  match x.op t with
  | none => s
  | some o =>
    let v := if status = stOK ∨ status = stPARITY then data else 0
    let wr := fun (g : Tab Word) =>
      match o.dst with
      | some d => if d = 0 then g else Tab.set (fun _ => 0#48) g d v
      | none => g
    let st := fun (m : Tab Nat) => Tab.set (fun _ => 0) m t status
    let x1 := { x with
      g := wr x.g, status := st x.status
      ckpts := x.ckpts.map (fun (c : Ckpt) => if o.seq < c.at_ then { c with g := wr c.g, status := st c.status } else c) }
    s.setSpn n (x1.setOp t none).wake

end Sys2Proof.Machine
end

