-- ==== Sys2Proof/Machine/Scalar.lean ====
section
/-! DEFINITION. Meanings of the scalar, immediate, local, branch and system instructions (R203–R207, R216). -/

namespace Sys2Proof.Machine

/-! ## Scalar functions (R203) -/

def aluSll (a b : Word) : Word := if 48 ≤ b.toNat % 64 then 0 else a <<< (b.toNat % 64)
def aluSrl (a b : Word) : Word := if 48 ≤ b.toNat % 64 then 0 else a >>> (b.toNat % 64)
def aluSra (a b : Word) : Word := a.sshiftRight (b.toNat % 64)
def aluSlt (a b : Word) : Word := if a.slt b then 1 else 0
def aluSltu (a b : Word) : Word := if a.ult b then 1 else 0
def aluMulh (a b : Word) : Word := BitVec.ofInt 48 (a.toInt * b.toInt / 2 ^ 48)
def aluMin (a b : Word) : Word := if b.slt a then b else a
def aluMax (a b : Word) : Word := if a.slt b then b else a
/-- Leading zeros, 48 for zero. -/
def aluClz (a : Word) : Word := BitVec.ofNat 48 ((List.range 48).filter (fun i => decide (a.toNat < 2 ^ i))).length
/-- Width of the field SAT clamps to. -/
def satBits (b : Word) : Nat := let k := b.toNat % 64; if k = 0 ∨ 48 < k then 48 else k
def aluSat (a b : Word) : Word := BitVec.ofInt 48 (clampInt (-(2 ^ (satBits b - 1))) (2 ^ (satBits b - 1) - 1) a.toInt)

/-! ## Issue of the formats -/

/-- RR format: d := f a b. -/
def State.issueRR (s : State) (n opc : Nat) (w : BitVec 40) (f : Word → Word → Word) : State :=
  s.issue n opc w (zeros w zRR) [opD w, opA w, opB w] true
    (fun t => t.retGr n (opD w) (f ((t.spn n).gr (opA w)) ((t.spn n).gr (opB w))))

/-- RI format: d := f a IMM30. -/
def State.issueRI (s : State) (n opc : Nat) (w : BitVec 40) (f : Word → Word → Word) : State :=
  s.issue n opc w true [opD w, opA w] true (fun t => t.retGr n (opD w) (f ((t.spn n).gr (opA w)) (imm30 w)))

/-- B format (R207): a conditional branch, predicted while an operand is pending. -/
def State.issueB (s : State) (n opc : Nat) (w : BitVec 40) : State :=
  s.issue n opc w true [] true (fun t =>
    let x := t.spn n
    if x.pendingReg (opD w) ∨ x.pendingReg (opA w) then t.predict n opc (opD w) (opA w) (imm30 w)
    else if branchTaken opc (x.gr (opD w)) (x.gr (opA w)) then .jump t (x.pc + (imm30 w).toNat)
    else .retire t)

/-! ## Scalar ALU (R203) -/

/-- ADD. -/
def execAdd (n : SpnNo) (w : BitVec 40) (s : State) : Out := .next (s.issueRR n 0x00 w (· + ·))
/-- ADDI. -/
def execAddi (n : SpnNo) (w : BitVec 40) (s : State) : Out := .next (s.issueRI n 0x10 w (· + ·))
/-- SUB. -/
def execSub (n : SpnNo) (w : BitVec 40) (s : State) : Out := .next (s.issueRR n 0x01 w (· - ·))
/-- AND. -/
def execAnd (n : SpnNo) (w : BitVec 40) (s : State) : Out := .next (s.issueRR n 0x02 w (· &&& ·))
/-- ANDI. -/
def execAndi (n : SpnNo) (w : BitVec 40) (s : State) : Out := .next (s.issueRI n 0x12 w (· &&& ·))
/-- OR. -/
def execOr (n : SpnNo) (w : BitVec 40) (s : State) : Out := .next (s.issueRR n 0x03 w (· ||| ·))
/-- ORI. -/
def execOri (n : SpnNo) (w : BitVec 40) (s : State) : Out := .next (s.issueRI n 0x13 w (· ||| ·))
/-- XOR. -/
def execXor (n : SpnNo) (w : BitVec 40) (s : State) : Out := .next (s.issueRR n 0x04 w (· ^^^ ·))
/-- XORI. -/
def execXori (n : SpnNo) (w : BitVec 40) (s : State) : Out := .next (s.issueRI n 0x14 w (· ^^^ ·))
/-- SLL. -/
def execSll (n : SpnNo) (w : BitVec 40) (s : State) : Out := .next (s.issueRR n 0x05 w aluSll)
/-- SLLI. -/
def execSlli (n : SpnNo) (w : BitVec 40) (s : State) : Out := .next (s.issueRI n 0x15 w aluSll)
/-- SRL. -/
def execSrl (n : SpnNo) (w : BitVec 40) (s : State) : Out := .next (s.issueRR n 0x06 w aluSrl)
/-- SRLI. -/
def execSrli (n : SpnNo) (w : BitVec 40) (s : State) : Out := .next (s.issueRI n 0x16 w aluSrl)
/-- SRA. -/
def execSra (n : SpnNo) (w : BitVec 40) (s : State) : Out := .next (s.issueRR n 0x07 w aluSra)
/-- SRAI. -/
def execSrai (n : SpnNo) (w : BitVec 40) (s : State) : Out := .next (s.issueRI n 0x17 w aluSra)
/-- SLT. -/
def execSlt (n : SpnNo) (w : BitVec 40) (s : State) : Out := .next (s.issueRR n 0x08 w aluSlt)
/-- SLTI. -/
def execSlti (n : SpnNo) (w : BitVec 40) (s : State) : Out := .next (s.issueRI n 0x18 w aluSlt)
/-- SLTU. -/
def execSltu (n : SpnNo) (w : BitVec 40) (s : State) : Out := .next (s.issueRR n 0x09 w aluSltu)
/-- SLTIU. -/
def execSltiu (n : SpnNo) (w : BitVec 40) (s : State) : Out := .next (s.issueRI n 0x19 w aluSltu)
/-- MUL. -/
def execMul (n : SpnNo) (w : BitVec 40) (s : State) : Out := .next (s.issueRR n 0x0A w (· * ·))
/-- MULI. -/
def execMuli (n : SpnNo) (w : BitVec 40) (s : State) : Out := .next (s.issueRI n 0x1A w (· * ·))
/-- MULH. -/
def execMulh (n : SpnNo) (w : BitVec 40) (s : State) : Out := .next (s.issueRR n 0x0B w aluMulh)
/-- MIN. -/
def execMin (n : SpnNo) (w : BitVec 40) (s : State) : Out := .next (s.issueRR n 0x0C w aluMin)
/-- MINI. -/
def execMini (n : SpnNo) (w : BitVec 40) (s : State) : Out := .next (s.issueRI n 0x1C w aluMin)
/-- MAX. -/
def execMax (n : SpnNo) (w : BitVec 40) (s : State) : Out := .next (s.issueRR n 0x0D w aluMax)
/-- MAXI. -/
def execMaxi (n : SpnNo) (w : BitVec 40) (s : State) : Out := .next (s.issueRI n 0x1D w aluMax)
/-- SAT. -/
def execSat (n : SpnNo) (w : BitVec 40) (s : State) : Out := .next (s.issueRR n 0x0F w aluSat)
/-- SATI. -/
def execSati (n : SpnNo) (w : BitVec 40) (s : State) : Out := .next (s.issueRI n 0x1F w aluSat)
/-- CLZ: B must be 0. -/
def execClz (n : SpnNo) (w : BitVec 40) (s : State) : Out :=
  .next (s.issue n 0x0E w (zeros w zCLZ) [opD w, opA w] true (fun t => t.retGr n (opD w) (aluClz ((t.spn n).gr (opA w)))))

/-! ## Immediates (R204) -/

/-- LI. -/
def execLi (n : SpnNo) (w : BitVec 40) (s : State) : Out := .next (s.issue n 0x20 w true [opD w] true (fun t => t.retGr n (opD w) (imm35 w)))
/-- LIH: d[47:35] := IMM13. -/
def execLih (n : SpnNo) (w : BitVec 40) (s : State) : Out :=
  .next (s.issue n 0x21 w (zeros w zLIH) [opD w] true (fun t => t.retGr n (opD w) (putFld ((t.spn n).gr (opD w)) 47 35 (low w 13))))
/-- LPC. -/
def execLpc (n : SpnNo) (w : BitVec 40) (s : State) : Out :=
  .next (s.issue n 0x22 w true [opD w] true (fun t => t.retGr n (opD w) (BitVec.ofNat 48 (t.spn n).pc + imm35 w)))

/-! ## Local memory (R205, R206) -/

/-- A local access of m words: LOCAL outside DMEM, a wait for a gather, a receive or a transmission of the same words (R206),
DECC on a double-bit error of a load (R195), else the effect; corrected errors count, on a predicted path once it is confirmed (R220). -/
def State.localAct (s : State) (n ea m : Nat) (store : Bool) (f : Nat → Spindle → Spindle) : Act :=
  let x := s.spn n
  let k := ea - dmemBase
  if localOk ea m = false then .raise 3 (firstBadLocal ea)
  else if x.localHeld ea m store then .hold
  else if store then .retire (s.updSpn n (f k))
  else
    match x.eccScan k m with
    | (_, some j) => if x.ckpts.isEmpty then .raise 6 (dmemBase + j) else .hold
    | (c, none) =>
      if x.ckpts.isEmpty then .retire ((s.addCnt (Reg.SPN_ECCCOR n) c).updSpn n (f k))
      else .retire (s.updSpn n (fun y => (f k y).updPath x.issued (fun d => { d with ecc := d.ecc + c })))

/-- The address of a local access. -/
def State.localEa (s : State) (n : Nat) (w : BitVec 40) : Nat := ((s.spn n).gr (opA w) + imm30 w).toNat

/-- LDL. -/
def execLdl (n : SpnNo) (w : BitVec 40) (s : State) : Out :=
  .next (s.issue n 0x30 w true [opD w, opA w] true (fun t =>
    t.localAct n (t.localEa n w) 1 false (fun k x => x.setGr (opD w) (x.dm k))))
/-- STL. -/
def execStl (n : SpnNo) (w : BitVec 40) (s : State) : Out :=
  .next (s.issue n 0x31 w true [opD w, opA w] false (fun t =>
    t.localAct n (t.localEa n w) 1 true (fun k x => x.setDm k (x.gr (opD w)))))
/-- LDV: D[39] = 0. -/
def execLdv (n : SpnNo) (w : BitVec 40) (s : State) : Out :=
  .next (s.issue n 0x32 w (zeros w (2 ^ 39)) [opA w] true (fun t =>
    t.localAct n (t.localEa n w) 8 false (fun k x => x.setVr (opD w) (fun i => x.dm (k + i)))))
/-- STV. -/
def execStv (n : SpnNo) (w : BitVec 40) (s : State) : Out :=
  .next (s.issue n 0x33 w (zeros w (2 ^ 39)) [opA w] false (fun t =>
    t.localAct n (t.localEa n w) 8 true (fun k x => x.setDms k ((List.range 8).map (x.vl (opD w))))))

/-! ## Branches (R207) -/

/-- BEQ. -/
def execBeq (n : SpnNo) (w : BitVec 40) (s : State) : Out := .next (s.issueB n 0x50 w)
/-- BNE. -/
def execBne (n : SpnNo) (w : BitVec 40) (s : State) : Out := .next (s.issueB n 0x51 w)
/-- BLT. -/
def execBlt (n : SpnNo) (w : BitVec 40) (s : State) : Out := .next (s.issueB n 0x52 w)
/-- BGE. -/
def execBge (n : SpnNo) (w : BitVec 40) (s : State) : Out := .next (s.issueB n 0x53 w)
/-- BLTU. -/
def execBltu (n : SpnNo) (w : BitVec 40) (s : State) : Out := .next (s.issueB n 0x54 w)
/-- BGEU. -/
def execBgeu (n : SpnNo) (w : BitVec 40) (s : State) : Out := .next (s.issueB n 0x55 w)
/-- JAL: the register named by A receives PC + 1; B is zero. It waits on a predicted path, as R219 lists no jump. -/
def execJal (n : SpnNo) (w : BitVec 40) (s : State) : Out :=
  .next (s.issue n 0x56 w (zeros w zJAL) [opD w] false (fun t =>
    let x := t.spn n
    .jump (t.setSpn n (x.setGr (opD w) (BitVec.ofNat 48 (x.pc + 1)))) (x.pc + (imm30 w).toNat)))
/-- JALR: the target is formed before d is written. -/
def execJalr (n : SpnNo) (w : BitVec 40) (s : State) : Out :=
  .next (s.issue n 0x57 w true [opD w, opA w] false (fun t =>
    let x := t.spn n
    .jump (t.setSpn n (x.setGr (opD w) (BitVec.ofNat 48 (x.pc + 1)))) (x.gr (opA w) + imm30 w).toNat))
/-- BRANCH_RESOLVE (R218–R220). -/
def execBranchResolve (n : SpnNo) (s : State) : Out := .next (s.resolveBranch n)

/-! ## System instructions (R216) -/

/-- Tags t with an operation in flight that passes a test. -/
def Spindle.inFlight (x : Spindle) (p : TagOp → Bool) : Bool :=
  (List.range 8).any (fun t =>
    match x.op t with
    | some o => p o
    | none => false)

/-- Operations that FENCE.W and ULK wait for (R215, R216). -/
def TagOp.writes (o : TagOp) : Bool :=
  decide (o.kind = .stb ∨ o.kind = .cwr ∨ o.kind = .cswSwap ∨ o.kind = .cswMirror ∨ o.kind = .mbs ∨ o.kind = .ftx)

/-- WAIT. -/
def execWait (n : SpnNo) (w : BitVec 40) (s : State) : Out :=
  .next (s.issue n 0x80 w (zeros w (zS false false true 0)) [] false (fun t =>
    if ((t.spn n).op (opT w)).isSome then .stall else .retire t))
/-- FENCE. Local accesses take effect at issue. -/
def execFence (n : SpnNo) (w : BitVec 40) (s : State) : Out :=
  .next (s.issue n 0x81 w (zeros w (zS false false false 0)) [] false (fun t =>
    if (t.spn n).inFlight (fun _ => true) then .stall else .retire t))
/-- FENCE.W. -/
def execFenceW (n : SpnNo) (w : BitVec 40) (s : State) : Out :=
  .next (s.issue n 0x82 w (zeros w (zS false false false 0)) [] false (fun t =>
    if (t.spn n).inFlight TagOp.writes then .stall else .retire t))
/-- TRAP. -/
def execTrap (n : SpnNo) (w : BitVec 40) (s : State) : Out :=
  .next (s.issue n 0x83 w (zeros w (zS false false false (2 ^ 27 - 1))) [] false (fun _ => .raise 4 (low w 27)))
/-- ERET. -/
def execEret (n : SpnNo) (w : BitVec 40) (s : State) : Out :=
  .next (s.issue n 0x84 w (zeros w (zS false false false 0)) [] false (fun t =>
    let x := t.spn n
    if x.exc then .jump (t.setSpn n { x with exc := false }) x.epc.toNat else .raise 1 0x84))
/-- SLEEP. -/
def execSleep (n : SpnNo) (w : BitVec 40) (s : State) : Out :=
  .next (s.issue n 0x85 w (zeros w (zS false false false 0)) [] false (fun t =>
    .retire (t.updSpn n (fun x => { x with run := .sleeping }))))

/-- MODE (R198). -/
def Spindle.modeWord (x : Spindle) : Word :=
  BitVec.ofNat 48 (x.mode + bnat x.exc * 2 ^ 4 + bnat x.replay * 2 ^ 5 + bnat x.specen * 2 ^ 8)

/-- MFS. In replay TIMEL and TIMEH give the recorded time (R225), without a replay datapath free values (log entry 21). -/
def execMfs (n : SpnNo) (w : BitVec 40) (s : State) : Out :=
  .next (s.issue n 0x86 w (zeros w (zS true false false 15)) [opD w] false (fun t =>
    let x := t.spn n
    let d := opD w
    let r := low w 4
    if r = 0 then t.retGr n d (BitVec.ofNat 48 x.pc)
    else if r = 1 then t.retGr n d x.ts
    else if r = 2 then t.retGr n d x.epc
    else if r = 3 then t.retGr n d x.ecause
    else if r = 4 then t.retGr n d x.modeWord
    else if r = 5 then t.retGr n d (BitVec.ofNat 48 (n + n / 8 * 2 ^ 8))
    else if r = 6 then
      if x.replay then
        match t.replayOf n with
        | some g => .retire (t.updSpn n (fun y => ({ y with timeH := (t.repTime g).extractLsb' 48 48 }).setGr d ((t.repTime g).extractLsb' 0 48)))
        | none =>
          let a := t.drawFree
          let b := a.2.drawFree
          .retire (b.2.updSpn n (fun y => ({ y with timeH := b.1 }).setGr d a.1))
      else .retire (t.updSpn n (fun y => ({ y with timeH := t.time.extractLsb' 48 48 }).setGr d (t.time.extractLsb' 0 48)))
    else if r = 7 then t.retGr n d x.timeH
    else .raise 1 0x86))
/-- MTS: EPC, ECAUSE and MODE.SPECEN. -/
def execMts (n : SpnNo) (w : BitVec 40) (s : State) : Out :=
  .next (s.issue n 0x87 w (zeros w (zS false true false 15)) [opA w] false (fun t =>
    let v := (t.spn n).gr (opA w)
    let r := low w 4
    if r = 2 then .retire (t.updSpn n (fun x => { x with epc := v }))
    else if r = 3 then .retire (t.updSpn n (fun x => { x with ecause := v &&& 0xFF00FFFFFFFF#48 }))
    else if r = 4 then .retire (t.updSpn n (fun x => { x with specen := bitOf v 8 }))
    else .raise 1 0x87))

/-- The lowest idle tag of a mask. -/
def Spindle.idleTag (x : Spindle) (mask : Nat) : Option Nat :=
  (List.range 8).find? (fun t => natBit mask t && (x.op t).isNone)

/-- WAITA. -/
def execWaita (n : SpnNo) (w : BitVec 40) (s : State) : Out :=
  .next (s.issue n 0x88 w (zeros w (zS true false false 255)) [opD w] false (fun t =>
    match (t.spn n).idleTag (low w 8) with
    | some k => t.retGr n (opD w) (BitVec.ofNat 48 k)
    | none => .stall))

end Sys2Proof.Machine
end

