-- ==== Sys2Proof/Machine/Tagged.lean ====
section
/-! DEFINITION. Issue of the tagged operations and the acceptance of swaps and mirrors (R92, R94, R210–R215, R224, R243, R252). -/

namespace Sys2Proof.Machine

/-! ## Delegation (R35, R224, R243, R255) -/

/-- Bit p of a pair of 48-bit port masks. -/
def State.portMask (s : State) (a0 a1 p : Nat) : Bool := if p < 48 then s.rb a0 p else s.rb a1 (p - 48)

/-- Spindle n may gather from, and may write the coefficients of, port p. -/
def State.mayGather (s : State) (n p : Nat) : Bool :=
  decide ((s.spn n).mode = 0) || s.portMask (Reg.SPN_DGATHER0 n) (Reg.SPN_DGATHER1 n) p
def State.mayWritePort (s : State) (n p : Nat) : Bool :=
  decide ((s.spn n).mode = 0) || s.portMask (Reg.SPN_DWRITE0 n) (Reg.SPN_DWRITE1 n) p
/-- The same for skein k of line group g. -/
def State.mayGatherSk (s : State) (n g k : Nat) : Bool := decide ((s.spn n).mode = 0) || s.rb (Reg.SPN_DSKG n) (8 * g + k)
def State.mayWriteSk (s : State) (n g k : Nat) : Bool := decide ((s.spn n).mode = 0) || s.rb (Reg.SPN_DSKW n) (8 * g + k)

/-- LC_STATE and ID_MGMTPATH with their A + 1. -/
def hostOnly (a : Nat) : Bool := decide (0x10 ≤ a ∧ a ≤ 0x13)

/-- Word a lies in a window of spindle n. -/
def State.inWindow (s : State) (n a : Nat) : Bool :=
  (List.range 8).any (fun k => s.rb (Reg.SPN_DWBASE n k) 47 && decide (s.rf (Reg.SPN_DWBASE n k) 31 0 ≤ a ∧ a ≤ s.rf (Reg.SPN_DWLIM n k) 31 0))

/-- The requester may write register word a. -/
def State.mayWrite (s : State) (r a : Nat) : Bool :=
  if r = reqHost then true
  else if hostOnly a then false
  else if r = reqJtag then true
  else decide ((s.spn r).mode = 0) || s.inWindow r a

/-! ## Spaces of the operations (R32, R33) -/

def isBobbin (ea : Nat) : Bool := decide (0x1000000 ≤ ea ∧ ea < 0x1800000)
def isRegSpace (ea : Nat) : Bool := decide (ea < 0x1000000)
def isFlashWin (ea : Nat) : Bool := decide (0x4000000 ≤ ea ∧ ea < 0x8000000)

/-! ## Orders of R215 -/

/-- Coefficient requests on the same skein, or on the same port, its roving queue included (R212). -/
def TagOp.sameCoef (a b : TagOp) : Bool :=
  if tgtKind a.ea = 1 then decide (tgtKind b.ea = 1 ∧ tgtGroup a.ea = tgtGroup b.ea ∧ tgtSkn a.ea = tgtSkn b.ea)
  else decide (tgtKind b.ea ≠ 1 ∧ tgtPort a.ea = tgtPort b.ea)

def TagOp.isMem (o : TagOp) : Bool := decide (o.kind = .ldb ∨ o.kind = .stb)

/-- `o` must wait for the earlier operation `p`. -/
def TagOp.after (o p : TagOp) : Bool :=
  decide (p.seq < o.seq) &&
  ((o.isMem && p.isMem && ((isRegSpace o.ea && isRegSpace p.ea) || decide (o.ea = p.ea))) ||
   (o.isCoef && p.isCoef && o.sameCoef p) ||
   decide (o.kind = .mbs ∧ p.kind = .mbs ∧ o.ea = p.ea) ||
   (decide (o.kind = .ulk) && p.writes))

def Spindle.blocked (x : Spindle) (o : TagOp) : Bool := x.inFlight (fun p => o.after p)

/-- A CWR of a spindle is written in part: it holds back the coefficient requests that pass (R212). -/
def State.partWritten (s : State) (pick : Nat → TagOp → Bool) : Bool :=
  (List.range 48).any (fun m => (s.spn m).inFlight (fun p => decide (p.kind = .cwr ∧ p.done.isNone ∧ 0 < p.taken) && pick m p))

/-- Another spindle's such CWR holds back every coefficient request on its port. -/
def State.coefHeld (s : State) (n : Nat) (o : TagOp) : Bool := o.isCoef && s.partWritten (fun m p => decide (m ≠ n) && o.sameCoef p)

/-- Such a CWR holds back the runtime's coefficient requests on port p, from whatever requester (R212). -/
def State.portHeld (s : State) (p : Nat) : Bool := s.partWritten (fun _ o => decide (tgtKind o.ea ≠ 1 ∧ tgtPort o.ea = p))

/-- The operation must wait for another. -/
def State.tagBlocked (s : State) (n : Nat) (o : TagOp) : Bool := (s.spn n).blocked o || s.coefHeld n o

/-! ## Recording an operation -/

def State.setTag (s : State) (n t : Nat) (o : TagOp) : State := s.updSpn n (fun x => x.setOp t (some o))

/-- Record an operation on its tag; issue on a tag in flight stalls (R25). `post` is what the request does as it is sent. -/
def State.launch (s : State) (n t : Nat) (o : TagOp) (post : State → State) : Act :=
  if ((s.spn n).op t).isSome then .hold
  else .retire (post (s.updSpn n (fun x => { (x.setOp t (some { o with seq := x.issued })) with issued := x.issued + 1 })))

/-- A load on a predicted path: counted and recorded (R220, R312). -/
def State.specLoad (s : State) (n ea : Nat) : State :=
  let s1 := (s.updSpn n (fun x => { x with ckpts := x.ckpts.map (fun c => { c with loads := c.loads ++ [ea] }) })).bump (Reg.SPN_SPECCNT n)
  if s1.dstRecording then (s1.dstEvent 0x09 true (128 + n) ea []).bump Reg.DST_SPECREC else s1

/-- The domain that serves a coefficient target. -/
def tgtDom (v : Nat) : Nat := if tgtKind v = 1 then 24 + tgtGroup v else quadOf (tgtPort v)

/-- The domain an operation in flight has asked. -/
def opDomain (o : TagOp) : Option Nat :=
  match o.kind with
  | .ldb | .stb => domainOf o.ea
  | .gsw => some (if gthSkein o.ea then 24 + gthGroup o.ea else quadOf (gthPort o.ea))
  | .cwr | .cswSwap | .cswMirror => some (tgtDom o.ea)
  | .ftx => some 48
  | _ => none

/-- UNIT of the block that an operation has asked. -/
def opUnit (o : TagOp) : Nat :=
  match o.kind with
  | .ldb | .stb => (opDomain o).elim 0 (fun d => unitIn d o.ea)
  | .gsw => if gthSkein o.ea then 0 else gthPort o.ea % 4
  | .cwr | .cswSwap | .cswMirror => if tgtKind o.ea = 1 then 0 else tgtPort o.ea % 4
  | _ => 0

/-- The request meets its domain (R26, R342): ABSENT decided, a wake started, or it goes on. -/
def State.reach (s : State) (n t d : Nat) : State :=
  match (s.spn n).op t with
  | none => s
  | some o =>
    if o.done.isSome then s
    else
      match s.gate d with
      | .go => s.refuseEntryAt d (opUnit o)
      | .absent => (if o.kind = .cwr then s.crossDrop d 4 else s).setTag n t { o with done := some stABSENT }
      | .stall => s.wakeOnDemand d

/-! ## Coefficient swaps and mirrors (R92, R94, R124) -/

/-- A swap or mirror is performed: accepted with its mark set, or refused. In replay the line group's replay datapath takes it (R225, R319);
without one there is no target (DESIGN CHOICE, log entry 63). -/
def State.acceptCsw (s : State) (n t : Nat) : State :=
  match (s.spn n).op t with
  | none => s
  | some o =>
    if o.done.isSome ∨ s.tagBlocked n o then s
    else if (s.spn n).replay then
      match s.replayOf n with
      | none => s.setTag n t { o with done := some stABSENT }
      | some g =>
        if o.kind = .cswMirror then (s.repDo g (fun u => u.copyHalf (tgtPort o.ea))).setTag n t { o with done := some stOK }
        else
          let r := s.repSwap g o.ea
          if o.accepted ∧ (s.lg g).replay.st = 1 then s
          else if r.1 then r.2.setTag n t { o with done := some stOK } else s.setTag n t { o with accepted := true }
    else if o.accepted then s
    else if tgtKind o.ea = 0 then
      let p := tgtPort o.ea
      let s1 := s.reach n t (quadOf p)
      if s.gate (quadOf p) ≠ .go then s1
      else if s.cswRefusal p ≠ 0 then (s1.refuseCsw p (s.cswRefusal p)).setTag n t { o with done := some stREFUSED }
      else (s1.setRb (Reg.PORT_COEFSTAT p) (if o.kind = .cswSwap then 6 else 7) true).setTag n t { o with accepted := true }
    else
      let g := tgtGroup o.ea
      let k := tgtSkn o.ea
      let s1 := s.reach n t (24 + g)
      if s.gate (24 + g) ≠ .go then s1
      else if s.skBusy g k ≠ 0 then (s1.refuseSkSwap g (s.skBusy g k)).setTag n t { o with done := some stREFUSED }
      else (s1.updLg g (fun x => { x with pend := x.pend ||| (1#8 <<< k) })).setTag n t { o with accepted := true }

/-- Swaps and mirrors that nothing blocks any more are performed. -/
def State.acceptAll (s : State) (n : Nat) : State :=
  forAll (fun u t =>
    match (u.spn n).op t with
    | some o => if o.kind = .cswSwap ∨ o.kind = .cswMirror then u.acceptCsw n t else u
    | none => u) (List.range 8) s

/-! ## Knots (R213, R252) -/

/-- A lock request reaches its knot. -/
def State.lckReach (s : State) (n t k : Nat) (try_ : Bool) : State :=
  match (s.spn n).op t with
  | none => s
  | some o =>
    if o.done.isSome then s
    else if s.knotHeld k = false ∧ (s.waiters k).isEmpty then
      (s.takeKnot k n).setTag n t { o with done := some (if s.knotBroken k then stBROKEN else stOK) }
    else if (s.knotHeld k ∧ s.knotOwner k = n) ∨ try_ then s.setTag n t { o with done := some stREFUSED }
    else s.setWaiters k (s.waiters k ++ [(n, t)])

/-! ## Meanings of the rows -/

/-- g[A] + OFFSET27. -/
def State.tagEa (s : State) (n : Nat) (w : BitVec 40) : Nat := ((s.spn n).gr (opA w) + off27 w).toNat

/-- LDB. -/
def execLdb (n : SpnNo) (w : BitVec 40) (s : State) : Out :=
  .next (s.issue n 0x40 w true [opD w, opA w] true (fun t =>
    let ea := t.tagEa n w
    let ahead := !(t.spn n).ckpts.isEmpty
    if ahead ∧ isBobbin ea = false then .hold
    else
      t.launch n (opT w)
        { kind := .ldb, ea := ea, dst := some (opD w), spec := ahead
          done := if isBobbin ea ∨ isRegSpace ea then none else some stNOMAP }
        (fun u => if ahead then u.specLoad n ea else u)))

/-- STB: it is held to the delegation in force as it is issued (R243). -/
def execStb (n : SpnNo) (w : BitVec 40) (s : State) : Out :=
  .next (s.issue n 0x41 w true [opD w, opA w] false (fun t =>
    let ea := t.tagEa n w
    let denied := isRegSpace ea && !(t.mayWrite n ea)
    t.launch n (opT w)
      { kind := .stb, ea := ea, val := (t.spn n).gr (opD w)
        done := if denied then some stDENIED else if isBobbin ea ∨ isRegSpace ea then none else some stNOMAP }
      (fun u => if denied then u.raise (0x080 + n) 0x14 ea else u)))

/-- The descriptor names an existing port or skein and source. R211 gives no outcome for bits it calls zero that are not: the gather completes NOMAP
(DESIGN CHOICE, log entry 170). -/
def gthOk (v : Nat) : Bool :=
  decide (gthSrc v ≠ 3 ∧ v / 2 ^ 32 % 64 = 0) &&
    (if gthSkein v then decide (gthGroup v < 6 ∧ v / 2 ^ 38 % 2 = 0) else decide (gthPort v < 96))

/-- GSW. -/
def execGsw (n : SpnNo) (w : BitVec 40) (s : State) : Out :=
  .next (s.issue n 0x42 w (zeros w (2 ^ 27 - 2 ^ 10)) [opD w, opA w] false (fun t =>
    let x := t.spn n
    let v := (x.gr (opA w)).toNat
    let loc := (x.gr (opD w)).toNat
    let len := low w 10 + 1
    let sk := gthSkein v
    let may := if sk then t.mayGatherSk n (gthGroup v) (gthSkn v) else t.mayGather n (gthPort v)
    let dom := if sk then 24 + gthGroup v else quadOf (gthPort v)
    if sk = false ∧ localOk loc len = false then .raise 3 (firstBadLocal loc)
    else
      t.launch n (opT w)
        { kind := .gsw, ea := v, loc := loc
          len := if sk then len * (t.skServing (gthGroup v) (gthSkn v)).length else len
          val := BitVec.ofNat 48 len
          done := if gthOk v = false then some stNOMAP else if may = false then some stDENIED else none }
        (fun u => if x.replay then u else u.reach n (opT w) dom)))

/-- The coefficient target exists, and its last word lies inside the half or slot (R212). For bits that R212 calls zero and that are not, and for an
OFFSET under TGT 0x2 or CSW, it gives no outcome: the request completes NOMAP (DESIGN CHOICE, log entry 170). -/
def tgtOk (v last : Nat) : Bool :=
  if tgtKind v = 0 then decide (tgtPort v < 96 ∧ v / 2 ^ 10 % 2 ^ 27 = 0 ∧ last ≤ 0x253)
  else if tgtKind v = 1 then decide (tgtGroup v < 6 ∧ v / 2 ^ 10 % 2 ^ 24 = 0 ∧ last ≤ 0x152)
  else decide (tgtKind v = 2 ∧ tgtPort v < 96 ∧ v % 2 ^ 37 = 0)

/-- The spindle may write the target. -/
def State.mayTgt (s : State) (n v : Nat) : Bool :=
  if tgtKind v = 1 then s.mayWriteSk n (tgtGroup v) (tgtSkn v) else s.mayWritePort n (tgtPort v)

/-- CWR. -/
def execCwr (n : SpnNo) (w : BitVec 40) (s : State) : Out :=
  .next (s.issue n 0x43 w (zeros w (2 ^ 27 - 2 ^ 10)) [opD w, opA w] false (fun t =>
    let x := t.spn n
    let v := (x.gr (opA w)).toNat
    let loc := (x.gr (opD w)).toNat
    let len := low w 10 + 1
    if localOk loc len = false then .raise 3 (firstBadLocal loc)
    else
      t.launch n (opT w)
        { kind := .cwr, ea := v, loc := loc, len := len
          done := if tgtOk v (tgtOffset v + len - 1) = false then some stNOMAP
                  else if t.mayTgt n v = false then some stDENIED else none }
        (fun u => if x.replay then u else u.reach n (opT w) (tgtDom v))))

/-- CSW: a row of each function; the word's OFFSET27[0] names it. -/
def State.issueCsw (s : State) (n : Nat) (w : BitVec 40) (k : OpKind) : State :=
  s.issue n 0x44 w (zeros w (31 * 2 ^ 35 + 2 ^ 27 - 2)) [opA w] false (fun t =>
    let v := ((t.spn n).gr (opA w)).toNat
    t.launch n (opT w)
      { kind := k, ea := v
        done := if tgtOk v 0 = false ∨ tgtKind v = 2 ∨ v % 2 ^ 10 ≠ 0 ∨ (tgtKind v = 1 ∧ (k = .cswMirror ∨ tgtVictim v ≠ 0)) then some stNOMAP
                else if t.mayTgt n v = false then some stDENIED else none }
      (fun u => u.acceptCsw n (opT w)))

/-- CSW_SWAP. -/
def execCswSwap (n : SpnNo) (w : BitVec 40) (s : State) : Out :=
  .next (if low w 1 = 0 then s.issueCsw n w .cswSwap else s)
/-- CSW_MIRROR. -/
def execCswMirror (n : SpnNo) (w : BitVec 40) (s : State) : Out :=
  .next (if low w 1 = 1 then s.issueCsw n w .cswMirror else s)

/-- LDF. -/
def execLdf (n : SpnNo) (w : BitVec 40) (s : State) : Out :=
  .next (s.issue n 0x45 w true [opD w, opA w] true (fun t =>
    let ea := t.tagEa n w
    let ahead := !(t.spn n).ckpts.isEmpty
    t.launch n (opT w)
      { kind := .ldf, ea := ea, dst := some (opD w), spec := ahead
        done := if isFlashWin ea = false then some stNOMAP else if (t.spn n).mode = 2 then some stDENIED else none }
      (fun u => if ahead then u.specLoad n ea else u)))

/-- Mailboxes that a mode may send to (R224). -/
def State.maySend (s : State) (n ea : Nat) : Bool :=
  decide ((s.spn n).mode ≠ 2 ∨ ea = 48 ∨ ea = s.rf Reg.MB_SUPLOC 5 0 ∨ (s.spn ea).mode = 2)

/-- MBS. -/
def execMbs (n : SpnNo) (w : BitVec 40) (s : State) : Out :=
  .next (s.issue n 0x46 w true [opD w, opA w] false (fun t =>
    let ea := t.tagEa n w
    t.launch n (opT w)
      { kind := .mbs, ea := ea, val := (t.spn n).gr (opD w)
        done := if 48 < ea then some stNOMAP else if t.maySend n ea = false then some stDENIED else none } id))

/-- MBR: A and OFFSET27 are zero. -/
def execMbr (n : SpnNo) (w : BitVec 40) (s : State) : Out :=
  .next (s.issue n 0x47 w (zeros w (31 * 2 ^ 30 + 2 ^ 27 - 1)) [opD w] false (fun t =>
    t.launch n (opT w) { kind := .mbr, ea := 0, dst := some (opD w) } id))

/-- A knot operation that the mode or the number stops (R210, R224). -/
def State.knotStop (s : State) (n ea : Nat) : Option Nat :=
  if 63 < ea then some stNOMAP else if (s.spn n).mode = 2 ∧ ea < 32 then some stDENIED else none

/-- LCK: D[35] is TRY. -/
def execLck (n : SpnNo) (w : BitVec 40) (s : State) : Out :=
  .next (s.issue n 0x48 w (zeros w (15 * 2 ^ 36)) [opA w] false (fun t =>
    let ea := t.tagEa n w
    let try_ := natBit (opD w) 0
    t.launch n (opT w) { kind := .lck, ea := ea, try_ := try_, done := t.knotStop n ea } (fun u => u.lckReach n (opT w) ea try_)))

/-- ULK. -/
def execUlk (n : SpnNo) (w : BitVec 40) (s : State) : Out :=
  .next (s.issue n 0x49 w (zeros w (31 * 2 ^ 35)) [opA w] false (fun t =>
    let ea := t.tagEa n w
    t.launch n (opT w) { kind := .ulk, ea := ea, done := t.knotStop n ea } id))

/-- FRX: OFFSET27 is the capacity in words. R210 gives it as 2 to 1,538 and no outcome outside that range: the model takes every capacity whose words
lie in DMEM, 0 and 1 included (DESIGN CHOICE, log entry 170). -/
def execFrx (n : SpnNo) (w : BitVec 40) (s : State) : Out :=
  .next (s.issue n 0x4A w true [opD w, opA w] false (fun t =>
    let loc := ((t.spn n).gr (opA w)).toNat
    if localOk loc (low w 27) = false then .raise 3 (firstBadLocal loc)
    else t.launch n (opT w) { kind := .frx, ea := 0, loc := loc, len := low w 27, dst := some (opD w) } id))

/-- LEN of a tag header's W1 (R290). -/
def tagLen (w1 : Word) : Nat := fld w1 35 22

/-- FTX: the words touched are the two header words, read as it is issued, and, for a LEN within 64–9,216, the frame. -/
def execFtx (n : SpnNo) (w : BitVec 40) (s : State) : Out :=
  .next (s.issue n 0x4B w (zeros w (31 * 2 ^ 35)) [opA w] false (fun t =>
    let ea := t.tagEa n w
    if localOk ea 2 = false then .raise 3 (firstBadLocal ea)
    else
      let h := t.dmsRead n (ea - dmemBase) 2
      let len := tagLen (nth 0#48 h.1 1)
      let good := decide (64 ≤ len ∧ len ≤ 9216)
      let words := if good then 2 + ceilDiv len 6 else 2
      if localOk ea words = false then .raise 3 (firstBadLocal ea)
      else
        h.2.launch n (opT w)
          { kind := .ftx, ea := ea, loc := ea, len := words, val := BitVec.ofNat 48 len, done := if good then none else some stREFUSED } id))

/-- KNOT_GRANT (R252): a free knot goes to its oldest waiting request, BROKEN if it was released broken. -/
def execKnotGrant (k : Fin 64) (s : State) : Out :=
  if s.knotHeld k then .next s
  else
    match s.waiters k with
    | [] => .next s
    | (n, t) :: rest =>
      let s1 := (s.setWaiters k rest).takeKnot k n
      match (s1.spn n).op t with
      | some o => .next (s1.setTag n t { o with done := some (if s.knotBroken k then stBROKEN else stOK) })
      | none => .next (s.setWaiters k rest)

end Sys2Proof.Machine
end

