-- ==== Sys2Proof/Machine/Clocks.lean ====
section
/-! DEFINITION. Clock sources, loops, source switching and failure, and the time unit (R323–R337, R413–R416). -/

namespace Sys2Proof.Machine

/-! ## Sources (R323) -/

/-- The source that is loop k. -/
def loopSrc (k : Nat) : Nat := k + 2

/-- Source s is a loop. -/
def isLoop (src : Nat) : Bool := decide (2 ≤ src ∧ src ≤ 16)

/-- READY of a source. -/
def State.ready (s : State) (src : Nat) : Bool := s.rb Reg.CLK_READY src

/-- The reference of loop k: HLREF for PLL_HL, else the crystal of REFSEL; none for a code that names no crystal. -/
def State.loopRef (s : State) (k : Nat) : Option Nat :=
  if k = 13 then some 17
  else
    let r := s.rf (Reg.CLK_PLLCTL k) 1 0
    if r < 2 then some r else none

def State.loopEn (s : State) (k : Nat) : Bool := s.rb (Reg.CLK_PLLCTL k) 47

/-- The reference of loop k is ready. -/
def State.loopRefReady (s : State) (k : Nat) : Bool :=
  match s.loopRef k with
  | some r => s.ready r
  | none => false

/-- The loop that the field at a bit of CLK_SRCSEL selects. -/
def fieldLoop (b : Nat) : Nat := if b = 0 ∨ b = 10 then 0 else if b = 8 then 13 else if b = 9 then 14 else b - 1

/-- Fields of CLK_SRCSEL. -/
def srcFields : List Nat := [0, 2, 3, 4, 5, 6, 7, 8, 9, 10]

/-- Domain d of a field (R324); ROOT stands for the core family. -/
def fieldDomain (b : Nat) : Nat := if b = 0 then 3 else if b = 8 then 13 else if b = 9 then 15 else if b = 10 then 16 else b + 5

/-! ## Quiet ports (R332) -/

/-- A port that leaves FAULT with its loops back transmits again. -/
def State.relQuiet (s : State) (p : Nat) : State :=
  if s.pst p = stFault then s
  else
    let g := lgOf p
    s.updPort p (fun x => { x with
      quietH := x.quietH && !(s.rb Reg.CLK_ACTIVE (2 + g))
      quietL := x.quietL && !(s.ready (9 + g)) })

/-- The high or low loop of group g is back: its ports outside FAULT transmit again. -/
def State.loopBack (s : State) (g : Nat) (low : Bool) : State :=
  forAll (fun t i =>
    if t.pst (16 * g + i) = stFault then t
    else t.updPort (16 * g + i) (fun x => if low then { x with quietL := false } else { x with quietH := false })) (List.range 16) s

/-- CLK_ACTIVE has changed from `old`: what waited for a domain's return to its source is released, not what has gone quiet ahead of a failure that is
still to be declared. -/
def State.afterSwitch (s : State) (old : Word) : State :=
  let rose := fun (b : Nat) => s.rb Reg.CLK_ACTIVE b && !(bitOf old b)
  let s1 := if rose 0 then s.setFlt { s.flt with async := false } else s
  forAll (fun t g => if rose (2 + g) then t.loopBack g false else t) (List.range 6) s1

/-- A read of CLK_READY sets the ACK bit of every ready source. -/
def State.ackReady (s : State) : State := s.setReg Reg.CLK_ACK (s.reg Reg.CLK_ACK ||| s.reg Reg.CLK_READY)

/-- The domains of the fields in `bits` run on their sources. -/
def State.activate (s : State) (bits : Word) : State :=
  (s.setReg Reg.CLK_ACTIVE (s.reg Reg.CLK_ACTIVE ||| bits)).afterSwitch (s.reg Reg.CLK_ACTIVE)

/-- Fields of CLK_SRCSEL are set and their domains move (R330). -/
def State.moveTo (s : State) (bits : Word) : State :=
  let s1 := s.ackReady
  (s1.setReg Reg.CLK_SRCSEL (s1.reg Reg.CLK_SRCSEL ||| bits)).activate bits

/-- A source is ready and, a loop, no longer blocked from the domains (R334). -/
def State.usable (s : State) (src : Nat) : Bool := s.ready src && !(s.src src).blocked

/-- The boot sequencer moves the core family and CSP0, and HLT where HL0 carries management, once their loops are ready (R330). -/
def State.bootMove (s : State) : State :=
  let s1 := if s.boot.coreDue ∧ s.usable 2 then ({ s with boot := { s.boot with coreDue := false } } : State).moveTo 0x401#48 else s
  if s1.boot.hlDue ∧ s1.usable 15 ∧ s1.ready 17 then ({ s1 with boot := { s1.boot with hlDue := false } } : State).moveTo 0x100#48 else s1

/-! ## Failure (R331, R333) -/

/-- Monitor fault of a source. -/
def monitorFault (src : Nat) : Nat :=
  if src = 0 then 0x0D0 else if src = 1 then 0x0D1 else if src = 2 then 0x0D2
  else if src ≤ 8 then 0x0D3 + (src - 3) else if src ≤ 14 then 0x0D3 + (src - 9)
  else if src = 15 then 0x0D9 else if src = 16 then 0x0DA else 0x0DB

/-- Fields of CLK_SRCSEL that select a source. -/
def srcOfField (b : Nat) : Nat := loopSrc (fieldLoop b)

/-- A port whose symbol clock or roving sampling comes from PLL_LGgL (R57, R171). -/
def State.onLowLoop (s : State) (p : Nat) : Bool :=
  decide (s.txMode p = 1 ∨ s.txMode p = 2 ∨ s.txMode p = 3 ∨ s.txMode p = 8)

/-- A port whose symbol clock, or whose chirps in a carding sweep, come from PLL_LGgH (R57, R185). -/
def State.onHighLoop (s : State) (p : Nat) : Bool :=
  decide (4 ≤ s.txMode p ∧ s.txMode p ≤ 7) || decide (s.pst p = stCarding) || decide (s.pst p = stRoving ∧ s.rphase p = 5)

/-- LG_CLOCK on the ports that a loop of a line group feeds (R332). -/
def State.lgClockFaults (s : State) (src : Nat) : State :=
  if 3 ≤ src ∧ src ≤ 8 then
    forAll (fun t i => t.raise (16 * (src - 3) + i) 0x03 (monitorFault src)) (List.range 16) s
  else if 9 ≤ src ∧ src ≤ 14 then
    forAll (fun t i => if s.onLowLoop (16 * (src - 9) + i) then t.raise (16 * (src - 9) + i) 0x03 (monitorFault src) else t) (List.range 16) s
  else s

/-- READY of a source falls, and ACK with it. -/
def State.unready (s : State) (src : Nat) : State :=
  ((s.setRb Reg.CLK_READY src false).setRb Reg.CLK_ACK src false).updSrc src (fun x => { x with good := 0, due := 0 })

/-- A ready source fails: 0 reference failed, 1 window, 2 lock lost, 3 no edge. -/
def State.failOne (s : State) (src why : Nat) : State :=
  let s1 := ((s.unready src).setRb Reg.CLK_FAIL src true).bump (Reg.CLK_FAILCNT src)
  let s2 := forAll (fun t b => if srcOfField b = src then t.setRb Reg.CLK_ACTIVE b false else t) srcFields s1
  (s2.raise (monitorFault src) 0x20 (why + 4 * bnat (decide (9 ≤ src ∧ src ≤ 14)))).lgClockFaults src

/-- The reference of loop k has failed: it moves to the other crystal, or fails. -/
def State.refLost (s : State) (x k : Nat) : State :=
  if s.loopRef k = some x ∧ s.loopEn k then
    if k ≠ 13 ∧ s.rb (Reg.CLK_PLLCTL k) 2 ∧ s.ready (1 - x) then s.setRf (Reg.CLK_PLLCTL k) 1 0 (1 - x)
    else
      let s1 := s.updSrc (loopSrc k) (fun y => { y with locked := false, blocked := true, good := 0 })
      if s.ready (loopSrc k) then s1.failOne (loopSrc k) 0 else s1
  else s

/-- CLK_SOURCE_FAIL (R331, R333): a source that is not ready only restarts its count of good windows. -/
def State.sourceFail (s : State) (src why : Nat) : State :=
  if s.ready src then
    let s1 := s.failOne src why
    if isLoop src then s1 else forAll (fun t k => t.refLost src k) (List.range 15) s1
  else s.updSrc src (fun x => { x with good := 0 })

/-! ## Monitors (R327, R331, R334) -/

/-- The window of a source lies within its limits (R327): `dev` is the source's deviation from its reference in 0.1 ppm, two's complement, FOSC for a
crystal; `ppm` XTAL0's from XTAL1, which judges XTAL0 while XTAL1 is ready. A crystal has ±4% against FOSC, all else ±200 ppm. -/
def State.inLimits (s : State) (src : Nat) (dev ppm : Int) : Bool :=
  if src = 0 ∧ s.ready 1 then decide (ppm.natAbs ≤ 2000)
  else if src < 2 then decide (dev.natAbs ≤ 400000)
  else decide (dev.natAbs ≤ 2000)

/-- CLK_MONITOR_WINDOW: three good windows in a row make a source ready; a loop counts from lock, on a ready
reference, and HLREF against the crystal that PLL_CORE names. -/
def execClkMonitorWindow (src : Fin 18) (dev : BitVec 32) (ppm : BitVec 16) (s : State) : Out :=
  let k := src.val - 2
  let runs := if isLoop src then s.loopEn k && (s.src src).locked && s.loopRefReady k else decide (src.val ≠ 17) || s.loopRefReady 0
  let s1 := if src.val = 0 ∧ s.ready 1 then s.setRf Reg.CLK_XTALPPM 15 0 ppm.toNat else s
  if runs = false then .next s1
  else if s.inLimits src dev.toInt ppm.toInt = false then .next (s1.sourceFail src 1)
  else
    let n := (s.src src).good + 1
    if s.ready src then .next s1
    else if n < 3 then .next (s1.updSrc src (fun x => { x with good := n }))
    else
      let s2 := ((s1.updSrc src (fun x => { x with good := 3 })).setRb Reg.CLK_READY src true).setRb Reg.CLK_FAIL src false
      .next (if 9 ≤ src.val ∧ src.val ≤ 14 then s2.loopBack (src.val - 9) true else s2).bootMove

/-- PLL_LOCK_DROP. -/
def execPllLockDrop (k : Fin 15) (s : State) : Out :=
  let src := loopSrc k
  let s1 := s.updSrc src (fun x => { x with locked := false, blocked := true })
  .next (s1.sourceFail src 2)

/-- CLK_EDGE_TIMEOUT. -/
def execClkEdgeTimeout (src : Fin 18) (s : State) : Out := .next (s.sourceFail src 3)

/-- PLL_LOCK: an enabled loop locks to its ready reference and its monitor starts to count. -/
def execPllLock (k : Fin 15) (s : State) : Out :=
  if s.loopEn k ∧ s.loopRefReady k ∧ (s.src (loopSrc k)).locked = false then
    .next (s.updSrc (loopSrc k) (fun x => { x with locked := true, good := 0 }))
  else .next s

/-- PLL_UNBLOCK: 20 µs after lock; the domains that have been given the loop meanwhile move to it. -/
def execPllUnblock (k : Fin 15) (s : State) : Out :=
  if (s.src (loopSrc k)).locked then
    let s1 := s.updSrc (loopSrc k) (fun x => { x with blocked := false, due := 0 })
    .next (if (s.src (loopSrc k)).due = 0 then s1 else s1.activate (s.src (loopSrc k)).due).bootMove
  else .next s

/-- ASYNC_SAFE_STATE (R332). -/
def execAsyncSafeState (c : WatchedClock) (s : State) : Out :=
  match c with
  | .lgH g => .next (forAll (fun t i => t.updPort (16 * g + i) (fun x => { x with quietH := true })) (List.range 16) s)
  | .lgL g =>
    .next (forAll (fun t i => if s.onLowLoop (16 * g + i) then t.updPort (16 * g + i) (fun x => { x with quietL := true }) else t)
      (List.range 16) s)
  | .hl => .next s.lanesClockFail
  | .root => .next (s.setFlt { s.flt with async := true })

/-! ## Switching (R328–R330, R334) -/

/-- A field of a CLK_SRCSEL write changes or returns its domain to the loop. -/
def State.fieldOn (s : State) (b : Nat) (w : Word) : Bool := bitOf w b && !(s.rb Reg.CLK_ACTIVE b)

/-- A field moves its running domain to the fallback. -/
def State.fieldOff (s : State) (b : Nat) (w : Word) : Bool := !(bitOf w b) && s.rb Reg.CLK_ACTIVE b

/-- REASON a field is refused with; 0 for none. -/
def State.fieldRefusal (s : State) (b : Nat) (w : Word) : Nat :=
  if s.fieldOn b w then
    if !(s.ready (srcOfField b)) then 1 else if !(s.rb Reg.CLK_ACK (srcOfField b)) then 2 else 0
  else if s.fieldOff b w ∧ 2 ≤ b ∧ b ≤ 7 ∧ (List.range 16).any (fun i => decide (s.pst (16 * (b - 2) + i) ≠ stDisabled)) then 4
  else 0

/-- A committed write of CLK_SRCSEL (R328): all of its changes or none. A domain given a loop whose output is still blocked stays on its fallback until
PLL_UNBLOCK (R334). -/
def State.srcselWrite (s : State) (w : Word) : Nat × State :=
  match srcFields.find? (fun b => decide (s.fieldRefusal b w ≠ 0)) with
  | some b => (8, (s.setRf Reg.CLK_SRCSTAT 47 44 (s.fieldRefusal b w)).setRf Reg.CLK_SRCSTAT 4 0 (fieldDomain b))
  | none =>
    let v := w &&& 0x7FD#48
    let waits := srcFields.filter (fun b => bitOf v b && (s.src (srcOfField b)).blocked && !(s.rb Reg.CLK_ACTIVE b))
    let late := BitVec.ofNat 48 (waits.foldl (fun n b => n + 2 ^ b) 0)
    let s1 := forAll (fun t b => t.updSrc (srcOfField b) (fun x => { x with due := x.due ||| (1#48 <<< b) })) waits
      ({ s with clk := s.clk.map (fun x => (x.1, { x.2 with due := x.2.due &&& v })) } : State)
    (0, ((s1.setReg Reg.CLK_SRCSEL v).setReg Reg.CLK_ACTIVE (v &&& ~~~late)).afterSwitch (s.reg Reg.CLK_ACTIVE))

/-- A domain or a port uses loop k; a carding sweep samples at the rate of roving, so from PLL_LGgL too (DEDUCED, log entry 181). -/
def State.loopUsed (s : State) (k : Nat) : Bool :=
  srcFields.any (fun b => decide (fieldLoop b = k) && (s.rb Reg.CLK_ACTIVE b || bitOf (s.src (loopSrc k)).due b)) ||
  (decide (1 ≤ k ∧ k ≤ 6) && (List.range 16).any (fun i => s.onHighLoop (16 * (k - 1) + i))) ||
  (decide (7 ≤ k ∧ k ≤ 12) && (List.range 16).any (fun i => s.onLowLoop (16 * (k - 7) + i) || decide (s.pst (16 * (k - 7) + i) = stCarding)))

/-- A loop stops by command or loses lock by one: READY falls without a fault (R331). -/
def State.loopStop (s : State) (k : Nat) : State :=
  (s.unready (loopSrc k)).updSrc (loopSrc k) (fun x => { x with locked := false, blocked := true })

/-- A committed write of CLK_PLLCTLk. REFSEL of PLL_HL reads 10 and ignores writes. -/
def State.pllctlWrite (s : State) (k : Nat) (w : Word) : Nat × State :=
  let v0 := w &&& 0x800000000007#48
  let v := if k = 13 then putFld v0 1 0 2 else v0
  let stops := s.loopEn k && !(bitOf v 47)
  let moves := decide (fld v 1 0 ≠ s.rf (Reg.CLK_PLLCTL k) 1 0)
  if (stops ∨ moves) ∧ s.loopUsed k then (8, (s.setRf Reg.CLK_SRCSTAT 47 44 3).setRf Reg.CLK_SRCSTAT 4 0 31)
  else (0, (if stops ∨ moves then s.loopStop k else s).setReg (Reg.CLK_PLLCTL k) v)

/-- CLK_AUTORETURN (R334): the supervisor reads CLK_READY and returns the selected domains whose loops are ready. -/
def execClkAutoreturn (s : State) : Out :=
  if s.rb Reg.CLK_CFG 0 ∧ 2 ≤ s.boot.phase ∧ s.rootUp then
    let s1 := s.ackReady
    .next ((forAll (fun t b => if s.rb Reg.CLK_SRCSEL b ∧ s.usable (srcOfField b) then t.setRb Reg.CLK_ACTIVE b true else t) srcFields s1).afterSwitch
      (s.reg Reg.CLK_ACTIVE))
  else .next s

/-- XQUEUE_RESUME (R335): both sides run again. -/
def execXqueueResume (d : Fin 50) (s : State) : Out :=
  let y := s.dom d
  if y.st = 0 ∧ y.chg = 0 ∧ y.isolated = false then .next (s.updDom d (fun x => { x with flushing := false })) else .next s

/-! ## Gates (R336) -/

/-- A clock domain's gate: none; or that of RUN, SLP or DEEP. -/
inductive ClockGate where
  | none
  | run
  | slp
  | deep
deriving DecidableEq, Repr

/-- Power domains of the units that clock domain d feeds; none for those that lie in ROOT. -/
def clockDoms (d : Nat) : List Nat :=
  if d = 4 then [30, 31, 32, 33, 34, 35]
  else if d = 5 then [36, 37, 38, 39, 40, 41, 42, 43, 48]
  else if d = 6 then [49]
  else if 7 ≤ d ∧ d ≤ 12 then [24 + (d - 7), 4 * (d - 7), 4 * (d - 7) + 1, 4 * (d - 7) + 2, 4 * (d - 7) + 3]
  else if d = 13 then [44, 45, 46, 47]
  else []

/-- Some operation of a spindle has not been answered, by a unit that `q` names. -/
def State.opsOpen (s : State) (q : TagOp → Bool) : Bool :=
  s.spns.any (fun x => x.2.ops.any (fun y =>
    match y.2 with
    | some o => o.done.isNone && q o
    | Option.none => false))

/-- Every consumer of clock domain d that is on is idle. -/
def State.clockIdle (s : State) (d : Nat) : Bool :=
  if d = 4 then (List.range 48).all (fun n => !(s.domOn (30 + n / 8)) || decide ((s.spn n).run ≠ .running))
  else if 7 ≤ d ∧ d ≤ 12 then (List.range 16).all (fun i => decide (s.pst (16 * (d - 7) + i) = stDisabled ∨ s.pst (16 * (d - 7) + i) = stSleep))
  else if d = 6 ∧ s.dstRecording then false
  else if d = 13 then (List.range 16).all (fun n => decide (s.lst n = laOff) || s.rb (Reg.HL_STAT n) 39)
  else if d = 2 then s.fuses.prog.isNone
  else if d = 16 then s.boot.commit.isNone && !(s.opsOpen (fun o => decide (o.kind = .ldf))) && !(s.waitQ.any (fun h => isFlashWin h.addr))
  else !(s.opsOpen (fun o => decide (domainOf o.ea ∈ (clockDoms d).map some))) &&
    !(s.waitQ.any (fun h => decide (domainOf h.addr ∈ (clockDoms d).map some)))

/-- The gate in effect. -/
def State.clockGate (s : State) (d : Nat) : ClockGate :=
  if d = 1 ∨ d = 14 ∨ d = 17 ∨ d = 18 then .none
  else if clockDoms d ≠ [] ∧ (clockDoms d).all (fun k => decide ((s.dom k).st ≠ 0)) then .deep
  else if s.clockIdle d then .slp
  else .run

/-- The domain's clock runs: the enable of the gate in effect is 1. A request restarts it. -/
def State.clockRuns (s : State) (d : Nat) : Bool :=
  match s.clockGate d with
  | .none => true
  | .run => s.rb (Reg.CLK_GATE (d - 1)) 0
  | .slp => s.rb (Reg.CLK_GATE (d - 1)) 1
  | .deep => s.rb (Reg.CLK_GATE (d - 1)) 2

/-! ## The time unit (R413–R415) -/

/-- A write of TIME_CTL: a changed SETSEQ or STEPSEQ acts at the next tick. -/
def State.timeCtlWrite (s : State) (v : Word) : State :=
  let set := decide (fld v 23 20 ≠ s.rf Reg.TIME_CTL 23 20)
  let step := decide (fld v 19 16 ≠ s.rf Reg.TIME_CTL 19 16)
  { s.setReg Reg.TIME_CTL (v &&& 0xFF0000#48) with setPend := s.setPend || set, stepPend := s.stepPend || step }

/-- PPS_IN_EDGE. -/
def execPpsInEdge (s : State) : Out :=
  if s.rootUp then .next ((s.setSh Reg.TIME_PPSCAP s.time).bump Reg.TIME_PPSCNT) else .next s

/-- PPS_OUT_PULSE: the nanosecond field passes through zero. -/
def execPpsOutPulse (s : State) : Out :=
  if s.rootUp ∧ s.rb Reg.TIME_PPSCFG 47 then .next { s with pins := { s.pins with pps := true } } else .next s

/-- PPS_OUT_END. -/
def execPpsOutEnd (s : State) : Out := .next { s with pins := { s.pins with pps := false } }

/-- A write of TIME_PPSCFG: PPS_OUT is low while OUTEN = 0. -/
def State.ppscfgWrite (s : State) (v : Word) : State :=
  let w := putFld (v &&& 0x8000000003FF#48) 9 0 (clampNat 1 999 (fld v 9 0))
  let s1 := s.setReg Reg.TIME_PPSCFG w
  if bitOf v 47 then s1 else { s1 with pins := { s1.pins with pps := false } }

end Sys2Proof.Machine
end

