-- ==== Sys2Proof/Machine/Distaff.lean ====
section
/-! DEFINITION. Meanings of the distaff and of replay: arming, triggers, freezing, reading, export, replay, d3 triggers (R308–R321). -/

namespace Sys2Proof.Machine

/-! ## Arming (R308, R309, R315) -/

/-- Recorded words per second of a channel times 128 (R308, R309). -/
def State.dstRate (s : State) (c : Nat) : Nat :=
  let w := s.reg (Reg.DST_CH c)
  let p := fld w 46 40
  let r := symRate (s.lineMode p)
  let full :=
    if s.tapKind p (fld w 39 39) = 3 ∧ s.pst p = stRoving then 16000000
    else if s.tapKind p (fld w 39 39) = 3 ∧ s.pst p = stCarding then 31250000
    else r.1 * 10 ^ 9 / (4 * r.2)
  full * 2 ^ (7 - fld w 38 36)

/-- REASON an arm is refused with; 0 for none. -/
def State.armRefusal (s : State) : Nat :=
  if s.dstState ≠ 0 then 3
  else if 4320000000 * 128 < s.dstChannels.foldl (fun n c => n + s.dstRate c) 0 then 1
  else if s.dstChannels.any (fun c => decide (96 ≤ s.rf (Reg.DST_CH c) 46 40) || !(s.quadOn (s.rf (Reg.DST_CH c) 46 40))) then 2
  else if s.reg Reg.BIST_DSTFAIL ≠ 0 then 5
  else 0

/-- A hank is armed: a new HANKID, an empty event ring, every enabled channel started with a checkpoint (R314, R315). -/
def State.dstArmNow (s : State) : State :=
  let s1 := s.setReg Reg.DST_HANKID (BitVec.ofNat 48 ((s.rf Reg.DST_HANKID 31 0 + 1) % 2 ^ 32))
  let s2 := (((s1.setRf Reg.DST_STAT 47 45 1).setRb Reg.DST_STAT 44 false).setRf Reg.DST_STAT 39 36 0).setReg Reg.DST_HANKLEN 0
  let s3 : State := { s2 with dst :=
      { armAt := s.time, armNow := s.now, armWord := (List.range 4).map s.chDone, words := [[], [], [], []], total := [0, 0, 0, 0],
        left := [0, 0, 0, 0], marks := [0, 0, 0, 0], armBase := [0, 0, 0, 0], restart := [false, false, false, false] } }
  forAll State.takeCkp s3.dstChannels s3

/-! ## The hank (R314, R317) -/

/-- Words of a channel from the oldest checkpoint whose samples are all held: (first word, words). -/
def State.hankChannel (s : State) (c : Nat) : Nat × List Word :=
  let ws := nth [] s.dst.words c
  let first := nth 0 s.dst.total c - ws.length
  match s.firstCkp c with
  | some k => (k.word, ws.drop (k.word - first))
  | none => (first, ws)

/-- The linear sequence of R317. -/
def State.buildHank (s : State) : List Word :=
  let ch := (List.range 4).map s.hankChannel
  let cks := (List.range 4).flatMap (fun c => s.dst.ckpts.filter (fun k => decide (k.ch = c ∧ (nth (0, []) ch c).1 ≤ k.word)))
  let trig := s.reg Reg.DST_TRIGTIME
  let trigHi := s.reg (Reg.DST_TRIGTIME + 1)
  let ver := if s.rb Reg.MB_RTSLOT 0 then s.rf Reg.MB_RTSTAT 15 0 else s.rf Reg.MB_RTSTAT 31 16
  let head : List Word :=
    [0xD15700010000#48, s.reg Reg.DST_HANKID, s.dst.armAt.extractLsb' 0 48, s.dst.armAt.extractLsb' 48 48, trig, trigHi,
     BitVec.ofNat 48 (s.rf Reg.DST_STAT 39 36)] ++ (List.range 4).map (fun c => s.reg (Reg.DST_CH c)) ++
    ch.map (fun x => BitVec.ofNat 48 x.1) ++ ch.map (fun x => BitVec.ofNat 48 x.2.length) ++
    [BitVec.ofNat 48 cks.length, BitVec.ofNat 48 s.dst.events.length, BitVec.ofNat 48 ver, BitVec.ofNat 48 (s.rf Reg.DST_STAT 44 44)]
  padWords 32 head ++ cks.flatMap (fun k => padWords 1024 k.body) ++ s.dst.events.flatMap (fun e => [e.1, e.2]) ++ ch.flatMap (fun x => x.2)

/-- The channel stops with a STOP event (R311, R316). -/
def State.dstStop (s : State) (c : Nat) : State :=
  let p := s.rf (Reg.DST_CH c) 46 40
  if s.chRecords p c then
    let s1 := s.dstEvent 0x0C false p ((nth 0 s.dst.total c - 1) % 2 ^ 32 * 256) []
    { s1 with dst := { s1.dst with stopped := s1.dst.stopped ||| (1#4 <<< c) } }
  else s

/-- Every channel has stopped or has recorded its words after the trigger (R315). -/
def State.postOver (s : State) : Bool := s.dstChannels.all (fun c => s.dst.stopped.getLsbD c || decide (nth 0 s.dst.left c = 0))

/-- DST_POST_DONE (R315): the channels stop, checkpoints still being taken are stored, and the hank freezes. -/
def execDstPostDone (_ : Unit) (s : State) : Out :=
  if s.dstState = 2 ∧ s.postOver then
    let s0 := forAll State.dstStop [0, 1, 2, 3] s
    let s1 := forAll State.putCkp s.dst.taking { s0 with dst := { s0.dst with taking := [] } }
    let h := s1.buildHank
    let s2 : State := { s1 with dst := { s1.dst with hank := h } }
    .next ((s2.setRf Reg.DST_STAT 47 45 3).setReg Reg.DST_HANKLEN (BitVec.ofNat 48 h.length))
  else .next s

/-- DST_CHECKPOINT (R314): the copy of channel c's checkpoint that is being taken, oldest first, is complete; its content is that of its symbol. With
none being taken nothing happens. The channel keeps its latest four. -/
def execDstCheckpoint (c : Fin 4) (_ : Unit) (s : State) : Out :=
  match s.dst.taking.find? (fun k => decide (k.ch = c.val)) with
  | some k => .next (({ s with dst := { s.dst with taking := s.dst.taking.erase k } } : State).putCkp k)
  | none => .next s

/-! ## Export (R318) -/

/-- One export frame: words from `off` of the hank. -/
def State.exportFrame (s : State) (off : Nat) (ws : List Word) : List Byte :=
  let h := bytesOfWord (s.reg Reg.DST_EXPDMAC) ++ valBytes 6 Config.deviceMac.toNat ++ [0x88#8, 0xB5#8] ++
    valBytes 4 (s.rf Reg.DST_HANKID 31 0) ++ valBytes 4 off ++ valBytes 2 ws.length ++ bytesOfWords ws
  let body := h ++ List.replicate (60 - h.length) 0#8
  body ++ fcsBytes (crc32 body)

/-- Queue the hank's frames of up to 240 words, each with its cells (R21). -/
def State.exportFrom (s : State) (e q : Nat) : Nat → Nat → List Word → State
  | 0, _, _ => s
  | fuel + 1, off, l =>
    if l.isEmpty then s
    else
      let bs := s.exportFrame off (l.take 240)
      let fid := s.tm.nextFid
      let s1 := s.store { src := 113, tsNs := tsNsOf s.time, len := bs.length } bs 1
      State.exportFrom (s1.enqueue e q fid) e q fuel (off + 240) (l.drop 240)

/-- Start the export of a frozen hank. -/
def State.dstExportNow (s : State) : State :=
  let w := s.reg Reg.DST_EXPCFG
  if bitOf w 47 ∧ s.dstState = 3 then s.exportFrom (96 + fld w 44 41) (fld w 40 38) (s.dst.hank.length / 240 + 1) 0 s.dst.hank else s

/-! ## DST_CTL (R315, R316) -/

/-- A replay reads the distaff. -/
def State.replayReads (s : State) : Bool :=
  (List.range 6).any (fun g => decide ((s.lg g).replay.st = 1) && !(s.lg g).replay.src)

/-- UNIT of a requester in an event record (R311): a spindle, or the host, which stands under management. -/
def reqUnit (r : Nat) : Nat := if r < 48 then 128 + r else 112

/-- A write of DST_CTL by requester r: each changed field acts. A refused change leaves the register as it was. -/
def State.dstCtlWrite (s : State) (r0 : Nat) (v : Word) : Nat × State :=
  let chg := fun hi lo => decide (fld v hi lo ≠ s.rf Reg.DST_CTL hi lo)
  let r := if chg 23 20 then s.armRefusal else 0
  if r ≠ 0 then (8, s.setRf Reg.DST_STAT 43 40 r)
  else if chg 15 12 ∧ s.replayReads then (8, s.setRf Reg.DST_STAT 43 40 4)
  else
    let s1 := s.setReg Reg.DST_CTL (v &&& 0xFFFF00#48)
    let s2 := if chg 23 20 then s1.dstArmNow else s1
    let s3 := if chg 19 16 then s2.dstTrigger 1 (reqUnit r0) 0 else s2
    let s4 := if chg 15 12 ∧ s3.dstState = 3 then
        ({ s3 with dst := { s3.dst with hank := [], words := [], events := [], ckpts := [], taking := [] } } : State).setRf Reg.DST_STAT 47 45 0 |>.setReg Reg.DST_HANKLEN 0
      else s3
    (0, if chg 11 8 then s4.dstExportNow else s4)

/-! ## Replay (R319, R320) -/

/-- A write of LG_REPCTL: EN starts and stops the replay datapath, which loads the hank's first checkpoints. -/
def State.repCtlWrite (s : State) (g : Nat) (v : Word) : State :=
  let was := s.rb (Reg.LG_REPCTL g) 47
  let s1 := s.setReg (Reg.LG_REPCTL g) (v &&& 0x813FFFFFFFFF#48)
  if bitOf v 47 ∧ was = false then
    let s2 := s1.updLg g (fun x => { x with replay := { st := 1, src := bitOf v 40, spn := fld v 37 32, base := fld v 31 0, at_ := s.now } })
    ((s2.repLoad g).setRf (Reg.LG_REPSTAT g) 47 45 1).setRb (Reg.LG_REPSTAT g) 44 false
  else if bitOf v 47 = false ∧ was then
    (s1.updLg g (fun x => { x with replay := { x.replay with st := 0 } })).setRf (Reg.LG_REPSTAT g) 47 45 0
  else s1

/-- REPLAY_DONE (R320): the replay has run to the hank's end. -/
def execReplayDone (g : LgNo) (_ _ _ : Unit) (s : State) : Out :=
  if (s.lg g).replay.st = 1 then
    let s1 := s.repEnd g
    let exact := decide ((s1.lg g).replay.diffs = 0) && s.repAllRaw g && !bitOf (s.repWord g 22) 0
    .next (((s1.updReplay g (fun x => { x with st := 2 })).setRf (Reg.LG_REPSTAT g) 47 45 2).setRb (Reg.LG_REPSTAT g) 44 exact)
  else .next s

/-! ## Joint triggers (R321) -/

/-- D3_TRIGGER_RECEIVE: the first message with a HANKID acts; repeats are ignored. -/
def execD3TriggerReceive (p : PortNo) (w : Word) (s : State) : Out :=
  let id := fld w 31 16
  if s.pst p = stUp ∧ s.rb (Reg.PORT_STATE p) 19 ∧ fld w 47 44 = 0xE ∧ (s.port p).d3Seen ≠ some id then
    let s1 := s.updPort p (fun x => { x with d3Seen := some id })
    .next (if s.triggers p then s1.dstTrigger 6 p id else s1)
  else .next s

end Sys2Proof.Machine
end

