-- ==== Sys2Proof/Machine/Replies.lean ====
section
/-! DEFINITION. Completions of register accesses: a requester's last reply, and the replies of CSP1 and of in-band management (R39–R41, R50, R51, R382, R383). -/

namespace Sys2Proof.Machine

/-- A requester's last completion. -/
def State.setReply (s : State) (r status addr : Nat) (data : Word) : State :=
  { s with reply := Tab.set (fun _ => {}) s.reply r { status := status, addr := addr, data := data } }
def State.getReply (s : State) (r : Nat) : Reply := Tab.get (fun _ => {}) s.reply r

/-- A word of a reply completes (R39, R41): in a burst the first code other than OK or PENDING stands; a cut write keeps its ADDR (R384). -/
def ReplyBuf.put (b : ReplyBuf) (status addr : Nat) (data : Option Word) : ReplyBuf :=
  let bad := decide (b.status = stOK ∧ status ≠ stOK ∧ (b.burst = false ∨ status ≠ stPENDING))
  { b with
    left := b.left - 1
    status := if bad then status else b.status
    addr := if bad && !b.cut then addr else b.addr
    data := b.data ++ data.toList }

/-- The status word of a reply (R39). -/
def ReplyBuf.statusWord (b : ReplyBuf) (underrun cut : Bool) : Word :=
  BitVec.ofNat 48 (b.status * 2 ^ 44 + bnat underrun * 2 ^ 43 + bnat cut * 2 ^ 42 + b.seq % 256 * 2 ^ 32 + b.addr % 2 ^ 32)

/-- The reply's words. -/
def ReplyBuf.words (b : ReplyBuf) (cut : Bool) : List Word := b.statusWord false cut :: b.data

/-- The reply frame of an in-band request (R50): length field, words, padding, FCS. -/
def InbandBuf.frame (b : InbandBuf) : List Byte :=
  let ws := b.parts.flatMap (fun r => r.words false) ++ b.tail
  let h := b.head ++ valBytes 2 (6 * ws.length) ++ bytesOfWords ws
  let body := h ++ List.replicate (60 - h.length) 0#8
  body ++ fcsBytes (crc32 body)

/-- Every command of the request has completed. -/
def InbandBuf.ready (b : InbandBuf) : Bool := b.parts.all (fun r => decide (r.left = 0))

/-- Replies that are complete join those waiting on HL0. -/
def State.sendInband (s : State) : State :=
  let go := s.inband.filter InbandBuf.ready
  let s1 : State := { s with inband := s.inband.filter (fun b => !b.ready) }
  if go.isEmpty then s else s1.updLane 0 (fun x => { x with mgmt := x.mgmt ++ go.map InbandBuf.frame })

/-- A word access completes: into its requester's record, and into the reply it belongs to. -/
def State.deliver (s : State) (r : Nat) (k : Sink) (status addr : Nat) (data : Word) (read : Bool) : State :=
  let s1 := s.setReply r status addr (if read then data else 0)
  let d := if read then some data else none
  let upd := fun (id : Nat) (b : ReplyBuf) => if b.id = id then b.put status addr d else b
  match k with
  | .bare => s1
  | .csp1 id => { s1 with csp1 := { s1.csp1 with replies := s1.csp1.replies.map (upd id) } }
  | .inband id => ({ s1 with inband := s1.inband.map (fun b => { b with parts := b.parts.map (upd id) }) } : State).sendInband

/-- The accesses that are the first of their requester. -/
def firsts : List Nat → List Waiting → List Waiting
  | _, [] => []
  | seen, h :: t => if seen.contains h.req then firsts seen t else h :: firsts (h.req :: seen) t

/-- The first waiting access of a requester. -/
def State.firstOf (s : State) (r : Nat) : Option Waiting := s.waitQ.find? (fun h => decide (h.req = r))

/-- Take the first waiting access of a requester away. -/
def dropFirst (r : Nat) : List Waiting → List Waiting
  | [] => []
  | h :: t => if h.req = r then t else h :: dropFirst r t

/-- The first waiting access of a requester completes ABSENT. -/
def State.firstAbsent (s : State) (r : Nat) : State :=
  match s.firstOf r with
  | some h => ({ s with waitQ := dropFirst r s.waitQ } : State).deliver r h.sink stABSENT h.addr 0 (!h.write)
  | none => s

end Sys2Proof.Machine
end

