-- ==== Sys2Proof/Machine/SpnCtl.lean ====
section
/-! DEFINITION. Control of a spindle from outside: SPN_CTL, halt and release, IMEM and DMEM access (R197, R217, R227, R228). -/

namespace Sys2Proof.Machine

/-- The supervisor's spindle (MB_SUPLOC). -/
def State.supSpn (s : State) : Nat := s.rf Reg.MB_SUPLOC 5 0

/-- A spindle starts at SPN_STARTPC. -/
def State.startSpn (s : State) (n : Nat) : State :=
  s.updSpn n (fun x => { x with run := .running, dbl := false, pc := s.rf (Reg.SPN_STARTPC n) 31 0 })

/-- SPN_STAT.STATE (R227). -/
def State.spnState (s : State) (n : Nat) : Nat :=
  let x := s.spn n
  if x.withdrawn ∨ x.isolated ∨ s.boot.phase = 0 then 0
  else
    match x.run with
    | .notInService => 0
    | .halted => 1
    | .running => 2
    | .sleeping => 3
    | .halting => 4
    | .doubleHalt => 5

/-- A write of SPN_CTL (R217, R227, R228): the status and the state. MODE = 11 is no mode and is refused too (log entry 23). -/
def State.spnCtlWrite (s : State) (n : Nat) (v : Word) : Nat × State :=
  let x := s.spn n
  let m := fld v 5 4
  let rp := bitOf v 1
  let h := bitOf v 47
  let was := s.rb (Reg.SPN_CTL n) 47
  if (m ≠ x.mode ∨ rp ≠ x.replay) ∧ s.spnState n ≠ 1 ∧ s.spnState n ≠ 5 then
    (stREFUSED, s.setRf (Reg.SPN_STAT n) 43 40 1)
  else if (m = 0 ∧ n ≠ s.supSpn) ∨ m = 3 then (stREFUSED, s.setRf (Reg.SPN_STAT n) 43 40 2)
  else
    let s1 := (s.setReg (Reg.SPN_CTL n) (v &&& 0x800000000032#48)).updSpn n (fun y => ({ y with mode := m, replay := rp }).wake)
    let y := s1.spn n
    if h ∧ was = false ∧ y.run = .running then (stOK, s1.haltSpn n)
    else if h = false ∧ was ∧ (y.run = .halted ∨ y.run = .doubleHalt) then (stOK, s1.startSpn n)
    else (stOK, s1)

/-- SPN_HALT_DONE (R217): once every tag is idle the spindle reports halted and SPN_STARTPC takes its PC. A HALT taken back meanwhile
lets it run on from there. -/
def execSpnHaltDone (n : SpnNo) (s : State) : Out :=
  let x := s.spn n
  if x.run = .halting ∧ x.ckpts.isEmpty ∧ (x.inFlight (fun _ => true)) = false then
    let s1 := s.setRf (Reg.SPN_STARTPC n) 31 0 x.pc
    .next (s1.updSpn n (fun y => { y with
      run := if y.dbl then .doubleHalt else if s.rb (Reg.SPN_CTL n) 47 then .halted else .running, dbl := false }))
  else .next s

/-- Key of a word kept for each requester. -/
def perReqKey (r a : Nat) : Nat := r * 2 ^ 32 + a
def State.preq (s : State) (r a : Nat) : Word := Tab.get (fun _ => 0#48) s.perReq (perReqKey r a)
def State.setPreq (s : State) (r a : Nat) (v : Word) : State :=
  { s with perReq := Tab.set (fun _ => 0#48) s.perReq (perReqKey r a) v }

/-- An access of requester r to SPN_IMDATA: the word read, and the state; the requester's address advances. -/
def State.imAccess (s : State) (r n : Nat) (write : Option Word) : Word × State :=
  let k := (s.preq r (Reg.SPN_IMADDR n)).toNat % 0x2000
  let s1 := s.setPreq r (Reg.SPN_IMADDR n) (BitVec.ofNat 48 ((k + 1) % 0x2000))
  match write with
  | some v => (0, s1.updSpn n (fun x => x.setIm k v))
  | none => s1.imRead n k

/-- An access of requester r to SPN_DMDATA. -/
def State.dmAccess (s : State) (r n : Nat) (write : Option Word) : Word × State :=
  let k := (s.preq r (Reg.SPN_DMADDR n)).toNat % 0x4000
  let s1 := s.setPreq r (Reg.SPN_DMADDR n) (BitVec.ofNat 48 ((k + 1) % 0x4000))
  match write with
  | some v => (0, s1.updSpn n (fun x => x.setDm k v))
  | none => s1.dmRead n k

end Sys2Proof.Machine
end

