-- ==== Sys2Proof/Machine/Power.lean ====
section
/-! DEFINITION. Operations of the switched power domains: what leaving ON loses, the entry handshake, forced off, isolation, waking (R338–R343, R195, R250, R281, R282, R306, R316). -/

namespace Sys2Proof.Machine

/-! ## Requests into a domain -/

/-- An operation waits on domain d. -/
def TagOp.waitsOn (o : TagOp) (d : Nat) : Bool := o.done.isNone && decide (opDomain o = some d)

/-- Some operation of a spindle waits on block u of domain d; those that go to a replay datapath ask no live domain (R225). -/
def State.opsInto (s : State) (d u : Nat) : Bool :=
  s.spns.any (fun x => x.2.ops.any (fun y =>
    match y.2 with
    | some o => o.waitsOn d && decide (opUnit o = u) && !(x.2.replays o)
    | none => false))

/-- A runtime command waits on domain d (R238): it has asked for it, or it is a PORT_WAKE whose port waits for its quad. -/
def State.cmdWaitsOn (s : State) (c : Cmd) (d : Nat) : Bool :=
  c.live && decide (s.gate d = .stall) &&
    (c.need.contains d || decide (c.op = 0x15 ∧ c.st = .running ∧ quadOf c.tindex = d ∧ (s.port c.tindex).wakePend))

/-- The commands that wait on domain d complete ABSENT (R238, R341). -/
def State.cmdsAbsent (s : State) (d : Nat) : State :=
  { s with rt := { s.rt with cmds := s.rt.cmds.map (fun c =>
      if s.cmdWaitsOn c d then { c with st := .finished 7 0 (s.cmdGen c), need := [] } else c) } }

/-- Accesses that wait at domain d. -/
def State.waitsInto (s : State) (d : Nat) : List Waiting := (firsts [] s.waitQ).filter (fun h => decide (domainOf h.addr = some d))

/-- Some access waits at block u of domain d. -/
def State.headInto (s : State) (d u : Nat) : Bool := (s.waitsInto d).any (fun h => decide (unitIn d h.addr = u))

/-- Spindle n has a request out of its cluster: an operation that has no answer yet, but for those that wait at the spindle itself for a message or a
frame, or an access that waits. -/
def State.asksOut (s : State) (n : Nat) : Bool :=
  (s.spn n).inFlight (fun o => o.done.isNone && decide (o.kind ≠ .mbr ∧ o.kind ≠ .frx)) || s.waitQ.any (fun h => decide (h.req = n))

/-- Block u of domain d has a request outstanding, into the domain or out of it. -/
def State.asked (s : State) (d u : Nat) : Bool :=
  s.opsInto d u || s.headInto d u || (decide (30 ≤ d ∧ d < 36) && s.asksOut (8 * (d - 30) + u))

/-- Requests pending into domain d complete ABSENT (R26, R341, R343). -/
def State.requestsAbsent (s : State) (d : Nat) : State :=
  let s1 := (s.cmdsAbsent d).endLive (fun o => o.waitsOn d) stABSENT
  forAll (fun t (h : Waiting) => t.firstAbsent h.req) (s1.waitsInto d) s1

/-! ## Self-test cut short (R375) -/

/-- Units of a self-test class lie in these domains. -/
def testDomain (cls unit : Nat) : Nat :=
  if cls = 1 then 30 + unit / 8 else if cls = 2 then 36 + unit else if cls = 3 then quadOf unit else if cls = 4 then 24 + unit / 16 else 49

/-- Fault source of a test's unit. -/
def testSource (cls unit : Nat) : Nat :=
  if cls = 1 then 0x080 + unit else if cls = 2 then 0x0B0 + unit else if cls = 3 then unit else if cls = 4 then 0x060 + unit / 16 else 0x0C1

/-- The running test lies in domain d. -/
def State.testIn (s : State) (d : Nat) : Bool :=
  match s.bist.cur with
  | some t => decide (testDomain t.cls t.unit = d)
  | none => false

/-! ## What leaving ON loses (R338) -/

/-- Bit i of the domain's retention map. -/
def State.retMem (s : State) (d i : Nat) : Bool := s.rb (Reg.PWR_RETMAP d) i
def State.retCnt (s : State) (d : Nat) : Bool := s.rb (Reg.PWR_RETMAP d) 8

/-- A register word of domain d survives retention: RW and GRD words, counters under CNT, the traffic manager's tables under their map bit (R282). -/
def State.retWord (s : State) (d a : Nat) : Bool :=
  match RegMap.at a with
  | none => false
  | some (l, r, _) =>
    if r.acc = .cnt then s.retCnt d
    else if l.blk = .sg ∨ l.blk = .meter ∨ l.blk = .stream ∨ l.blk = .egress ∨ (l.blk = .queue ∧ r.acc = .rw) then s.retMem d 0
    else decide (r.acc = .rw ∨ r.acc = .grd)

/-- The register words of domain d after it has left ON. -/
def State.dropRegs (s : State) (d : Nat) (ret : Bool) : State :=
  let keep := fun a => decide (domainOf a ≠ some d) || (ret && s.retWord d a)
  { s with
    regs := Tab.keep keep s.regs
    badpar := Tab.keep keep s.badpar
    perReq := Tab.keep (fun k => decide (domainOf (k % 2 ^ 32) ≠ some d) || ret) s.perReq }

/-- Ports of a quad. -/
def quadPorts (d : Nat) : List Nat := [4 * d, 4 * d + 1, 4 * d + 2, 4 * d + 3]

/-- A port's datapath loses its content; its two halves stay where the map keeps them. -/
def Port.lost (x : Port) (keep : Bool) : Port :=
  { x with
    half := if keep then x.half else [], halfFree := if keep then x.halfFree else none, coefKept := x.coefKept && keep
    ppm := 0, prbsTx := 1, prbsRx := 0, prbsGood := 0, prbsBad := 0, csTries := 0, csUntil := 0
    symBase := 0, rx := {}, tailOff := 0, decim := false, settleEnd := 0, slub := {}, calRun := 0, calHeld := none, mark := false, rsMarks := 0
    prbsSync := false, txWaking := false, plcaOpp := 0, plcaBurst := 0, plcaNext := none, rov := {}, d3Left := 0, d2Align := false }

/-- Quad d leaves ON (R79, R161, R316). PORT_LINKSTAT.CAUSE, which the runtime writes, stays with it, and so does the withdrawal of a half until the
quad has been off and both halves have passed: the port goes on with the other half (R95). -/
def State.quadLeave (s : State) (d : Nat) (ret : Bool) : State :=
  let s1 := forAll (fun t c => if quadOf (t.rf (Reg.DST_CH c) 46 40) = d then t.dstStop c else t) [0, 1, 2, 3] s
  let s2 := forAll State.portQuadOff (quadPorts d) s1
  let s3 := forAll (fun t p => (t.dropRegs d ret).updPort p (fun x => x.lost (ret && s.retMem d (p % 4)))) (quadPorts d) s2
  forAll (fun t p =>
    let t1 := (((t.setRf (Reg.PORT_LINKSTAT p) 47 44 (s2.rf (Reg.PORT_LINKSTAT p) 47 44)).setRf (Reg.PORT_AFE p) 24 20 0).setRf (Reg.PORT_AFE p) 11 8 0)
    let f := s2.rf (Reg.PORT_COEFSTAT p) 5 4
    if f % 2 = 1 then (t1.setRf (Reg.PORT_COEFSTAT p) 5 4 f).setRf (Reg.PORT_COEFSTAT p) 3 3 (1 - f / 2) else t1) (quadPorts d) s3

/-- Line group d − 24 leaves ON: the canceller and the replay datapath. -/
def State.groupLeave (s : State) (d : Nat) (ret : Bool) : State :=
  let g := d - 24
  let s1 := forAll (fun t i => t.skStop g i) (List.range 16) s
  let s2 := s1.dropRegs d ret
  s2.setLg g { isolated := (s.lg g).isolated }

/-- A spindle after its cluster has left ON (R43, R195): halted, whatever HALT a retained SPN_CTL holds (DEDUCED, log entry 76), IMEM and SPN_INSTCNT as the map keeps them. -/
def State.spnLost (s : State) (n : Nat) (keep cnt : Bool) : Spindle :=
  let x := s.spn n
  { Spindle.reset n with
    imem := if keep then x.imem else [], eccI := if keep then x.eccI else [], withdrawn := x.withdrawn, isolated := x.isolated
    mode := s.rf (Reg.SPN_CTL n) 5 4, replay := s.rb (Reg.SPN_CTL n) 1, inst := if cnt then x.inst else 0 }

/-- Cluster d − 30 leaves ON (R250, R252). -/
def State.clusterLeave (s : State) (d : Nat) (ret : Bool) : State :=
  let c := d - 30
  let ns := (List.range 8).map (fun j => 8 * c + j)
  let s1 := forAll (fun t n => (t.breakKnots n).dropWaiter n) ns s
  let s2 := forAll (fun t n => forAll (fun u f => u.dropCopy f.fid) (s.spn n).rxq t) ns
    ((if (s.dom d).st = 0 then s1.bumpEpoch c else s1).dropRegs d ret)
  forAll (fun t n => (if ret then t else t.setRb (Reg.SPN_CTL n) 47 true).setSpn n (t.spnLost n (ret && s.retMem d (n % 8)) (ret && s.retCnt d))) ns s2

/-- The cells in bank b are lost (R281): they stand `allCells` higher from now on. -/
def State.cellLoss (s : State) (b : Nat) : State :=
  { s with tm := { s.tm with frames := s.tm.frames.map (fun x =>
      (x.1, x.2.map (fun f => { f with cells := f.cells.map (fun c => if c / 32768 = b then allCells + c else c) }))) } }

/-- Fingerprints, trend points and copied commands are lost with the runtime state region (R192, R249). -/
def State.stateLoss (s0 : State) : State :=
  let s : State := { s0 with rt := { s0.rt with cmds := [] } }
  forAll (fun t p =>
    ((t.updPort p (fun x => { x with fp := [], trend := [], driftSum := [], driftCnt := 0 })).setRb (Reg.PORT_FPSTAT p) 47 false).setRb
      (Reg.PORT_FPSTAT p) 46 false) (List.range 96) s

/-- The content of bank b is lost, and the cells in it. -/
def State.bankLoss (s : State) (b : Nat) : State :=
  let s1 := if s.rtInBank b then s.stateLoss else s
  (s1.cellLoss b).dropBob (b * 0x100000) 0x100000

/-- Host quad d − 44 leaves ON (R306, R417): all four lanes OFF, a frame being sent cut. -/
def State.hostQuadLeave (s : State) (d : Nat) (ret : Bool) : State :=
  let ns := (List.range 4).map (fun j => 4 * (d - 44) + j)
  let s1 := forAll (fun t n => t.cutTx (laneEgr n)) ns s
  let s2 := s1.dropRegs d ret
  forAll (fun t n => ((t.setRb (Reg.HL_CTL n) 9 false).setRb (Reg.HL_CTL n) 8 false).setLane n
    { isolated := (s.lane n).isolated, mgmt := (s.lane n).mgmt }) ns s2

/-- The traffic manager leaves ON (R282): every queued frame is lost, bucket levels and shaper state too. -/
def State.tmLeave (s : State) (d : Nat) (ret : Bool) : State :=
  let mgmt := fun (x : Nat × Option Sending) => match x.2 with
    | some c => c.mgmt
    | none => false
  let s1 := forAll (fun t x => if mgmt x then t else t.cutTx x.1) s.tm.cur s
  let s2 := forAll (fun t x => t.flushQueue (x.1 / 8) (x.1 % 8) [Reg.TM_QDROPLOST (x.1 / 8) (x.1 % 8)]) s1.tm.queues s1
  let s3 := s2.dropRegs d ret
  { s3 with tm := { nextFid := s.tm.nextFid, frames := s3.tm.frames, cur := s.tm.cur.filter mgmt, sent := s3.tm.sent, bankIso := s.tm.bankIso, gcl := if ret && s.retMem d 0 then s.tm.gcl else [] } }

/-- The distaff leaves ON (R316): the hank is lost. -/
def State.distaffLeave (s : State) (d : Nat) (ret : Bool) : State := { s.dropRegs d ret with dst := {} }

/-- Domain d loses what RET or OFF does not keep. -/
def State.domLeave (s : State) (d : Nat) (ret : Bool) : State :=
  if d < 24 then s.quadLeave d ret
  else if d < 30 then s.groupLeave d ret
  else if d < 36 then s.clusterLeave d ret
  else if d < 44 then (if ret && s.retMem d 0 then s else s.bankLoss (d - 36))
  else if d < 48 then s.hostQuadLeave d ret
  else if d = 48 then s.tmLeave d ret
  else s.distaffLeave d ret

/-! ## The end of a test (R371, R375) -/

/-- The skein that names victim i of group g, enabled or not. -/
def State.skeinNaming (s : State) (g i : Nat) : Option Nat :=
  (s.skeinOf g i).or ((List.range 8).find? (fun n => natBit (s.skNames g n) i))

/-- The half of a victim slot that is idle; half B of a slot that no skein names. -/
def State.slotIdle (s : State) (unit : Nat) : Nat :=
  match s.skeinNaming (unit / 16) (unit % 16) with
  | some n => 1 - s.skHalf (unit / 16) n
  | none => 1

/-- What a march that saved nothing leaves of its memory: an external one (R376), or one of a bobbin bank (R371). The spec states no contents: each
word is a free value (log entry 28). The distaff is idle and holds no hank. -/
def State.marchFill (s : State) (cls unit : Nat) : State :=
  let free := fun (lo k : Nat) => Config.freeWord (s.free + (k - lo))
  let t : State := { s with free := s.free + 2 ^ 20 }
  if cls = 1 then
    t.updSpn unit (fun x => { x with
      imem := fillTab (fun _ => 0#48) x.imem 0 0x2000 (free 0), eccI := []
      dmem := fillTab (fun _ => 0#48) x.dmem 0 0x4000 (fun k => Config.freeWord (s.free + 0x2000 + k)), eccD := [] })
  else if cls = 2 then
    (s.bankLoss unit).freshBob (unit * 2 ^ 20) (2 ^ 20)
  else if cls = 3 then
    let lo := 1024 * (1 - s.servingHalf unit)
    (t.updPort unit (fun x => { x with half := fillTab (fun _ => none) x.half lo 0x254 (fun k => some (coefWord (k - lo) (free lo k))) })).coefTouch
      unit (1 - s.servingHalf unit)
  else if cls = 4 then
    let lo := slotKey (s.slotIdle unit) (unit % 16) 0
    t.updLg (unit / 16) (fun x => { x with slots := fillTab (fun _ => 0#48) x.slots lo 0x153 (fun k => slotMask (k - lo) (free lo k)) })
  else s

/-- The memory of a test that has marched. -/
def State.marchLeft (s : State) (t : Test) : State := if t.ext ∨ t.cls = 2 then s.marchFill t.cls t.unit else s

/-- The half of a port that a test marches (R95, R371): the idle one; on a port that was single-buffered and whose quad has been off, the other one
once that has passed (DESIGN CHOICE, log entry 155: both have to pass, and the idle one alone is under test). -/
def State.testHalf (s : State) (p : Nat) : Nat := if s.bist.halfOk.contains p then s.servingHalf p else 1 - s.servingHalf p

/-- Words that are saved to the scratch region, in address order. -/
def State.savedWords (s : State) (cls unit : Nat) : List Word :=
  if cls = 1 then (List.range 0x2000).map (s.spn unit).im ++ (List.range 0x4000).map (s.spn unit).dm
  else if cls = 3 then (List.range 1024).map (s.halfWord unit (s.testHalf unit))
  else if cls = 4 then (List.range 352).map (s.slotWord (unit / 16) (s.slotIdle unit) (unit % 16))
  else []

/-- Words put back into the memory of a unit, in address order. -/
def State.putWords (s : State) (cls unit : Nat) (ws : List Word) : State :=
  let at_ := fun (lo k : Nat) => nth 0#48 ws (k - lo)
  if cls = 1 then
    s.updSpn unit (fun x => { x with
      imem := fillTab (fun _ => 0#48) x.imem 0 0x2000 (at_ 0), dmem := fillTab (fun _ => 0#48) x.dmem 0 0x4000 (fun k => at_ 0 (k + 0x2000)) })
  else if cls = 3 then
    let lo := 1024 * s.testHalf unit
    (s.updPort unit (fun x => { x with half := fillTab (fun _ => none) x.half lo 0x254 (fun k => some (coefWord (k - lo) (at_ lo k))) })).coefTouch
      unit (s.testHalf unit)
  else if cls = 4 then
    let lo := slotKey (s.slotIdle unit) (unit % 16) 0
    s.updLg (unit / 16) (fun x => { x with slots := fillTab (fun _ => 0#48) x.slots lo 0x153 (fun k => slotMask (k - lo) (at_ lo k)) })
  else s

/-- Bobbin offset of the scratch region; none where it does not lie in the bobbin window. -/
def State.scratch (s : State) : Option Nat :=
  let base := s.rf Reg.BIST_SCRATCH 31 0
  if 0x1000000 ≤ base ∧ base + 0x6000 ≤ 0x1800000 then some (base - 0x1000000) else none

/-- The contents are restored from the scratch region after the march (R373): a word that was changed there meanwhile comes back as changed. -/
def State.loadScratch (s : State) (cls unit : Nat) : State :=
  let old := s.savedWords cls unit
  match s.scratch with
  | some k => if s.bobWords k old.length = old then s else s.putWords cls unit (s.bobWords k old.length)
  | none => s

/-- The unit goes back to what it did before the test. -/
def State.testRestore (s0 : State) (t : Test) : State :=
  let s := if t.ext ∨ t.waiting then s0 else s0.loadScratch t.cls t.unit
  if t.ext then s
  else if t.cls = 2 then (if t.was then s.setRb Reg.TM_BANKEN t.unit true else s)
  else if t.waiting then s
  else if t.cls = 1 then
    if t.was ∧ (s.spn t.unit).run = .halted then s.updSpn t.unit (fun x => { x with run := if t.slept then .sleeping else .running }) else s
  else if t.cls = 3 then s.setRb (Reg.PORT_COEFSTAT t.unit) 8 false
  else s

/-- BIST_LAST: 0 pass, 1 fail, 2 ABORTED. -/
def State.testLast (s : State) (t : Test) (result word : Nat) : State :=
  s.setReg Reg.BIST_LAST (BitVec.ofNat 48 (result * 2 ^ 46 + t.cls * 2 ^ 40 + t.unit * 2 ^ 24 + word % 2 ^ 24))

/-- A test is abandoned with the result ABORTED; one that still waits leaves no result. -/
def State.testAbort (s : State) : State :=
  match s.bist.cur with
  | none => s
  | some t =>
    let s1 := (s.testRestore t)
    let s2 : State := { s1 with bist := { s1.bist with cur := none } }
    if t.waiting then s2
    else ((if t.ext then s2.setRf Reg.BIST_STAT 19 16 t.seq else s2).testLast t 2 0).marchLeft t

/-! ## Entry (R340) -/

/-- Index of the first unit that passes a test. -/
def firstIx (n : Nat) (p : Nat → Bool) : Option Nat := (List.range n).find? p

/-- The port keeps its quad on. -/
def State.portActive (s : State) (p : Nat) : Bool := decide (s.pst p = stTrain ∨ s.pst p = stUp ∨ s.pst p = stRoving ∨ s.pst p = stCarding)

/-- Spindle n holds a knot. -/
def State.holdsKnot (s : State) (n : Nat) : Bool := (List.range 64).any (fun k => s.knotHeld k && decide (s.knotOwner k = n))

/-- The spindle is halted, or asleep with every tag idle. -/
def State.spnQuiet (s : State) (n : Nat) : Bool :=
  let x := s.spn n
  decide (x.run = .halted ∨ x.run = .doubleHalt ∨ x.run = .notInService ∨ (x.run = .sleeping ∧ x.inFlight (fun _ => true) = false))

/-- The reason for which domain d is refused, with its unit: (REASON, UNIT); of several the lowest, in its lowest unit (DESIGN CHOICE, log entry 149). `live`: the blocks are powered; `keep`: the map keeps a bank's content. -/
def State.entryReason (s : State) (d : Nat) (live keep : Bool) : Option (Nat × Nat) :=
  let r1 := if live then (firstIx 8 (s.asked d)).map (fun u => (1, u)) else none
  let r2 := if live = false then none
    else if d < 24 then (firstIx 4 (fun i => s.portActive (4 * d + i))).map (fun i => (2, i))
    else if 44 ≤ d ∧ d < 48 then (firstIx 4 (fun i => decide (s.lst (4 * (d - 44) + i) = laRun))).map (fun i => (2, i))
    else none
  let r3 := if 30 ≤ d ∧ d < 36 then (firstIx 8 (fun i => s.holdsKnot (8 * (d - 30) + i))).map (fun i => (3, i)) else none
  let r4 := if live ∧ s.testIn d then
      (match s.bist.cur with
       | some t => if t.waiting then none else some (4, if t.cls = 1 then t.unit % 8 else if t.cls = 3 then t.unit % 4 else 0)
       | none => none) else none
  let r6 := if 36 ≤ d ∧ d < 44 ∧ keep = false ∧ (s.bankUse (d - 36) ≠ 0 ∨ s.rtInBank (d - 36)) then some (6, 0) else none
  let r7 := if live ∧ 30 ≤ d ∧ d < 36 then (firstIx 8 (fun i => !(s.spnQuiet (8 * (d - 30) + i)))).map (fun i => (7, i)) else none
  let r8 := if d = 44 ∧ s.rb Reg.ID_MGMTPATH 0 then some (8, 0) else none
  let r9 := if 24 ≤ d ∧ d < 30 ∧ (List.range 4).any (fun i => decide ((s.dom (4 * (d - 24) + i)).st = 0 ∨ (s.dom (4 * (d - 24) + i)).chg = 3)) then some (9, 0) else none
  let r10 := if d = 48 ∧ (s.tm.queues.any (fun x => !x.2.isEmpty) ∨ (List.range 96).any (fun p => decide (s.pst p ≠ stDisabled)) ∨
      (List.range 16).any (fun n => decide (s.lst n ≠ laOff))) then some (10, 0) else none
  r1.or (r2.or (r3.or (r4.or (r6.or (r7.or (r8.or (r9.or r10)))))))

/-- TARGET code of the state a domain keeps. -/
def State.setTarget (s : State) (d v : Nat) : State := s.setRf (Reg.PWR_DOMCTL d) 1 0 v

/-- An entry is refused: REASON, UNIT, PWR_REFUSECNT; TARGET reads back the state kept. -/
def State.refuseTarget (s : State) (d : Nat) (r : Nat × Nat) : State :=
  let s1 := ((s.setRf (Reg.PWR_DOMSTAT d) 43 40 r.1).setRf (Reg.PWR_DOMSTAT d) 39 32 r.2).bump Reg.PWR_REFUSECNT
  (s1.setTarget d (s.dom d).st).updDom d (fun x => { x with chg := 0, delayed := false })

/-- The state a TARGET asks for is applied to a domain at rest: 0 ON, 1 RET, 2 OFF. -/
def State.applyTarget (s : State) (d v : Nat) (delay : Bool) : State :=
  let x := s.dom d
  if v = x.st then s.setTarget d v
  else if v = 0 then s.wakeDom d
  else if v = 1 ∧ x.st = 2 then s.refuseTarget d (11, 0)
  else
    let live := decide (x.st = 0)
    match s.entryReason d live (decide (v = 1) && s.retMem d 0) with
    | some r => s.refuseTarget d r
    | none => (s.setTarget d v).updDom d (fun y => { y with chg := v, delayed := live && delay, next := none })

/-- A write of TARGET: while a transition runs it waits for its end. -/
def State.writeTarget (s : State) (d v : Nat) (delay : Bool) : State :=
  if (s.dom d).chg ≠ 0 then (s.setTarget d v).updDom d (fun x => { x with next := some v })
  else (s.updDom d (fun x => { x with next := none })).applyTarget d v delay

/-- A transition that has ended in a refusal: the TARGET written while it ran is applied (R343). -/
def State.settleNext (s : State) (d : Nat) : State :=
  match (s.dom d).next with
  | some v => if (s.dom d).chg = 0 then (s.updDom d (fun x => { x with next := none })).applyTarget d v false else s
  | none => s

/-- A write of PWR_DOMCTLd; TARGET = 11 is stored as 00. -/
def State.domctlWrite (s : State) (d : Nat) (v : Word) (delay : Bool) : State :=
  let t := if fld v 1 0 = 3 then 0 else fld v 1 0
  (s.setRb (Reg.PWR_DOMCTL d) 4 (bitOf v 4)).writeTarget d t delay

/-- The transition of domain d ends in RET or OFF. -/
def State.entryDone (s : State) (d : Nat) : State :=
  let x := s.dom d
  if (x.chg = 1 ∨ x.chg = 2) ∧ x.delayed = false then
    let s1 := if x.st = x.chg then s else s.domLeave d (decide (x.chg = 1))
    let s2 := (s1.updDom d (fun y => { y with st := x.chg, chg := 0, next := none, flushing := true })).setTarget d x.chg
    match x.next with
    | some v => if v = x.chg then s2 else s2.applyTarget d v false
    | none => s2
  else s

/-! ## Forced off and isolation (R341, R343) -/

/-- One domain goes off without a handshake. -/
def State.forceOne (s : State) (d : Nat) : State :=
  if (s.dom d).st = 2 ∧ (s.dom d).chg = 0 then s
  else
    let s1 := if s.testIn d then s.testAbort else s
    let s2 := (s1.requestsAbsent d).domLeave d false
    (s2.updDom d (fun y => { y with st := 2, chg := 2, delayed := false, next := none, flushing := true })).setTarget d 2

/-- A forced off: a line group takes its quads with it; fault 0x0EB is recorded once. -/
def State.forceOff (s : State) (d : Nat) : State :=
  let s1 := if 24 ≤ d ∧ d < 30 then forAll (fun t i => t.forceOne (4 * (d - 24) + i)) [0, 1, 2, 3] s else s
  (s1.forceOne d).raise 0x0EB 0x2D d

/-- A fault reaction takes a domain out of service: its requests complete ABSENT, its power state stays. -/
def State.isolateDom (s : State) (d : Nat) : State :=
  (s.requestsAbsent d).updDom d (fun x => { x with isolated := true, flushing := true })

/-! ## Waking (R339, R342) -/

/-- Units of domain d that self-test withdrew may return with their next pass. -/
def State.cycleUnits (s : State) (d : Nat) : State :=
  let us :=
    if d < 24 then ((quadPorts d).filter (fun p => s.rb (Reg.BIST_COEFFAIL (p / 48)) (p % 48))).map (fun p => (3, p))
    else if d < 30 then (((List.range 16).map (fun i => 16 * (d - 24) + i)).filter (fun u => s.rb (Reg.BIST_CANCFAIL (u / 48)) (u % 48))).map (fun u => (4, u))
    else if d < 36 then (((List.range 8).map (fun i => 8 * (d - 30) + i)).filter (fun n => s.rb Reg.BIST_SPNFAIL n)).map (fun n => (1, n))
    else if d < 44 then (if s.rb Reg.BIST_BANKFAIL (d - 36) then [(2, d - 36)] else [])
    else if d = 49 then ((if s.rb Reg.BIST_DSTFAIL 0 then [(5, 0)] else []) ++ (if s.rb Reg.BIST_DSTFAIL 1 then [(6, 0)] else []))
    else []
  { s with bist := { s.bist with
      cycled := s.bist.cycled.filter (fun x => !(us.contains x)) ++ us, halfOk := s.bist.halfOk.filter (fun p => !decide (quadOf p = d)) } }

/-- Ports whose wake waited for their quad enter LISTEN (R159). -/
def State.wakePorts (s : State) (d : Nat) : State :=
  forAll (fun t p => if (t.port p).wakePend then (t.updPort p (fun x => { x with wakePend := false })).wakeEnter p else t) (quadPorts d) s

/-- The wake stall of domain d ends, the handshake of its queues with it (R335; DEDUCED, log entry 163). A quad waits for its line group (R339). -/
def State.wakeDone (s : State) (d : Nat) : State :=
  let x := s.dom d
  let ok : Bool := match lgOfDom d with
    | some l => decide ((s.dom l).st = 0 ∧ (s.dom l).chg = 0)
    | none => true
  if x.chg = 3 ∧ ok then
    let s1 := (s.updDom d (fun y => { y with st := 0, chg := 0, next := none, flushing := false })).setTarget d 0
    let s2 := if x.st = 2 then s1.cycleUnits d else s1
    let s3 := if d < 24 then s2.wakePorts d
      else if 44 ≤ d ∧ d < 48 then
        (let t := if d = 44 ∧ (x.st = 2 ∨ s.boot.laneDue) then
             ({ s2 with boot := { s2.boot with laneDue := false } } : State).setRb (Reg.HL_CTL 0) 47 (s.rb Reg.ID_STRAP 0) else s2
         forAll (fun u n => if u.rb (Reg.HL_CTL n) 47 ∧ u.lst n = laOff ∧ (u.lane n).isolated = false then u.bringUp n else u)
           ((List.range 4).map (fun j => 4 * (d - 44) + j)) t)
      else if d = 48 then
        (if x.st = 2 then forAll (fun t b => if t.rb Reg.BIST_BANKFAIL b then t.setRb Reg.TM_BANKEN b false else t) (List.range 8) s2 else s2)
      else s2
    match x.next with
    | some v => if v = 0 then s3 else s3.applyTarget d v false
    | none => s3
  else s

end Sys2Proof.Machine
end

