-- ==== Sys2Proof/Machine/Faults.lean ====
section
/-! DEFINITION. The fault collector: service by severity, reactions, recovery, latching, FAULT_N, INT_N, the history (R356–R370). -/

namespace Sys2Proof.Machine

/-! ## Units of a source (R356) -/

/-- The switched domain in which the unit of a source lies. -/
def sourceDomain (src : Nat) : Option Nat :=
  if src < 0x60 then some (quadOf src)
  else if src < 0x66 then some (24 + (src - 0x60))
  else if 0x70 ≤ src ∧ src < 0x80 then some (44 + (src - 0x70) / 4)
  else if 0x80 ≤ src ∧ src < 0xB0 then some (30 + (src - 0x80) / 8)
  else if 0xB0 ≤ src ∧ src < 0xB8 then some (36 + (src - 0xB0))
  else if src = 0xC0 then some 48
  else if src = 0xC1 then some 49
  else none

/-- Ports that SAFE quiets. -/
def safePorts (src : Nat) : List Nat :=
  if src < 0x60 then [src]
  else if src < 0x66 then (List.range 16).map (fun i => 16 * (src - 0x60) + i)
  else if src = 0xE5 then List.range 96
  else []

/-- The unit's domain is OFF. -/
def State.unitOff (s : State) (src : Nat) : Bool :=
  match sourceDomain src with
  | some d => decide ((s.dom d).st = 2)
  | none => false

/-- A ring of 2^size entries of `words` words lies in bank b. -/
def ringInBank (base size words b : Nat) : Bool :=
  decide (size ≠ 0 ∧ base < 0x1000000 + (b + 1) * 0x100000 ∧ 0x1000000 + b * 0x100000 < base + words * 2 ^ size)

/-- ISOLATE or SAFE on this source would be a stop (R360). -/
def State.downgraded (s : State) (src : Nat) : Bool :=
  (decide (src = 0x70) && s.rb Reg.ID_MGMTPATH 0) ||
  (decide (0xB0 ≤ src ∧ src < 0xB8) &&
    (s.rtInBank (src - 0xB0) || ringInBank (s.rf Reg.MB_CMDBASE 31 0) (s.rf Reg.MB_CMDSIZE 3 0) 4 (src - 0xB0) ||
      ringInBank (s.rf Reg.MB_CPLBASE 31 0) (s.rf Reg.MB_CPLSIZE 3 0) 2 (src - 0xB0))) ||
  (decide (src = 0x80 + s.supSpn) && s.runSpindles.all (fun n => decide (n / 8 = s.supSpn / 8)))

/-! ## Reactions (R359) -/

/-- The unit is taken out of service. -/
def State.isolate (s : State) (src : Nat) : State :=
  if src < 0x60 then s.portFault src
  else if src < 0x66 then
    forAll (fun t i => t.skStop (src - 0x60) i) (List.range 16) (s.updLg (src - 0x60) (fun x => { x with isolated := true }))
  else if 0x70 ≤ src ∧ src < 0x80 then
    (if s.lst (src - 0x70) = laOff then s else s.laneOff (src - 0x70)).updLane (src - 0x70) (fun x => { x with isolated := true })
  else if 0x80 ≤ src ∧ src < 0xB0 then
    let n := src - 0x80
    let s1 := if (s.spn n).run = .running ∨ (s.spn n).run = .sleeping then s.haltSpn n else s
    (s1.updSpn n (fun x => { x with isolated := true })).breakKnots n
  else if 0xB0 ≤ src ∧ src < 0xB8 then
    let b := src - 0xB0
    let s1 := ((s.isolateDom (36 + b)).setRb Reg.TM_BANKEN b false).cellLoss b
    if s.rb Reg.TM_BANKEN b then { s1 with tm := { s1.tm with bankIso := s1.tm.bankIso ||| (1#8 <<< b) } } else s1
  else if src = 0xC1 then
    let s1 := s.isolateDom 49
    (({ s1 with dst := {} } : State).setRf Reg.DST_STAT 47 45 0).setReg Reg.DST_HANKLEN 0
  else s

/-- The transmitters of the source's ports go quiet (R74). -/
def State.safeQuietAll (s : State) (src : Nat) : State :=
  forAll (fun t p => t.updPort p (fun x => { x with safeQuiet := true })) (safePorts src) s

/-- The reaction on the unit at a severity, at once or when its domain is next ON (R370). -/
def State.react (s : State) (src sev code : Nat) : State :=
  if sev < 2 then s
  else if s.unitOff src then
    s.setFlt { s.flt with late := s.flt.late.filter (fun x => !decide (x.1 = src)) ++ [(src, sev, code)] }
  else
    let s1 := s.isolate src
    if sev = 3 then s1.safeQuietAll src else s1

/-- A reaction that has waited for its domain. A source whose quiet period has ended meanwhile stands in a fault state again, from which QUIET
returns it: R370 applies the reaction then, and gives no other end of it (DESIGN CHOICE, log entry 178). -/
def State.reactDue (s : State) (src sev code : Nat) : State :=
  let x := s.fsrc src
  (if x.st = 0 then s.setFsrc src { x with st := 1, sev := sev, code := code } else s).react src sev code

/-- Reactions that waited for domain d (R370). -/
def State.reactLate (s : State) (d : Nat) : State :=
  let due := s.flt.late.filter (fun x => decide (sourceDomain x.1 = some d))
  forAll (fun t x => t.reactDue x.1 x.2.1 x.2.2) due (s.setFlt { s.flt with late := s.flt.late.filter (fun x => !decide (sourceDomain x.1 = some d)) })

/-! ## History (R368, R369) -/

/-- The two words of a record, with the severity as applied. -/
def evRec (e : Ev) (sev : Nat) : Rec :=
  { w0 := BitVec.ofNat 48 (timeSec e.at_ % 2 ^ 16 * 2 ^ 32 + 2 ^ 31 + timeNsField e.at_)
    w1 := BitVec.ofNat 48 (e.src % 2 ^ 12 * 2 ^ 36 + sev * 2 ^ 34 + e.code % 2 ^ 6 * 2 ^ 28 + e.info) }

/-- A record enters the history; a full history discards it. -/
def State.record (s : State) (r : Rec) : State :=
  let f := { s.flt with first := s.flt.first.or (some r) }
  if s.flt.hist.length < 16 then s.setFlt { f with hist := f.hist ++ [r] }
  else (s.setFlt { s.flt with ovf := true }).bump Reg.FLT_OVFCNT

/-- A read of FLT_HIST: W0, and W1 for the shadow; the host path also removes the record (R368). -/
def State.histRead (s : State) (host : Bool) : Word × Word × State :=
  match s.flt.hist with
  | [] => (0, 0, if host then s.setFlt { s.flt with first := none, ovf := false, loss := false } else s)
  | r :: t =>
    (r.w0, r.w1,
      if host then
        (if t.isEmpty then s.setFlt { s.flt with hist := [], first := none, ovf := false, loss := false } else s.setFlt { s.flt with hist := t })
      else s)

/-! ## Service (R361, R362, R364) -/

/-- Waiting events: the queue and the locked latches. -/
def State.waitingEvents (s : State) : List Ev := s.flt.queue ++ s.flt.latch.filterMap (fun x => x.2)

/-- a is served before b: severity in force, then arrival. -/
def State.before (s : State) (a b : Ev) : Bool :=
  decide (s.codeSev b.code < s.codeSev a.code ∨ (s.codeSev a.code = s.codeSev b.code ∧ a.seq < b.seq))

/-- The event to serve next. -/
def State.nextEvent (s : State) : Option Ev :=
  s.waitingEvents.foldl (fun o e =>
    match o with
    | none => some e
    | some x => if s.before e x then some e else some x) none

/-- The event leaves where it waited. -/
def State.takeEvent (s : State) (e : Ev) : State :=
  s.setFlt { s.flt with
    queue := s.flt.queue.filter (fun x => !decide (x.seq = e.seq))
    latch := s.flt.latch.filter (fun x => !decide (x.2.map Ev.seq = some e.seq)) }

/-- An event from the unit under test abandons the test (R375). -/
def State.testHit (s : State) (e : Ev) : Bool :=
  match s.bist.cur with
  | some t => decide (testSource t.cls t.unit = e.src ∧ t.since ≤ e.seq) && !t.waiting
  | none => false

/-- A trigger of the distaff: a fault at DEGRADE or above from a recorded port or from its line group (R315). R311 has no UNIT for a line group:
its record names the group's lowest recorded port (DESIGN CHOICE, log entry 32). -/
def State.faultTrigger (s : State) (src sev : Nat) : State :=
  if sev = 0 then s
  else if src < 0x60 then (if s.triggers src then s.dstTrigger 2 src 0 else s)
  else if src < 0x66 then
    match (List.range 16).find? (fun i => s.triggers (16 * (src - 0x60) + i)) with
    | some i => s.dstTrigger 2 (16 * (src - 0x60) + i) 0
    | none => s
  else s

/-- QUIET in ns (R365). -/
def State.quietNs (s : State) : Nat := s.rf Reg.FLT_RECCFG 47 34 * 10 ^ 6

/-- The source has seen an event of the same code within the preceding QUIET period: a repeat (R362). -/
def State.isRepeat (s : State) (e : Ev) : Bool :=
  (s.fsrc e.src).seen.any (fun y => decide (y.1 = e.code ∧ e.ns < y.2 + s.quietNs))

/-- The time of a code's last event from its source. -/
def FSrc.saw (x : FSrc) (e : Ev) : FSrc := { x with seen := x.seen.filter (fun y => !decide (y.1 = e.code)) ++ [(e.code, e.ns)] }

/-- The collector serves an event that has left its place. -/
def State.serve (s : State) (e : Ev) : State :=
  let x := s.fsrc e.src
  if s.codeEn e.code = false then s.bump Reg.FLT_SUPPCNT
  else if s.isRepeat e then (s.setFsrc e.src (x.saw e)).bump Reg.FLT_REPEATCNT
  else if x.st = 2 then
    (if e.code = x.code then s else s.record (evRec e (s.codeSev e.code))).bump Reg.FLT_REPEATCNT
  else
    let base := s.codeSev e.code
    let down := decide (2 ≤ base) && s.downgraded e.src
    let sev := if down then 1 else base
    let s1 := (s.bump Reg.FLT_EVCNT).record (evRec e sev)
    let s2 := s1.setFsrc e.src (if sev = 0 then x.saw e
      else { x.saw e with st := 1, sev := max x.sev sev, code := if x.st = 0 then e.code else x.code })
    let s3 := if sev = 0 then s2 else s2.bump Reg.FLT_EVSEQ
    let s4 := if 2 ≤ sev then s3.setFlt { s3.flt with pulse := true, hold := false } else s3
    (s4.react e.src sev e.code).faultTrigger e.src sev

/-- FAULT_EVENT: the collector serves one waiting event, of the highest severity and then the earliest. -/
def execFaultEvent (s : State) : Out :=
  if s.rootUp then
    match s.nextEvent with
    | none => .next s
    | some e =>
      let s1 := s.takeEvent e
      let s2 := if s.testHit e then s1.testAbort else s1
      .next (s2.serve e)
  else .next s

/-! ## Recovery and latching (R363–R365) -/

/-- A SAFE reaction in force covers port p. -/
def State.safeHolds (s : State) (p : Nat) : Bool :=
  [p, 0x60 + lgOf p, 0xE5].any (fun k => decide ((s.fsrc k).st ≠ 0 ∧ (s.fsrc k).sev = 3))

/-- The unit goes back into service. -/
def State.unitReturn (s : State) (src : Nat) : State :=
  if src < 0x60 then (if s.pst src = stFault then s.toListen src else s).relQuiet src
  else if src < 0x66 then s.updLg (src - 0x60) (fun x => { x with isolated := false })
  else if 0x70 ≤ src ∧ src < 0x80 then
    let n := src - 0x70
    let s1 := s.updLane n (fun x => { x with isolated := false })
    if (s.lane n).isolated ∧ s.rb (Reg.HL_CTL n) 47 ∧ s.laneOn n then s1.bringUp n else s1
  else if 0x80 ≤ src ∧ src < 0xB0 then s.updSpn (src - 0x80) (fun x => { x with isolated := false })
  else if 0xB0 ≤ src ∧ src < 0xB8 then
    let b := src - 0xB0
    let s1 := s.updDom (36 + b) (fun x => { x with isolated := false })
    let s2 : State := { s1 with tm := { s1.tm with bankIso := s1.tm.bankIso &&& ~~~(1#8 <<< b) } }
    if s.tm.bankIso.getLsbD b ∧ s.rb Reg.BIST_BANKFAIL b = false then s2.setRb Reg.TM_BANKEN b true else s2
  else if src = 0xC1 then s.updDom 49 (fun x => { x with isolated := false })
  else s

/-- Recoveries within WINDOW, as it stands. -/
def State.recWin (s : State) (src : Nat) : List Nat :=
  (s.fsrc src).recs.filter (fun t => decide (s.now - t ≤ s.rf Reg.FLT_RECCFG 27 20 * 10 ^ 9))

/-- Recoveries within the longest WINDOW that FLT_RECCFG can hold: those that may yet count. -/
def State.recKept (s : State) (src : Nat) : List Nat := (s.fsrc src).recs.filter (fun t => decide (s.now - t ≤ 255 * 10 ^ 9))

/-- A source returns (R363): `recs` are the recoveries that count from now on. A reaction that waits for its domain stays (R370). -/
def State.sourceReturn (s : State) (src : Nat) (recs : List Nat) : State :=
  let x := s.fsrc src
  let s1 := s.setFsrc src { recs := recs, total := min 65535 (x.total + 1) }
  forAll (fun t p => t.updPort p (fun y => { y with safeQuiet := y.safeQuiet && t.safeHolds p })) (safePorts src) (s1.unitReturn src)

/-- FAULT_QUIET_EXPIRE (R363, R364). -/
def execFaultQuietExpire (src : BitVec 12) (s : State) : Out :=
  let k := src.toNat
  let x := s.fsrc k
  if x.st = 1 then
    if s.rf Reg.FLT_RECCFG 33 28 ≤ (s.recWin k).length then .next (s.setFsrc k { x with st := 2, seen := [] })
    else .next (s.sourceReturn k (s.now :: s.recKept k))
  else .next (s.setFsrc k { x with seen := [] })

/-- A write of FLT_RELEASE (R364): the status and the state. A refused release changes nothing else. -/
def State.releaseWrite (s : State) (v : Word) : Nat × State :=
  if fld v 47 44 ≠ s.rf Reg.FLT_RELEASE 47 44 then
    if (s.fsrc (fld v 11 0)).st = 2 then (stOK, (s.setReg Reg.FLT_RELEASE (v &&& 0xF00000000FFF#48)).sourceReturn (fld v 11 0) [])
    else (stREFUSED, s.setRf Reg.FLT_STAT 43 40 4)
  else (stOK, s.setReg Reg.FLT_RELEASE (v &&& 0xF00000000FFF#48))

/-- A committed write of FLT_RECCFG (R365, R377). -/
def State.reccfgWrite (s : State) (v : Word) : State :=
  s.setReg Reg.FLT_RECCFG (BitVec.ofNat 48 (clampNat 1 10000 (fld v 47 34) * 2 ^ 34 + max 1 (fld v 33 28) * 2 ^ 28 + max 1 (fld v 27 20) * 2 ^ 20))

/-- A committed write of FLT_CODECFGc (R358): the status and the state. -/
def State.codecfgWrite (s : State) (c : Nat) (v : Word) : Nat × State :=
  let refuse := fun (r : Nat) => (stREFUSED, s.setRf Reg.FLT_STAT 43 40 r)
  match FaultCode.info c with
  | none => refuse 3
  | some (_, m, locked) =>
    if locked ∧ fld v 46 44 ≠ s.rf (Reg.FLT_CODECFG c) 46 44 then refuse 1
    else if m < fld v 45 44 then refuse 2
    else (stOK, s.setRf (Reg.FLT_CODECFG c) 46 44 (fld v 46 44))

/-! ## FAULT_N and INT_N (R366, R367) -/

/-- FAULT_N is driven low. -/
def State.faultN (s : State) : Bool := s.flt.pulse || s.flt.hold || s.flt.async

/-- FAULT_N_WIDTH_EXPIRE: from now on FAULT_N follows HOLD. -/
def execFaultNWidthExpire (s : State) : Out :=
  .next (if s.flt.pulse then s.setFlt { s.flt with pulse := false, hold := s.rb Reg.FLT_PIN 47 } else s)

/-- A write of FLT_PIN: HOLD = 0 releases a held FAULT_N; HOLD = 1 alone pulls nothing. -/
def State.fltPinWrite (s : State) (v : Word) : State :=
  let s1 := s.setReg Reg.FLT_PIN (putFld (v &&& 0x8000000003FF#48) 9 0 (clampNat 1 1000 (fld v 9 0)))
  if bitOf v 47 then s1 else s1.setFlt { s1.flt with hold := false }

/-- INT_N is held low (R253, R367). -/
def State.intN (s : State) : Bool :=
  (s.rb Reg.FLT_INTCFG 47 && decide (s.rf Reg.FLT_INTCFG 15 0 ≠ s.rf Reg.FLT_EVSEQ 15 0)) ||
  (s.rb Reg.MB_INTEN 0 && decide (s.rf Reg.MB_CPLWR 15 0 ≠ s.rf Reg.MB_CPLRD 15 0)) ||
  (s.rb Reg.MB_INTEN 1 && !s.rt.hostBox.isEmpty)

/-! ## LIVE words (R377) -/

/-- Highest severity among sources in fault state. -/
def State.maxAct (s : State) : Nat := s.flt.src.foldl (fun m x => if x.2.st = 0 then m else max m x.2.sev) 0

def State.fltStatWord (s : State) : Word :=
  BitVec.ofNat 48 (bnat s.flt.ovf * 2 ^ 47 + bnat s.flt.loss * 2 ^ 46 + s.maxAct * 2 ^ 44 + s.rf Reg.FLT_STAT 43 40 * 2 ^ 40 + s.flt.hist.length)

def State.fltSrcWord (s : State) (k : Nat) : Word :=
  let x := s.fsrc k
  BitVec.ofNat 48 (x.st * 2 ^ 46 + x.sev * 2 ^ 44 + x.code % 64 * 2 ^ 38 + min 63 (s.recWin k).length * 2 ^ 32 + x.total)

def State.fltPinWord (s : State) : Word := putFld (s.reg Reg.FLT_PIN) 46 46 (bnat s.faultN)

end Sys2Proof.Machine
end

