-- ==== Sys2Proof/Machine/Bist.lean ====
section
/-! DEFINITION. Self-test: in-service tests of one unit after another, withdrawal, return, external tests (R371–R376, R95). -/

namespace Sys2Proof.Machine

/-! ## Units (R371, R376) -/

/-- Units of a class; 0 for no class. -/
def testUnits (cls : Nat) : Nat :=
  if cls = 1 then 48 else if cls = 2 then 8 else if cls = 3 ∨ cls = 4 then 96 else if cls = 5 ∨ cls = 6 then 1 else 0

/-- The unit is tested in service: neither the supervisor's spindle nor, with USERTEST = 0, a USER spindle. -/
def State.testTaken (s : State) (cls unit : Nat) : Bool :=
  !(decide (cls = 1) && (decide (unit = s.supSpn) || (decide ((s.spn unit).mode = 2) && !s.rb Reg.BIST_CFG 46)))

/-- The unit after (cls, unit) in class order; true when a pass ends. -/
def nextTestUnit (cls unit : Nat) : Nat × Nat × Bool :=
  if unit + 1 < testUnits cls then (cls, unit + 1, false) else if cls < 6 then (cls + 1, 0, false) else (1, 0, true)

/-- The fail bit of a unit: register and bit. -/
def failBit (cls unit : Nat) : Nat × Nat :=
  if cls = 1 then (Reg.BIST_SPNFAIL, unit) else if cls = 2 then (Reg.BIST_BANKFAIL, unit)
  else if cls = 3 then (Reg.BIST_COEFFAIL (unit / 48), unit % 48)
  else if cls = 4 then (Reg.BIST_CANCFAIL (unit / 48), unit % 48)
  else (Reg.BIST_DSTFAIL, cls - 5)

/-! ## Skips and conditions (R373) -/

/-- Bank b holds an excluded range or the runtime state region. -/
def State.bankProtected (s : State) (b : Nat) : Bool :=
  s.keptFree.any (fun x => decide (x.1 < x.2 ∧ x.1 < 32768 * (b + 1) ∧ 32768 * b < x.2))

/-- REASON of a skip at selection; 0 for none. -/
def State.skipReason (s : State) (cls unit : Nat) : Nat :=
  if (cls = 1 ∨ cls = 3 ∨ cls = 4) ∧ s.rf Reg.BIST_SCRATCH 31 0 = 0 then 3
  else if cls = 2 ∧ s.bankProtected unit then 4
  else 0

/-- The unit's condition holds; `boundary` names a spindle that stands at a quantum boundary. -/
def State.testCond (s : State) (cls unit : Nat) (boundary : Option Nat) : Bool :=
  s.domOn (testDomain cls unit) &&
  (if cls = 1 then
      let x := s.spn unit
      !(s.holdsKnot unit) && !(x.inFlight (fun _ => true)) &&
        (decide (x.run ≠ .running ∧ x.run ≠ .halting) || decide (boundary = some unit))
    else if cls = 2 then decide (s.bankUse unit = 0)
    else if cls = 3 then !(s.rb (Reg.PORT_COEFSTAT unit) 6) && !(s.rb (Reg.PORT_COEFSTAT unit) 7)
    else if cls = 4 then
      (List.range 8).all (fun n => !((s.lg (unit / 16)).pend.getLsbD n && natBit (s.skNames (unit / 16) n) (unit % 16)))
    else decide (s.dstState = 0))

/-- The contents go to the scratch region, where it lies in the bobbin window. -/
def State.saveScratch (s : State) (cls unit : Nat) : State :=
  match s.scratch with
  | some k => s.setBobWords k (s.savedWords cls unit)
  | none => s

/-- A waiting test starts once its condition holds. -/
def State.testPoll (s : State) (boundary : Option Nat) : State :=
  match s.bist.cur with
  | none => s
  | some t =>
    if t.waiting ∧ s.testCond t.cls t.unit boundary then
      let s1 := s.saveScratch t.cls t.unit
      let x := s.spn t.unit
      let was := if t.cls = 1 then decide (x.run = .running ∨ x.run = .sleeping) else t.was
      let s2 := if t.cls = 1 ∧ was then s1.updSpn t.unit (fun y => { y with run := .halted }) else s1
      let s3 := if t.cls = 3 then s2.setRb (Reg.PORT_COEFSTAT t.unit) 8 true else s2
      { s3 with bist := { s3.bist with cur := some { t with waiting := false, was := was, slept := decide (x.run = .sleeping), since := s.flt.arrivals } } }
    else s

/-- The unit after the current one is next; the end of a pass counts. -/
def State.testAdvance (s : State) : State :=
  let r := nextTestUnit s.bist.cls s.bist.unit
  let s1 : State := { s with bist := { s.bist with cls := r.1, unit := r.2.1 } }
  if r.2.2 then s1.bump Reg.BIST_CYCLECNT else s1

/-- A unit is skipped. -/
def State.testSkip (s : State) (reason : Nat) : State := (s.bump Reg.BIST_SKIPCNT).setRf Reg.BIST_STAT 23 20 reason

/-- Go on to the first unit that is tested in service; at most all units of a pass are left out. -/
def State.testSeek : Nat → State → State
  | 0, s => s
  | fuel + 1, s => if s.testTaken s.bist.cls s.bist.unit then s else State.testSeek fuel s.testAdvance

/-- BIST_INTERVAL (R373): the test of the next unit starts, waits for its condition, or is skipped. -/
def execBistInterval (s : State) : Out :=
  if s.rb Reg.BIST_CFG 47 ∧ 2 ≤ s.boot.phase ∧ s.rootUp ∧ s.bist.cur.isNone then
    let s1 := State.testSeek 256 s
    let cls := s1.bist.cls
    let unit := s1.bist.unit
    let s2 := s1.testAdvance
    let r := s1.skipReason cls unit
    if r ≠ 0 then .next (s2.testSkip r)
    else
      let was := decide (cls = 2) && s.rb Reg.TM_BANKEN unit
      let s3 := if was then s2.setRb Reg.TM_BANKEN unit false else s2
      let s4 : State := { s3 with bist := { s3.bist with cur := some { cls := cls, unit := unit, ext := false, waiting := true, was := was } } }
      .next (s4.testPoll none)
  else .next s

/-- BIST_CONDITION_TIMEOUT: the unit whose condition is not met within 1 s is skipped. -/
def execBistConditionTimeout (s : State) : Out :=
  match s.bist.cur with
  | none => .next s
  | some t =>
    if t.waiting then
      let s1 := s.testRestore t
      .next (({ s1 with bist := { s1.bist with cur := none } } : State).testSkip 2)
    else .next s

/-! ## The end of a test (R374) -/

/-- Source, code and INFO of a failing unit's event; `word` is the first failing word, DMEM's counted on from IMEM's. -/
def State.testEvent (s : State) (cls unit word : Nat) : Nat × Nat × Nat :=
  if cls = 1 then (0x080 + unit, 0x12, if word < 0x2000 then word else 2 ^ 27 + (word - 0x2000) % 0x4000)
  else if cls = 2 then (0x0B0 + unit, 0x18, word)
  else if cls = 3 then (unit, 0x05, s.testHalf unit)
  else if cls = 4 then (0x060 + unit / 16, 0x09, unit % 16 + 16 * s.slotIdle unit)
  else (0x0C1, 0x1D, cls - 5)

/-- A failing unit is withdrawn: it needs a return of its domain from OFF, and then a pass, for a port of each half, from now on (R95, R374). -/
def State.withdraw (s : State) (cls unit : Nat) : State :=
  let b := failBit cls unit
  let s0 : State := { s with bist := { s.bist with
    cycled := s.bist.cycled.filter (fun x => !decide (x = (cls, unit)))
    halfOk := if cls = 3 then s.bist.halfOk.filter (fun p => !decide (p = unit)) else s.bist.halfOk } }
  let s1 := s0.setRb b.1 b.2 true
  if cls = 1 then (s1.updSpn unit (fun x => { x with withdrawn := true, run := .halted })).breakKnots unit
  else if cls = 2 then s1.setRb Reg.TM_BANKEN unit false
  else if cls = 3 then
    let h := s.testHalf unit
    let s2 := (s1.setRb (Reg.PORT_COEFSTAT unit) 4 true).setRb (Reg.PORT_COEFSTAT unit) 5 (decide (h = 1))
    if s.servingHalf unit = h then (s2.setRf (Reg.PORT_COEFSTAT unit) 3 3 (1 - h)).serveHalf unit (1 - h) (s.pmode unit) else s2
  else if cls = 4 then s1.skStop (unit / 16) (unit % 16)
  else s1

/-- A withdrawn unit whose domain has returned from OFF passes: it is in service again; a port, once both its halves have passed (R95). -/
def State.readmit (s : State) (cls unit : Nat) : State :=
  if cls = 3 ∧ s.bist.cycled.contains (cls, unit) ∧ s.bist.halfOk.contains unit = false then
    { s with bist := { s.bist with halfOk := s.bist.halfOk ++ [unit] } }
  else if s.bist.cycled.contains (cls, unit) then
    let b := failBit cls unit
    let s1 := s.setRb b.1 b.2 false
    let s2 : State := { s1 with bist := { s1.bist with
        cycled := s1.bist.cycled.filter (fun x => !decide (x = (cls, unit)))
        halfOk := if cls = 3 then s1.bist.halfOk.filter (fun p => !decide (p = unit)) else s1.bist.halfOk } }
    if cls = 1 then s2.updSpn unit (fun x => { x with withdrawn := false })
    else if cls = 3 then (s2.setRb (Reg.PORT_COEFSTAT unit) 4 false).setRb (Reg.PORT_COEFSTAT unit) 5 false
    else s2
  else s

/-- BIST_DONE: the running march ends, without a failing word or with the first one. -/
def execBistDone (fail : Option (BitVec 24)) (s : State) : Out :=
  match s.bist.cur with
  | none => .next s
  | some t =>
    if t.waiting then .next s
    else
      let s1 := ((s.marchLeft t).testRestore t).bump Reg.BIST_TESTCNT
      let s2 : State := { s1 with bist := { s1.bist with cur := none } }
      let s3 := match fail with
        | none => s2.testLast t 0 0
        | some w => s2.testLast t 1 w.toNat
      if t.ext then .next (s3.setRf Reg.BIST_STAT 19 16 t.seq)
      else
        match fail with
        | none => .next (s3.readmit t.cls t.unit)
        | some w =>
          let e := s.testEvent t.cls t.unit w.toNat
          .next (((s3.withdraw t.cls t.unit).bump Reg.BIST_FAILCNT).raise e.1 e.2.1 e.2.2)

/-- BIST_ABORT (R375): an event of the unit's own source waits, or the unit's domain is off. -/
def execBistAbort (s : State) : Out :=
  match s.bist.cur with
  | none => .next s
  | some t =>
    if s.waitingEvents.any s.testHit ∨ (s.dom (testDomain t.cls t.unit)).st = 2 then .next s.testAbort else .next s

/-! ## External tests (R376) -/

/-- TEST or RETURN. -/
def State.lcOpen (s : State) : Bool := decide (s.fuses.lc = 1 ∨ s.fuses.lc = 15)

/-- A write of BIST_CTL: a changed SEQ starts an external test, or is refused. -/
def State.bistCtlWrite (s : State) (v : Word) : Nat × State :=
  let refuse := fun (r : Nat) => (stREFUSED, s.setRf Reg.BIST_STAT 23 20 r)
  let w := v &&& 0xFF000000FFFF#48
  if fld v 47 44 = s.rf Reg.BIST_CTL 47 44 then (stOK, s.setReg Reg.BIST_CTL w)
  else if s.lcOpen = false then refuse 1
  else if testUnits (fld v 43 40) ≤ fld v 15 0 then refuse 5
  else if s.bist.cur.isSome then refuse 6
  else
    let s1 := s.setReg Reg.BIST_CTL w
    (stOK, { s1 with bist := { s1.bist with
      cur := some { cls := fld v 43 40, unit := fld v 15 0, ext := true, seq := fld v 47 44, since := s.flt.arrivals } } })

/-- BIST_STAT. Saving and restoring begin and end within one command, so STATE reads 2 or 0 (DESIGN CHOICE, log entry 172). -/
def State.bistStatWord (s : State) : Word :=
  let w := s.reg Reg.BIST_STAT &&& 0xFF0000#48
  match s.bist.cur with
  | none => w
  | some t => if t.waiting then w else putFld (putFld (putFld w 47 45 2) 43 40 t.cls) 39 24 t.unit

end Sys2Proof.Machine
end

