-- ==== Sys2Proof/Machine/Crypto.lean ====
section
/-! DEFINITION. SHA-256 and ECDSA P-256 verification, which R8 and R391 name and the standards FIPS 180-4 and FIPS 186 define (PRESUMED, log entry 7). -/

namespace Sys2Proof.Machine

/-! ## SHA-256 -/

/-- The 64 round constants. -/
def shaK : List (BitVec 32) :=
  [0x428A2F98, 0x71374491, 0xB5C0FBCF, 0xE9B5DBA5, 0x3956C25B, 0x59F111F1, 0x923F82A4, 0xAB1C5ED5,
   0xD807AA98, 0x12835B01, 0x243185BE, 0x550C7DC3, 0x72BE5D74, 0x80DEB1FE, 0x9BDC06A7, 0xC19BF174,
   0xE49B69C1, 0xEFBE4786, 0x0FC19DC6, 0x240CA1CC, 0x2DE92C6F, 0x4A7484AA, 0x5CB0A9DC, 0x76F988DA,
   0x983E5152, 0xA831C66D, 0xB00327C8, 0xBF597FC7, 0xC6E00BF3, 0xD5A79147, 0x06CA6351, 0x14292967,
   0x27B70A85, 0x2E1B2138, 0x4D2C6DFC, 0x53380D13, 0x650A7354, 0x766A0ABB, 0x81C2C92E, 0x92722C85,
   0xA2BFE8A1, 0xA81A664B, 0xC24B8B70, 0xC76C51A3, 0xD192E819, 0xD6990624, 0xF40E3585, 0x106AA070,
   0x19A4C116, 0x1E376C08, 0x2748774C, 0x34B0BCB5, 0x391C0CB3, 0x4ED8AA4A, 0x5B9CCA4F, 0x682E6FF3,
   0x748F82EE, 0x78A5636F, 0x84C87814, 0x8CC70208, 0x90BEFFFA, 0xA4506CEB, 0xBEF9A3F7, 0xC67178F2]

/-- The initial hash value. -/
def shaInit : List (BitVec 32) :=
  [0x6A09E667, 0xBB67AE85, 0x3C6EF372, 0xA54FF53A, 0x510E527F, 0x9B05688C, 0x1F83D9AB, 0x5BE0CD19]

def shaSmall0 (x : BitVec 32) : BitVec 32 := x.rotateRight 7 ^^^ x.rotateRight 18 ^^^ (x >>> 3)
def shaSmall1 (x : BitVec 32) : BitVec 32 := x.rotateRight 17 ^^^ x.rotateRight 19 ^^^ (x >>> 10)
def shaBig0 (x : BitVec 32) : BitVec 32 := x.rotateRight 2 ^^^ x.rotateRight 13 ^^^ x.rotateRight 22
def shaBig1 (x : BitVec 32) : BitVec 32 := x.rotateRight 6 ^^^ x.rotateRight 11 ^^^ x.rotateRight 25

/-- The message schedule, newest word first: n further words behind the 16 of the block. -/
def shaSchedule : Nat → List (BitVec 32) → List (BitVec 32)
  | 0, w => w
  | n + 1, w => shaSchedule n ((shaSmall1 (nth 0 w 1) + nth 0 w 6 + shaSmall0 (nth 0 w 14) + nth 0 w 15) :: w)

/-- One round on the eight working variables, with the sum of its constant and its schedule word. -/
def shaRound (v : List (BitVec 32)) (kw : BitVec 32) : List (BitVec 32) :=
  match v with
  | [a, b, c, d, e, f, g, h] =>
    let t1 := h + shaBig1 e + ((e &&& f) ^^^ (~~~e &&& g)) + kw
    let t2 := shaBig0 a + ((a &&& b) ^^^ (a &&& c) ^^^ (b &&& c))
    [t1 + t2, a, b, c, d + t1, e, f, g]
  | _ => v

/-- The compression of one block of 64 bytes. -/
def shaBlock (h : List (BitVec 32)) (block : List Byte) : List (BitVec 32) :=
  let w := (List.range 16).map (fun i => BitVec.ofNat 32 (bytesVal ((block.drop (4 * i)).take 4)))
  let ws := (shaSchedule 48 w.reverse).reverse
  let v := ((shaK.zip ws).map (fun x => x.1 + x.2)).foldl shaRound h
  (h.zip v).map (fun x => x.1 + x.2)

/-- The compression of n blocks. -/
def shaBlocks : Nat → List (BitVec 32) → List Byte → List (BitVec 32)
  | 0, h, _ => h
  | n + 1, h, bs => shaBlocks n (shaBlock h (bs.take 64)) (bs.drop 64)

/-- SHA-256 of a byte string. -/
def sha256 (bs : List Byte) : BitVec 256 :=
  let pad := (119 - bs.length % 64) % 64
  let m := bs ++ 0x80#8 :: List.replicate pad 0#8 ++ valBytes 8 (8 * bs.length)
  BitVec.ofNat 256 ((shaBlocks (m.length / 64) shaInit m).foldl (fun n w => n * 2 ^ 32 + w.toNat) 0)

/-! ## The curve P-256 -/

abbrev p256p : Nat := 2 ^ 256 - 2 ^ 224 + 2 ^ 192 + 2 ^ 96 - 1
abbrev p256n : Nat := 0xFFFFFFFF00000000FFFFFFFFFFFFFFFFBCE6FAADA7179E84F3B9CAC2FC632551
abbrev p256b : Nat := 0x5AC635D8AA3A93E7B3EBBD55769886BC651D06B0CC53B0F63BCE3C3E27D2604B
abbrev p256x : Nat := 0x6B17D1F2E12C4247F8BCE6E563A440F277037D812DEB33A0F4A13945D898C296
abbrev p256y : Nat := 0x4FE342E2FE1A7F9B8EE7EB4A7C0F9E162BCE33576B315ECECBB6406837BF51F5

/-- a^e modulo m, from the bit i of e on downwards. -/
def powMod (m a e : Nat) : Nat → Nat → Nat
  | 0, r => r
  | i + 1, r => powMod m a e i (if e / 2 ^ i % 2 = 1 then r * r % m * a % m else r * r % m)

/-- The inverse of a modulo a prime m below 2^256. -/
def invMod (m a : Nat) : Nat := powMod m (a % m) (m - 2) 256 1

/-- A difference modulo the field's prime. -/
def subP (a b : Nat) : Nat := (a + p256p - b % p256p) % p256p

/-- A point in Jacobian coordinates; Z = 0 is the point at infinity. -/
structure EcPoint where
  x : Nat
  y : Nat
  z : Nat
deriving DecidableEq, Repr

def EcPoint.zero : EcPoint := { x := 1, y := 1, z := 0 }

/-- 2P. -/
def EcPoint.double (a : EcPoint) : EcPoint :=
  let yy := a.y * a.y % p256p
  let s := 4 * a.x * yy % p256p
  let zz := a.z * a.z % p256p
  let m := 3 * subP a.x zz * (a.x + zz) % p256p
  let x := subP (m * m) (2 * s)
  { x := x, y := subP (m * subP s x) (8 * yy * yy), z := 2 * a.y * a.z % p256p }

/-- P + Q. -/
def EcPoint.add (a b : EcPoint) : EcPoint :=
  if a.z = 0 then b
  else if b.z = 0 then a
  else
    let za := a.z * a.z % p256p
    let zb := b.z * b.z % p256p
    let u1 := a.x * zb % p256p
    let u2 := b.x * za % p256p
    let s1 := a.y * zb * b.z % p256p
    let s2 := b.y * za * a.z % p256p
    if u1 = u2 then (if s1 = s2 then a.double else EcPoint.zero)
    else
      let h := subP u2 u1
      let r := subP s2 s1
      let hh := h * h % p256p
      let v := u1 * hh % p256p
      let x := subP (r * r) (h * hh + 2 * v)
      { x := x, y := subP (r * subP v x) (s1 * h * hh), z := h * a.z * b.z % p256p }

/-- k·P, from the bit i of k on downwards. -/
def EcPoint.mul (a : EcPoint) (k : Nat) : Nat → EcPoint → EcPoint
  | 0, r => r
  | i + 1, r => EcPoint.mul a k i (if k / 2 ^ i % 2 = 1 then r.double.add a else r.double)

/-- ECDSA P-256 verification of a digest under a key (x and y, 32 bytes each) and a signature (r and s, 32 bytes each). -/
def ecdsaP256 (key sig : List Byte) (digest : BitVec 256) : Bool :=
  let qx := bytesVal (key.take 32)
  let qy := bytesVal (key.drop 32)
  let r := bytesVal (sig.take 32)
  let s := bytesVal (sig.drop 32)
  let onCurve := decide (qx < p256p ∧ qy < p256p ∧ qy * qy % p256p = (qx * qx * qx + (p256p - 3) * qx + p256b) % p256p)
  if onCurve ∧ 0 < r ∧ r < p256n ∧ 0 < s ∧ s < p256n then
    let w := invMod p256n s
    let g : EcPoint := { x := p256x, y := p256y, z := 1 }
    let q : EcPoint := { x := qx, y := qy, z := 1 }
    let t := (g.mul (digest.toNat * w % p256n) 256 EcPoint.zero).add (q.mul (r * w % p256n) 256 EcPoint.zero)
    let zi := invMod p256p t.z
    decide (t.z ≠ 0 ∧ t.x * (zi * zi % p256p) % p256p % p256n = r)
  else false

end Sys2Proof.Machine
end

