-- ==== Sys2Proof/Machine/Images.lean ====
section
/-! DEFINITION. Flash, images and commits: the checks of R392, slot selection, the commit steps, the prefetch buffer's rows (R388–R397). -/

namespace Sys2Proof.Machine

/-! ## Image checks (R391, R392) -/

/-- Words of a slot's header area before the body. -/
abbrev bodyAt : Nat := 2048

/-- The words [k, k + n) of an image given by its words. -/
def imgWords (w : Nat → Word) (k n : Nat) : List Word := (List.range n).map (fun i => w (k + i))

def imgBodyLen (w : Nat → Word) : Nat := fld (w 1) 31 0

/-- Checks 1–5 in their order: the code of the first that fails, 0 if none does. -/
def imgHeader (w : Nat → Word) (count : Nat) : Nat :=
  let f := fld (w 0) 31 24
  let len := imgBodyLen w
  let h := fld (w 31) 31 0
  if fld (w 0) 47 32 ≠ 0x1A96 then 1
  else if h = 0xFFFFFFFF ∨ h ≠ crc32 (bytesOfWords (imgWords w 0 31)) then 2
  else if f < 1 ∨ 3 < f ∨ (bitOf (w 0) 18 ∧ f < 2) ∨ (bitOf (w 0) 17 ∧ f < 3) then 3
  else if len < 1 ∨ 260096 < len ∨ len ≤ fld (w 2) 31 0 ∨ len < fld (w 3) 31 0 + 2 * fld (w 4) 31 0 ∨
      (bitOf (w 0) 18 ∧ len < fld (w 5) 31 0 + fld (w 6) 31 0) then 4
  else if fld (w 2) 47 40 < count then 8
  else 0

/-- Checks 6–8, after 1–5 have passed: SIGNED, BCRC, key and signature. An unsigned image of TEST has no signature to check. -/
def imgBody (w : Nat → Word) (test : Bool) : Nat :=
  let body := imgWords w bodyAt (imgBodyLen w)
  if bitOf (w 0) 16 = false ∧ test = false then 7
  else if fld (w 2047) 31 0 ≠ crc32 (bytesOfWords body) then 5
  else if bitOf (w 0) 16 then
    let key := (bytesOfWords (imgWords w 8 11)).take 64
    let sig := (bytesOfWords (imgWords w 19 11)).take 64
    if sha256 key = Config.keyHash ∧ ecdsaP256 key sig (sha256 (bytesOfWords (imgWords w 0 8 ++ body))) then 0 else 6
  else 0

/-- All checks: the code of the first that fails. -/
def imgCheck (w : Nat → Word) (count : Nat) (test : Bool) : Nat :=
  if imgHeader w count ≠ 0 then imgHeader w count else imgBody w test

/-- LC_STATE is TEST. -/
def State.lcTest (s : State) : Bool := decide (s.fuses.lc = 1)

/-- Word k of a slot: 0 A, 1 B. -/
def State.slotImg (s : State) (slot k : Nat) : Word := s.flashWord (slot * 0x40000 + k)

/-- Slot selection (R393): the codes of both slots, 9 for a slot whose checks were not completed, and the winner. -/
def State.selectSlot (s : State) : Nat × Nat × Option Nat :=
  let early := fun k => imgHeader (s.slotImg k) s.fuses.count
  let full := fun k => if early k ≠ 0 then early k else imgBody (s.slotImg k) s.lcTest
  let first := if serialNewer 16 (fld (s.slotImg 1 30) 15 0) (fld (s.slotImg 0 30) 15 0) then 1 else 0
  let order := if early first ≠ 0 then 1 - first else first
  let r1 := full order
  let r2 := if r1 = 0 then (if early (1 - order) ≠ 0 then early (1 - order) else 9) else full (1 - order)
  let win := if r1 = 0 then some order else if r2 = 0 then some (1 - order) else none
  if order = 0 then (r1, r2, win) else (r2, r1, win)

/-! ## Flash reads (R33, R389, R390) -/

/-- FLASH_LINE_FILL: the line stands in the prefetch buffer. -/
def execFlashLineFill (line : BitVec 32) (s : State) : Out :=
  if s.boot.commit.isSome then .next s
  else .next { s with boot := { s.boot with lines := s.useLine line.toNat s.boot.lines } }

/-- FLASH_READ_TIMEOUT (R390): the reads that wait behind the commit complete ABSENT; a speculative LDF goes on waiting. -/
def execFlashReadTimeout (s : State) : Out :=
  if s.boot.commit.isSome then
    let s1 := s.endOps (fun o => decide (o.kind = .ldf) && o.done.isNone && !o.spec) stABSENT
    .next (forAll (fun t (h : Waiting) => if 0x4000000 ≤ h.addr then t.firstAbsent h.req else t) (firsts [] s1.waitQ) s1)
  else .next s

/-! ## Commit (R396, R397, R353) -/

/-- CSP0_CMTSTAT: STATE, STEP. -/
def State.cmtState (s : State) (st step : Nat) : State := (s.setRf Reg.CSP0_CMTSTAT 47 44 st).setRf Reg.CSP0_CMTSTAT 43 40 step

/-- CSP0_CMTSTAT shows a refusal. -/
def State.cmtRefuse (s : State) (reason chk : Nat) : State :=
  ((s.setRf Reg.CSP0_CMTSTAT 47 44 6).setRf Reg.CSP0_CMTSTAT 39 36 reason).setRf Reg.CSP0_CMTSTAT 35 32 chk

/-- Word k of the staged image; words outside the bobbin window read 0. -/
def State.staged (s : State) (k : Nat) : Word :=
  let a := s.rf Reg.CSP0_CMTSRC 31 0 + k
  if isBobbin a then s.bob (a - 0x1000000) else 0

/-- Banks that hold [a, a + n) of the bobbin window. -/
def banksOf (a n : Nat) : List Nat :=
  (List.range 8).filter (fun b => decide (a < 0x1000000 + (b + 1) * 0x100000 ∧ 0x1000000 + b * 0x100000 < a + n))

/-- Reads by the supervisor or ROOT from bobbin words: every bank answers, waking where it may (R342), or one is absent. -/
def State.banksAnswer (s : State) (a n : Nat) : Bool × State :=
  let bs := banksOf a n
  if bs.any (fun b => decide (s.gate (36 + b) = .absent)) then (false, s)
  else (true, forAll (fun t b => if t.gate (36 + b) = .stall then t.wakeOnDemand (36 + b) else t) bs s)

/-- Flash operations of a step for an image of `len` words. -/
def stepOps (step len : Nat) : Nat :=
  if step = 2 then 24 else if step = 3 then ceilDiv (6 * (len - bodyAt)) 256 else if step = 5 then 2 else 1

/-- VHOLD_MIN in mV (R355). -/
def State.holdMin (s : State) : Nat := 2700 + 50 * s.rf Reg.PWR_HOLDCFG 4 0

/-- The hold-up gauge, in µC, at VHOLD = mv: HOLDCAP × (VHOLD − VHOLD_MIN) (R353). -/
def State.gaugeFrom (s : State) (mv : Nat) : Nat := min (2 ^ 24 - 1) (s.rf Reg.PWR_HOLDCFG 31 16 * (mv - s.holdMin) / 1000)

/-- The gauge now: the charge that has flowed in and out since it was set is counted, at a net current that is a free value, on the reserve an outflow
of at most 45 mA (R352, R353; log entry 162). -/
def State.gauge (s : State) : Nat :=
  min (2 ^ 24 - 1) (((s.rf Reg.PWR_HOLDGAUGE 23 0 : Nat) : Int) + (((s.now - s.pwr.holdAt : Nat) : Int) * s.pwr.holdUa) / 10 ^ 9).toNat

/-- The gauge is set to v µC; what flows from now on is counted at a fresh net current. -/
def State.setGauge (s : State) (v : Nat) : State :=
  let r := s.drawNat 24
  let ua : Int := if s.rb Reg.PWR_HOLDSTAT 45 then -((r.1 % 45001 : Nat) : Int) else signed 24 r.1
  { r.2.setReg Reg.PWR_HOLDGAUGE (BitVec.ofNat 48 v) with pwr := { s.pwr with holdAt := s.now, holdUa := ua } }

/-- VOK reads 1 again once VHOLD is at or above VHOLD_MIN (R353): on the main supply, at any tick; when is a free value (log entry 162). -/
def State.vokRise (s : State) : State :=
  if s.rb Reg.PWR_HOLDSTAT 47 ∨ s.rb Reg.PWR_HOLDSTAT 45 ∨ s.boot.phase = 0 then s
  else
    let r := s.drawNat 1
    if r.1 = 1 then r.2.setRb Reg.PWR_HOLDSTAT 47 true else r.2

/-- A committed write of CSP0_COMMIT: the status and the state. The write itself is refused with REASON 1 or 5; a START that fails a later check
shows its REASON in CMTSTAT. Words that cannot be read give REASON 7, before what they would say (DESIGN CHOICE, log entry 172). -/
def State.commitWrite (s : State) (v : Word) : Nat × State :=
  if bitOf v 0 = false then (stOK, s.setReg Reg.CSP0_COMMIT 0)
  else if s.boot.commit.isSome then (stREFUSED, s.cmtRefuse 1 0)
  else
    let src := s.rf Reg.CSP0_CMTSRC 31 0
    let len := s.rf Reg.CSP0_CMTLEN 17 0
    let r := s.banksAnswer src (max len bodyAt)
    let shown := fun (u : State) (reason chk : Nat) => (stOK, (u.cmtRefuse reason chk).setReg Reg.CSP0_COMMIT 1)
    if r.1 = false then shown s 7 0
    else
      let s1 := r.2
      if len ≠ bodyAt + imgBodyLen s.staged ∨ 262144 < len then (stREFUSED, s1.cmtRefuse 5 0)
      else
        let chk := imgCheck s.staged s.fuses.count s.lcTest
        if chk ≠ 0 then shown s1 2 chk
        else
          let s2 := if s.rb Reg.PWR_HOLDSTAT 47 then s1 else s1.raise 0x0EA 0x2C 0
          if s.gauge < s.rf Reg.PWR_HOLDNEED 23 0 then shown s2 3 0
          else if s.rb Reg.PWR_HOLDSTAT 47 = false then shown s2 4 0
          else
            let slot := match s.boot.win with
              | some k => 1 - k
              | none => 0
            let seq := match s.boot.win with
              | some _ => (s.rf Reg.CSP0_BOOTSTAT 15 0 + 1) % 2 ^ 16
              | none => 1
            let c : Commit := { buf := imgWords s.staged 0 len, step := 1, slot := slot, seq := seq, left := 1 }
            let s3 : State := { s2 with boot := { s2.boot with commit := some c } }
            (stOK, ((s3.setReg Reg.CSP0_CMTSTAT (BitVec.ofNat 48 (3 * 2 ^ 44 + 2 ^ 40 + slot * 2 ^ 31 + seq))).setRb Reg.PWR_HOLDSTAT 46 true).setReg
              Reg.CSP0_COMMIT 1)

/-- Program consecutive flash bytes. -/
def State.program (s : State) (at_ : Nat) : List Byte → State
  | [] => s
  | b :: t => (s.setFlashByte at_ b).program (at_ + 1) t

/-- The header words that a commit programs: SEQ as chosen, and the HCRC over the words as written. -/
def Commit.header (c : Commit) : List Word :=
  let h := setNth (putFld (nth 0#48 c.buf 30) 15 0 c.seq) (c.buf.take 31) 30
  h ++ [putFld (nth 0#48 c.buf 31) 31 0 (crc32 (bytesOfWords h))]

/-- The flash operation that a commit performs next. -/
def State.flashOp (s : State) (c : Commit) : State :=
  let base := c.slot * 0x180000
  let nth_ := stepOps c.step c.buf.length - c.left
  if c.step = 1 then s.program base (List.replicate 6 0#8)
  else if c.step = 2 then
    { s with flash := Tab.keep (fun k => !decide (k / 0x10000 = base / 0x10000 + nth_)) s.flash }
  else if c.step = 3 then
    s.program (base + 6 * bodyAt + 256 * nth_) (((bytesOfWords (c.buf.drop bodyAt)).drop (256 * nth_)).take 256)
  else if c.step = 4 then s.program (base + 6 * 2047) (bytesOfWord (nth 0#48 c.buf 2047))
  else if nth_ = 0 then s.program base (bytesOfWords (c.header.take 31))
  else s.program (base + 6 * 31) (bytesOfWord (nth 0#48 c.header 31))

/-- The commit ends: COMMIT falls, and a run on the reserve leaves its outcome in PWR_HOLDLAST. -/
def State.commitOver (s : State) (c : Commit) (outcome : Nat) : State :=
  let s1 : State := { s with boot := { s.boot with commit := none, lines := [] } }
  let s2 := s1.setRb Reg.PWR_HOLDSTAT 46 false
  if s.rb Reg.PWR_HOLDSTAT 45 then
    ((s2.setRf Reg.PWR_HOLDLAST 47 44 outcome).setRf Reg.PWR_HOLDLAST 43 40 c.step)
  else s2

end Sys2Proof.Machine
end

