-- ==== Sys2Proof/Machine/Boot.lean ====
section
/-! DEFINITION. Start-up, park, rails, hold-up, and the end of a commit (R18, R49, R330, R344–R354, R372, R394–R401). -/

namespace Sys2Proof.Machine

/-! ## What a loss of supply leaves -/

/-- AON's own words (R348, R353). -/
def aonWord (a : Nat) : Bool :=
  decide (a = Reg.PWR_WAKECFG ∨ a = Reg.PWR_WAKELAST ∨ a = Reg.PWR_PARKTIME ∨ a = Reg.PWR_PARKTIME + 1 ∨ a = Reg.PWR_AONSTAT ∨ a = Reg.PWR_HOLDLAST)

/-- The domain is in RET and in no transition: it keeps its content without VDD_CORE (R344). -/
def State.inRet (s : State) (d : Nat) : Bool := decide ((s.dom d).st = 1 ∧ (s.dom d).chg = 0)

/-- A life-cycle fuse whose programming is cut reads as the old state or as the new one (R55). -/
def State.tornFuse (s : State) : State :=
  match s.fuses.prog with
  | none => s
  | some v =>
    let r := s.drawNat 1
    { r.2 with fuses := { s.fuses with lc := if r.1 = 0 then s.fuses.lc else v, prog := none } }

/-- Everything that lives on VDD_CORE is gone; fuses, flash, the board's levels and the model's own clock and counter go on. -/
def State.bare (s : State) : State :=
  let t := s.tornFuse
  { pending := s.pending, now := s.now, free := t.free, flash := s.flash, fuses := t.fuses, pins := { gpio := s.pins.gpio } }

/-- A word that survives the loss of VDD_CORE: AON's, those of retained domains, and their maps (R347, R348). -/
def State.survives (s : State) (a : Nat) : Bool :=
  aonWord a || (match domainOf a with
    | some d => s.inRet d
    | none => (List.range 50).any (fun d => decide (a = Reg.PWR_RETMAP d) && s.inRet d))

/-- The runtime state region keeps its content: each of its banks is in RET with its content kept (R249). -/
def State.rtKept (s : State) : Bool := (List.range 8).all (fun b => !s.rtInBank b || (s.inRet (36 + b) && s.retMem (36 + b) 0))

/-- What is left of a port: all a domain in RET keeps, else an armed detector; fingerprints and trend points where their region is kept. -/
def State.portKept (s : State) (p : Nat) (x : Port) : Port :=
  let y : Port := if s.inRet (quadOf p) then { x with fromSleep := false, wakePend := false } else { detArmed := x.detArmed }
  { y with fp := if s.rtKept then x.fp else [], trend := if s.rtKept then x.trend else [] }

/-- State in which domain d comes back: RET where it was in RET, else ON, as at power-on; a quad of a line group in RET cannot be ON (R339) and comes
back OFF (DEDUCED, log entry 171). -/
def State.domBack (s : State) (d : Nat) : Nat :=
  if s.inRet d then 1 else if (lgOfDom d).any s.inRet then 2 else 0

/-- Every domain stands as `st` gives it, its TARGET with it. -/
def State.placeDoms (s : State) (st : Nat → Nat) : State :=
  forAll (fun u d => if st d = 0 then u else (u.setDom d { st := st d }).setTarget d (st d)) (List.range 50) { s with pwr := { s.pwr with dom := [] } }

/-- ROOT and every switched domain outside RET lose their content; AON and retained domains keep theirs (R344, R347). Of a PWR_DOMCTL, which lies in
ROOT, nothing survives (R348): TARGET shows the state that the domain is found in. -/
def State.coreLost (s : State) : State :=
  let t := s.bare
  State.placeDoms (st := s.domBack) { t with
    regs := Tab.keep s.survives s.regs
    perReq := Tab.keep (fun k => s.survives (k % 2 ^ 32)) s.perReq
    badpar := Tab.keep s.survives s.badpar
    bobbin := Tab.keep (fun k => s.inRet (36 + k / 0x100000)) s.bobbin
    bobFree := (List.range 8).foldl (fun l b => if s.inRet (36 + b) then l else cutRanges (b * 0x100000) ((b + 1) * 0x100000) l) s.bobFree
    ports := Tab.keep (fun p => !decide (s.portKept p (s.port p) = {})) (s.ports.map (fun x => (x.1, s.portKept x.1 x.2)))
    spns := Tab.keep (fun n => s.inRet (30 + n / 8)) s.spns
    tm := { gcl := if s.inRet 48 then s.tm.gcl else [] }
    pwr := { s.pwr with core := false } }

/-! ## AON (R344–R347, R350, R351) -/

/-- AON ticks of 4 µs. -/
def State.aonTick (s : State) : Word := BitVec.ofNat 48 (s.now / 4000)

/-- CORE_LOW is owed to the next start of ROOT (R357). -/
def State.oweCoreLow (s : State) : State := { s with pwr := { s.pwr with owed := s.pwr.owed ++ [(0xE2, 0x21, 0)] } }

/-- Park entry starts: the tick is noted. -/
def State.parkStart (s : State) : State :=
  let t := s.coreLost
  { t.setReg (Reg.PWR_PARKTIME + 1) s.aonTick with pwr := { t.pwr with park := 1, parkAt := s.now } }

/-- PARK_ENTRY_DONE (R345): low-power mode, PWRREQ low. -/
def execParkEntryDone (s : State) : Out :=
  if s.pwr.park = 1 then
    .next { s.setRb Reg.PWR_AONSTAT 47 true with pwr := { s.pwr with park := 2, pwrReq := false } }
  else .next s

/-- WAKE_IN_ASSERT (R346). -/
def execWakeInAssert (s : State) : Out :=
  if s.rb Reg.PWR_WAKECFG 16 then .next { s with pwr := { s.pwr with wakeIn := true } } else .next s

/-- A wake of AON (R347): normal mode, PWRREQ high, the source and the tick. -/
def State.aonWake (s : State) (source port : Nat) : State :=
  let t := ((s.setRb Reg.PWR_AONSTAT 47 false).setReg Reg.PWR_WAKELAST (BitVec.ofNat 48 (source * 2 ^ 44 + port * 2 ^ 32))).setReg Reg.PWR_PARKTIME s.aonTick
  { t with pwr := { t.pwr with park := 3, pwrReq := true, wakeIn := false } }

/-- The comparators' outputs are sampled: in park, and in the first 8 µs of its entry (R345). -/
def State.wakeSampled (s : State) : Bool := decide (s.pwr.park = 2 ∨ (s.pwr.park = 1 ∧ s.now - s.pwr.parkAt ≤ 8000))

/-- PARK_WAKE: an armed line detector or an enabled WAKE_IN, during park or the first 8 µs of its entry. -/
def execParkWake (src : WakeSource) (s : State) : Out :=
  if s.wakeSampled then
    match src with
    | .line p => .next (if (s.port p).detArmed then s.aonWake 1 p else s)
    | .wakeIn => .next (if s.rb Reg.PWR_WAKECFG 16 ∧ s.pwr.wakeIn then s.aonWake 2 0 else s)
  else .next s

/-- AON_BROWNOUT (R350): only low-power mode can brown out. -/
def execAonBrownout (s : State) : Out :=
  if s.rb Reg.PWR_AONSTAT 47 then
    let n := min 255 (s.rf Reg.PWR_AONSTAT 7 0 + 1)
    let t := ((s.setRb Reg.PWR_AONSTAT 47 false).setRb Reg.PWR_AONSTAT 46 true).setRf Reg.PWR_AONSTAT 7 0 n
    .next (t.raiseOrOwe 0xE0 0x28 n)
  else .next s

/-- AON_RESTART (R351): it acts as a wake whatever AON was doing; outside park there is nothing to wait for. -/
def execAonRestart (s : State) : Out :=
  let s1 := s.setReg Reg.PWR_WAKECFG (RegMap.resetWord Reg.PWR_WAKECFG)
  let s2 : State := { s1 with ports := s1.ports.map (fun x => (x.1, { x.2 with detArmed := false })) }
  let s3 := s2.aonWake 3 0
  let s4 : State := if s.pwr.park = 0 then { s3 with pwr := { s3.pwr with park := 0 } } else s3
  .next (s4.raiseOrOwe 0xE1 0x29 0)

/-! ## Start-up (R398, R372) -/

/-- First failing words are not part of the power-on result: the INFO of R357 that names one is a free value (log entry 2). -/
def State.postEvent (s : State) (src code : Nat) (info : Nat → Nat) : State :=
  let r := s.drawNat 28
  (r.2.bump Reg.BIST_FAILCNT).raise src code (info r.1)

/-- Power-on self-test (R372, R374): withdrawals and events, one of each for every failing half. Where both halves of a port fail, R95 leaves none to
serve: FAILHALF names half B, and half A serves (DESIGN CHOICE, log entry 177). -/
def State.applyPost (s : State) (r : PostResult) : State :=
  let s1 := forAll (fun t n => if r.spn.getLsbD n then
      ((t.setRb Reg.BIST_SPNFAIL n true).updSpn n (fun x => { x with withdrawn := true })).postEvent (0x080 + n) 0x12
        (fun v => v % 2 ^ 14 + v / 2 ^ 27 % 2 * 2 ^ 27) else t) (List.range 48) s
  let s2 := forAll (fun t b => if r.bank.getLsbD b then
      ((t.setRb Reg.BIST_BANKFAIL b true).setRb Reg.TM_BANKEN b false).postEvent (0x0B0 + b) 0x18 (fun v => v % 2 ^ 20) else t) (List.range 8) s1
  let s3 := forAll (fun t p =>
      forAll (fun u h =>
        if (if h = 0 then r.coefA else r.coefB).getLsbD p then
          ((((u.setRb (Reg.BIST_COEFFAIL (p / 48)) (p % 48) true).setRb (Reg.PORT_COEFSTAT p) 4 true).setRf (Reg.PORT_COEFSTAT p) 5 5 h).setRf
            (Reg.PORT_COEFSTAT p) 3 3 (1 - h)).postEvent p 0x05 (fun _ => h) else u) [0, 1] t) (List.range 96) s2
  forAll (fun t u => forAll (fun v h =>
      if (if h = 0 then r.cancA else r.cancB).getLsbD u then
        (v.setRb (Reg.BIST_CANCFAIL (u / 48)) (u % 48) true).postEvent (0x060 + u / 16) 0x09 (fun _ => u % 16 + 16 * h) else v) [0, 1] t)
    (List.range 96) s3

/-- Sources that are ready count as locked loops with their three windows. -/
def State.readySources (s : State) (r : BitVec 18) : State :=
  forAll (fun t k => if r.getLsbD k then t.setSrc k { good := 3, locked := isLoop k, blocked := false } else t) (List.range 18)
    (s.setReg Reg.CLK_READY (BitVec.ofNat 48 r.toNat))

/-- Codes of the two slots after checks 1–5 alone. -/
def State.earlyCodes (s : State) : Nat × Nat :=
  let c := fun k => let e := imgHeader (s.slotImg k) s.fuses.count; if e = 0 then 9 else e
  (c 0, c 1)

/-- The boot sequencer runs from a fresh ROOT (R398): straps, clocks, flash, headers, self-test, owed events. -/
def State.bootStart (s : State) (b : BootInputs) : State :=
  let strap := b.straps.toNat
  let hl0 := b.straps.getLsbD 0
  let gpio := (s.pins.gpio &&& 0xFFFFFFF8#32) ||| b.straps.zeroExtend 32
  let s0 : State := { s with boot := { phase := 1, coreDue := true, hlDue := hl0, laneDue := hl0 && decide ((s.dom 44).st ≠ 0) }, time := 0, pins := { s.pins with gpio } }
  let s1 : State := { s0 with pwr := { s0.pwr with core := true, ret := true, io := true, park := 0, pwrReq := true, wakeIn := false, bootIn := none } }
  let s2 := (s1.setReg Reg.ID_STRAP (BitVec.ofNat 48 strap)).setReg Reg.ID_MGMTPATH (BitVec.ofNat 48 (bnat hl0))
  let loop := fun (t : State) (k : Nat) => (t.setRb (Reg.CLK_PLLCTL k) 2 (t.rb Reg.CLK_CFG 1)).setRb (Reg.CLK_PLLCTL k) 47 true
  let s3 := loop s2 0
  let s4 := if hl0 then loop s3 13 else s3
  let s5 := (s4.readySources b.ready).bootMove
  let size := if b.sfdp then b.flashBytes.toNat else 0
  let bad := decide (size < 3145728)
  let lines := if strap / 2 = 1 then 1 else if strap / 2 = 2 then 0 else 2
  let s6 := (s5.setReg Reg.CSP0_FLASHSIZE (BitVec.ofNat 48 size)).setReg Reg.CSP0_CFG (BitVec.ofNat 48 (lines * 2 ^ 44 + (if strap / 2 = 2 then 7 else b.flashDiv.toNat)))
  let codes := if bad then (9, 9) else s6.earlyCodes
  let s7 := s6.setReg Reg.CSP0_BOOTSTAT (BitVec.ofNat 48 (codes.1 * 2 ^ 44 + codes.2 * 2 ^ 40 + bnat bad * 2 ^ 37 + 0xFFFFF * 2 ^ 16))
  let s8 := (s7.setGauge (s7.gaugeFrom b.holdMv.toNat)).setRb Reg.PWR_HOLDSTAT 47 b.vok
  let s9 := s8.applyPost b.post
  let s10 := forAll (fun t e => t.raise e.1 e.2.1 e.2.2) s9.pwr.owed s9
  let s11 : State := { s10 with pwr := { s10.pwr with owed := [] } }
  let s12 := s11.setRb Reg.PWR_AONSTAT 46 false
  if hl0 then (if (s12.dom 44).st = 0 then s12.setRb (Reg.HL_CTL 0) 47 true else s12.startWake 44) else s12

/-- POWER_ON: the release of RESET_N. Everything volatile starts afresh. -/
def execPowerOn (b : BootInputs) (s : State) : Out := .next (s.bare.bootStart b)

/-- The boot sequencer starts as at power-on without RESET_N and keeps the domains in RET, unless VDD_RET was lost too (R347, R354). No rule says what
becomes of a port that slept: the detectors are disarmed and the port, lost with ROOT, stands DISABLED; PORT_WAKECNT does not count (DESIGN CHOICE, log
entry 175). -/
def State.reboot (s : State) (b : BootInputs) : State :=
  let lost := b.retLost || !s.pwr.ret
  let s1 := s.setRb Reg.PWR_AONSTAT 47 false
  let s2 : State := { s1 with ports := s1.ports.map (fun x => (x.1, { x.2 with detArmed := false })) }
  let s3 := if lost then
      ((({ s2 with pwr := { s2.pwr with dom := [] } } : State).coreLost).setRb Reg.PWR_WAKELAST 43 true).placeDoms (fun _ => 2)
    else s2
  s3.bootStart b

/-! ## Hold-up (R352–R354) -/

/-- Domain d is lost, its transition with it. -/
def State.loseOne (s : State) (d : Nat) : State := (s.forceOne d).updDom d (fun x => { x with chg := 0 })

/-- Every switched domain that is not in RET is lost under R341: 0x0EB records each, and a line group's stands for its quads'. -/
def State.loseDomains (s : State) : State :=
  let lose := fun (t : State) (d : Nat) => if t.inRet d then t else t.loseOne d
  let gone := fun (d : Nat) => !s.inRet d && decide ((s.dom d).st ≠ 2 ∨ (s.dom d).chg ≠ 0)
  let s1 := forAll lose (List.range 50) s
  forAll (fun t d => if gone d ∧ (lgOfDom d).any gone = false then t.raise 0x0EB 0x2D d else t) (List.range 50) s1

/-- VDD_RET falls on the reserve: the domains in RET have lost their content (R352). -/
def State.loseRet (s : State) : State :=
  forAll (fun t d => if s.inRet d then t.loseOne d else t) (List.range 50) { s with pwr := { s.pwr with ret := false } }

/-- The hold-up switch closes: ROOT and CSP0 go on on FOSC. PWR_HOLDLAST is from now on about this run. -/
def State.holdup (s : State) : State :=
  if s.rb Reg.PWR_HOLDSTAT 46 ∧ s.rb Reg.PWR_HOLDSTAT 45 = false then
    let s1 := ((s.setRb Reg.PWR_HOLDSTAT 45 true).setRb Reg.PWR_HOLDLAST 0 false).setGauge s.gauge
    (s1.setReg Reg.CLK_ACTIVE (s1.reg Reg.CLK_ACTIVE &&& 0x0FE#48 &&& ~~~(0x400#48))).loseDomains
  else s

/-- The commit on the reserve is over and the switch opens: the first case of R354 that matches. A boot without a VDD_CORE_RETURN, where VDD_CORE never
failed, waits for what that command says of the board (DESIGN CHOICE, log entry 174). -/
def State.holdupEnd (s : State) : State :=
  if s.rb Reg.PWR_HOLDSTAT 45 = false then s
  else if s.pwr.io = false then
    let t := s.bare
    { t with pwr := { core := false, io := false, ret := s.pwr.ret } }
  else if s.pwr.core then
    let t := s.coreLost.setReg Reg.PWR_WAKELAST 0
    match s.pwr.bootIn with
    | some b => t.reboot b
    | none => { t with pwr := { t.pwr with park := 3 } }
  else s.parkStart

/-- A commit stops or ends, and with it a run on the reserve. -/
def State.commitEnd (s : State) (c : Commit) (outcome : Nat) : State := (s.commitOver c outcome).holdupEnd

/-- VDD_CORE is lost: hold-up while a commit runs, else park entry (R344, R354). -/
def State.coreLoss (s : State) : State :=
  if s.pwr.core = false then s
  else
    let s1 : State := { s.oweCoreLow with pwr := { s.oweCoreLow.pwr with core := false, bootIn := none } }
    if s.rb Reg.PWR_HOLDSTAT 46 then s1.holdup else s1.parkStart

/-- VDD_CORE_LOSS. -/
def execVddCoreLoss (s : State) : Out := .next s.coreLoss

/-- HOLDUP_ENGAGE. -/
def execHoldupEngage (s : State) : Out := .next s.holdup

/-- RAIL_UNDERVOLTAGE (R349): the fault of the rail; VDD_CORE starts park entry, and VDDIO hold-up during a commit. -/
def execRailUndervoltage (rail : Rail) (s : State) : Out :=
  match rail with
  | .core => .next s.coreLoss
  | .sram => .next (if s.rootUp then s.raise 0xE3 0x22 0 else s)
  | .ret =>
    if s.rootUp = false then .next { s with pwr := { s.pwr with ret := false } }
    else .next ((if s.rb Reg.PWR_HOLDSTAT 45 then s.loseRet else s).raise 0xE4 0x23 0)
  | .lineAnalog => .next (if s.rootUp then s.raise 0xE5 0x24 0 else s)
  | .hostAnalog => .next (if s.rootUp then s.raise 0xE6 0x25 0 else s)
  | .io =>
    let s1 := if s.rootUp then s.raise 0xE7 0x26 0 else s
    .next (if s.rb Reg.PWR_HOLDSTAT 46 then ({ s1 with pwr := { s1.pwr with io := false } } : State).holdup else s1)

/-- A fault of the reserve: on the reserve it is owed to the next start of ROOT (R357), else raised. -/
def State.holdFault (s : State) (src code info : Nat) : State :=
  if s.rb Reg.PWR_HOLDSTAT 45 then { s with pwr := { s.pwr with owed := s.pwr.owed ++ [(src, code, info)] } } else s.raise src code info

/-- HOLD_VOK_FALL (R353): a commit in progress stops. -/
def execHoldVokFall (s : State) : Out :=
  let s1 := s.setRb Reg.PWR_HOLDSTAT 47 false
  match s.boot.commit with
  | none => .next s1
  | some c =>
    let dis := decide (0 < s.gauge)
    let s2 := if dis then s1.holdFault 0xE8 0x2A c.step else s1
    let s3 := s2.holdFault 0xE9 0x2B c.step
    let s4 := if dis ∧ s.rb Reg.PWR_HOLDSTAT 45 then s3.setRb Reg.PWR_HOLDLAST 0 true else s3
    .next ((s4.cmtState 5 c.step).commitEnd c 2)

/-- HOLD_GAUGE_EMPTY (R353): recalibrated to HOLDCAP × (VHOLD − VHOLD_MIN) while a commit goes on. -/
def execHoldGaugeEmpty (holdMv : BitVec 16) (s : State) : Out :=
  match s.boot.commit with
  | none => .next (s.setGauge 0)
  | some c =>
    if s.rb Reg.PWR_HOLDSTAT 47 then
      let s1 := (s.setGauge (s.gaugeFrom holdMv.toNat)).bump Reg.PWR_HOLDDIS
      let s2 := s1.holdFault 0xE8 0x2A c.step
      .next (if s.rb Reg.PWR_HOLDSTAT 45 then s2.setRb Reg.PWR_HOLDLAST 0 true else s2)
    else .next (s.setGauge 0)

/-- A flash operation that fails stops the commit with STATE 5, REASON 8 (R397). -/
def State.flashFails (s : State) (c : Commit) : State := ((s.cmtState 5 c.step).setRf Reg.CSP0_CMTSTAT 39 36 8).commitEnd c 2

/-- FLASH_OP_DONE (R397): one flash operation of the commit has completed. With the pads of CSP0 released (R380) none does: it fails (log entry 173). -/
def execFlashOpDone (s : State) : Out :=
  match s.boot.commit with
  | none => .next s
  | some c =>
    let s1 := s.flashOp c
    if s.rb Reg.CSP0_CFG 47 then .next (s.flashFails c)
    else if 1 < c.left then
      .next ({ s1 with boot := { s1.boot with commit := some { c with left := c.left - 1 } } } : State)
    else if c.step < 5 then
      let c1 := { c with step := c.step + 1, left := stepOps (c.step + 1) c.buf.length }
      .next (({ s1 with boot := { s1.boot with commit := some c1 } } : State).cmtState 3 (c.step + 1))
    else .next ((((s1.cmtState 4 5).bump Reg.CSP0_CMTCNT)).commitEnd c 1)

/-- FLASH_OP_TIMEOUT (R397): the commit stops with STATE 5, REASON 8. -/
def execFlashOpTimeout (s : State) : Out :=
  match s.boot.commit with
  | none => .next s
  | some c => .next (s.flashFails c)

/-- VDD_CORE_RETURN (R347, R354, R401): after park the boot sequencer starts; on the reserve the rail is back and the commit goes on, and the boot
sequencer starts as it ends. -/
def execVddCoreReturn (b : BootInputs) (s : State) : Out :=
  if s.rb Reg.PWR_HOLDSTAT 45 then .next { s with pwr := { s.pwr with core := true, bootIn := some b } }
  else if s.pwr.park = 0 then .next s
  else .next (s.reboot b)

/-! ## The supervisor (R18, R242, R398–R400) -/

/-- The supervisor's spindle at start-up (R18): S0 if it passed, else the lowest that passed in the lowest cluster above C0 with one. -/
def State.supPick (s : State) : Option Nat :=
  if s.spnPassed 0 then some 0 else (List.range 48).find? (fun n => decide (8 ≤ n) && s.spnPassed n)

/-- A spindle's MODE, in its register and in the spindle. -/
def State.setSpnMode (s : State) (n m : Nat) : State := (s.setRf (Reg.SPN_CTL n) 5 4 m).updSpn n (fun x => { x with mode := m })

/-- Spindles that remain in service other than the supervisor's, ascending, whatever the power state of their clusters (R18). -/
def State.pool (s : State) : List Nat := (List.range 48).filter (fun n => s.spnPassed n && decide (n ≠ s.supSpn))

/-- The MODE that R17 and R18 give each spindle of the pool for u USER spindles. -/
def State.poolModes (s : State) (u : Nat) : List (Nat × Nat) :=
  let l := s.pool
  (l.zip (List.range l.length)).map (fun x => (x.1, if l.length - u ≤ x.2 then 2 else 1))

/-- Every spindle of the pool takes its mode. -/
def State.assignModes (s : State) (u : Nat) : State := forAll (fun t x => t.setSpnMode x.1 x.2) (s.poolModes u) s

/-- PC of a supervisor entry: body word `e` of a slot (R196, R391). -/
def entryPc (slot e : Nat) : Nat := 0x2000 + slot * 0x40000 + bodyAt + e

/-- Spindle n runs the supervisor: SUP mode, every line delegated (R243), started with its HALT cleared. -/
def State.startSup (s : State) (n : Nat) (pc : Option Nat) : State :=
  let s1 := (s.setReg Reg.MB_SUPLOC (BitVec.ofNat 48 n)).setSpnMode n 0
  let s2 := match pc with
    | some k => s1.setRf (Reg.SPN_STARTPC n) 31 0 k
    | none => s1
  (s2.setRb (Reg.SPN_CTL n) 47 false).startSpn n

/-- Windows and line delegation that the supervisor grants a RUN spindle (R243). -/
def State.grantRun (s : State) (n : Nat) : State :=
  let win := fun (t : State) (k base limit : Nat) =>
    (t.setReg (Reg.SPN_DWBASE n k) (BitVec.ofNat 48 (2 ^ 47 + base))).setReg (Reg.SPN_DWLIM n k) (BitVec.ofNat 48 limit)
  let s1 := win (win (win (win s 0 0x10000 0x6FFFF) 1 0x70000 0x75FFF) 2 0x90000 0xFFFFF) 3 0x200000 0x200FFF
  forAll (fun t a => t.setReg a (BitVec.ofNat 48 (2 ^ 48 - 1)))
    [Reg.SPN_DGATHER0 n, Reg.SPN_DGATHER1 n, Reg.SPN_DWRITE0 n, Reg.SPN_DWRITE1 n, Reg.SPN_DSKG n, Reg.SPN_DSKW n] s1

/-- The winning slot's supervisor starts, or the ROM's in the bare state. Where the cluster of the supervisor's spindle is not on, the boot
sequencer wakes it first. -/
def State.supervisorGo (s : State) : State :=
  let bad := s.rb Reg.CSP0_BOOTSTAT 37 || s.rb Reg.CSP0_CFG 47
  let sel := if bad then (9, 9, none) else s.selectSlot
  let s1 := (s.setRf Reg.CSP0_BOOTSTAT 47 44 sel.1).setRf Reg.CSP0_BOOTSTAT 43 40 sel.2.1
  let s2 := match sel.2.2 with
    | some k => ((s1.setRb Reg.CSP0_BOOTSTAT 39 (decide (k = 1))).setRb Reg.CSP0_BOOTSTAT 38 false).setRf Reg.CSP0_BOOTSTAT 15 0 (fld (s.slotImg k 30) 15 0)
    | none => s1.setRb Reg.CSP0_BOOTSTAT 38 true
  match s2.supPick with
  | none => s
  | some n =>
  if s.domOn (30 + n / 8) = false then s.wakeDom (30 + n / 8)
  else
  let s3 : State := { s2 with boot := { s2.boot with phase := 2, win := sel.2.2, bare := sel.2.2.isNone, cfgIx := 0, cfgWait := false } }
  let s4 := s3.startSup n (sel.2.2.map (fun k => entryPc k (fld (s.slotImg k 2) 31 0)))
  let s5 := s4.assignModes s4.rt.u
  let s6 := forAll State.grantRun s5.runSpindles s5
  if s6.rb (Reg.HL_CTL 0) 47 ∧ s6.lst 0 = laOff ∧ s6.laneOn 0 then s6.bringUp 0 else s6

/-- SUPERVISOR_START. -/
def execSupervisorStart (s : State) : Out := if s.boot.phase = 1 ∧ s.rootUp then .next s.supervisorGo else .next s

/-- A committed write of CSP0_BOOTCTL (R400): the status and the state. -/
def State.rebootWrite (s : State) (v : Word) : Nat × State :=
  if bitOf v 0 = false then (stOK, s.setReg Reg.CSP0_BOOTCTL 0)
  else if s.boot.phase = 2 ∧ s.boot.bare then (stOK, (s.setReg Reg.CSP0_BOOTCTL 1).supervisorGo)
  else (stREFUSED, s.setRf Reg.CSP0_STAT 43 40 3)

/-- The supervisor has failed: halted after a double exception, withdrawn, isolated, or its cluster is not in service (R242). -/
def State.supFailed (s : State) : Bool :=
  let n := s.supSpn
  let x := s.spn n
  decide (x.run = .doubleHalt) || !s.spnInService n

/-- The spindle that takes over: the lowest in service in the next cluster that holds RUN spindles. -/
def State.supNext (s : State) : Option Nat :=
  let c := s.supSpn / 8
  let cs := ((List.range 5).map (fun i => (c + 1 + i) % 6)).find? (fun k => s.runSpindles.any (fun n => decide (n / 8 = k)))
  match cs with
  | none => none
  | some k => (List.range 48).find? (fun n => decide (n / 8 = k) && s.spnInService n)

/-- SUPERVISOR_MOVE (R242). The former spindle leaves SUP mode. -/
def execSupervisorMove (s : State) : Out :=
  if 2 ≤ s.boot.phase ∧ s.rootUp ∧ s.supFailed then
    match s.supNext with
    | none => .next s
    | some n =>
      let s1 := s.setSpnMode s.supSpn 1
      let pc := s.boot.win.map (fun k => entryPc k (fld (s.slotImg k 2) 31 0))
      .next ((s1.startSup n pc).bump Reg.MB_SUPMOVE)
  else .next s

/-! ## Rollback fuses (R394) -/

/-- ROLLBACK_FUSE_BLOW: the configuration has been applied without a failed record, and the winner's ADVANCE asks for it. -/
def execRollbackFuseBlow (s : State) : Out :=
  match s.boot.win with
  | none => .next s
  | some k =>
    if s.boot.phase = 3 ∧ s.rootUp ∧ s.rf Reg.CSP0_BOOTSTAT 35 16 = 0xFFFFF ∧ bitOf (s.slotImg k 0) 17 ∧
        s.fuses.count < fld (s.slotImg k 2) 47 40 ∧ s.fuses.count < 64 then
      .next { s with fuses := { s.fuses with count := s.fuses.count + 1 } }
    else .next s

/-! ## CSP0_STAT (R402) -/

/-- STATE of CSP0: committing, released in slave mode, else idle; reading and discovery begin and end within one command (DESIGN CHOICE, log entry 172). -/
def State.csp0StatWord (s : State) : Word :=
  let st := if s.boot.commit.isSome then 2 else if s.rb Reg.CSP0_CFG 47 then 4 else 0
  putFld (s.reg Reg.CSP0_STAT &&& 0x0F0000000000#48) 47 45 st

end Sys2Proof.Machine
end

