-- ==== Sys2Proof/Machine/Clamp.lean ====
section
/-! DEFINITION. Values that a register stores at the nearer limit, and bits that ignore writes beside the map's masks (R66, R73, R78, R82, R108, R166, R193, R254, R283, R307, R324, R337, R338, R355, R377, R402, R408, R416). -/

namespace Sys2Proof.Machine

/-- Field [hi:lo] put through f. -/
def mapFld (w : Word) (hi lo : Nat) (f : Nat → Nat) : Word := putFld w hi lo (f (fld w hi lo))

/-- RETRY: 500–4,000, a multiple of 4 (log entry 29 for a value half-way between two multiples). -/
def retryStored (v : Nat) : Nat := clampNat 500 4000 ((v + 1) / 4 * 4)

/-- Ports: offset, PORT_CAP, value. -/
def clampPort (o : Nat) (cap w : Word) : Word :=
  if o = 0x02 then w &&& (cap ||| 0xFFFFFFFFFF01#48)
  else if o = 0x03 then mapFld w 3 0 (min 12)
  else if o = 0x08 then
    mapFld (mapFld (mapFld w 35 28 (max 1)) 19 12 (max 1)) 10 5 (fun v => if v = 0 ∨ 32 < v then 32 else v)
  else if o = 0x20 then mapFld w 5 0 (min 32)
  else if o = 0x25 then mapFld (mapFld w 41 32 (max 1)) 13 10 (clampNat 1 8)
  else if o = 0x40 then mapFld (mapFld w 27 16 (fun v => if v = 0 then 0 else clampNat 50 4000 v)) 11 0 (clampNat 50 4000)
  else if o = 0x42 then mapFld w 15 0 (max 1)
  else if o = 0x43 then mapFld (mapFld w 29 24 (clampNat 1 50)) 3 0 (min 14)
  else if o = 0x60 then mapFld (mapFld (mapFld w 47 43 (min 20)) 31 20 retryStored) 19 10 (clampNat 50 300)
  else if o = 0x70 then mapFld (mapFld (mapFld w 41 32 (clampNat 400 990)) 28 24 (min 18)) 23 16 (clampNat 1 100)
  else if o = 0x72 then mapFld (mapFld (mapFld w 39 32 (max 1)) 31 24 (max 1)) 7 0 (max 1)
  else w

/-- Host lanes. -/
def clampHl (o : Nat) (w : Word) : Word :=
  if o = 1 then
    mapFld (mapFld (mapFld (mapFld w 39 32 (max 1)) 27 16 (clampNat 1 4000)) 8 8 (fun _ => 1)) 2 0 (min 4)
  else if o = 3 then mapFld (mapFld w 11 8 (min 8)) 3 0 (min 12)
  else w

/-- Bits of CLK_GATEd that a write stores (R336). -/
def gateMask (d : Nat) : Word :=
  if d = 1 ∨ d = 14 ∨ d = 17 ∨ d = 18 then 0#48
  else if d = 3 ∨ d = 15 then 4#48
  else if d = 2 ∨ d = 6 ∨ d = 16 then 7#48
  else 6#48

/-- Bits of PWR_RETMAPd.MEM that have a meaning (R338). -/
def retMask (d : Nat) : Word :=
  if d < 24 then 0x10F#48 else if d < 30 then 0x100#48 else if d < 36 then 0x1FF#48 else if d < 44 then 0x101#48
  else if d < 48 then 0x100#48 else if d = 48 then 0x101#48 else 0x100#48

/-- ADJ: −524 to +524. -/
def adjStored (v : Nat) : Nat := unsigned 24 (clampInt (-524) 524 (signed 24 v))

/-- SIZE of a ring: 0, or lo to 12. -/
def sizeStored (lo v : Nat) : Nat := if v = 0 then 0 else clampNat lo 12 v

/-- The value a register word stores for the value written, the map's mask already applied. -/
def clampWord (l : RegLoc) (cap w : Word) : Word :=
  match l.blk with
  | .port => clampPort l.off cap w
  | .hl => clampHl l.off w
  | .queue => if l.off = 8 then mapFld (mapFld w 47 32 (max 1)) 19 0 (clampNat 1 1000000) else w
  | .time =>
    if l.off = 5 then mapFld w 47 18 (min 999999999)
    else if l.off = 7 then mapFld w 23 0 adjStored
    else w
  | .pwr =>
    if 0x80 ≤ l.off ∧ l.off < 0x80 + 50 then w &&& retMask (l.off - 0x80)
    else if l.off = 0xC2 then mapFld w 3 0 (max 1)
    else if l.off = 0xD0 then mapFld (mapFld w 31 16 (max 1)) 4 0 (min 16)
    else w
  | .bist => if l.off = 0 then mapFld w 15 0 (clampNat 10 60000) else w
  | .csp0 | .csp1 => if l.off = 0 then mapFld w 45 44 (min 2) else w
  | .knot =>
    if 0x40 ≤ l.off ∧ l.off < 0x80 then mapFld w 31 0 (clampNat 1000 10000000)
    else if l.off = 0x141 then mapFld w 3 0 (sizeStored 6)
    else if l.off = 0x145 then mapFld w 3 0 (sizeStored 8)
    else w
  | _ => w

end Sys2Proof.Machine
end

