-- ==== Sys2Proof/Machine/Pins.lean ====
section
/-! DEFINITION. GPIO functions, pad levels (R404–R407). -/

namespace Sys2Proof.Machine

/-- The pin offers a function (R404). -/
def pinOffers (pin f : Nat) : Bool :=
  if f = 0 then decide (pin ≤ 30) else if f = 1 then decide (pin = 3 ∨ pin = 5) else if f = 2 then decide (pin = 4 ∨ pin = 6) else decide (pin = 31)

/-- FUNC of a pin. -/
def State.pinFunc (s : State) (pin : Nat) : Nat := s.rf (Reg.PIN_FUNC pin) 1 0

/-- REASON a write of PIN_FUNCn is refused with; 0 for none (R404, R406). -/
def State.pinRefusal (s : State) (pin f : Nat) : Nat :=
  let old := s.pinFunc pin
  if pin = 31 ∨ pinOffers pin f = false then 2
  else if old = 2 ∧ f ≠ 2 ∧ s.rb Reg.ID_MGMTPATH 0 = false then 1
  else if (f = 1 ∨ f = 2) ∧ (List.range 31).any (fun k => decide (k ≠ pin ∧ s.pinFunc k = f)) then 4
  else if old = 1 ∧ f ≠ 1 ∧ fld s.csp0StatWord 47 45 ≠ 0 then 3
  else 0

/-- The level of a pad that the device does not drive (R407): the board's on the straps; on any other pad, which the model's board leaves open, that of
PULL, the last one of a keeper, a free value with none (DESIGN CHOICE, log entry 179). -/
def State.padRest (s : State) (pin : Nat) : Bool :=
  if pin < 3 then s.pins.gpio.getLsbD pin
  else match s.rf (Reg.PIN_FUNC pin) 9 8 with
    | 0 => (Config.freeWord s.free).getLsbD pin
    | 1 => false
    | 2 => true
    | _ => s.pins.keeper.getLsbD pin

/-- The level of GPIOn at its pad: what the device drives, else as it rests; its keeper's while its function changes (R405). A select is
low while its port works, and released with the pads of CSP0 in slave mode (R379, R380). -/
def State.pinLevel (s : State) (pin : Nat) : Bool :=
  let f := s.pinFunc pin
  if pin = 31 then s.pwr.pwrReq
  else if s.rb (Reg.PIN_FUNC pin) 47 then s.pins.keeper.getLsbD pin
  else if f = 0 ∧ s.rb Reg.PIN_OE pin then s.rb Reg.PIN_OUT pin
  else if f = 1 ∧ fld s.csp0StatWord 47 45 ≠ 4 then decide (fld s.csp0StatWord 47 45 = 0)
  else s.padRest pin

/-- The keepers take the levels of the given pads. -/
def State.keepLevels (s : State) (pins : List Nat) : State :=
  { s with pins := { s.pins with keeper := pins.foldl (fun k n => (k &&& ~~~(1#32 <<< n)) ||| ((if s.pinLevel n then 1#32 else 0#32) <<< n)) s.pins.keeper } }

/-- A write of PIN_OE: a pad that is driven no longer keeps its level where PULL says so (R407). -/
def State.pinOeWrite (s : State) (v : Word) : State := (s.keepLevels (List.range 31)).setReg Reg.PIN_OE v

/-- A write of PIN_FUNCn: the status and the state. A change of function is break-before-make (R405). -/
def State.pinFuncWrite (s : State) (pin : Nat) (v : Word) : Nat × State :=
  let f := fld v 1 0
  let r := s.pinRefusal pin f
  if r ≠ 0 then (stREFUSED, s.setRf Reg.PIN_STAT 47 44 r)
  else
    let drive := if fld v 7 6 = 3 then 2 else fld v 7 6
    let busy := s.rb (Reg.PIN_FUNC pin) 47 || decide (f ≠ s.pinFunc pin)
    (stOK, (s.keepLevels [pin]).setReg (Reg.PIN_FUNC pin) (BitVec.ofNat 48 (bnat busy * 2 ^ 47 + fld v 9 8 * 2 ^ 8 + drive * 2 ^ 6 + f)))

/-- PIN_FUNC_SWITCH_DONE. -/
def execPinFuncSwitchDone (pin : Fin 32) (s : State) : Out := .next (s.setRb (Reg.PIN_FUNC pin) 47 false)

/-- PIN_IN. -/
def State.pinInWord (s : State) : Word := BitVec.ofNat 48 ((List.range 32).foldl (fun n k => n + bnat (s.pinLevel k) * 2 ^ k) 0)

end Sys2Proof.Machine
end

