-- ==== Sys2Proof/Machine/Mailbox.lean ====
section
/-! DEFINITION. Mailboxes, the registers of the rings, and the host's knots (R213, R229, R230, R251, R253). -/

namespace Sys2Proof.Machine

/-- A word for spindle n's mailbox: the status and the state. -/
def State.mailboxPut (s : State) (n : Nat) (v : Word) : Nat × State :=
  if s.spnInService n = false then (stABSENT, s)
  else if 16 ≤ (s.spn n).mbox.length then (stREFUSED, s)
  else (stOK, s.updSpn n (fun x => ({ x with mbox := x.mbox ++ [v] }).wake))

/-- A word for the host mailbox. -/
def State.hostboxPut (s : State) (v : Word) : Nat × State :=
  if 16 ≤ s.rt.hostBox.length then (stREFUSED, s) else (stOK, { s with rt := { s.rt with hostBox := s.rt.hostBox ++ [v] } })

/-- The command ring has SIZE ≠ 0; so for the completion ring. -/
def State.cmdRingOn (s : State) : Bool := decide (s.rf Reg.MB_CMDSIZE 3 0 ≠ 0)
def State.cplRingOn (s : State) : Bool := decide (s.rf Reg.MB_CPLSIZE 3 0 ≠ 0)

/-- A ring register is not to be written: commands are outstanding or announced (R229). -/
def State.ringBusy (s : State) : Bool :=
  !s.rt.cmds.isEmpty || decide (s.rf Reg.MB_CMDRD 15 0 ≠ s.rf Reg.MB_DOORBELL 15 0)

/-- A write of MB_CMDBASE, MB_CMDSIZE, MB_CPLBASE or MB_CPLSIZE: the status and the state (R229). A write that enables a ring resets its indices, the
host's with the device's, and the PHASE pass (R254; log entry 30). -/
def State.ringWrite (s : State) (a : Nat) (v : Word) : Nat × State :=
  if s.ringBusy then (stREFUSED, s.setRf Reg.MB_HOSTSTAT 47 44 1)
  else
    let s1 := s.setReg a v
    if fld v 3 0 = 0 then (stOK, s1)
    else if a = Reg.MB_CMDSIZE then (stOK, (s1.setReg Reg.MB_CMDRD 0).setReg Reg.MB_DOORBELL 0)
    else if a = Reg.MB_CPLSIZE then
      let s2 := (s1.setReg Reg.MB_CPLWR 0).setReg Reg.MB_CPLRD 0
      (stOK, { s2 with rt := { s2.rt with phase := true } })
    else (stOK, s1)

/-- A write of MB_DOORBELL (R230). -/
def State.doorbellWrite (s : State) (v : Nat) : State :=
  let ahead := (v + 65536 - s.rf Reg.MB_CMDRD 15 0) % 65536
  if s.cmdRingOn ∧ 2 ^ s.rf Reg.MB_CMDSIZE 3 0 < ahead then (s.bump Reg.MB_BADBELL).raise 0x0F2 0x33 v
  else s.setReg Reg.MB_DOORBELL (BitVec.ofNat 48 v)

/-- A write of KNOT_HOSTk, its LEASE already put into range: the status and the state (R251). -/
def State.knotHostWrite (s : State) (k : Nat) (v : Word) : Nat × State :=
  let op := fld v 47 46
  let lease := fld v 31 0
  let s1 := s.setReg (Reg.KNOT_HOST k) (v &&& 0xFFFFFFFF#48)
  let mine := s.knotHeld k && decide (s.knotOwner k = ownerHost)
  if op = 0 then (stOK, s1)
  else if k < 32 then (stREFUSED, s)
  else if op = 1 then
    if s.knotHeld k = false ∧ (s.waiters k).isEmpty then (stOK, (s1.takeKnot k ownerHost).setLeaseEnd k (s.now + 1000 * lease)) else (stREFUSED, s)
  else if mine = false then (stREFUSED, s)
  else if op = 2 then (stOK, s1.freeKnot k)
  else (stOK, s1.setLeaseEnd k (s.now + 1000 * lease))

/-- KNOT_LEASE_EXPIRE: a host lease runs out, the knot is released broken, and the host's epoch counts (R250). -/
def execKnotLeaseExpire (k : Fin 64) (s : State) : Out :=
  .next (if s.knotHeld k ∧ s.knotOwner k = ownerHost then (s.breakKnot k).bumpHostEpoch else s)

end Sys2Proof.Machine
end

