-- ==== Sys2Proof/Machine/ReadRegs.lean ====
section
/-! DEFINITION. What a read of a register word returns: stored words, LIVE fields, 96-bit values, and the reads that act (R42–R44, R47, R54, R78, R79, R133, R254, R283, R307, R322, R337, R355, R416). -/

namespace Sys2Proof.Machine

def maskOf (n : Nat) (p : Nat → Bool) : Nat := (List.range n).foldl (fun m i => if p i then m + 2 ^ i else m) 0

/-! ## LIVE words by block -/

/-- ID and life-cycle: LC_STATE reads the committed state while its fuse is programmed (log entry 33). -/
def State.idWord (s : State) (o a : Nat) : Word :=
  if o = 0x10 then BitVec.ofNat 48 (bnat s.fuses.prog.isSome * 2 ^ 47 + (s.fuses.prog.getD s.fuses.lc).toNat) else s.reg a

/-- Power: PWR_DOMSTATd. -/
def State.pwrWord (s : State) (o a : Nat) : Word :=
  if o = 0xD2 then BitVec.ofNat 48 s.gauge else
  if 0x40 ≤ o ∧ o < 0x40 + 50 then
    let x := s.dom (o - 0x40)
    putFld (s.reg a) 47 45 ((if x.chg = 0 then x.st else 3) * 2 + bnat x.isolated)
  else s.reg a

def State.fltWord (s : State) (o a : Nat) : Word :=
  if o = 0 then s.fltStatWord else if o = 1 then s.fltPinWord
  else if 0x100 ≤ o ∧ o < 0x200 then s.fltSrcWord (o - 0x100) else s.reg a

/-- CSP1_STAT: replies queued. -/
def State.csp1StatWord (s : State) : Word := putFld (s.reg Reg.CSP1_STAT) 47 45 (min 4 s.csp1.replies.length)

/-- KNOT_STATEn: the host's lease left, in µs. -/
def State.knotWord (s : State) (k : Nat) : Word :=
  if s.knotHeld k ∧ s.knotOwner k = ownerHost then putFld (s.reg (Reg.KNOT_STATE k)) 31 0 ((s.leaseEnd k - s.now) / 1000) else s.reg (Reg.KNOT_STATE k)

/-- RUN spindles in service that still run the previous slot (R247). -/
def State.oldCount (s : State) : Nat := (s.runSpindles.filter (fun n => (s.spn n).oldSlot)).length

/-- Knots and mailboxes. -/
def State.kmWord (s : State) (o a : Nat) : Word :=
  if o < 0x40 then s.knotWord o
  else if o < 0x80 then s.reg a &&& 0xFFFFFFFF#48
  else if 0x100 ≤ o ∧ o < 0x130 then 0
  else if o = 0x131 then putFld (s.reg a) 4 0 s.rt.hostBox.length
  else if o = 0x152 then putFld (s.reg a) 37 32 s.oldCount
  else s.reg a

/-- PORT_STATE (R79): DISABLED with GEN alone while the quad is in retention or off; SKEINED from the skeins. -/
def State.portStateWord (s : State) (p : Nat) : Word :=
  let w := s.reg (Reg.PORT_STATE p)
  if (s.dom (quadOf p)).st ≠ 0 then w &&& 0xFFFF00000000#48 else putFld w 15 15 (bnat (s.serves p))

/-- Ports. -/
def State.portWord (s : State) (p o a : Nat) : Word :=
  if o = 0 then s.portStateWord p
  else if o = 4 then putFld (s.reg a) 8 8 (bnat (s.testActive p))
  else if o = 0x73 then putFld (s.reg a) 45 45 (bnat (decide (s.pmode p ≠ s.rf a 43 40)))
  else if 0x400 ≤ o ∧ o < 0x800 then s.halfWord p 0 (o - 0x400)
  else if 0x800 ≤ o ∧ o < 0xC00 then s.halfWord p 1 (o - 0x800)
  else s.reg a

/-- Line groups; the slot window as the requester's LG_COEFSEL chooses (R133). -/
def State.lgWord (s : State) (r g o a : Nat) : Word :=
  if o = 0x110 then BitVec.ofNat 48 (maskOf 16 (s.skEligible g))
  else if o = 0x111 then BitVec.ofNat 48 (s.lg g).serve.toNat
  else if o = 0x112 then BitVec.ofNat 48 ((List.range 16).foldl (fun n i => n + s.skReason g i * 8 ^ i) 0)
  else if o = 0x113 then BitVec.ofNat 48 ((s.lg g).pend.toNat * 256 + (s.lg g).half.toNat)
  else if o = 0x114 then BitVec.ofNat 48 ((List.range 8).foldl (fun n k => n + (s.skRef g k).getD 0 * 16 ^ k) 0)
  else if o = 0x1F0 then s.preq r a
  else if 0x800 ≤ o ∧ o < 0x960 then
    let c := s.preq r (0x70000 + 0x1000 * g + 0x1F0)
    s.slotWord g (fld c 4 4) (fld c 3 0) (o - 0x800)
  else s.reg a

/-- Host lanes: HL_CREDq. -/
def State.hlWord (s : State) (n o a : Nat) : Word :=
  if 8 ≤ o ∧ o < 0x10 then putFld (s.reg a) 15 0 (s.credAvail n (o - 8)) else s.reg a

/-- An egress: TM_ESTAT. -/
def State.estatWord (s : State) (e : Nat) : Word :=
  BitVec.ofNat 48 (s.egressState e * 2 ^ 44 + bnat (s.creditKind e) * 2 ^ 40 + s.egressRate e)

/-- A queue: TM_QSTAT and TM_QSHSTAT. -/
def State.qWord (s : State) (e q o a : Nat) : Word :=
  if o = 0xC then BitVec.ofNat 48 ((s.queue e q).length * 2 ^ 24 + s.depth e q)
  else if o = 0xD then
    let l := s.shLevels e q
    BitVec.ofNat 48 (unsigned 24 (l.1 / byteU) * 2 ^ 24 + unsigned 24 (l.2 / byteU))
  else s.reg a

/-- Spindles. -/
def State.spnWord (s : State) (r n o a : Nat) : Word :=
  let x := s.spn n
  if o = 1 then
    BitVec.ofNat 48 (s.spnState n * 2 ^ 45 + bnat x.withdrawn * 2 ^ 44 + s.rf a 43 40 * 2 ^ 40 + x.pendMask * 2 ^ 32 + x.pc % 2 ^ 32)
  else if o = 8 ∨ o = 0xA then s.preq r a
  else s.reg a

/-- The word that a read of a register's own address returns. -/
def State.regWord (s : State) (r : Nat) (l : RegLoc) (a : Nat) : Word :=
  match l.blk with
  | .id => s.idWord l.off a
  | .pwr => s.pwrWord l.off a
  | .flt => s.fltWord l.off a
  | .pin => if l.off = 0x22 then s.pinInWord else s.reg a
  | .csp0 => if l.off = 1 then s.csp0StatWord else s.reg a
  | .csp1 => if l.off = 1 then s.csp1StatWord else s.reg a
  | .time => if l.off = 3 then putFld (s.reg a) 46 46 (bnat s.timeFallback) else s.reg a
  | .bist => if l.off = 3 then s.bistStatWord else s.reg a
  | .knot => s.kmWord l.off a
  | .port => s.portWord l.inst l.off a
  | .lg => s.lgWord r l.inst l.off a
  | .hl => s.hlWord l.inst l.off a
  | .tm =>
    if l.off = 0 then BitVec.ofNat 48 s.tmFree else if l.off = 1 then BitVec.ofNat 48 s.tmCells
    else if 8 ≤ l.off ∧ l.off < 16 then BitVec.ofNat 48 (s.bankUse (l.off - 8)) else s.reg a
  | .stream => if l.off = 7 then BitVec.ofNat 48 (s.polLevel l.inst) else s.reg a
  | .meter => if l.off = 4 ∨ l.off = 5 then BitVec.ofNat 48 (s.metLevel l.inst (l.off - 4)) else s.reg a
  | .egress => if l.off = 1 then s.estatWord l.inst else s.reg a
  | .queue => s.qWord l.inst l.sub l.off a
  | .spn => s.spnWord r l.inst l.off a
  | .dst => if l.off = 8 then s.preq r a else s.reg a
  | .clk | .sg => s.reg a

/-! ## 96-bit values (R44) -/

/-- The anti-rollback fuses and their count (R54). -/
def State.fuseCnt (s : State) : BitVec 96 := BitVec.ofNat 96 (2 ^ s.fuses.count - 1 + s.fuses.count * 2 ^ 64)

/-- Retired instructions: the unresolved ones of a predicted path do not count. -/
def Spindle.retired (x : Spindle) : Nat :=
  match x.ckpts with
  | [] => x.inst
  | c :: _ => (c.inst + 2 ^ 96 - 1) % 2 ^ 96

/-- The 96-bit value at the A of an SH register. -/
def State.shVal (s : State) (l : RegLoc) (a : Nat) : BitVec 96 :=
  match l.blk with
  | .id => if l.off = 2 then Config.idUnique else s.fuseCnt
  | .time => if l.off = 0 then s.time else (s.reg (a + 1)) ++ (s.reg a)
  | .flt =>
    match s.flt.first with
    | some x => x.w1 ++ x.w0
    | none => 0
  | .port => BitVec.ofNat 96 (s.symcnt l.inst)
  | .spn => BitVec.ofNat 96 (s.spn l.inst).retired
  | _ => (s.reg (a + 1)) ++ (s.reg a)

/-- The shadow of requester r. -/
def State.shadowOf (s : State) (r : Nat) : Word := Tab.get (fun _ => 0#48) s.shadow r
def State.setShadow (s : State) (r : Nat) (w : Word) : State := { s with shadow := Tab.set (fun _ => 0#48) s.shadow r w }

/-- A read of the A of an SH register; FLT_HIST is the queue of R368. -/
def State.shRead (s : State) (r : Nat) (l : RegLoc) (a : Nat) : Word × State :=
  if a = Reg.FLT_HIST then
    let h := s.histRead (decide (r = reqHost))
    (h.1, h.2.2.setShadow r h.2.1)
  else
    let v := s.shVal l a
    (v.extractLsb' 0 48, s.setShadow r (v.extractLsb' 48 48))

/-! ## Reads that act -/

/-- A word of the frozen hank, and the requester's address advanced (R317). -/
def State.rddataRead (s : State) (r : Nat) : Word × State :=
  let k := (s.preq r Reg.DST_RDADDR).toNat
  (s.hankWord k, s.setPreq r Reg.DST_RDADDR (BitVec.ofNat 48 (k + 1)))

/-- The oldest word of the host mailbox (R253). -/
def State.hostrxRead (s : State) : Word × State :=
  match s.rt.hostBox with
  | [] => (0, s)
  | w :: t => (w, { s with rt := { s.rt with hostBox := t } })

/-- A read of an assigned register word: the word and the state. -/
def State.readAt (s : State) (r : Nat) (l : RegLoc) (row : RegRow) (second : Bool) (a : Nat) : Word × State :=
  if second then (if row.acc = .sh then (s.shadowOf r, s) else (0, s))
  else if row.acc = .sh then s.shRead r l a
  else if a = Reg.CLK_READY then (s.reg a, s.ackReady)
  else if a = Reg.MB_HOSTRX then s.hostrxRead
  else if a = Reg.DST_RDDATA then s.rddataRead r
  else if l.blk = .spn ∧ l.off = 9 then s.imAccess r l.inst none
  else if l.blk = .spn ∧ l.off = 0xB then s.dmAccess r l.inst none
  else (s.regWord r l a, s)

/-- The word's parity fails (R47): RW and GRD words carry parity. -/
def State.parityBad (s : State) (row : RegRow) (a : Nat) : Bool :=
  Tab.get (fun _ => false) s.badpar a && decide (row.acc = .rw ∨ row.acc = .grd)

end Sys2Proof.Machine
end

