-- ==== Sys2Proof/Machine/WriteRegs.lean ====
section
/-! DEFINITION. What a write of an assigned register word does (R12, R36, R43, R45, R81, R230, R255, R259, R278, R281, R283, R311, R380, R385). -/

namespace Sys2Proof.Machine

/-- The value written, under the map's mask: other bits keep what they hold. -/
def State.masked (s : State) (row : RegRow) (a : Nat) (v : Word) : Word :=
  let m := BitVec.ofNat 48 row.mask
  (s.reg a &&& ~~~m) ||| (v &&& m)

/-- A write of a port's word o by requester r; THRESH stays the host's once the host has written it (R107), the refused snapshots in a row end with
PORT_FPCFG.EN (R189). -/
def State.portWrite (s : State) (r p o a : Nat) (w : Word) : State :=
  if a = Reg.PORT_TESTMODE p ∨ a = Reg.PORT_MODE p then (s.setReg a w).testTurn s p
  else if a = Reg.PORT_FPCFG p then (s.setReg a w).updPort p (fun x => { x with fpRefused := if bitOf w 47 then x.fpRefused else 0 })
  else if o = 0x08 then (s.setReg a w).setRb (Reg.PORT_PLCASTAT p) 2 false
  else if o = 0x20 then (s.setGain p (fld w 5 0)).adcRecal p (fld w 19 16)
  else if o = 0x24 then
    (s.setReg a w).endGather p (fun k => decide ((k = 0 ∧ bitOf w 2 = false) ∨ (k = 1 ∧ bitOf w 6 = false)))
  else if o = 0x25 then
    (s.setReg a w).updPort p (fun x => { x with threshHost := x.threshHost || decide (r = reqHost) })
  else s.setReg a w

/-- A write of a queue's word o (R272; log entry 31): the levels so far stand, and enabling the shaper starts them afresh: buckets full, credit zero and
gaining from now on. -/
def State.queueWrite (s : State) (e q o a : Nat) (w : Word) : State :=
  if o = 0 then
    let was := s.rb a 47
    if was = false ∧ bitOf w 47 then (s.setReg a w).shStart e q
    else (if was then s.shSync e q else s).setReg a w
  else if 4 ≤ o ∧ o < 8 then (if s.rb (Reg.TM_QCFG e q) 47 then s.shSync e q else s).setReg a w
  else s.setReg a w

/-- A write of a gate list's word: TM_GCLCTL and TM_SGCTL commit, and EN may open the gates; the admin words are refused while a change is pending. -/
def State.gateListWrite (s : State) (l a : Nat) (w : Word) : Nat × State :=
  if a = glCtl l then (if l < 112 then s.shGates l else s).glCtlWrite l w else s.glAdminWrite l a w

/-- A write of CSP0_CFG or CSP1_CFG (R380, R385, R397): during a commit none of CSP0_CFG, which carries MODE, is taken. -/
def State.cspWrite (s : State) (one : Bool) (w : Word) : Nat × State :=
  let cfg := if one then Reg.CSP1_CFG else Reg.CSP0_CFG
  let stat := if one then Reg.CSP1_STAT else Reg.CSP0_STAT
  if one = false ∧ s.boot.commit.isSome then (stREFUSED, s.setRf stat 43 40 2)
  else if bitOf w 47 ∧ s.lcOpen = false then (stREFUSED, s.setRf stat 43 40 1)
  else
    let s1 := s.setReg cfg w
    (stOK, if one then { s1 with csp1 := { s1.csp1 with lines := some (fld w 45 44) } } else s1)

/-- A write of the knot and mailbox block's word o. -/
def State.kmWrite (s : State) (o a : Nat) (w : Word) : Nat × State :=
  if 0x40 ≤ o ∧ o < 0x80 then s.knotHostWrite (o - 0x40) w
  else if 0x100 ≤ o ∧ o < 0x130 then s.mailboxPut (o - 0x100) w
  else if o = 0x140 ∨ o = 0x141 ∨ o = 0x144 ∨ o = 0x145 then s.ringWrite a w
  else if o = 0x142 then (stOK, s.doorbellWrite (fld w 15 0))
  else (stOK, s.setReg a w)

/-- A write of spindle n's word o by requester r; the delegation words are the supervisor's (R243, R255). -/
def State.spnRegWrite (s : State) (r n o a : Nat) (w : Word) : Nat × State :=
  if o = 0 then s.spnCtlWrite n w
  else if o = 8 then (stOK, s.setPreq r a (w &&& 0x1FFF#48))
  else if o = 0xA then (stOK, s.setPreq r a (w &&& 0x3FFF#48))
  else if o = 9 then (stOK, (s.imAccess r n (some w)).2)
  else if o = 0xB then (stOK, (s.dmAccess r n (some w)).2)
  else (stOK, s.setReg a w)

/-- Identities 112 and 113 have no default stream. -/
def State.tmWrite (s : State) (o a : Nat) (w : Word) : State :=
  if o = 2 then s.setReg a (w &&& ~~~(s.reg Reg.BIST_BANKFAIL &&& 0xFF#48))
  else if o = 0x170 ∨ o = 0x171 then s
  else s.setReg a w

/-- What a write of an RW word does, its value masked and put into range: the status and the state. -/
def State.storeAt (s : State) (r : Nat) (l : RegLoc) (a : Nat) (w : Word) : Nat × State :=
  match l.blk with
  | .port => (stOK, s.portWrite r l.inst l.off a w)
  | .lg =>
    if 0x100 ≤ l.off ∧ l.off < 0x108 then s.skeinWrite l.inst (l.off - 0x100) w
    else if l.off = 0x1F0 then (stOK, s.setPreq r a w)
    else if l.off = 0x200 then (stOK, s.repCtlWrite l.inst w)
    else (stOK, s.setReg a w)
  | .hl => if l.off = 0 then s.hlCtlWrite l.inst w else (stOK, s.setReg a w)
  | .dst =>
    if l.off = 0 then s.dstCtlWrite r w else if l.off = 8 then (stOK, s.setPreq r a w) else (stOK, s.setReg a w)
  | .time => (stOK, if l.off = 2 then s.timeCtlWrite w else if l.off = 0xA then s.ppscfgWrite w else s.setReg a w)
  | .clk =>
    if 0x30 ≤ l.off ∧ l.off < 0x42 then
      let m := gateMask (l.off - 0x2F)
      (stOK, s.setReg a ((s.reg a &&& ~~~m) ||| (w &&& m)))
    else (stOK, s.setReg a w)
  | .pwr => (stOK, if l.off < 50 then s.domctlWrite l.off w false else s.setReg a w)
  | .flt => if l.off = 1 then (stOK, s.fltPinWrite w) else if l.off = 0xB then s.releaseWrite w else (stOK, s.setReg a w)
  | .bist => if l.off = 2 then s.bistCtlWrite w else (stOK, s.setReg a w)
  | .csp0 => if l.off = 0 then s.cspWrite false w else (stOK, s.setReg a w)
  | .csp1 => s.cspWrite true w
  | .pin => if l.off < 32 then s.pinFuncWrite l.off w else (stOK, if l.off = 0x21 then s.pinOeWrite w else s.setReg a w)
  | .knot => s.kmWrite l.off a w
  | .tm => (stOK, s.tmWrite l.off a w)
  | .stream => (stOK, if l.off = 5 ∨ l.off = 6 then (s.setReg a w).setPol l.inst none else s.setReg a w)
  | .meter => (stOK, if l.off < 4 then ((s.setReg a w).setMet l.inst 0 none).setMet l.inst 1 none else s.setReg a w)
  | .egress => if l.off = 0 then (stOK, s.setReg a w) else s.gateListWrite l.inst a w
  | .sg => s.gateListWrite (112 + l.inst) a w
  | .queue => (stOK, s.queueWrite l.inst l.sub l.off a w)
  | .spn => s.spnRegWrite r l.inst l.off a w
  | .id => (stOK, s.setReg a w)

/-- Words that the supervisor alone may write (R243, R255). -/
def isDelegation (l : RegLoc) : Bool := decide (l.blk = .spn ∧ 0x40 ≤ l.off ∧ l.off < 0x80)

/-- Bits of a delegation word: a window's base and enable, its limit, or a mask of 48 units. -/
def delegMask (o : Nat) : Word := if 0x50 ≤ o then BitVec.allOnes 48 else if o % 2 = 0 then 0x8000FFFFFFFF#48 else 0xFFFFFFFF#48

/-- The unit whose REGWR records a word belongs to (R311): a port, or the first port of a line group; 112 for the distaff (log entry 32). -/
def regwrUnit (l : RegLoc) : Option Nat :=
  match l.blk with
  | .port => some l.inst
  | .lg => some (16 * l.inst)
  | .dst => some 112
  | _ => none

/-- REGWR: a committed write to a PORT or LG block, or to the distaff. -/
def State.regwr (s : State) (l : RegLoc) (a : Nat) (v : Word) : State :=
  match regwrUnit l with
  | some u => s.dstEvent 0x01 false u (a % 2 ^ 32) [v]
  | none => s

/-- A committed write restores the word's parity (R47). -/
def State.goodParity (s : State) (a : Nat) : State := { s with badpar := Tab.set (fun _ => false) s.badpar a false }

/-- Bits of a port's RO words that the runtime writes under its delegation (R79, R111, R166, R193). -/
def runMask (o : Nat) : Nat :=
  if o = 0 then 0xFFFF73FF0000
  else if o = 0x27 ∨ o = 0x28 then 0x80000000FFFF
  else if o = 0x44 then 0x707
  else if o = 0x46 then 0xF8FF00FFFFFF
  else if o = 0x61 then 0xFF00FFFFFFFF
  else if o = 0x62 then 0xFFFFFFFF
  else if o = 0x71 then 0xFF7F00000000
  else if o = 0x73 then 0xCF3F00000000
  else if 0x78 ≤ o ∧ o < 0x80 then 0xF000FFFFFFFF
  else if 0x80 ≤ o ∧ o < 0x88 then 0xFFFFFFFFFFFF
  else 0

/-- The requester is a spindle of the runtime: the supervisor or a PRIV one. -/
def State.isRuntime (s : State) (r : Nat) : Bool := decide (r < 48 ∧ (s.spn r).mode ≠ 2)

/-- A MODE that the port may run in: one of PORT_CAP, none, or that of roving (R56, R171). -/
def State.modeOk (s : State) (p m : Nat) : Bool := decide (m = 0 ∨ m = 8) || (decide (1 ≤ m ∧ m ≤ 7) && s.rb (Reg.PORT_CAP p) m)

/-- The runtime's own write of a port's RO word (R79). A new STATE is a transition of the port, with GEN + 1 (R30; log entry 156); a MODE that the port
does not support changes nothing (R56); while the quad is in retention or off only GEN is held. -/
def State.runtimeWrite (s : State) (p o a : Nat) (v : Word) : State :=
  let m := BitVec.ofNat 48 (runMask o)
  let put := fun (t : State) => t.setReg a ((t.reg a &&& ~~~m) ||| (v &&& m))
  if o ≠ 0 then put s
  else if (s.dom (quadOf p)).st ≠ 0 then s.setRf a 47 32 (fld v 47 32)
  else
    let st := fld v 30 28
    let t := if st = s.pst p then s else s.enter p st
    let m' := if s.modeOk p (fld v 23 20) then fld v 23 20 else t.pmode p
    let u := put (t.setMode p m')
    let u1 := u.setRf a 23 20 m'
    if st = s.pst p then u1 else u1.setRf a 47 32 (t.pgen p)

/-- A write by requester r of the word `a` that a row assigns, GRD pairs apart: the status and the state. -/
def State.writeAt (s : State) (r : Nat) (l : RegLoc) (row : RegRow) (a : Nat) (v : Word) : Nat × State :=
  if isDelegation l then
    if r < 48 ∧ (s.spn r).mode = 0 then (stOK, (s.setReg a (v &&& delegMask l.off)).goodParity a) else (stRDONLY, s)
  else if l.blk = .port ∧ s.isRuntime r ∧ runMask l.off ≠ 0 then (stOK, (s.runtimeWrite l.inst l.off a v).regwr l a v)
  else if row.acc ≠ .rw then (stRDONLY, s)
  else
    let w := clampWord l (s.reg (Reg.PORT_CAP l.inst)) (s.masked row a v)
    let x := s.storeAt r l a w
    if x.1 = stOK then (stOK, (x.2.goodParity a).regwr l a v) else x

end Sys2Proof.Machine
end

