-- ==== Sys2Proof/Machine/Guard.lean ====
section
/-! DEFINITION. Guarded registers: what a committed write does, and the guard slot of each requester (R6, R45, R52, R55, R247, R250, R341). -/

namespace Sys2Proof.Machine

/-! ## Committed values -/

/-- The life-cycle state after `lc` (R6). -/
def nextLc (lc : BitVec 4) : Option (BitVec 4) := if lc = 1 then some 3 else if lc = 3 then some 7 else if lc = 7 then some 15 else none

/-- A committed write of LC_STATE (R6, R55): the status and the state. -/
def State.lcWrite (s : State) (v : Word) : Nat × State :=
  let n := v.extractLsb' 0 4
  if nextLc s.fuses.lc ≠ some n then (stREFUSED, s.raise 0x0F2 0x34 v.toNat)
  else if s.fuses.prog.isSome then (stREFUSED, s)
  else (stOK, { s with fuses := { s.fuses with prog := some n } })

/-- A committed write of ID_MGMTPATH (R52, R250). -/
def State.pathWrite (s : State) (v : Word) : Nat × State :=
  let new := bitOf v 0
  if new = s.rb Reg.ID_MGMTPATH 0 then (stOK, s)
  else if new ∧ s.lst 0 ≠ laRun then (stREFUSED, s.setRf Reg.ID_MGMTPATH 47 44 1)
  else (stOK, ((s.setRb Reg.ID_MGMTPATH 0 new).breakKnots ownerHost).bumpHostEpoch)

/-- A committed write of PWR_FORCEOFF (R341). -/
def State.forceoffWrite (s : State) (v : Word) : Nat × State :=
  let d := fld v 5 0
  if d < 50 then (stOK, (s.setReg Reg.PWR_FORCEOFF (BitVec.ofNat 48 d)).forceOff d) else (stOK, s)

/-- A committed write of MB_RTSLOT (R247). -/
def State.rtslotWrite (s : State) (v : Word) : Nat × State :=
  let slot := fld v 0 0
  if s.rb Reg.MB_RTSTAT (40 + slot) = false then (stREFUSED, s.setRf Reg.MB_RTSTAT 47 44 1)
  else if s.oldCount ≠ 0 then (stREFUSED, s.setRf Reg.MB_RTSTAT 47 44 2)
  else if slot = s.rf Reg.MB_RTSLOT 0 0 then (stOK, s)
  else (stOK, forAll (fun t n => t.updSpn n (fun x => { x with oldSlot := true })) s.runSpindles (s.setReg Reg.MB_RTSLOT (BitVec.ofNat 48 slot)))

/-- What a committed write of a guarded register does: the status and the state. -/
def State.commitAt (s : State) (l : RegLoc) (v : Word) : Nat × State :=
  match l.blk with
  | .id => if l.off = 0x10 then s.lcWrite v else s.pathWrite v
  | .clk => if l.off = 4 then s.srcselWrite v else s.pllctlWrite ((l.off - 0x10) / 2) v
  | .pwr => s.forceoffWrite v
  | .flt => if l.off = 0xE then (stOK, s.reccfgWrite v) else s.codecfgWrite ((l.off - 0x40) / 2) v
  | .csp0 => if l.off = 8 then s.commitWrite v else s.rebootWrite v
  | .knot => s.rtslotWrite v
  | _ => (stOK, s)

/-! ## The guard slot (R45) -/

/-- The window of R45: 256 ROOT cycles, given as 320 ns. While ROOT runs on its fallback (R11) 256 of its cycles are 1,280 ns; the model keeps
320 ns of elapsed time in every case (DESIGN CHOICE, log entry 157). -/
abbrev guardWindow := 320

def State.guardSlot (s : State) (r : Nat) : Option Guard := Tab.get (fun _ => none) s.guard r
def State.setGuard (s : State) (r : Nat) (g : Option Guard) : State := { s with guard := Tab.set (fun _ => none) s.guard r g }

/-- A guarded write is discarded: fault 0x0F1 with the register's address. -/
def State.guardFault (s : State) (a : Nat) : State := s.raise 0x0F1 0x31 a

/-- A pair whose window has ended is discarded. -/
def State.guardAge (s : State) (r : Nat) : State :=
  match s.guardSlot r with
  | some g => if guardWindow < s.now - g.since then (s.setGuard r none).guardFault g.addr else s
  | none => s

/-- A write of v to the A of a guarded register. -/
def State.guardA (s0 : State) (r a : Nat) (v : Word) : Nat × State :=
  let s := s0.guardAge r
  let s1 := match s.guardSlot r with
    | some g => if g.addr = a then s else s.guardFault g.addr
    | none => s
  (stPENDING, s1.setGuard r (some { addr := a, val := v, since := s.now }))

/-- A write of v to the A + 1 of the guarded register at `a`. -/
def State.guardB (s0 : State) (r : Nat) (l : RegLoc) (a : Nat) (v : Word) : Nat × State :=
  let s := s0.guardAge r
  match s.guardSlot r with
  | none => (stGUARDFAIL, s.guardFault a)
  | some g =>
    if g.addr ≠ a then (stGUARDFAIL, s.guardFault a)
    else if v = ~~~g.val then
      let x := (s.setGuard r none).commitAt l g.val
      (x.1, if x.1 = stOK then x.2.goodParity a else x.2)
    else (stGUARDFAIL, (s.setGuard r none).guardFault a)

end Sys2Proof.Machine
end

