-- ==== Sys2Proof/Machine/Fabric.lean ====
section
/-! DEFINITION. The register fabric: one access by a requester, its domain, its completion, and the accesses that wait (R26, R32–R45, R342). -/

namespace Sys2Proof.Machine

/-- Number of a requester. -/
def reqNo : Requester → Nat
  | .host => reqHost
  | .spn n => n
  | .jtag => reqJtag

/-- The requester is present: ROOT runs; a spindle in a cluster in service; JTAG in TEST and RETURN (R7, R38). -/
def State.present (s : State) (r : Nat) : Bool :=
  s.rootUp && (if r < 48 then s.domOn (30 + r / 8) else if r = reqJtag then s.lcOpen else true)

/-! ## One word -/

/-- A read: status, data, state. -/
def State.readWord (s : State) (r a : Nat) : Nat × Word × State :=
  if isBobbin a then (stOK, s.bob (a - 0x1000000), s)
  else if isFlashWin a then
    if s.flashHas (a - 0x4000000) then (stOK, s.flashRead (a - 0x4000000), s.flashTouch (a - 0x4000000)) else (stNOMAP, 0, s)
  else
    match RegMap.at a with
    | none => (stNOMAP, 0, s)
    | some (l, row, second) =>
      let x := s.readAt r l row second a
      (if s.parityBad row a then stPARITY else stOK, x.1, x.2)

/-- A write: status and state. The A + 1 of a guarded register commits to the register at A (R45). -/
def State.writeWord (s : State) (r a : Nat) (v : Word) : Nat × State :=
  if isBobbin a then (stOK, s.setBob (a - 0x1000000) v)
  else
    match RegMap.at a with
    | none => (stNOMAP, s)
    | some (l, row, second) =>
      if row.acc = .grd then (if second then s.guardB r { l with off := l.off - 1 } (a - 1) v else s.guardA r a v)
      else if second then (stRDONLY, s)
      else s.writeAt r l row a v

/-- A block of domain d answers the entry handshake that a write has just started with a delay (R340). -/
def State.delayEntry (s : State) (a chg : Nat) : State :=
  let d := a - 0x2000
  if 0x2000 ≤ a ∧ d < 50 ∧ chg = 0 then
    s.updDom d (fun x => if (x.chg = 1 ∨ x.chg = 2) ∧ x.st = 0 then { x with delayed := true } else x)
  else s

/-- The access is performed: status, data, state. -/
def State.perform (s : State) (w : Waiting) : Nat × Word × State :=
  if w.write then
    let x := s.writeWord w.req w.addr w.data
    (x.1, 0, if w.delay then x.2.delayEntry w.addr (s.dom (w.addr - 0x2000)).chg else x.2)
  else s.readWord w.req w.addr

/-! ## Its domain (R26, R342) -/

/-- No row assigns the address for this access. -/
def unmapped (w : Waiting) : Bool :=
  if isBobbin w.addr then false else if isFlashWin w.addr then w.write else (RegMap.at w.addr).isNone

/-- An access reaches the fabric: its status and data, or none while it must wait. -/
def State.attempt (s : State) (w : Waiting) : Option (Nat × Word) × State :=
  let a := w.addr
  if w.write ∧ a < 0x1000000 ∧ w.may = false then
    (some (stDENIED, 0), if w.req < 48 then s.raise (0x080 + w.req) 0x14 a else s)
  else if unmapped w then (some (stNOMAP, 0), s)
  else
    match domainOf a with
    | none =>
      if isFlashWin a ∧ s.flashHas (a - 0x4000000) ∧ s.flashBusy then (none, s)
      else if isFlashWin a ∧ s.flashHas (a - 0x4000000) ∧ s.flashGone (a - 0x4000000) then (some (stABSENT, 0), s)
      else
        let x := s.perform w
        (some (x.1, x.2.1), x.2.2)
    | some d =>
      match s.gate d with
      | .absent => (some (stABSENT, 0), if w.write then s.crossDrop d 3 else s)
      | .stall => (none, s.wakeOnDemand d)
      | .go =>
        let x := (s.refuseEntryAt d (unitIn d w.addr)).perform w
        (some (x.1, x.2.1), x.2.2)

/-- An access: performed at once, or waiting behind its requester's earlier ones or at its domain; it is held to the delegation in force as it is
issued (R243). -/
def State.access (s : State) (w0 : Waiting) : State :=
  let w : Waiting := { w0 with may := s.mayWrite w0.req w0.addr }
  if s.present w.req = false then s
  else if (s.firstOf w.req).isSome then { s with waitQ := s.waitQ ++ [w] }
  else
    match s.attempt w with
    | (some (st, d), t) => t.deliver w.req w.sink st w.addr d (!w.write)
    | (none, t) => { t with waitQ := t.waitQ ++ [w] }

/-- Every waiting access goes on as far as it can, each requester's in order. -/
def pumpFrom : List Waiting → List Nat → State → State
  | [], _, s => s
  | w :: rest, blocked, s =>
    if blocked.contains w.req ∨ s.firstOf w.req ≠ some w then pumpFrom rest blocked s
    else
      match s.attempt w with
      | (some (st, d), _) =>
        let t := (({ s with waitQ := dropFirst w.req s.waitQ } : State).attempt w).2
        pumpFrom rest blocked (t.deliver w.req w.sink st w.addr d (!w.write))
      | (none, t) => pumpFrom rest (w.req :: blocked) t

def State.pump (s : State) : State := pumpFrom s.waitQ [] s

/-- What step does on an empty queue: a tick of the time unit; the ports' roving slots and datapaths and running replays take in the symbols that have come, TARGETs
written during a refused entry are applied, VOK may rise, and accesses that wait go on (log entry 1). -/
def State.idle (s : State) : State :=
  let t := forAll State.repTick (List.range 6) ((forAll State.rovTick (List.range 96) (idleTick s)).datapath)
  ((forAll State.settleNext (t.pwr.dom.map (·.1)) t).vokRise).pump

/-! ## Accesses given as commands -/

def State.readReg (s : State) (r : Requester) (a : Nat) : State :=
  s.access { req := reqNo r, write := false, addr := a, data := 0, sink := .bare }
def State.writeReg (s : State) (r : Requester) (a : Nat) (v : Word) : State :=
  s.access { req := reqNo r, write := true, addr := a, data := v, sink := .bare }

/-- A complete guarded pair. -/
def State.writePair (s : State) (r : Requester) (a : Nat) (v : Word) : State := (s.writeReg r a v).writeReg r (a + 1) (~~~v)

/-- A write that changes one field and repeats the rest. -/
def State.writeFld (s : State) (r : Requester) (a hi lo v : Nat) : State := s.writeReg r a (putFld (s.reg a) hi lo v)

end Sys2Proof.Machine
end

