-- ==== Sys2Proof/Machine/Runtime.lean ====
section
/-! DEFINITION. The line runtime's side of the rings: copying, ordering, checking, completing; and the commands on the device and on spindles (R25, R229–R236, R240, R243–R248). -/

namespace Sys2Proof.Machine

/-! ## Status codes (R236) -/

abbrev rsOK := 0
abbrev rsBADOP := 1
abbrev rsBADVER := 2
abbrev rsBADTARGET := 3
abbrev rsBADARG := 4
abbrev rsBADSTATE := 5
abbrev rsREFUSED := 6
abbrev rsABSENT := 7
abbrev rsBUSY := 8
abbrev rsCANCELLED := 9
abbrev rsIMAGEBAD := 10
abbrev rsDENIED := 11
abbrev rsDUPID := 12

/-- The supervisor runs. -/
def State.supUp (s : State) : Bool :=
  s.rootUp && decide (2 ≤ s.boot.phase) && !s.supFailed && decide ((s.spn s.supSpn).run ≠ .halted)

/-! ## The command table (R237) -/

/-- A row: API version, target kind, which of ARG0, ARG1, ARG2 it uses, whether OPT means something. -/
structure CmdRow where
  api : Nat
  kind : Nat
  a0 : Bool := false
  a1 : Bool := false
  a2 : Bool := false
  opt : Bool := false
deriving DecidableEq, Repr

def cmdRow (op : Nat) : Option CmdRow :=
  if op = 0x01 then some { api := 0x10, kind := 0, a0 := true }
  else if op = 0x02 then some { api := 0x10, kind := 0 }
  else if op = 0x03 then some { api := 0x10, kind := 0, a0 := true }
  else if op = 0x04 then some { api := 0x20, kind := 3, a0 := true, a1 := true, a2 := true }
  else if op = 0x05 then some { api := 0x20, kind := 3, a0 := true, a1 := true, a2 := true, opt := true }
  else if op = 0x10 ∨ op = 0x11 then some { api := 0x10, kind := 1 }
  else if op = 0x12 then some { api := 0x10, kind := 1, a1 := true, a2 := true, opt := true }
  else if 0x13 ≤ op ∧ op ≤ 0x17 then some { api := 0x10, kind := 1 }
  else if op = 0x18 ∨ op = 0x19 then some { api := 0x20, kind := 1, a1 := true }
  else if op = 0x1A then some { api := 0x10, kind := 1, a1 := true, a2 := true, opt := true }
  else if op = 0x1B then some { api := 0x21, kind := 1, a1 := true }
  else if op = 0x20 then some { api := 0x20, kind := 2, a1 := true }
  else if op = 0x30 then some { api := 0x10, kind := 0, a1 := true, a2 := true }
  else none

/-- Fields of an entry (R231). -/
def Cmd.vmaj (c : Cmd) : Nat := fld c.w0 39 36
def Cmd.vmin (c : Cmd) : Nat := fld c.w0 35 32
def Cmd.opt (c : Cmd) : Bool := bitOf c.w0 1
def Cmd.barrier (c : Cmd) : Bool := bitOf c.w0 0
def Cmd.arg0 (c : Cmd) : Nat := fld c.w1 31 0
def Cmd.arg1 (c : Cmd) : Nat := c.w2.toNat
def Cmd.arg2 (c : Cmd) : Nat := c.w3.toNat

/-- Targets of a kind. -/
def kindCount (k : Nat) : Nat := if k = 0 then 1 else if k = 1 then 96 else 48

/-- The checks of an entry, in the order of log entry 35: 0, or the status it completes with. -/
def State.entryStatus (s : State) (c : Cmd) : Nat :=
  let ver := s.rf Reg.MB_VERSION 7 0
  if s.boot.bare ∧ c.op ≠ 0x01 ∧ c.op ≠ 0x02 then rsBADSTATE
  else if c.vmaj ≠ ver / 16 ∨ ver % 16 < c.vmin then rsBADVER
  else
    match cmdRow c.op with
    | none => rsBADOP
    | some r =>
      if ver < r.api then rsBADOP
      else if fld c.w0 15 2 ≠ 0 ∨ (c.opt ∧ r.opt = false) ∨ (c.arg0 ≠ 0 ∧ r.a0 = false) ∨ (c.arg1 ≠ 0 ∧ r.a1 = false) ∨ (c.arg2 ≠ 0 ∧ r.a2 = false) then rsBADARG
      else if c.tkind ≠ r.kind ∨ kindCount r.kind ≤ c.tindex ∨ (r.kind = 3 ∧ ((s.spn c.tindex).mode ≠ 2 ∨ (s.spn c.tindex).withdrawn)) then rsBADTARGET
      else if r.kind = 3 ∧ ((s.spn c.tindex).isolated ∨ (s.spn c.tindex).run = .notInService) then rsABSENT
      else 0

/-! ## Order (R233, R238) -/

def Cmd.sameTarget (c d : Cmd) : Bool := decide (c.tkind = d.tkind ∧ c.tindex = d.tindex)

/-- The command may start behind the earlier ones that are outstanding, a finished one whose completion is not written yet among them (R232): none is
on its target, under its own BARRIER there is none at all, and no earlier BARRIER waits. PORT_DISABLE does not wait for those on its port. -/
def mayStart (earlier : List Cmd) (c : Cmd) : Bool :=
  earlier.all (fun d => !c.barrier && !(d.barrier && decide (d.st = .waiting)) && (!(d.sameTarget c) || decide (c.op = 0x11)))

/-- Position of the live command with this opcode and CMDID. -/
def State.cmdAt (s : State) (op id : Nat) : Option Nat :=
  s.rt.cmds.findIdx? (fun c => c.live && decide (c.op = op ∧ c.id = id))

/-- Put a command's progress. -/
def State.putCmd (s : State) (i : Nat) (c : Cmd) : State := { s with rt := { s.rt with cmds := setNth c s.rt.cmds i } }

/-- What a command does when the runtime takes it up. -/
inductive Prog where
  /-- it completes -/
  | done (status : Nat) (result : Word)
  /-- it goes on -/
  | run
  /-- it has not started, or goes on later; it waits on these domains -/
  | wait (ds : List Nat)

/-- The runtime takes up the live command with this opcode and CMDID: it starts once its turn has come and its entry is good, or goes on.
`f` is told whether it runs already. -/
def State.runCmd (s : State) (op id : Nat) (f : Cmd → Bool → State → Prog × State) : State :=
  if s.supUp = false then s
  else
    match s.cmdAt op id with
    | none => s
    | some i =>
      let c := nth { w0 := 0, w1 := 0, w2 := 0, w3 := 0 } s.rt.cmds i
      let put := fun (x : Prog × State) =>
        match x.1 with
        | .done st r => x.2.putCmd i { c with st := .finished st r (x.2.cmdGen c) }
        | .run => if (nth c x.2.rt.cmds i).live then x.2.putCmd i { c with st := .running, need := [] } else x.2
        | .wait ds => if (nth c x.2.rt.cmds i).live then x.2.putCmd i { c with need := ds } else x.2
      if c.st = .running then put (f c true s)
      else if mayStart (s.rt.cmds.take i) c = false then s
      else if s.entryStatus c ≠ 0 then put (.done (s.entryStatus c) 0, s)
      else put (f c false s)

/-- The runtime needs domains: it wakes them, or the command completes ABSENT (R26, R238, R342). -/
def State.needDoms (s : State) (ds : List Nat) (k : State → Prog × State) : Prog × State :=
  if ds.any (fun d => decide (s.gate d = .absent)) then (.done rsABSENT 0, s)
  else if ds.any (fun d => decide (s.gate d = .stall)) then
    (.wait ds, forAll (fun t d => if t.gate d = .stall then t.wakeOnDemand d else t) ds s)
  else k (forAll State.refuseEntry ds s)

/-- A register write by the supervisor: the status and the state. -/
def State.supWrite (s : State) (a : Nat) (v : Word) : Nat × State :=
  match s.attempt { req := s.supSpn, write := true, addr := a, data := v, sink := .bare } with
  | (some (st, _), t) => (st, t)
  | (none, t) => (stABSENT, t)

/-! ## The rings (R229–R234) -/

/-- Bobbin offset of word k of a ring entry, by its register; none outside the bobbin. -/
def ringOff (base k : Nat) : Option Nat := if isBobbin (base + k) then some (base + k - 0x1000000) else none

/-- A ring's word; words outside the bobbin read 0. -/
def State.ringWord (s : State) (base k : Nat) : Word :=
  match ringOff base k with
  | some j => s.bob j
  | none => 0
def State.putRingWord (s : State) (base k : Nat) (v : Word) : State :=
  match ringOff base k with
  | some j => s.setBob j v
  | none => s

/-- Domains of a ring entry of n words at `a`. -/
def entryDoms (a n : Nat) : List Nat := (banksOf a n).map (· + 36)

/-- A copied entry: a CMDID that is outstanding completes at once with DUPID, an opcode no row names with its status. -/
def State.acceptCmd (s : State) (c : Cmd) : Cmd :=
  if s.rt.cmds.any (fun d => decide (d.id = c.id)) then { c with st := .finished rsDUPID 0 (s.cmdGen c) }
  else if (cmdRow c.op).isNone then { c with st := .finished (s.entryStatus c) 0 (s.cmdGen c) }
  else c

/-- The distaff's record of a host command (R311). -/
def State.dstCommand (s : State) (c : Cmd) : State :=
  s.dstEvent 0x02 false 112 (c.id * 2 ^ 16 + c.op) [c.w0, c.w1, c.w2, c.w3]

/-- Copy entries up to the doorbell, while fewer than 256 commands are outstanding (R25, R230). -/
def State.copyEntries : Nat → State → State
  | 0, s => s
  | fuel + 1, s =>
    let i := s.rf Reg.MB_CMDRD 15 0
    let base := s.rf Reg.MB_CMDBASE 31 0
    let k := 4 * (i % 2 ^ s.rf Reg.MB_CMDSIZE 3 0)
    if i = s.rf Reg.MB_DOORBELL 15 0 ∨ 256 ≤ s.rt.cmds.length then s
    else
      let ds := entryDoms (base + k) 4
      if ds.any (fun d => decide (s.gate d = .absent)) then s
      else if ds.any (fun d => decide (s.gate d = .stall)) then forAll (fun t d => if t.gate d = .stall then t.wakeOnDemand d else t) ds s
      else
        let s1 := forAll State.refuseEntry ds s
        let c : Cmd := { w0 := s1.ringWord base k, w1 := s1.ringWord base (k + 1), w2 := s1.ringWord base (k + 2), w3 := s1.ringWord base (k + 3) }
        let s2 := s1.dstCommand c
        State.copyEntries fuel (({ s2 with rt := { s2.rt with cmds := s2.rt.cmds ++ [s2.acceptCmd c] } } : State).saveRuntime.setReg Reg.MB_CMDRD
          (BitVec.ofNat 48 ((i + 1) % 65536)))

/-- COMMAND_COPY (R230). -/
def execCommandCopy (s : State) : Out := if s.supUp ∧ s.cmdRingOn then .next (State.copyEntries 256 s) else .next s

/-- The completion ring has room (R232). -/
def State.cplRoom (s : State) : Bool :=
  s.cplRingOn && decide ((s.rf Reg.MB_CPLWR 15 0 + 65536 - s.rf Reg.MB_CPLRD 15 0) % 65536 < 2 ^ s.rf Reg.MB_CPLSIZE 3 0)

/-- Write the completion of the finished command at position i: W1, then W0, then the index (R232, R234). -/
def State.writeCompletion (s : State) (i : Nat) : State :=
  let c := nth { w0 := 0, w1 := 0, w2 := 0, w3 := 0 } s.rt.cmds i
  match c.st with
  | .finished st result gen =>
    let wr := s.rf Reg.MB_CPLWR 15 0
    let size := 2 ^ s.rf Reg.MB_CPLSIZE 3 0
    let base := s.rf Reg.MB_CPLBASE 31 0
    let k := 2 * (wr % size)
    let ds := entryDoms (base + k) 2
    if s.cplRoom = false ∨ ds.any (fun d => decide (s.gate d = .absent)) then s
    else if ds.any (fun d => decide (s.gate d = .stall)) then forAll (fun t d => if t.gate d = .stall then t.wakeOnDemand d else t) ds s
    else
      let w0 : Word := BitVec.ofNat 48 (bnat s.rt.phase * 2 ^ 47 + st % 256 * 2 ^ 32 + c.id * 2 ^ 16 + gen % 65536)
      let s1 := ((forAll State.refuseEntry ds s).putRingWord base (k + 1) result).putRingWord base k w0
      let s2 : State := { s1 with rt := { s1.rt with
        cmds := dropNth s1.rt.cmds i, phase := if (wr + 1) % size = 0 then !s1.rt.phase else s1.rt.phase } }
      (s2.setReg Reg.MB_CPLWR (BitVec.ofNat 48 ((wr + 1) % 65536))).bump Reg.MB_CMDCNT
  | _ => s

/-- The oldest finished command that passes a test. -/
def State.finishedAt (s : State) (p : Cmd → Bool) : Option Nat :=
  s.rt.cmds.findIdx? (fun c => (match c.st with
    | .finished _ _ _ => true
    | _ => false) && p c)

/-- The completion at position i may be written: PORT_DISABLE ran after the commands on its port that it cancelled, and completes after them (R233). -/
def State.mayPost (s : State) (i : Nat) : Bool :=
  let c := nth { w0 := 0, w1 := 0, w2 := 0, w3 := 0 } s.rt.cmds i
  decide (c.op ≠ 0x11) || (s.rt.cmds.take i).all (fun d => !(d.sameTarget c))

/-- COMPLETION_WRITE (R232). -/
def execCompletionWrite (id : BitVec 16) (s : State) : Out :=
  if s.supUp = false then .next s
  else
    match s.finishedAt (fun c => decide (c.id = id.toNat)) with
    | some i => .next (if s.mayPost i then s.writeCompletion i else s)
    | none => .next s

/-- A ring's next access would complete ABSENT. -/
def State.ringAbsent (s : State) (cpl : Bool) : Bool :=
  let a := if cpl then s.rf Reg.MB_CPLBASE 31 0 + 2 * (s.rf Reg.MB_CPLWR 15 0 % 2 ^ s.rf Reg.MB_CPLSIZE 3 0)
    else s.rf Reg.MB_CMDBASE 31 0 + 4 * (s.rf Reg.MB_CMDRD 15 0 % 2 ^ s.rf Reg.MB_CMDSIZE 3 0)
  (entryDoms a (if cpl then 2 else 4)).any (fun d => decide (s.gate d = .absent))

/-- The ring has an access to make. -/
def State.ringWants (s : State) (cpl : Bool) : Bool :=
  if cpl then s.cplRoom && (s.finishedAt (fun _ => true)).isSome
  else s.cmdRingOn && decide (s.rf Reg.MB_CMDRD 15 0 ≠ s.rf Reg.MB_DOORBELL 15 0 ∧ s.rt.cmds.length < 256)

/-- RING_RETRY (R234): the access is tried again; `raise`: 100 ms of retrying have passed, and the bank is still absent. -/
def execRingRetry (cpl : Bool) (raise : Bool) (s : State) : Out :=
  if s.supUp = false ∨ s.ringWants cpl = false then .next s
  else if s.ringAbsent cpl then .next (if raise then s.raise 0x0F2 0x32 (bnat cpl) else s)
  else if cpl then
    match s.finishedAt (fun _ => true) with
    | some i => .next (s.writeCompletion i)
    | none => .next s
  else .next (State.copyEntries 256 s)

/-! ## HELLO and NOP (R235) -/

/-- API versions of the selected slot's runtime. -/
def State.apiNow (s : State) : List Nat := if s.rf Reg.MB_RTSLOT 0 0 = 0 then s.rt.apiA else s.rt.apiB

/-- HELLO. -/
def execHello (id : BitVec 16) (s : State) : Out :=
  .next (s.runCmd 0x01 id.toNat (fun c _ t =>
    if 1 < t.rt.cmds.length then (.done rsBUSY 0, t)
    else if 256 ≤ c.arg0 then (.done rsBADARG 0, t)
    else
      let v := (t.apiNow.filter (fun x => decide (x ≤ c.arg0))).foldl max 0
      if v = 0 then (.done rsBADVER 0, t) else (.done rsOK (BitVec.ofNat 48 v), t.setReg Reg.MB_VERSION (BitVec.ofNat 48 v))))

/-- NOP. -/
def execNop (id : BitVec 16) (s : State) : Out := .next (s.runCmd 0x02 id.toNat (fun _ _ t => (.done rsOK 0, t)))

/-! ## Delegation (R243, R244) -/

/-- The windows and lines that the supervisor grants a RUN spindle: every port and skein that is not write-delegated to a USER spindle. -/
def State.grantLines (s : State) (n : Nat) : State :=
  let ports := fun b => BitVec.ofNat 48 (maskOf 48 (fun i => !s.userPort (b + i)))
  let sk := BitVec.ofNat 48 (maskOf 48 (fun k => !s.userSkein k))
  (((((s.setReg (Reg.SPN_DGATHER0 n) (ports 0)).setReg (Reg.SPN_DGATHER1 n) (ports 48)).setReg (Reg.SPN_DWRITE0 n) (ports 0)).setReg
    (Reg.SPN_DWRITE1 n) (ports 48)).setReg (Reg.SPN_DSKG n) sk).setReg (Reg.SPN_DSKW n) sk

/-- Every RUN spindle's lines. -/
def State.regrant (s : State) : State := forAll State.grantLines s.runSpindles s

/-- A spindle's delegation is taken away. -/
def State.clearDeleg (s : State) (n : Nat) : State :=
  forAll (fun t k => t.setReg (Reg.SPN_DWBASE n 0 + k) 0) (List.range 0x16) s

/-- DELEGATE_WIN. -/
def execDelegateWin (id : BitVec 16) (s : State) : Out :=
  .next (s.runCmd 0x04 id.toNat (fun c _ t =>
    let n := c.tindex
    let k := c.arg0 % 8
    let clear := natBit c.arg0 3
    if 16 ≤ c.arg0 ∨ (clear = false ∧ (2 ^ 32 ≤ c.arg1 ∨ 2 ^ 32 ≤ c.arg2 ∨ c.arg2 < c.arg1 ∨ (c.arg1 ≤ 0x13 ∧ 0x10 ≤ c.arg2))) then (.done rsBADARG 0, t)
    else t.needDoms [30 + n / 8] (fun u =>
      let b : Word := if clear then 0 else BitVec.ofNat 48 (2 ^ 47 + c.arg1)
      let l : Word := if clear then 0 else BitVec.ofNat 48 c.arg2
      (.done rsOK 0, (u.supWrite (Reg.SPN_DWLIM n k) l).2.supWrite (Reg.SPN_DWBASE n k) b |>.2))))

/-- A set of ports or skeins is write-delegated to a USER spindle other than n. -/
def State.writeElsewhere (s : State) (n : Nat) (sk : Bool) (i : Nat) : Bool :=
  (List.range 48).any (fun m => decide (m ≠ n ∧ (s.spn m).mode = 2) && (if sk then s.rb (Reg.SPN_DSKW m) i else s.rb (dwReg m i) (i % 48)))

/-- DELEGATE_LINE. -/
def execDelegateLine (id : BitVec 16) (s : State) : Out :=
  .next (s.runCmd 0x05 id.toNat (fun c _ t =>
    let n := c.tindex
    let sk := natBit c.arg0 0
    let named := fun i => if sk then natBit c.arg1 i else if i < 48 then natBit c.arg1 i else natBit c.arg2 (i - 48)
    let is := (List.range (if sk then 48 else 96)).filter named
    if 2 ≤ c.arg0 ∨ (sk ∧ c.arg2 ≠ 0) then (.done rsBADARG 0, t)
    else if c.opt ∧ is.any (t.writeElsewhere n sk) then (.done rsBUSY 0, t)
    else if c.opt ∧ sk = false ∧ is.any (fun p => decide (t.pst p ≠ stUp)) then (.done rsBADSTATE 0, t)
    else t.needDoms [30 + n / 8] (fun u =>
      let u1 :=
        if sk then (u.supWrite (if c.opt then Reg.SPN_DSKW n else Reg.SPN_DSKG n) c.w2).2
        else ((u.supWrite (if c.opt then Reg.SPN_DWRITE0 n else Reg.SPN_DGATHER0 n) c.w2).2.supWrite
          (if c.opt then Reg.SPN_DWRITE1 n else Reg.SPN_DGATHER1 n) c.w3).2
      (.done rsOK 0, if c.opt then u1.regrant else u1))))

/-! ## PARTITION (R17, R18, R240) -/

/-- First USER spindle of a partition; 48 where there is none. -/
def State.firstUser (s : State) (u : Nat) : Nat := (((s.poolModes u).filter (fun x => decide (x.2 = 2))).head?.map (·.1)).getD 48

/-- Every spindle of the pool has its role. -/
def State.partitionDone (s : State) : Bool := (s.poolModes s.rt.u).all (fun x => decide ((s.spn x.1).mode = x.2))

/-- The spindle is halted. -/
def State.isHalted (s : State) (n : Nat) : Bool := decide ((s.spn n).run = .halted ∨ (s.spn n).run = .doubleHalt)

/-- A USER spindle becomes RUN: its delegation, its start at the dispatcher. R240 does not say how it gets the runtime's instructions: the IMEM of the
lowest RUN spindle is copied whole, and it starts at index 0 (DESIGN CHOICE, log entry 176). One whose cluster is off takes the mode alone. -/
def State.becomeRun (s : State) (n : Nat) : State :=
  let src := s.runSpindles.head?.map (fun m => ((s.spn m).imem, (s.spn m).eccI))
  let s1 := (s.clearDeleg n).setSpnMode n 1
  if s.domOn (30 + n / 8) = false then s1
  else
  let s2 := match src with
    | some x => s1.updSpn n (fun y => { y with imem := x.1, eccI := x.2 })
    | none => s1
  let s3 := ((s2.setReg (Reg.SPN_STARTPC n) 0).setRb (Reg.SPN_CTL n) 47 false).startSpn n
  s3.grantRun n

/-- A RUN spindle becomes USER: halted, its delegation withdrawn. -/
def State.becomeUser (s : State) (n : Nat) : State :=
  (((s.clearDeleg n).setSpnMode n 2).setRb (Reg.SPN_CTL n) 47 true).updSpn n (fun x => { x with run := .halted, oldSlot := false })

/-- The spindles that can move at once do. -/
def State.movePool (s : State) : State :=
  forAll (fun t x =>
    if x.2 = 1 ∧ (t.spn x.1).mode = 2 then t.becomeRun x.1
    else if x.2 = 2 ∧ (t.spn x.1).mode = 1 ∧ t.isHalted x.1 then t.becomeUser x.1
    else t) (s.poolModes s.rt.u) s

/-- PARTITION: completes once every moved spindle has its role; RUN spindles leave at their quantum boundaries. -/
def execPartition (id : BitVec 16) (s : State) : Out :=
  .next (s.runCmd 0x03 id.toNat (fun c going t =>
    let fin := fun (u : State) => if u.partitionDone then (Prog.done rsOK (BitVec.ofNat 48 (u.firstUser u.rt.u)), u.regrant) else (Prog.run, u)
    if going then fin t.movePool
    else if 16 < c.arg0 then (.done rsBADARG 0, t)
    else if (t.poolModes c.arg0).any (fun x => decide (x.2 = 1 ∧ (t.spn x.1).mode = 2) && !t.isHalted x.1) then (.done rsBUSY 0, t)
    else fin ({ t with rt := { t.rt with u := c.arg0 } } : State).movePool))

/-- A running PARTITION that is complete finishes. -/
def State.partitionPoll (s : State) : State :=
  if s.partitionDone ∧ s.rt.cmds.any (fun c => decide (c.op = 0x03 ∧ c.st = .running)) then
    let s1 := s.regrant
    { s1 with rt := { s1.rt with cmds := s1.rt.cmds.map (fun c =>
        if c.op = 0x03 ∧ c.st = .running then { c with st := .finished rsOK (BitVec.ofNat 48 (s.firstUser s.rt.u)) 0 } else c) } }
  else s

/-! ## Quanta and slots (R245–R248) -/

/-- First IMEM index of a slot. -/
def slotPc (slot : Nat) : Nat := if slot = 0 then 0x100 else 0x1000

/-- QUANTUM_BOUNDARY: a RUN spindle with no branch unresolved and no tag in flight returns to the dispatcher. It leaves for USER mode
if a partition wants it, enters the selected slot, and lets a self-test that waits for it start. -/
def execQuantumBoundary (n : SpnNo) (s : State) : Out :=
  let x := s.spn n
  if s.spnInService n ∧ x.mode = 1 ∧ x.run = .running ∧ x.ckpts.isEmpty ∧ x.inFlight (fun _ => true) = false then
    if (s.poolModes s.rt.u).contains (n.val, 2) then .next (s.saveRuntime.becomeUser n).partitionPoll
    else
      .next ((s.saveRuntime.updSpn n (fun y => { y with oldSlot := false, pc := slotPc (s.rf Reg.MB_RTSLOT 0 0) })).testPoll (some n))
  else .next s

/-- QUANTUM_TIMEOUT (R248). -/
def execQuantumTimeout (n : SpnNo) (s : State) : Out :=
  if (s.spn n).oldSlot ∧ s.spnInService n then
    let s1 := (s.setRb (Reg.SPN_CTL n) 47 true).updSpn n (fun x => { x with oldSlot := false })
    .next ((if (s.spn n).run = .running ∨ (s.spn n).run = .sleeping then s1.haltSpn n else s1).raise (0x080 + n) 0x11 0)
  else .next s

/-- Put words into consecutive IMEM indices. -/
def Spindle.setIms (x : Spindle) (k : Nat) : List Word → Spindle
  | [] => x
  | w :: t => (x.setIm k w).setIms (k + 1) t

/-- The API versions from a lowest to a highest (major, minor) byte. -/
def apiRange (lo hi : Nat) : List Nat := (List.range 256).filter (fun v => decide (lo ≤ v ∧ v ≤ hi))

/-- A runtime image goes into a slot of every RUN spindle in service, and MB_RTSTAT shows it (R246). -/
def State.loadRuntime (s : State) (slot : Nat) (ws : List Word) (ver : Nat) (api : List Nat) : State :=
  let s1 := forAll (fun t n => t.updSpn n (fun x => x.setIms (slotPc slot) ws)) s.runSpindles s
  let s2 := (s1.setRb Reg.MB_RTSTAT (40 + slot) true).setRf Reg.MB_RTSTAT (if slot = 0 then 31 else 15) (if slot = 0 then 16 else 0) ver
  { s2 with rt := if slot = 0 then { s2.rt with apiA := api } else { s2.rt with apiB := api } }

/-- What RT_STAGE makes of an image: its status; 0 for a good one (R246). -/
def State.stageStatus (s : State) (w : Nat → Word) (len : Nat) : Nat :=
  let chk := imgCheck w s.fuses.count s.lcTest
  let lo := fld (w 6) 47 40
  let hi := fld (w 6) 39 32
  let ver := s.rf Reg.MB_VERSION 7 0
  if chk = 8 ∨ chk = 7 then rsDENIED
  else if chk ≠ 0 ∨ len ≠ bodyAt + imgBodyLen w ∨ bitOf (w 0) 18 = false ∨ 3840 < fld (w 6) 31 0 then rsIMAGEBAD
  else if ver < lo ∨ hi < ver then rsBADVER
  else if Config.readsState (imgWords w bodyAt (imgBodyLen w)) = false then rsIMAGEBAD
  else 0

/-- RT_STAGE: checked, written into the idle slot; RESULT [0] names it. -/
def execRtStage (id : BitVec 16) (s : State) : Out :=
  .next (s.runCmd 0x30 id.toNat (fun c _ t =>
    let a := c.arg1
    let len := c.arg2
    if a < 0x1000000 ∨ 0x1800000 < a + len ∨ len = 0 then (.done rsBADARG 0, t)
    else if t.oldCount ≠ 0 then (.done rsBUSY 0, t)
    else t.needDoms (entryDoms a len) (fun u =>
      let w := fun k => if k < len then u.bob (a - 0x1000000 + k) else 0
      let st := u.stageStatus w len
      if st ≠ 0 then (.done st 0, u)
      else
        let slot := 1 - u.rf Reg.MB_RTSLOT 0 0
        (.done rsOK (BitVec.ofNat 48 slot), u.loadRuntime slot (imgWords w (bodyAt + fld (w 5) 31 0) (fld (w 6) 31 0)) (fld (w 7) 47 32)
          (apiRange (fld (w 6) 47 40) (fld (w 6) 39 32))))))

end Sys2Proof.Machine
end

