-- ==== Sys2Proof/Machine/Registers.lean ====
section
/-! DEFINITION. Meanings of the commands that are one register access, of the guard window, the life-cycle fuse and the scrubber (R44–R48, R52, R55, and the rule of each register). -/

namespace Sys2Proof.Machine

/-! ## Chapter 02 -/

/-- LC_STATE_WRITE (R6, R55). -/
def execLcStateWrite (r : Requester) (w : Word) (s : State) : Out := .next (s.writePair r Reg.LC_STATE w)

/-- LC_FUSE_DONE (R55). -/
def execLcFuseDone (s : State) : Out :=
  match s.fuses.prog with
  | some n => .next { s with fuses := { s.fuses with lc := n, prog := none } }
  | none => .next s

/-- The word is the A of a register with this access code. -/
def isAccess (c : Access) (a : Nat) : Bool :=
  match RegMap.at a with
  | some (_, row, false) => decide (row.acc = c)
  | _ => false

/-- GUARD_HOLD (R45). -/
def execGuardHold (r : Requester) (a : BitVec 32) (v : Word) (s : State) : Out :=
  .next (if isAccess .grd a.toNat then s.writeReg r a.toNat v else s)

/-- GUARD_WINDOW_EXPIRE (R45). -/
def execGuardWindowExpire (r : Requester) (s : State) : Out :=
  match s.guardSlot (reqNo r) with
  | some g => .next ((s.setGuard (reqNo r) none).guardFault g.addr)
  | none => .next s

/-- ID_MGMTPATH_WRITE (R52). -/
def execIdMgmtpathWrite (r : Requester) (w : Word) (s : State) : Out := .next (s.writePair r Reg.ID_MGMTPATH w)

/-- SH_READ (R44). -/
def execShRead (r : Requester) (a : BitVec 32) (s : State) : Out :=
  .next (if isAccess .sh a.toNat then s.readReg r a.toNat else s)

/-- REGISTER_WRITE (R32–R37, R40). -/
def execRegisterWrite (r : Requester) (a : BitVec 32) (v : Word) (s : State) : Out := .next (s.writeReg r a.toNat v)

/-- The scrubber checks word a: an RW or GRD word of ROOT or of a domain that is on (R48). A domain whose transition runs, which R48 does not
name, is skipped (DESIGN CHOICE, log entry 158). -/
def State.scrubs (s : State) (a : Nat) : Bool :=
  (match RegMap.at a with
   | some (_, row, false) => decide (row.acc = .rw ∨ row.acc = .grd)
   | _ => false) &&
  (match domainOf a with
   | some d => decide ((s.dom d).st = 0 ∧ (s.dom d).chg = 0)
   | none => true)

/-- A word whose parity fails: fault 0x0F0, ID_PARERR, ID_PARLAST (R48, R54). -/
def State.parityFault (s : State) (a : Nat) : State :=
  (((s.raise 0x0F0 0x30 a).bumpSat Reg.ID_PARERR)).setReg Reg.ID_PARLAST (BitVec.ofNat 48 (2 ^ 47 + a % 2 ^ 32))

/-- SCRUB_PASS. -/
def execScrubPass (s : State) : Out :=
  if s.rootUp then
    .next ((forAll (fun t (x : Nat × Bool) => if x.2 ∧ s.scrubs x.1 then t.parityFault x.1 else t) s.badpar s).bump Reg.ID_SCRUBPASS)
  else .next s

/-! ## Ports, line groups, spindles -/

/-- PORT_TESTMODE_WRITE (R75). -/
def execPortTestmodeWrite (r : Requester) (p : PortNo) (tm : BitVec 4) (s : State) : Out :=
  .next (s.writeFld r (Reg.PORT_TESTMODE p) 3 0 tm.toNat)
/-- PORT_GAIN_WRITE (R82). -/
def execPortGainWrite (r : Requester) (p : PortNo) (gain : BitVec 6) (s : State) : Out := .next (s.writeFld r (Reg.PORT_AFE p) 5 0 gain.toNat)
/-- ADC_RECAL_REQUEST (R84). -/
def execAdcRecalRequest (r : Requester) (p : PortNo) (seq : BitVec 4) (s : State) : Out :=
  .next (s.writeFld r (Reg.PORT_AFE p) 19 16 seq.toNat)
/-- LG_SKEIN_WRITE (R113). -/
def execLgSkeinWrite (r : Requester) (g : LgNo) (n : Fin 8) (v : Word) (s : State) : Out := .next (s.writeReg r (Reg.LG_SKEIN g n) v)
/-- REPLAY_START (R319). -/
def execReplayStart (r : Requester) (g : LgNo) (v : Word) (s : State) : Out := .next (s.writeReg r (Reg.LG_REPCTL g) (putFld v 47 47 1))
/-- SPN_HALT (R217). -/
def execSpnHalt (r : Requester) (n : SpnNo) (s : State) : Out := .next (s.writeFld r (Reg.SPN_CTL n) 47 47 1)
/-- SPN_RELEASE (R227). -/
def execSpnRelease (r : Requester) (n : SpnNo) (s : State) : Out := .next (s.writeFld r (Reg.SPN_CTL n) 47 47 0)
/-- SPN_CTL_MODE_WRITE (R228). -/
def execSpnCtlModeWrite (r : Requester) (n : SpnNo) (mode : BitVec 2) (replay : Bool) (s : State) : Out :=
  .next (s.writeReg r (Reg.SPN_CTL n) (putFld (putFld (s.reg (Reg.SPN_CTL n)) 5 4 mode.toNat) 1 1 (bnat replay)))
/-- SPN_IMDATA_ACCESS (R197, R227). -/
def execSpnImdataAccess (r : Requester) (n : SpnNo) (write : Bool) (v : Word) (s : State) : Out :=
  .next (if write then s.writeReg r (Reg.SPN_IMDATA n) v else s.readReg r (Reg.SPN_IMDATA n))
/-- SPN_DMDATA_ACCESS (R227). -/
def execSpnDmdataAccess (r : Requester) (n : SpnNo) (write : Bool) (v : Word) (s : State) : Out :=
  .next (if write then s.writeReg r (Reg.SPN_DMDATA n) v else s.readReg r (Reg.SPN_DMDATA n))

/-! ## Rings, mailboxes, knots, runtime slot -/

/-- MB_DOORBELL_WRITE (R230). -/
def execMbDoorbellWrite (r : Requester) (index : BitVec 16) (s : State) : Out :=
  .next (s.writeReg r Reg.MB_DOORBELL (BitVec.ofNat 48 index.toNat))
/-- Registers of the rings (R229). -/
def ringReg (k : Nat) : Nat :=
  if k = 0 then Reg.MB_CMDBASE else if k = 1 then Reg.MB_CMDSIZE else if k = 2 then Reg.MB_CPLBASE else Reg.MB_CPLSIZE
/-- MB_RING_CONFIG_WRITE (R229). -/
def execMbRingConfigWrite (r : Requester) (reg : Fin 4) (v : Word) (s : State) : Out := .next (s.writeReg r (ringReg reg) v)
/-- MB_CPLRD_WRITE (R232). -/
def execMbCplrdWrite (r : Requester) (index : BitVec 16) (s : State) : Out :=
  .next (s.writeReg r Reg.MB_CPLRD (BitVec.ofNat 48 index.toNat))
/-- RT_SWITCH (R247). -/
def execRtSwitch (r : Requester) (w : Word) (s : State) : Out := .next (s.writePair r Reg.MB_RTSLOT w)
/-- KNOT_HOST_ACQUIRE, KNOT_HOST_RELEASE and KNOT_HOST_RENEW (R251). -/
def execKnotHostAcquire (k : Fin 64) (lease : BitVec 32) (s : State) : Out :=
  .next (s.writeReg .host (Reg.KNOT_HOST k) (BitVec.ofNat 48 (1 * 2 ^ 46 + lease.toNat)))
def execKnotHostRelease (k : Fin 64) (s : State) : Out := .next (s.writeReg .host (Reg.KNOT_HOST k) (BitVec.ofNat 48 (2 * 2 ^ 46)))
def execKnotHostRenew (k : Fin 64) (lease : BitVec 32) (s : State) : Out :=
  .next (s.writeReg .host (Reg.KNOT_HOST k) (BitVec.ofNat 48 (3 * 2 ^ 46 + lease.toNat)))
/-- MB_TX_WRITE (R253). -/
def execMbTxWrite (r : Requester) (n : SpnNo) (v : Word) (s : State) : Out := .next (s.writeReg r (Reg.MB_TX n) v)
/-- MB_HOSTRX_READ (R253). -/
def execMbHostrxRead (r : Requester) (s : State) : Out := .next (s.readReg r Reg.MB_HOSTRX)

/-! ## Traffic manager -/

/-- GCL_CHANGE (R278). -/
def execGclChange (r : Requester) (e : EgrNo) (seq : BitVec 4) (s : State) : Out := .next (s.writeFld r (Reg.TM_GCLCTL e) 19 16 seq.toNat)
/-- SG_CHANGE (R278). -/
def execSgChange (r : Requester) (i : Fin 64) (seq : BitVec 4) (s : State) : Out := .next (s.writeFld r (Reg.TM_SGCTL i) 19 16 seq.toNat)
/-- TM_POLICER_WRITE (R259). -/
def execTmPolicerWrite (r : Requester) (st : Fin 4096) (second : Bool) (v : Word) (s : State) : Out :=
  .next (s.writeReg r (if second then Reg.TM_SPOL1 st else Reg.TM_SPOL0 st) v)
/-- TM_METER_WRITE (R281). -/
def execTmMeterWrite (r : Requester) (m : Fin 1024) (k : Fin 4) (v : Word) (s : State) : Out := .next (s.writeReg r (Reg.TM_MCFG m + k) v)

/-! ## Host lanes -/

/-- HL_ENABLE (R299). -/
def execHlEnable (r : Requester) (n : LaneNo) (s : State) : Out := .next (s.writeFld r (Reg.HL_CTL n) 47 47 1)
/-- HL_BUSEQ_CHANGE (R299). -/
def execHlBuseqChange (r : Requester) (n : LaneNo) (seq : BitVec 4) (s : State) : Out := .next (s.writeFld r (Reg.HL_CTL n) 19 16 seq.toNat)
/-- HL_SLIP (R297). -/
def execHlSlip (r : Requester) (n : LaneNo) (seq : BitVec 4) (s : State) : Out := .next (s.writeFld r (Reg.HL_CTL n) 23 20 seq.toNat)
/-- HL_TXSLEEP (R303, R304). -/
def execHlTxsleep (r : Requester) (n : LaneNo) (on : Bool) (s : State) : Out := .next (s.writeFld r (Reg.HL_CTL n) 8 8 (bnat on))
/-- HL_RXSLEEP (R303, R304). -/
def execHlRxsleep (r : Requester) (n : LaneNo) (on : Bool) (s : State) : Out := .next (s.writeFld r (Reg.HL_CTL n) 9 9 (bnat on))

/-! ## Distaff -/

/-- DST_ARM, DST_TRIGSEQ, DST_RELEASE and DST_EXPORT (R315, R316, R318). -/
def execDstArm (r : Requester) (seq : BitVec 4) (s : State) : Out := .next (s.writeFld r Reg.DST_CTL 23 20 seq.toNat)
def execDstTrigseq (r : Requester) (seq : BitVec 4) (s : State) : Out := .next (s.writeFld r Reg.DST_CTL 19 16 seq.toNat)
def execDstRelease (r : Requester) (seq : BitVec 4) (s : State) : Out := .next (s.writeFld r Reg.DST_CTL 15 12 seq.toNat)
def execDstExport (r : Requester) (seq : BitVec 4) (s : State) : Out := .next (s.writeFld r Reg.DST_CTL 11 8 seq.toNat)
/-- DST_RDDATA_READ (R317). -/
def execDstRddataRead (r : Requester) (s : State) : Out := .next (s.readReg r Reg.DST_RDDATA)

/-! ## Clocks and time -/

/-- CLK_SRCSEL_WRITE (R328). -/
def execClkSrcselWrite (r : Requester) (w : Word) (s : State) : Out := .next (s.writePair r Reg.CLK_SRCSEL w)
/-- CLK_PLLCTL_WRITE (R334). -/
def execClkPllctlWrite (r : Requester) (k : Fin 15) (w : Word) (s : State) : Out := .next (s.writePair r (Reg.CLK_PLLCTL k) w)
/-- CLK_READY_READ (R328). -/
def execClkReadyRead (r : Requester) (s : State) : Out := .next (s.readReg r Reg.CLK_READY)
/-- TIME_SET and TIME_STEP (R414). -/
def execTimeSet (r : Requester) (seq : BitVec 4) (s : State) : Out := .next (s.writeFld r Reg.TIME_CTL 23 20 seq.toNat)
def execTimeStep (r : Requester) (seq : BitVec 4) (s : State) : Out := .next (s.writeFld r Reg.TIME_CTL 19 16 seq.toNat)

/-! ## Power -/

/-- A write of TARGET; `delay`: a block answers the handshake with a delay. -/
def State.targetWrite (s : State) (r : Requester) (d v : Nat) (delay : Bool) : State :=
  s.access { req := reqNo r, write := true, addr := Reg.PWR_DOMCTL d, data := putFld (s.reg (Reg.PWR_DOMCTL d)) 1 0 v, sink := .bare, delay := delay }

/-- DOMAIN_TARGET_ON, DOMAIN_TARGET_RET and DOMAIN_TARGET_OFF (R340, R342). -/
def execDomainTargetOn (r : Requester) (d : Fin 50) (s : State) : Out := .next (s.targetWrite r d 0 false)
def execDomainTargetRet (r : Requester) (d : Fin 50) (delay : Bool) (s : State) : Out := .next (s.targetWrite r d 1 delay)
def execDomainTargetOff (r : Requester) (d : Fin 50) (delay : Bool) (s : State) : Out := .next (s.targetWrite r d 2 delay)
/-- PWR_FORCEOFF (R341). -/
def execPwrForceoff (r : Requester) (w : Word) (s : State) : Out := .next (s.writePair r Reg.PWR_FORCEOFF w)

/-! ## Faults and self-test -/

/-- FLT_RELEASE (R364). -/
def execFltRelease (r : Requester) (seq : BitVec 4) (src : BitVec 12) (s : State) : Out :=
  .next (s.writeReg r Reg.FLT_RELEASE (BitVec.ofNat 48 (seq.toNat * 2 ^ 44 + src.toNat)))
/-- FLT_RECCFG_WRITE (R365). -/
def execFltReccfgWrite (r : Requester) (w : Word) (s : State) : Out := .next (s.writePair r Reg.FLT_RECCFG w)
/-- FLT_CODECFG_WRITE (R358). -/
def execFltCodecfgWrite (r : Requester) (c : BitVec 6) (w : Word) (s : State) : Out := .next (s.writePair r (Reg.FLT_CODECFG c.toNat) w)
/-- FLT_PIN_WRITE (R366). -/
def execFltPinWrite (r : Requester) (v : Word) (s : State) : Out := .next (s.writeReg r Reg.FLT_PIN v)
/-- FLT_ACK_WRITE (R367). -/
def execFltAckWrite (r : Requester) (ack : BitVec 16) (s : State) : Out := .next (s.writeFld r Reg.FLT_INTCFG 15 0 ack.toNat)
/-- FLT_HIST_READ (R368). -/
def execFltHistRead (r : Requester) (s : State) : Out := .next (s.readReg r Reg.FLT_HIST)
/-- BIST_EXTERNAL (R376). -/
def execBistExternal (r : Requester) (seq cls : BitVec 4) (unit : BitVec 16) (s : State) : Out :=
  .next (s.writeReg r Reg.BIST_CTL (BitVec.ofNat 48 (seq.toNat * 2 ^ 44 + cls.toNat * 2 ^ 40 + unit.toNat)))

/-! ## CSP, images, pins -/

/-- CSP1_LINES_WRITE (R385). -/
def execCsp1LinesWrite (r : Requester) (lines : BitVec 2) (s : State) : Out := .next (s.writeFld r Reg.CSP1_CFG 45 44 lines.toNat)
/-- CSP_MODE_WRITE (R380). -/
def execCspModeWrite (r : Requester) (csp1 mode : Bool) (s : State) : Out :=
  .next (s.writeFld r (if csp1 then Reg.CSP1_CFG else Reg.CSP0_CFG) 47 47 (bnat mode))
/-- CSP0_COMMIT (R396). -/
def execCsp0Commit (r : Requester) (w : Word) (s : State) : Out := .next (s.writePair r Reg.CSP0_COMMIT w)
/-- CSP0_REBOOT (R400). -/
def execCsp0Reboot (r : Requester) (w : Word) (s : State) : Out := .next (s.writePair r Reg.CSP0_BOOTCTL w)
/-- PIN_FUNC_WRITE (R406). -/
def execPinFuncWrite (r : Requester) (pin : Fin 32) (v : Word) (s : State) : Out := .next (s.writeReg r (Reg.PIN_FUNC pin) v)

end Sys2Proof.Machine
end

