-- ==== Sys2Proof/Machine/Tags.lean ====
section
/-! DEFINITION. Performance and completion of tagged operations (R92–R95, R100, R124, R128, R173, R210–R215, R225, R390). -/

namespace Sys2Proof.Machine

/-- A tag completes; swaps that waited behind it are performed. -/
def State.complete (s : State) (n t status : Nat) (data : Word) : State := (s.finishTag n t status data).acceptAll n

/-- The access of a LDB or STB (R26, R37): speculative loads never wake a domain (R219). -/
def State.memTag (s : State) (n t : Nat) (o : TagOp) (write : Bool) : State :=
  let held : Bool := o.spec && (match domainOf o.ea with
    | some d => decide (s.gate d ≠ .go)
    | none => false)
  if held then s
  else
    match s.attempt { req := n, write := write, addr := o.ea, data := o.val, sink := .bare } with
    | (some (st, d), u) => u.complete n t st d
    | (none, u) => u

/-! ## CWR -/

/-- Consecutive words of a port's half. -/
def State.setHalfWords (s : State) (p h k : Nat) : List Word → State
  | [] => s
  | w :: t => (s.setHalfWord p h k w).setHalfWords p h (k + 1) t

/-- A write of coefficient words on port p (R92, R94, R95): REASON, 0 for none, and the state. -/
def State.coefWrite (s : State) (p off : Nat) (ws : List Word) : Nat × State :=
  let r := s.coefBusy p
  if r ≠ 0 then (r, s.setRf (Reg.PORT_COEFSTAT p) 15 12 r)
  else if s.rb (Reg.PORT_COEFSTAT p) 4 then
    (0, ((s.setHalfWords p (s.servingHalf p) off ws).coefTouch p (s.servingHalf p)).settle p (64 * ws.length))
  else (0, (s.setHalfWords p (1 - s.servingHalf p) off ws).coefTouch p (1 - s.servingHalf p))

def State.setSlotWords (s : State) (g half victim off : Nat) : List Word → State
  | [] => s
  | w :: t => (s.setSlotWord g half victim off w).setSlotWords g half victim (off + 1) t

/-- A write of canceller words on skein k of group g (R124): REASON, 0 for none, and the state. Where several causes apply the lowest code is recorded
(DESIGN CHOICE, log entry 149: the rule gives no order). -/
def State.slotWrite (s : State) (g k victim off : Nat) (ws : List Word) : Nat × State :=
  let r := if natBit (s.skNames g k) victim = false then 6 else s.skBusy g k
  if r ≠ 0 then (r, s.refuseSk g r) else (0, s.setSlotWords g (1 - s.skHalf g k) victim off ws)

/-- A CWR to a roving transmit queue (R173, R212): as many entries as there is space for; that of a halting spindle does not wait for more (R217). -/
def State.rovWrite (s : State) (n t : Nat) (o : TagOp) : State :=
  let p := tgtPort o.ea
  if s.pst p ≠ stRoving then s.complete n t stABSENT 0
  else
    let room := 64 - (s.port p).rov.txq.length
    let r := s.dmsRead n (o.loc - dmemBase + o.taken) (min room (o.len - o.taken))
    let ws := r.1.map (fun w => BitVec.ofNat 11 (w.toNat % 2 ^ min 11 (ladK (s.rset p))))
    let s1 := r.2.updRov p (fun x => { x with txq := x.txq ++ ws })
    if o.taken + ws.length = o.len then s1.complete n t stOK 0
    else if (s.spn n).run = .halting then s1.complete n t stABSENT 0
    else s1.setTag n t { o with taken := o.taken + ws.length }

/-- In the replay datapath: a CWR writes the idle half of its target; a roving queue has no part in a replay. -/
def State.repWrite (u : State) (v : Nat) (ws : List Word) : State :=
  if tgtKind v = 0 then u.setHalfWords (tgtPort v) (1 - u.servingHalf (tgtPort v)) (tgtOffset v) ws
  else if tgtKind v = 1 then u.setSlotWords (tgtGroup v) (1 - u.skHalf (tgtGroup v) (tgtSkn v)) (tgtVictim v) (tgtOffset v) ws
  else u

/-- A CWR (R212); in replay the line group's replay datapath takes it (R225; log entry 63). -/
def State.cwrTag (s : State) (n t : Nat) (o : TagOp) : State :=
  let st := fun (x : Nat × State) => x.2.complete n t (if x.1 = 0 then stOK else stREFUSED) 0
  if (s.spn n).replay then
    match s.replayOf n with
    | none => s.complete n t stABSENT 0
    | some g =>
      let r := s.dmsRead n (o.loc - dmemBase) o.len
      (r.2.repDo g (fun u => u.repWrite o.ea r.1)).complete n t stOK 0
  else
    match s.gate (tgtDom o.ea) with
    | .absent => (s.crossDrop (tgtDom o.ea) 4).complete n t stABSENT 0
    | .stall => s.wakeOnDemand (tgtDom o.ea)
    | .go =>
      let s1 := s.refuseEntryAt (tgtDom o.ea) (opUnit o)
      if tgtKind o.ea = 2 then s1.rovWrite n t o
      else
        let r := s1.dmsRead n (o.loc - dmemBase) o.len
        if tgtKind o.ea = 1 then st (r.2.slotWrite (tgtGroup o.ea) (tgtSkn o.ea) (tgtVictim o.ea) (tgtOffset o.ea) r.1)
        else st (r.2.coefWrite (tgtPort o.ea) (tgtOffset o.ea) r.1)

/-! ## The other operations -/

/-- LDF (R33, R389, R390). On a predicted path it fills the prefetch buffer, and its hit or miss counts once the path is confirmed (R220). -/
def State.ldfTag (s : State) (n t : Nat) (o : TagOp) : State :=
  let k := o.ea - 0x4000000
  if s.flashHas k = false then s.complete n t stNOMAP 0
  else if s.flashBusy ∨ (s.flashGone k ∧ o.spec) then s
  else if s.flashGone k then s.complete n t stABSENT 0
  else
    let hit := s.flashHit k
    let u := if o.spec then (s.flashFill k).updSpn n (fun x => x.updPath o.seq (fun c => { c with
        hits := c.hits + bnat hit
        misses := c.misses + bnat (!hit) }))
      else s.flashTouch k
    u.complete n t stOK (s.flashRead k)

/-- MBS (R213, R253). -/
def State.mbsTag (s : State) (n t : Nat) (o : TagOp) : State :=
  let x := if o.ea = 48 then s.hostboxPut o.val else s.mailboxPut o.ea o.val
  x.2.complete n t x.1 0

/-- MBR (R213); that of a halting spindle does not wait (R217). -/
def State.mbrTag (s : State) (n t : Nat) : State :=
  match (s.spn n).mbox with
  | [] => if (s.spn n).run = .halting then s.complete n t stABSENT 0 else s
  | w :: rest => (s.updSpn n (fun x => { x with mbox := rest })).complete n t stOK w

/-- ULK (R213). -/
def State.ulkTag (s : State) (n t : Nat) (o : TagOp) : State :=
  if s.knotHeld o.ea ∧ s.knotOwner o.ea = n then (s.freeKnot o.ea).complete n t stOK 0 else s.complete n t stREFUSED 0

/-- The words of a frame buffer (R213). -/
def SpnFrame.words (f : SpnFrame) : List Word := f.w0 :: f.w1 :: wordsOfBytes f.bytes

/-- FRX (R213): the next frame of the spindle's queue leaves its cells; one with a lost cell (R281) or a bad cell link (R357) is discarded. -/
def State.frxTag (s : State) (n t : Nat) (o : TagOp) : State :=
  match (s.spn n).rxq with
  | [] => if (s.spn n).run = .halting then s.complete n t stABSENT 0 else s
  | f :: rest =>
    let s1 := (s.updSpn n (fun x => { x with rxq := rest })).dropCopy f.fid
    if s.linkFails f.fid then (s.linkEvent f.fid).updSpn n (fun x => { x with rxq := rest }) |>.dropCopy f.fid
    else if s.cellLost f.fid then s1.bump Reg.TM_BANKLOST
    else
      let ws := f.words.take o.len
      (s1.updSpn n (fun x => x.setDms (o.loc - dmemBase) ws)).complete n t stOK (BitVec.ofNat 48 ws.length)

/-- FTX (R213): the frame enters the pipeline from identity 114. -/
def State.ftxTag (s : State) (n t : Nat) (o : TagOp) : State :=
  let len := o.val.toNat
  match s.gate 48 with
  | .absent => s.complete n t stABSENT 0
  | .stall => s.wakeOnDemand 48
  | .go =>
    let r := (s.refuseEntry 48).dmsRead n (o.loc - dmemBase + 2) (o.len - 2)
    let bs := withFcs ((bytesOfWords r.1).take len)
    let x := r.2.pipeline { src := 114, tsNs := tsNsOf s.time, len := len } 3 (timeNs s.time) bs
    x.2.complete n t (if x.1 then stOK else stREFUSED) 0

/-- The operation on tag t goes on as far as it can. -/
def State.tagGo (s : State) (n t : Nat) : State :=
  match (s.spn n).op t with
  | none => s
  | some o =>
    match o.done with
    | some st => s.complete n t st 0
    | none =>
      if s.tagBlocked n o then s
      else
        match o.kind with
        | .ldb => s.memTag n t o false
        | .stb => s.memTag n t o true
        | .cwr => s.cwrTag n t o
        | .ldf => s.ldfTag n t o
        | .mbs => s.mbsTag n t o
        | .mbr => s.mbrTag n t
        | .ulk => s.ulkTag n t o
        | .frx => s.frxTag n t o
        | .ftx => s.ftxTag n t o
        | .cswSwap | .cswMirror => s.acceptCsw n t
        | .gsw | .lck => s

/-- TAG_COMPLETE (R199, R214). -/
def execTagComplete (n : SpnNo) (t : Fin 8) (s : State) : Out :=
  .next (if s.domOn (30 + n / 8) ∧ s.rootUp then s.tagGo n t else s)

/-! ## Gathers (R100, R128, R211) -/

/-- Ports a gather reads. -/
def State.gthPorts (s : State) (v : Nat) : List Nat :=
  if gthSkein v then (s.skServing (gthGroup v) (gthSkn v)).map (fun i => 16 * gthGroup v + i) else [gthPort v]

/-- The members' streams differ in kind from the reference's (R128). -/
def State.kindsDiffer (s : State) (v : Nat) : Bool :=
  match s.gthPorts v with
  | [] => false
  | r :: t => gthSkein v && decide (gthSrc v < 2) && t.any (fun p => decide (s.tapKind p (gthSrc v) ≠ s.tapKind r (gthSrc v)))

/-- The port answers gathers. -/
def State.gthAnswers (s : State) (p src : Nat) : Bool :=
  decide (s.pst p = stTrain ∨ s.pst p = stUp ∨ s.pst p = stRoving ∨ s.pst p = stCarding) &&
    (if src = 0 then s.rb (Reg.PORT_TAPCFG p) 2 else if src = 1 then s.rb (Reg.PORT_TAPCFG p) 6 else true)

/-- Store gathered words from a local address; those outside DMEM are not written. -/
def Spindle.gthStore (x : Spindle) (a : Nat) : List Word → Spindle
  | [] => x
  | w :: t => (if localOk a 1 then x.setDm (a - dmemBase) w else x).gthStore (a + 1) t

/-- Words the spec leaves undefined (R100; FREE VALUES, log entry 2). -/
def freeWords (b : Nat) : Nat → List Word
  | 0 => []
  | n + 1 => Config.freeWord b :: freeWords (b + 1) n

/-- A window of a port: not all written yet, partly no longer held, or its words. -/
inductive Window where
  | open
  | lost
  | full (ws : List Word)
deriving DecidableEq, Repr

/-- Words that a source has completed: tap words of a stream, or words of the transmit history (R129). -/
def State.srcCount (s : State) (p src : Nat) : Nat :=
  let x := (s.port p).rx
  if src = 0 then x.w0 else if src = 1 then x.w1 else x.got / 4

/-- A word of the transmit history (R129): four levels, saturated to ±511; none once 8 Ki words have followed it. -/
def State.histWord (s : State) (p j : Nat) : Option Word :=
  let x := (s.port p).rx
  if 4 * j + 4 ≤ x.got ∧ x.got ≤ 4 * j + 32768 then
    some (BitVec.ofNat 48 (packSamples (fun i => clampInt (-511) 511 (x.level (4 * j + i : Nat)))))
  else none

/-- A word of a source by its number; none where it is not held. -/
def State.srcWord (s : State) (p src j : Nat) : Option Word := if src < 2 then (s.port p).rx.tapWord src j else s.histWord p j

/-- n words of a source from word j on (R100). A word from before the count's restart is no longer held (R101). -/
def State.window (s : State) (p src : Nat) (j : Int) (n : Nat) : Window :=
  if j < 0 then .lost
  else
    let ks := (List.range n).map (fun i => j.toNat + i)
    if ks.any (fun k => decide (k < s.srcCount p src) && (s.srcWord p src k).isNone) then .lost
    else if ks.any (fun k => decide (s.srcCount p src ≤ k)) then .open
    else .full (ks.filterMap (s.srcWord p src))

/-- The word number that START names (R211): equal to it modulo 2^32, within 2^31 of the newest word written. -/
def startWord (start count : Nat) : Int :=
  let new : Int := (count : Int) - 1
  new + signed 32 (((start : Int) - new) % 2 ^ 32).toNat

/-- The windows of a gather: the ports in ascending order, each with its first word in its own counting (R128, R211). -/
def State.gthWindows (s : State) (v : Nat) : List (Nat × Int) :=
  match s.gthPorts v with
  | [] => []
  | r :: t =>
    let j := startWord (v % 2 ^ 32) (s.srcCount r (gthSrc v))
    (r, j) :: t.map (fun p => (p, j + signed 64 (Tab.get (fun _ => 0) (s.lg (lgOf p)).diff (localOf p)) / 4))

/-- An overwritten window (R100): PORT_TAPOVR counts on each port that lost words, and the destination is undefined (FREE VALUES, log entry 2). -/
def State.gthLost (s : State) (n : Nat) (o : TagOp) (ps : List Nat) : State :=
  let s1 := forAll (fun t p => t.bump (Reg.PORT_TAPOVR p)) ps s
  { s1.updSpn n (fun x => x.gthStore o.loc (freeWords s.free o.len)) with free := s.free + o.len }

/-- A window takes in a word whose parity has failed (R371). -/
def State.windowBad (s : State) (p src : Nat) (j : Int) (n : Nat) : Bool :=
  decide (src < 2) && (List.range n).any (fun i => (s.port p).rx.badRing.contains (8192 * src + (j.toNat + i) % 8192))

/-- Words are delivered; those that would fall outside DMEM are not written, and the gather is REFUSED (R211); with a failed parity among them it
completes PARITY (R371). -/
def State.gthStored (s : State) (n t : Nat) (o : TagOp) (bad : Bool) (ws : List Word) : State :=
  (s.updSpn n (fun x => x.gthStore o.loc ws)).complete n t
    (if localOk o.loc ws.length = false then stREFUSED else if bad then stPARITY else stOK) 0

/-- A gather from the live rings (R100, R128, R211). R128 names no outcome for a skein that no member serves in: it completes ABSENT (DESIGN CHOICE,
log entry 170). -/
def State.gthLive (s : State) (n t : Nat) (o : TagOp) : State :=
  let src := gthSrc o.ea
  if (s.gthPorts o.ea).isEmpty ∨ (s.gthPorts o.ea).all (fun p => s.gthAnswers p src) = false then s.complete n t stABSENT 0
  else if s.kindsDiffer o.ea then s.complete n t stREFUSED 0
  else
    let ws := (s.gthWindows o.ea).map (fun x => (x.1, s.window x.1 src x.2 o.val.toNat))
    match (ws.filter (fun x => decide (x.2 = .lost))).map (·.1) with
    | p :: ps => (s.gthLost n o (p :: ps)).complete n t stREFUSED 0
    | [] =>
      if ws.any (fun x => decide (x.2 = .open)) then s
      else s.gthStored n t o ((s.gthWindows o.ea).any (fun x => s.windowBad x.1 src x.2 o.val.toNat)) (ws.flatMap (fun x => match x.2 with
        | .full l => l
        | _ => []))

/-- The windows of a gather in replay (R225, R319): the named port, or the ports of the group that served at their checkpoint, each with the
first word in its own counting; none where a stream was not recorded. -/
def State.repWindows (s : State) (g v : Nat) : Option (List (Nat × Int)) :=
  let ps := if gthSkein v then (List.range 16).filterMap (fun i =>
      let p := 16 * gthGroup v + i
      match s.repChannel g p (gthSrc v) with
      | some c => if (s.repCkp g c 15).toNat % 2 = 1 then some p else none
      | none => none)
    else [gthPort v]
  match ps.map (fun p => s.repChannel g p (gthSrc v)) with
  | some c :: t =>
    let new := (s.repCkp g c 2).toNat + s.repLen g c
    let j := startWord (v % 2 ^ 32) new
    let d := fun c => signed 48 (s.repCkp g c 16).toNat / 4
    (t.foldr (fun o l => match o, l with
      | some c', some l' => some ((c', j - d c + d c') :: l')
      | _, _ => none) (some [])).map (fun l => (c, j) :: l)
  | _ => none

/-- A gather in replay. -/
def State.gthReplay (s : State) (n t : Nat) (o : TagOp) : State :=
  match s.replayOf n with
  | none => s.complete n t stABSENT 0
  | some g =>
    match s.repWindows g o.ea with
    | none => s.complete n t stABSENT 0
    | some l =>
      let ws := l.map (fun x => s.repWindow g x.1 x.2 o.val.toNat)
      if ws.any (fun x => decide (x = .absent)) then s.complete n t stABSENT 0
      else if ws.any (fun x => decide (x = .ahead)) then s
      else s.gthStored n t o false (ws.flatMap (fun x => match x with
        | .full m => m
        | _ => []))

/-- GATHER_COMPLETE (R100, R128, R211, R225). -/
def execGatherComplete (n : SpnNo) (t : Fin 8) (_ : Unit) (s : State) : Out :=
  match (s.spn n).op t with
  | some o =>
    if o.kind = .gsw ∧ o.done.isNone ∧ s.domOn (30 + n / 8) ∧ s.rootUp then
      .next (if (s.spn n).replay then s.gthReplay n t o else s.gthLive n t o)
    else .next s
  | none => .next s

end Sys2Proof.Machine
end

