-- ==== Sys2Proof/Machine/Commands.lean ====
section
/-! DEFINITION. The runtime's commands on ports and skeins (R81, R92–R95, R113, R155–R161, R164, R184, R190, R237–R239). -/

namespace Sys2Proof.Machine

/-! ## States -/

/-- Results of a command on port c.tindex. -/
def pdone (st : Nat) (s : State) : Prog × State := (.done st 0, s)

/-- The port starts over in LISTEN (R239): a transition with CAUSE 3, which is the cause remembered from now on. R150 does not say whether a restart
from TRAIN or ROVING after a loss of cause 1 ends the right to ROVING; here it does (DESIGN CHOICE, log entry 169). -/
def State.cmdRestart (s : State) (p : Nat) : State := ((s.cause p 3).lossMemo p 3).toListen p

/-- A port in LISTEN gives up what it does and asks for a new attempt. -/
def State.newAttempt (s : State) (p : Nat) : State := s.updPort p (fun x => { x.noAttempt with wantAdmit := true })

/-- States from which the link restarts: TRAIN, UP, ROVING. -/
def State.restartable (s : State) (p : Nat) : Bool := decide (s.pst p = stTrain ∨ s.pst p = stUp ∨ s.pst p = stRoving)

/-- PORT_ENABLE. -/
def execPortEnable (id : BitVec 16) (s : State) : Out :=
  .next (s.runCmd 0x10 id.toNat (fun c _ t =>
    let p := c.tindex
    if t.pst p ≠ stDisabled then pdone rsBADSTATE t
    else t.needDoms [quadOf p] (fun u => pdone rsOK ((u.toListen p).updPort p (fun x => { x with fromSleep := false, detArmed := false })))))

/-- A carding sweep of the port is abandoned (R238). -/
def State.abortSweep (s : State) (p : Nat) : State :=
  if s.pst p = stCarding ∨ (s.pst p = stRoving ∧ s.rphase p = 5) then s.setRf (Reg.PORT_CARDSTAT p) 47 44 4 else s

/-- The earlier commands on the port are cancelled. -/
def State.cancelEarlier (s : State) (p i : Nat) : State :=
  { s with rt := { s.rt with cmds := (s.rt.cmds.zip (List.range s.rt.cmds.length)).map (fun x =>
      if x.2 < i ∧ x.1.live ∧ x.1.onPort p then { x.1 with st := .finished rsCANCELLED 0 (s.pgen p) } else x.1) } }

/-- PORT_DISABLE (R238, R239). -/
def execPortDisable (id : BitVec 16) (s : State) : Out :=
  .next (s.runCmd 0x11 id.toNat (fun c _ t =>
    let p := c.tindex
    let t1 := t.cancelEarlier p ((t.cmdAt 0x11 id.toNat).getD 0)
    if t1.pst p = stDisabled then pdone rsOK t1
    else
      let t2 := if t1.pst p = stUp then (t1.cause p 3).lossMemo p 3 else t1
      pdone rsOK (((t2.abortSweep p).toDisabled p).updPort p (fun x => { x with detArmed := false }))))

/-- PORT_CONFIG: PORT_MODE, the dialect offer and ERASE are written; with RESTART the port starts over. -/
def execPortConfig (id : BitVec 16) (s : State) : Out :=
  .next (s.runCmd 0x12 id.toNat (fun c going t =>
    let p := c.tindex
    if going then (.run, t)
    else if c.arg2 / 512 ≠ 0 ∨ c.arg2 / 8 % 32 ≠ 0 then pdone rsBADARG t
    else t.needDoms [quadOf p] (fun u =>
      let u1 := (u.supWrite (Reg.PORT_MODE p) c.w2).2
      let u2 := (u1.supWrite (Reg.PORT_DIALECTCFG p) (putFld (u1.reg (Reg.PORT_DIALECTCFG p)) 2 0 (c.arg2 % 8))).2
      let u3 := (u2.supWrite (Reg.PORT_FECCFG p) (putFld (u2.reg (Reg.PORT_FECCFG p)) 0 0 (c.arg2 / 256))).2
      if c.opt = false ∨ (u3.restartable p = false ∧ u3.pst p ≠ stListen) then pdone rsOK u3
      else if u3.restartable p then pdone rsOK (u3.cmdRestart p)
      else (.run, u3.newAttempt p))))

/-- PORT_RESTART (R237, R239). -/
def execPortRestart (id : BitVec 16) (s : State) : Out :=
  .next (s.runCmd 0x13 id.toNat (fun c going t =>
    let p := c.tindex
    if going then (.run, t)
    else if t.restartable p then pdone rsOK (t.cmdRestart p)
    else if t.pst p = stListen then (.run, t.newAttempt p)
    else pdone rsBADSTATE t))

/-! ## Sleep and wake -/

/-- PORT_SLEEP (R155, R156): refused while frames bar it; the port sleeps at once where TC10 gives no handshake; else it joins the
partner's handshake or requests sleep itself. -/
def execPortSleep (id : BitVec 16) (s : State) : Out :=
  .next (s.runCmd 0x14 id.toNat (fun c going t =>
    let p := c.tindex
    if going then (.run, t)
    else if t.pst p ≠ stUp then pdone rsBADSTATE t
    else if t.framesBarSleep p then pdone rsREFUSED t
    else if hasTc10 (t.pmode p) = false then
      pdone rsOK (t.sleepNow p)
    else if (t.port p).sleepHs = 1 then (.run, t.updPort p (fun x => { x with sleepCmd := true }))
    else
      match t.askSleep p with
      | some u => (.run, u)
      | none => pdone rsREFUSED t))

/-- PORT_WAKE (R159, R161): it goes on until the port has entered LISTEN. -/
def execPortWake (id : BitVec 16) (s : State) : Out :=
  .next (s.runCmd 0x15 id.toNat (fun c going t =>
    let p := c.tindex
    if going then (.run, t)
    else if t.asleep p then (.run, t)
    else pdone rsBADSTATE t))

/-! ## Carding -/

/-- PORT_CARD (R184); the sweep goes by PORT_CARDCFG as it stands now (R193). -/
def execPortCard (id : BitVec 16) (s : State) : Out :=
  .next (s.runCmd 0x16 id.toNat (fun c going t =>
    let p := c.tindex
    let st := t.pst p
    if going then (.run, t)
    else if st = stTrain ∨ st = stSleep ∨ st = stFault ∨ st = stCarding then pdone rsBADSTATE t
    else t.needDoms [quadOf p] (fun u =>
      let u1 := (u.setReg (Reg.PORT_CARDSTAT p) (putFld 0 47 44 1)).updPort p (fun x => { x with cardCfg := u.reg (Reg.PORT_CARDCFG p) })
      if st = stRoving then (.run, u1.sweepStart p)
      else
        let u2 := if st = stUp then (u1.cause p 3).lossMemo p 3 else u1
        (.run, (u2.enter p stCarding).updPort p (fun x => { x.noAttempt with cardFrom := st, fromRov := false })))))

/-! ## Fingerprints (R190, R237) -/

/-- A fingerprint is stored in the runtime state region (R192, R249): FPVALID, FPMODE, FPGAIN. -/
def State.setFp (s : State) (p : Nat) (ws : List Word) : State :=
  let w := nth 0#48 ws 0
  ((s.updPort p (fun x => { x with fp := ws })).setReg (Reg.PORT_FPSTAT p)
    (BitVec.ofNat 48 (2 ^ 47 + fld w 43 40 * 2 ^ 40 + fld w 37 32 * 2 ^ 32))).saveRuntime

/-- The bank of the runtime state region that holds fingerprints. -/
def State.rtDoms (s : State) : List Nat := (banksOf (s.rf Reg.MB_RTBASE 31 0) 262144).map (· + 36)

/-- A snapshot for PORT_FPCAPTURE (R190): the serving half is mirrored (R92, R189), and its taps are added to the sums. -/
def State.fpTake (s : State) (p : Nat) : State :=
  let h := s.servingHalf p
  ((s.copyHalf p).bump (Reg.PORT_FPSNAP p)).updPort p (fun x => { x with
    fpSum := (List.range 1152).map (fun i => nth 0 x.fpSum i + pairTap (s.halfWord p h (i / 2)) i), fpCount := x.fpCount + 1 })

/-- The words of the fingerprint that 16 snapshots give: the mean of each tap, to the nearest; header, positions and enables of the last
snapshot (log entry 36). -/
def State.fpMean (s : State) (p : Nat) : List Word :=
  let x := s.port p
  let ws := s.fpWords p
  let avg := fun (i : Nat) => (nth 0 x.fpSum i + 8) / 16
  ws.take 2 ++ (List.range 576).map (fun k => tapPair (avg (2 * k)) (avg (2 * k + 1))) ++ ws.drop 578

/-- PORT_FPCAPTURE: the first call starts it; each further call is one of 16 snapshots at 100 ms spacing, a refused mirror none (R189), and
none while the port is write-delegated to a USER spindle (R244); the last stores the fingerprint. -/
def execPortFpcapture (id : BitVec 16) (s : State) : Out :=
  .next (s.runCmd 0x17 id.toNat (fun c going t =>
    let p := c.tindex
    if t.pst p ≠ stUp then pdone rsBADSTATE t
    else if going = false then (.run, t.updPort p (fun x => { x with fpSum := [], fpCount := 0 }))
    else if t.userPort p then (.run, t)
    else if t.cswRefusal p ≠ 0 then (.run, t.refuseCsw p (t.cswRefusal p))
    else if (t.port p).fpCount + 1 < 16 then (.run, t.fpTake p)
    else t.needDoms t.rtDoms (fun u =>
      let v := u.fpTake p
      pdone rsOK (v.setFp p (v.fpMean p)))))

/-- A bobbin range of n words for a command. -/
def inBobbin (a n : Nat) : Bool := decide (0x1000000 ≤ a ∧ a + n ≤ 0x1800000)

/-- PORT_FPREAD: the 580 words to the bobbin. -/
def execPortFpread (id : BitVec 16) (s : State) : Out :=
  .next (s.runCmd 0x18 id.toNat (fun c _ t =>
    let p := c.tindex
    if inBobbin c.arg1 580 = false then pdone rsBADARG t
    else t.needDoms (quadOf p :: (t.rtDoms ++ entryDoms c.arg1 580)) (fun u =>
      if u.rb (Reg.PORT_FPSTAT p) 47 = false then pdone rsBADSTATE u
      else (.done rsOK (BitVec.ofNat 48 580), u.setBobWords (c.arg1 - 0x1000000) (u.port p).fp))))

/-- The header is a fingerprint of the port's capabilities: a mode with an echo canceller that the port supports. -/
def State.fpHeaderOk (s : State) (p : Nat) (w0 w1 : Word) : Bool :=
  let m := fld w0 43 40
  decide (2 ≤ m ∧ m ≤ 7) && s.rb (Reg.PORT_CAP p) m && decide (w0 &&& 0xF3F00000000#48 = w0 ∧ w1 &&& 0x3FF#48 = w1)

/-- PORT_FPRESTORE. -/
def execPortFprestore (id : BitVec 16) (s : State) : Out :=
  .next (s.runCmd 0x19 id.toNat (fun c _ t =>
    let p := c.tindex
    if inBobbin c.arg1 580 = false then pdone rsBADARG t
    else t.needDoms (quadOf p :: (t.rtDoms ++ entryDoms c.arg1 580)) (fun u =>
      let ws := u.bobWords (c.arg1 - 0x1000000) 580
      if u.fpHeaderOk p (nth 0#48 ws 0) (nth 0#48 ws 1) = false then pdone rsBADARG u
      else pdone rsOK (u.setFp p ws))))

/-! ## Coefficients, PLCA, skeins -/

/-- PORT_COEFLOAD (R91–R95, R237): the words are written to the idle half, and with SWAP the halves change. It waits while the port is
write-delegated to a USER spindle (R244), and behind a CWR to its roving queue that is written in part (R212). -/
def execPortCoefload (id : BitVec 16) (s : State) : Out :=
  .next (s.runCmd 0x1A id.toNat (fun c going t =>
    let p := c.tindex
    let off := c.arg2 % 1024
    let n := c.arg2 / 1024 % 1024 + 1
    if going then (.run, t)
    else if 2 ^ 20 ≤ c.arg2 ∨ 0x253 < off + n - 1 ∨ inBobbin c.arg1 n = false then pdone rsBADARG t
    else if t.userPort p ∨ t.portHeld p then (.wait [], t)
    else t.needDoms (quadOf p :: entryDoms c.arg1 n) (fun u =>
      let x := u.coefWrite p off (u.bobWords (c.arg1 - 0x1000000) n)
      if x.1 ≠ 0 then (.done rsREFUSED (BitVec.ofNat 48 x.1), x.2)
      else if c.opt = false then pdone rsOK x.2
      else
        let r := x.2.cswRefusal p
        if r ≠ 0 then (.done rsREFUSED (BitVec.ofNat 48 r), x.2.refuseCsw p r)
        else (.run, x.2.setRb (Reg.PORT_COEFSTAT p) 6 true))))

/-- PORT_PLCA (R164): the new parameters wait for the next BEACON. -/
def execPortPlca (id : BitVec 16) (s : State) : Out :=
  .next (s.runCmd 0x1B id.toNat (fun c going t =>
    let p := c.tindex
    if going then (.run, t)
    else if t.pst p ≠ stUp ∨ t.pmode p ≠ 1 then pdone rsBADSTATE t
    else
      let w := clampPort 8 0 (c.w2 &&& 0xFFFFFFFFF#48)
      let cur := (t.port p).applPlca
      if fld w 4 0 ≠ fld cur 4 0 ∨ fld w 11 11 ≠ fld cur 11 11 then pdone rsBADARG t
      else (.run, t.updPort p (fun x => { x with plcaNext := some w }))))

/-- SKEIN_SET (R113). -/
def execSkeinSet (id : BitVec 16) (s : State) : Out :=
  .next (s.runCmd 0x20 id.toNat (fun c _ t =>
    let g := c.tindex / 8
    t.needDoms [24 + g] (fun u =>
      let x := u.supWrite (Reg.LG_SKEIN g (c.tindex % 8)) c.w2
      if x.1 = stOK then pdone rsOK x.2
      else (.done rsREFUSED (BitVec.ofNat 48 (x.2.rf (Reg.LG_SKCFGSTAT g) 3 0)), x.2))))

end Sys2Proof.Machine
end

