-- ==== Sys2Proof/Machine/Configure.lean ====
section
/-! DEFINITION. Meanings of the configuration section (R395, R398): its records, and the start of the runtime after the last. -/

namespace Sys2Proof.Machine

/-- A record fails: CSP0_CFGERR, and CFGFAIL keeps the index of the first (R395). -/
def State.recordFails (s : State) : State :=
  let s1 := s.bump Reg.CSP0_CFGERR
  if s.rf Reg.CSP0_BOOTSTAT 35 16 = 0xFFFFF then s1.setRf Reg.CSP0_BOOTSTAT 35 16 s.boot.cfgIx else s1

/-- On to the next record. -/
def State.nextRecord (s : State) : State := { s with boot := { s.boot with cfgIx := s.boot.cfgIx + 1 } }

/-- The configuration is applied (R398): the runtime of slot k, or the ROM's, is loaded into slot A of every RUN spindle, and they start. -/
def State.configEnd (s : State) (k : Nat) : State :=
  let w := s.slotImg k
  let s1 : State := { s with boot := { s.boot with phase := 3 } }
  let s2 :=
    if bitOf (w 0) 18 then
      s1.loadRuntime 0 ((imgWords w (bodyAt + fld (w 5) 31 0) (fld (w 6) 31 0)).take 3840) (fld (w 7) 47 32)
        (apiRange (fld (w 6) 47 40) (fld (w 6) 39 32))
    else s1.setRb Reg.MB_RTSTAT 40 true
  forAll (fun t n => (t.setRb (Reg.SPN_CTL n) 47 false).startSpn n) s.runSpindles s2

/-- A word write of a record, or a complete guarded pair: its final status, none while it must wait. -/
def State.recordWrite (s : State) (pair : Bool) (a : Nat) (v : Word) : Option Nat × State :=
  let go := fun (t : State) (b : Nat) (w : Word) => t.attempt { req := s.supSpn, write := true, addr := b, data := w, sink := .bare }
  match go s a v with
  | (none, t) => (none, t)
  | (some (st, _), t) =>
    if pair then
      match go t (a + 1) (~~~v) with
      | (some (st2, _), u) => (some st2, u)
      | (none, u) => (none, u)
    else (some st, t)

/-- CONFIG_RECORD (R395): the record at cfgIx of the winning slot. -/
def execConfigRecord (s : State) : Out :=
  match s.boot.win with
  | none => .next s
  | some k =>
    if s.boot.phase ≠ 2 ∨ s.supUp = false ∨ s.boot.cfgWait then .next s
    else
      let i := s.boot.cfgIx
      let at_ := bodyAt + fld (s.slotImg k 3) 31 0 + 2 * i
      let w0 := s.slotImg k at_
      let v := s.slotImg k (at_ + 1)
      let kind := fld w0 47 46
      let a := fld w0 31 0
      if fld (s.slotImg k 4) 31 0 ≤ i ∨ kind = 3 then .next (s.configEnd k)
      else if kind = 2 then
        .next ({ s.nextRecord with boot := { s.nextRecord.boot with cfgWait := true } } : State)
      else if a = Reg.LC_STATE then .next s.recordFails.nextRecord
      else
        match s.recordWrite (decide (kind = 1)) a v with
        | (none, t) => .next t
        | (some st, t) => .next (if st = stOK then t else t.recordFails).nextRecord

/-- CONFIG_WAIT_EXPIRE (R395). -/
def execConfigWaitExpire (s : State) : Out := .next { s with boot := { s.boot with cfgWait := false } }

end Sys2Proof.Machine
end

