-- ==== Sys2Proof/Machine/HostRx.lean ====
section
/-! DEFINITION. Management requests and frames from the host (R28, R39, R41, R50–R53, R292, R293, R381–R386). -/

namespace Sys2Proof.Machine

/-! ## Command words (R50, R381) -/

/-- A management command: op 0 read, 1 write, 2 burst read, 3 burst write; words; SEQ; address. -/
structure MgmtCmd where
  op : Nat
  count : Nat
  seq : Nat
  addr : Nat
deriving DecidableEq, Repr

/-- A command word; the count field counts for a burst only. -/
def mgmtCmd (w : Word) : MgmtCmd :=
  let op := fld w 47 46
  { op := op, count := if 2 ≤ op then fld w 45 40 + 1 else 1, seq := fld w 39 32, addr := fld w 31 0 }

def MgmtCmd.isWrite (c : MgmtCmd) : Bool := decide (c.op % 2 = 1)

/-- Data words that follow the command. -/
def MgmtCmd.dataWords (c : MgmtCmd) : Nat := if c.isWrite then c.count else 0

/-- Words of its reply. -/
def MgmtCmd.replyWords (c : MgmtCmd) : Nat := if c.isWrite then 1 else 1 + c.count

/-- A guarded pair that the host holds lapses. -/
def State.guardLapse (s : State) : State :=
  match s.guardSlot reqHost with
  | some g => (s.setGuard reqHost none).guardFault g.addr
  | none => s

/-- Perform the words of a command, given its data, each under its own status; `slow`: a word takes more than the guard window (R46). -/
def State.mgmtWords (s : State) (slow : Bool) (c : MgmtCmd) (k : Sink) (data : List Word) : State :=
  let go := fun (t : State) (w : Waiting) => (if slow then t.guardLapse else t).access w
  if c.isWrite then
    forAll (fun t (x : Word × Nat) => go t { req := reqHost, write := true, addr := (c.addr + x.2) % 2 ^ 32, data := x.1, sink := k })
      (data.zip (List.range data.length)) s
  else
    forAll (fun t i => go t { req := reqHost, write := false, addr := (c.addr + i) % 2 ^ 32, data := 0, sink := k }) (List.range c.count) s

/-! ## CSP1 (R381–R386) -/

/-- CSP1 accepts frames: ROOT runs, and start-up has moved the core family to its loop (R398). -/
def State.csp1Up (s : State) : Bool := s.rootUp && !s.boot.coreDue

/-- A word is cut, or a frame ends inside its data (R384). -/
def State.csp1Cut (s : State) : State :=
  ({ s with csp1 := { s.csp1 with cutMark := true } } : State).bump Reg.CSP1_CUTCNT

/-- SCK periods of a word on the data lines in use (R46). -/
def State.csp1Periods (s : State) : Nat := match s.rf Reg.CSP1_CFG 45 44 with | 0 => 24 | 1 => 6 | _ => 3

/-- A word of the frame takes more than the 300 ns that let a guarded pair meet its window (R46). -/
def State.csp1Slow (s : State) (f : CspFrame) : Bool := decide (300 * f.sck < s.csp1Periods * 10 ^ 6)

/-- The host phase of a selected frame: the command is executed, or voided behind 4 replies. What follows its last word is turnaround. -/
def State.csp1Host (s : State) (slow : Bool) (cmd : Word) (data : List Word) : State :=
  let c := mgmtCmd cmd
  let need := c.dataWords
  let ws := data.take need
  let short := decide (ws.length < need)
  let s1 := if short then s.csp1Cut else s
  if 4 ≤ s.csp1.replies.length then s1.bump Reg.CSP1_VOIDCNT
  else
    let b : ReplyBuf := {
      id := s.csp1.nextId, seq := c.seq, start := c.addr, left := if c.isWrite then ws.length else c.count
      addr := if short then (c.addr + ws.length) % 2 ^ 32 else c.addr, burst := decide (2 ≤ c.op), cut := short }
    let s2 : State := { s1 with csp1 := { s1.csp1 with replies := s1.csp1.replies ++ [b], nextId := s1.csp1.nextId + 1 } }
    s2.mgmtWords slow c (.csp1 b.id) ws

/-- Replies delivered in a device phase of n words, oldest first: the words driven, the replies that stay, SEQ of the last delivered,
whether a reply carried FRAME_CUT for an earlier cut, and placeholders for a pending operation. `mark`: FRAME_CUT is due. -/
def devicePhase : List ReplyBuf → Nat → Nat → Bool → List Word × List ReplyBuf × Nat × Bool × Nat
  | [], n, lastSeq, mark =>
    let p : ReplyBuf := { id := 0, seq := lastSeq, start := 0xFFFFFFFF, left := 0, addr := 0xFFFFFFFF }
    (List.replicate n (p.statusWord true false), [], lastSeq, mark, 0)
  | r :: rest, n, lastSeq, mark =>
    if n = 0 then ([], r :: rest, lastSeq, mark, 0)
    else if r.left ≠ 0 then
      let p : ReplyBuf := { r with status := stOK, addr := r.start }
      (List.replicate n (p.statusWord true false), r :: rest, lastSeq, mark, 1)
    else
      let ws := r.words (r.cut || mark)
      if ws.length ≤ n then
        let x := devicePhase rest (n - ws.length) r.seq false
        (ws ++ x.1, x.2.1, x.2.2.1, x.2.2.2.1, x.2.2.2.2)
      else (ws.take n, r :: rest, lastSeq, mark, 0)

/-- The device phase: n whole words, over the replies that were pending before this frame. -/
def State.csp1Device (s : State) (before n : Nat) (cut : Bool) : State :=
  let old := s.csp1.replies.filter (fun r => decide (r.id < before))
  let new := s.csp1.replies.filter (fun r => !decide (r.id < before))
  let x := devicePhase old n s.csp1.lastSeq s.csp1.cutMark
  let s1 := ({ s with csp1 := { s.csp1 with
    replies := x.2.1 ++ new, lastSeq := x.2.2.1, cutMark := x.2.2.2.1, sent := x.1 } } : State).addCnt Reg.CSP1_UNDERCNT x.2.2.2.2
  if cut then s1.csp1Cut else s1

/-- A frame that the unselected path still executes: a burst write of two words to ID_MGMTPATH (R53, R386). -/
def pathBurst (f : CspFrame) : Bool :=
  match f.words with
  | c :: _ :: _ :: _ => decide ((mgmtCmd c).op = 3 ∧ (mgmtCmd c).count = 2 ∧ (mgmtCmd c).addr = Reg.ID_MGMTPATH)
  | _ => false

/-- Some pin serves as CSP1's select, its function not in change (R379, R404, R405). -/
def State.csp1Pin (s : State) : Bool :=
  (List.range 31).any (fun k => decide (s.rf (Reg.PIN_FUNC k) 1 0 = 2) && !s.rb (Reg.PIN_FUNC k) 47)

/-- CSP1_FRAME (R381–R386). -/
def execCsp1Frame (f : CspFrame) (s : State) : Out :=
  if s.csp1Up = false ∨ s.csp1Pin = false then .next s
  else if s.rb Reg.CSP1_CFG 47 then .refused .csp1MasterMode
  else
    let before := s.csp1.nextId
    let s0 : State := { s with csp1 := { s.csp1 with lines := none, sent := [] } }
    let idle := s0.rb Reg.ID_MGMTPATH 0
    let pending := !s0.csp1.replies.isEmpty
    match f.words with
    | [] => .next (if idle then s0.bump Reg.CSP1_IGNCNT else if f.cut then s0.csp1Cut else s0)
    | cmd :: data =>
      if idle ∧ pathBurst f = false then
        let s1 := (s0.bump Reg.CSP1_FRAMES).bump Reg.CSP1_IGNCNT
        .next (if pending then s1.csp1Device before f.devWords f.devCut else s1)
      else
        let s1 := (s0.bump Reg.CSP1_FRAMES).csp1Host (s0.csp1Slow f) cmd data
        .next (if idle ∧ pending = false then s1 else s1.csp1Device before f.devWords f.devCut)

/-- CSP1_SELECT_TIMEOUT (R385): LINES returns to one line and the frame is void. -/
def execCsp1SelectTimeout (s : State) : Out :=
  if s.csp1Up ∧ s.csp1Pin ∧ s.rb Reg.CSP1_CFG 47 = false then
    .next { s.setRf Reg.CSP1_CFG 45 44 0 with csp1 := { s.csp1 with lines := none } }
  else .next s

/-! ## In-band management (R50, R51) -/

/-- The commands of a word sequence with their data words; none where it ends inside a write. `fuel` bounds the words. -/
def parseMgmt : Nat → List Word → Option (List (MgmtCmd × List Word))
  | _, [] => some []
  | 0, _ :: _ => none
  | fuel + 1, w :: t =>
    let c := mgmtCmd w
    if t.length < c.dataWords then none
    else (parseMgmt fuel (t.drop c.dataWords)).map (fun l => (c, t.take c.dataWords) :: l)

/-- The commands that are executed, and the first whose reply would not fit into `room` words with one more status word. -/
def fitMgmt : List (MgmtCmd × List Word) → Nat → List (MgmtCmd × List Word) × Option MgmtCmd
  | [], _ => ([], none)
  | (c, ws) :: t, room =>
    if c.replyWords + 1 ≤ room then
      let x := fitMgmt t (room - c.replyWords)
      ((c, ws) :: x.1, x.2)
    else ([], some c)

/-- Bytes before the payload: DA, SA, a VLAN tag if there is one, EtherType. -/
def headLen (bs : List Byte) : Nat := if (vlanTci bs).isSome then 18 else 14

/-- The empty reply of a command. -/
def replyFor (id : Nat) (c : MgmtCmd) : ReplyBuf := { id := id, seq := c.seq, start := c.addr, left := c.count, addr := c.addr, burst := decide (2 ≤ c.op) }

/-- STATUS TOOLONG of the command that did not fit. -/
def tooLong (c : MgmtCmd) : Word := ({ replyFor 0 c with status := stTOOLONG } : ReplyBuf).statusWord false false

/-- A management request whose frame has passed its checks (R50, R51). -/
def State.inbandRequest (s : State) (bs : List Byte) : State :=
  let h := headLen bs
  let body := (bs.take (bs.length - 4)).drop h
  let len := bytesVal (body.take 2)
  if bytesVal ((bs.drop (h - 2)).take 2) ≠ 0x88B5 then s
  else if len % 6 ≠ 0 ∨ body.length - 2 < len then s.bump (Reg.HL_MGMTBAD 0)
  else
    let ws := wordsOfBytes ((body.drop 2).take len)
    match parseMgmt ws.length ws with
    | none => s.bump (Reg.HL_MGMTBAD 0)
    | some cmds =>
      let x := fitMgmt cmds ((9216 - h - 6) / 6)
      let ids := (List.range x.1.length).map (fun i => s.nextReply + i)
      let todo := x.1.zip ids
      let b : InbandBuf := {
        id := s.nextReply
        head := (bs.drop 6).take 6 ++ bs.take 6 ++ (bs.drop 12).take (h - 12)
        parts := todo.map (fun y => replyFor y.2 y.1.1)
        tail := match x.2 with
          | some c => [tooLong c]
          | none => [] }
      let s1 : State := { s with inband := s.inband ++ [b], nextReply := s.nextReply + x.1.length }
      (forAll (fun t (y : (MgmtCmd × List Word) × Nat) => t.mgmtWords false y.1.1 (.inband y.2) y.1.2) todo s1).sendInband

/-! ## Frames on a host lane (R292, R293) -/

/-- The lane's receiver takes frames: RUN, aligned, awake, its domain on. -/
def State.laneHears (s : State) (n : Nat) : Bool :=
  s.laneOn n && decide (s.lst n = laRun) && !s.rb (Reg.HL_STAT n) 38 && s.aligned n

/-- A frame from the host on lane n: the first check that fails discards and counts it. A frame on the spindle channel gets the device's own
descriptor (R24, R289): PRI 0 and no colour, as no queue and no traffic manager has given it one (DESIGN CHOICE, log entry 152). -/
def State.laneReceive (s : State) (n : Nat) (f : LaneFrame) : State :=
  let port := fld f.w0 47 41
  let ver := s.rf (Reg.HL_STAT n) 35 32
  let len := f.bytes.length
  let ok := fcsGood f.bytes
  let mgmt := decide (n = 0 ∧ port = 112)
  if s.laneHears n = false then s
  else if f.good = false ∨ f.codeErr ∨ 9216 < len then s.bump (Reg.HL_RXABORT n)
  else if fld f.w1 7 0 ≠ hcrc f.w0 f.w1 then s.bump (Reg.HL_RXHCRC n)
  else if fld f.w1 15 8 ≠ ver then s.bump (Reg.HL_RXHCRC n)
  else if mgmt ∧ s.rb Reg.ID_MGMTPATH 0 = false then s.bump (Reg.HL_MGMTDROP 0)
  else if mgmt = false ∧ port ≠ 96 + n ∧ (port ≠ 114 ∨ ver ≠ 3) then s.bump (Reg.HL_RXBADID n)
  else if len < 64 ∨ fld f.w1 35 22 ≠ len then s.bump (Reg.HL_RXLEN n)
  else if ok = false ∧ port ≠ 96 + n then s.bump (Reg.HL_RXFCS n)
  else
    let s1 := if ok then s.bump (Reg.HL_RXFRM n) else s.bump (Reg.HL_RXFCS n)
    if mgmt then s1.inbandRequest f.bytes
    else if port = 114 then
      let d : Desc := { src := 114, tsNs := tsNsOf f.first, stream := fld f.w1 41 36, len := len }
      let s2 := if s1.spnTakes d.stream then s1.store d f.bytes 1 else s1
      s2.toSpn d.stream d 0 f.bytes s1.tm.nextFid
    else
      (s1.pipeline { src := 96 + n, fcsBad := !ok, tsNs := tsNsOf f.first, len := len } (fld f.w0 37 36) (timeNs f.first) f.bytes).2

/-- HL_FRAME_RECEIVE (R288, R292): what came before the frame, and the frame. -/
def execHlFrameReceive (n : LaneNo) (f : LaneFrame) (s : State) : Out := .next ((s.groupsIn n f.pre).laneReceive n f)

/-- MGMT_REQUEST_FRAME (R50, R51): a frame on HL0. -/
def execMgmtRequestFrame (f : LaneFrame) (s : State) : Out := .next ((s.groupsIn 0 f.pre).laneReceive 0 f)

end Sys2Proof.Machine
end

