-- ==== Sys2Proof/Machine/PowerRows.lean ====
section
/-! DEFINITION. Meanings of the power controller's own events (R339–R343). -/

namespace Sys2Proof.Machine

/-- Blocks of a domain: the ports of a quad, the spindles of a cluster, the lanes of a host quad. -/
def blocksOf (d : Nat) : Nat := if d < 24 then 4 else if 30 ≤ d ∧ d < 36 then 8 else if 44 ≤ d ∧ d < 48 then 4 else 1

/-- HANDSHAKE_DELAY_EXPIRE (R340): the block answers again. A second delay refuses with reason 5; the command does not say which block
delayed, so UNIT is a free value among the domain's blocks (log entry 2). Else the tests are repeated. -/
def execHandshakeDelayExpire (d : Fin 50) (again : Bool) (s : State) : Out :=
  let x := s.dom d
  if (x.chg = 1 ∨ x.chg = 2) ∧ x.delayed then
    if again then
      let r := s.drawNat 48
      .next ((r.2.refuseTarget d (5, r.1 % blocksOf d)).settleNext d)
    else
      match s.entryReason d true (decide (x.chg = 1) && s.retMem d 0) with
      | some r => .next ((s.refuseTarget d r).settleNext d)
      | none => .next (s.updDom d (fun y => { y with delayed := false }))
  else .next s

/-- DOMAIN_ENTRY_DONE (R338, R340, R343). -/
def execDomainEntryDone (d : Fin 50) (s : State) : Out := .next ((s.entryDone d).settleNext d)

/-- DOMAIN_WAKE_DONE (R339, R342, R370): the domain is ON, reactions that waited for it follow, and the stalled requests proceed. -/
def execDomainWakeDone (d : Fin 50) (s : State) : Out :=
  if (s.dom d).chg = 3 then
    let t := s.wakeDone d
    .next (if (t.dom d).st = 0 then (t.reactLate d).pump else t)
  else .next s

/-- Fault 0x0ED: a domain was not ready in time (R342). -/
def State.wakeLate (s : State) (d : Nat) : State := s.raise 0x0ED 0x2E d

/-- The oldest operation of spindle n that stalls on a domain, with its tag and the domain. -/
def State.stalledOp (s : State) (n : Nat) : Option (Nat × TagOp × Nat) :=
  (List.range 8).foldl (fun best t =>
    match (s.spn n).op t with
    | none => best
    | some o =>
      match opDomain o with
      | none => best
      | some d =>
        if o.done.isSome ∨ o.spec ∨ (s.spn n).replays o ∨ s.gate d ≠ .stall then best
        else
          match best with
          | some (_, b, _) => if o.seq < b.seq then some (t, o, d) else best
          | none => some (t, o, d)) none

/-- The oldest runtime command that waits on a domain: its position and the domain. -/
def State.stalledCmd (s : State) : Option (Nat × Nat) :=
  (s.rt.cmds.zip (List.range s.rt.cmds.length)).findSome? (fun x =>
    ((List.range 50).find? (s.cmdWaitsOn x.1)).map (fun d => (x.2, d)))

/-- REQUEST_ABSENT_TIMEOUT (R238, R342): the requester's stalled request completes ABSENT, fault 0x0ED names the domain, the wake goes on.
For a spindle it may be a tagged operation, and for the supervisor's a runtime command that has asked for a domain. -/
def execRequestAbsentTimeout (r : Requester) (s : State) : Out :=
  let k := reqNo r
  let late := fun (t : Unit → State) (d : Nat) => ((t ()).wakeLate d).pump
  match (s.firstOf k).bind (fun h => (domainOf h.addr).bind (fun d => if s.gate d = .stall then some d else none)) with
  | some d => .next (late (fun _ => s.firstAbsent k) d)
  | none =>
    if 48 ≤ k then .next s
    else
      match s.stalledOp k with
      | some (t, o, d) => .next (late (fun _ => s.setTag k t { o with done := some stABSENT }) d)
      | none =>
        if k ≠ s.supSpn then .next s
        else
          match s.stalledCmd with
          | some (i, d) =>
            let c := nth { w0 := 0, w1 := 0, w2 := 0, w3 := 0 } s.rt.cmds i
            .next (late (fun _ => s.putCmd i { c with st := .finished rsABSENT 0 (s.cmdGen c), need := [] }) d)
          | none => .next s

end Sys2Proof.Machine
end

