-- ==== Sys2Proof/Machine/Vector.lean ====
section
/-! DEFINITION. Meanings of the vector instructions (R200, R208, R209). -/

namespace Sys2Proof.Machine

/-! ## Formats and rounding (R200) -/

def sat24 (x : Int) : Int := clampInt (-(2 ^ 23)) (2 ^ 23 - 1) x
def sat48 (x : Int) : Int := clampInt (-(2 ^ 47)) (2 ^ 47 - 1) x
/-- Arithmetic right shift by s with rounding. -/
def rnd (x : Int) (s : Nat) : Int := if s = 0 then x else (x + 2 ^ (s - 1)) / 2 ^ s
/-- Arithmetic right shift. -/
def asr (x : Int) (s : Nat) : Int := x / 2 ^ s
/-- The halves of a word, Q1.22. -/
def hi (w : Word) : Int := (w.extractLsb' 24 24).toInt
def lo (w : Word) : Int := (w.extractLsb' 0 24).toInt
/-- A word of two halves. -/
def halves (h l : Int) : Word := BitVec.ofInt 24 h ++ BitVec.ofInt 24 l
/-- A 48-bit lane of an integer. -/
def lane48 (x : Int) : Word := BitVec.ofInt 48 x
/-- Complex product, second factor conjugated on demand: exact real and imaginary part. -/
def cmulRe (a b : Word) (conj : Bool) : Int := if conj then hi a * hi b + lo a * lo b else hi a * hi b - lo a * lo b
def cmulIm (a b : Word) (conj : Bool) : Int := if conj then lo a * hi b - hi a * lo b else hi a * lo b + lo a * hi b

/-! ## Issue -/

/-- A vector instruction: must-be-zero bits, scalar registers it names, and its effect on the spindle. -/
def State.issueV (s : State) (n opc : Nat) (w : BitVec 40) (z : Nat) (regs : List Nat) (f : Spindle → Spindle) : State :=
  s.issue n opc w (zeros w z) regs true (fun t => .retire (t.updSpn n f))

/-- vD.i := f vA.i vB.i. -/
def State.issueVab (s : State) (n opc : Nat) (w : BitVec 40) (fn : Nat) (f : Word → Word → Word) : State :=
  s.issueV n opc w (zV true true true false false fn) [] (fun x => x.setVr (opVD w) (fun i => f (x.vl (opVA w) i) (x.vl (opVB w) i)))

/-- hA and hB of R208, and SH. -/
def selA (w : BitVec 40) (a : Word) : Int := if natBit (opFN w) 0 then lo a else hi a
def selB (w : BitVec 40) (b : Word) : Int := if natBit (opFN w) 1 then lo b else hi b
def opSH (w : BitVec 40) : Nat := opFN w / 4 % 16

/-- The shifted product of VMAC and VMUL. -/
def mulSh (w : BitVec 40) (a b : Word) : Int := asr (selA w a * selB w b) (opSH w)

/-- Two results of one instruction, vD then vC. Where D and C name one register the spec states no result: free values (log entry 22). -/
def State.retPair (s : State) (n d c : Nat) (f g : Nat → Word) : Act :=
  if d = c then
    .retire (({ s with free := s.free + 8 } : State).updSpn n (fun x => x.setVr d (fun i => Config.freeWord (s.free + i))))
  else .retire (s.updSpn n (fun x => (x.setVr d f).setVr c g))

/-! ## Tap words (R97, R209) -/

/-- Any of SETTLE, OVR, ERAS, LPI. -/
def tapMarked (w : Word) : Bool := bitOf w 47 || bitOf w 46 || bitOf w 45 || bitOf w 44

/-- A 10-bit code as the Q1.22 half s · 2^13. -/
def tapHalf (w : Word) (pos : Nat) : Int := signed 10 (fld w (39 - 10 * pos) (30 - 10 * pos)) * 2 ^ 13

/-- A lane of VUNPK. -/
def unpkLane (x : Spindle) (w : BitVec 40) (i : Nat) : Word :=
  let fn := opFN w
  if natBit fn 2 then
    let k := 8 * (fn % 2) + i
    let src := x.vl (opVA w) (k / 2)
    if natBit fn 3 && tapMarked src then 0 else halves (tapHalf src (2 * (k % 2))) (tapHalf src (2 * (k % 2) + 1))
  else
    let k := 8 * (fn % 4) + i
    let src := x.vl (opVA w) (k / 4)
    if natBit fn 3 && tapMarked src then 0 else halves (tapHalf src (k % 4)) 0

/-- The flags VFLAG selects: FN[0] SETTLE, [1] OVR, [2] ERAS, [3] LPI. -/
def flagHit (fn : Nat) (w : Word) : Bool :=
  (natBit fn 0 && bitOf w 47) || (natBit fn 1 && bitOf w 46) || (natBit fn 2 && bitOf w 45) || (natBit fn 3 && bitOf w 44)

/-- A mask with bit i for each lane that passes a test. -/
def laneMask (p : Nat → Bool) : Nat := (List.range 8).foldl (fun m i => if p i then m + 2 ^ i else m) 0

/-- A part of a butterfly result: the exact Q2.44 sum rounded to Q1.22 and saturated, halved on demand. -/
def bflyPart (w : BitVec 40) (a p : Int) : Int :=
  let r := sat24 (rnd (a * 2 ^ 22 + p) 22)
  if natBit (opFN w) 0 then rnd r 1 else r

/-! ## Meanings -/

/-- VADD. -/
def execVadd (n : SpnNo) (w : BitVec 40) (s : State) : Out := .next (s.issueVab n 0x60 w 0 (· + ·))
/-- VSUB. -/
def execVsub (n : SpnNo) (w : BitVec 40) (s : State) : Out := .next (s.issueVab n 0x61 w 0 (· - ·))
/-- VADDH. -/
def execVaddh (n : SpnNo) (w : BitVec 40) (s : State) : Out := .next (s.issueVab n 0x62 w 0 (fun a b => halves (sat24 (hi a + hi b)) (sat24 (lo a + lo b))))
/-- VSUBH. -/
def execVsubh (n : SpnNo) (w : BitVec 40) (s : State) : Out := .next (s.issueVab n 0x63 w 0 (fun a b => halves (sat24 (hi a - hi b)) (sat24 (lo a - lo b))))
/-- VAND. -/
def execVand (n : SpnNo) (w : BitVec 40) (s : State) : Out := .next (s.issueVab n 0x64 w 0 (· &&& ·))
/-- VOR. -/
def execVor (n : SpnNo) (w : BitVec 40) (s : State) : Out := .next (s.issueVab n 0x65 w 0 (· ||| ·))
/-- VXOR. -/
def execVxor (n : SpnNo) (w : BitVec 40) (s : State) : Out := .next (s.issueVab n 0x66 w 0 (· ^^^ ·))
/-- VSLL. -/
def execVsll (n : SpnNo) (w : BitVec 40) (s : State) : Out :=
  .next (s.issueV n 0x67 w (zV true true false false true 0) [opG w] (fun x =>
    let k := (x.gr (opG w)).toNat % 64
    x.setVr (opVD w) (fun i => if 48 ≤ k then 0 else x.vl (opVA w) i <<< k)))
/-- VSRA. -/
def execVsra (n : SpnNo) (w : BitVec 40) (s : State) : Out :=
  .next (s.issueV n 0x68 w (zV true true false false true 0) [opG w] (fun x =>
    x.setVr (opVD w) (fun i => (x.vl (opVA w) i).sshiftRight ((x.gr (opG w)).toNat % 64))))
/-- VMAC. -/
def execVmac (n : SpnNo) (w : BitVec 40) (s : State) : Out :=
  .next (s.issueV n 0x69 w (zV true true true false false 0x7F) [] (fun x =>
    x.setVr (opVD w) (fun i =>
      let p := mulSh w (x.vl (opVA w) i) (x.vl (opVB w) i)
      let d := (x.vl (opVD w) i).toInt
      lane48 (sat48 (if natBit (opFN w) 6 then d - p else d + p)))))
/-- VMUL. -/
def execVmul (n : SpnNo) (w : BitVec 40) (s : State) : Out := .next (s.issueVab n 0x6A w 0x3F (fun a b => lane48 (mulSh w a b)))
/-- VRND. -/
def execVrnd (n : SpnNo) (w : BitVec 40) (s : State) : Out := .next (s.issueVab n 0x6B w 0x3F (fun a b => halves (sat24 (rnd a.toInt (opFN w % 64))) (sat24 (rnd b.toInt (opFN w % 64)))))
/-- VCMUL. -/
def execVcmul (n : SpnNo) (w : BitVec 40) (s : State) : Out := .next (s.issueVab n 0x6C w 1 (fun a b => halves (sat24 (rnd (cmulRe a b (natBit (opFN w) 0)) 22)) (sat24 (rnd (cmulIm a b (natBit (opFN w) 0)) 22))))
/-- VCMAC: the real part accumulates in vD, the imaginary part in vC. -/
def execVcmac (n : SpnNo) (w : BitVec 40) (s : State) : Out :=
  .next (s.issue n 0x6D w (zeros w (zV true true true true false 0x3D)) [] true (fun t =>
    let x := t.spn n
    let cj := natBit (opFN w) 0
    t.retPair n (opVD w) (opVC w)
      (fun i => lane48 (sat48 ((x.vl (opVD w) i).toInt + asr (cmulRe (x.vl (opVA w) i) (x.vl (opVB w) i) cj) (opSH w))))
      (fun i => lane48 (sat48 ((x.vl (opVC w) i).toInt + asr (cmulIm (x.vl (opVA w) i) (x.vl (opVB w) i) cj) (opSH w))))))
/-- VABSH. -/
def execVabsh (n : SpnNo) (w : BitVec 40) (s : State) : Out :=
  .next (s.issueV n 0x6E w (zV true true false false false 0) [] (fun x =>
    x.setVr (opVD w) (fun i => halves (sat24 |hi (x.vl (opVA w) i)|) (sat24 |lo (x.vl (opVA w) i)|))))
/-- VNEGH. -/
def execVnegh (n : SpnNo) (w : BitVec 40) (s : State) : Out :=
  .next (s.issueV n 0x6F w (zV true true false false false 0) [] (fun x =>
    x.setVr (opVD w) (fun i => halves (sat24 (-hi (x.vl (opVA w) i))) (sat24 (-lo (x.vl (opVA w) i))))))
/-- VBCST. -/
def execVbcst (n : SpnNo) (w : BitVec 40) (s : State) : Out :=
  .next (s.issueV n 0x70 w (zV true false false false true 0) [opG w] (fun x => x.setVr (opVD w) (fun _ => x.gr (opG w))))
/-- VEXT. -/
def execVext (n : SpnNo) (w : BitVec 40) (s : State) : Out :=
  .next (s.issueV n 0x71 w (zV false true false false true 7) [opG w] (fun x => x.setGr (opG w) (x.vl (opVA w) (opFN w % 8))))
/-- VINS. -/
def execVins (n : SpnNo) (w : BitVec 40) (s : State) : Out :=
  .next (s.issueV n 0x72 w (zV true false false false true 7) [opG w] (fun x => x.setVl (opVD w) (opFN w % 8) (x.gr (opG w))))
/-- VRED. -/
def execVred (n : SpnNo) (w : BitVec 40) (s : State) : Out :=
  .next (s.issueV n 0x73 w (zV false true false false true 0) [opG w] (fun x =>
    x.setGr (opG w) (lane48 (sat48 ((List.range 8).foldl (fun a i => a + (x.vl (opVA w) i).toInt) 0)))))
/-- VPERM. -/
def execVperm (n : SpnNo) (w : BitVec 40) (s : State) : Out :=
  .next (s.issueV n 0x74 w (zV true true true false false 0) [] (fun x =>
    x.setVr (opVD w) (fun i => x.vl (opVA w) ((x.vl (opVB w) i).toNat % 8))))
/-- VSEL. -/
def execVsel (n : SpnNo) (w : BitVec 40) (s : State) : Out :=
  .next (s.issueV n 0x75 w (zV true true true true false 0) [] (fun x =>
    x.setVr (opVD w) (fun i => if bitOf (x.vl (opVC w) i) 0 then x.vl (opVA w) i else x.vl (opVB w) i)))
/-- The test VCMP names. -/
def vcmpTest (fn : Nat) (a b : Word) : Bool :=
  if fn % 4 = 0 then decide (a = b) else if fn % 4 = 1 then a.slt b else if fn % 4 = 2 then a.ult b else !(b.slt a)
/-- VCMP. -/
def execVcmp (n : SpnNo) (w : BitVec 40) (s : State) : Out := .next (s.issueVab n 0x76 w 3 (fun a b => if vcmpTest (opFN w) a b then 1 else 0))
/-- VMAX. -/
def execVmax (n : SpnNo) (w : BitVec 40) (s : State) : Out := .next (s.issueVab n 0x77 w 0 (fun a b => if a.slt b then b else a))
/-- VMIN. -/
def execVmin (n : SpnNo) (w : BitVec 40) (s : State) : Out := .next (s.issueVab n 0x78 w 0 (fun a b => if b.slt a then b else a))
/-- VUNPK: FN[1] is 0 in the complex form. -/
def execVunpk (n : SpnNo) (w : BitVec 40) (s : State) : Out :=
  .next (s.issueV n 0x79 w (zV true true false false false (if natBit (opFN w) 2 then 0xD else 0xF)) [] (fun x =>
    x.setVr (opVD w) (unpkLane x w)))
/-- VFLAG. -/
def execVflag (n : SpnNo) (w : BitVec 40) (s : State) : Out :=
  .next (s.issueV n 0x7A w (zV false true false false true 0xF) [opG w] (fun x =>
    x.setGr (opG w) (BitVec.ofNat 48 (laneMask (fun i => flagHit (opFN w) (x.vl (opVA w) i))))))
/-- VBFLY. -/
def execVbfly (n : SpnNo) (w : BitVec 40) (s : State) : Out :=
  .next (s.issue n 0x7B w (zeros w (zV true true true true false 1)) [] true (fun t =>
    let x := t.spn n
    let re := fun i => cmulRe (x.vl (opVC w) i) (x.vl (opVB w) i) false
    let im := fun i => cmulIm (x.vl (opVC w) i) (x.vl (opVB w) i) false
    let a := fun i => x.vl (opVA w) i
    t.retPair n (opVD w) (opVC w)
      (fun i => halves (bflyPart w (hi (a i)) (re i)) (bflyPart w (lo (a i)) (im i)))
      (fun i => halves (bflyPart w (hi (a i)) (-re i)) (bflyPart w (lo (a i)) (-im i)))))

end Sys2Proof.Machine
end

