-- ==== Sys2Proof/Machine/Dispatch.lean ====
section
/-! DEFINITION. Which meaning each command has: one arm per constructor of Instr. -/

namespace Sys2Proof.Machine

def exec (i : Instr) (s : State) : Host.Outcome State Fault Refusal :=
  match i with
  -- start-up, register fabric, management (chapters 00–02, 16)
  | .powerOn b => Sys2Proof.Machine.execPowerOn b s
  | .supervisorStart => Sys2Proof.Machine.execSupervisorStart s
  | .configRecord => Sys2Proof.Machine.execConfigRecord s
  | .configWaitExpire => Sys2Proof.Machine.execConfigWaitExpire s
  | .rollbackFuseBlow => Sys2Proof.Machine.execRollbackFuseBlow s
  | .lcStateWrite r w => Sys2Proof.Machine.execLcStateWrite r w s
  | .lcFuseDone => Sys2Proof.Machine.execLcFuseDone s
  | .guardHold r a v => Sys2Proof.Machine.execGuardHold r a v s
  | .guardWindowExpire r => Sys2Proof.Machine.execGuardWindowExpire r s
  | .idMgmtpathWrite r w => Sys2Proof.Machine.execIdMgmtpathWrite r w s
  | .shRead r a => Sys2Proof.Machine.execShRead r a s
  | .registerWrite r a v => Sys2Proof.Machine.execRegisterWrite r a v s
  | .scrubPass => Sys2Proof.Machine.execScrubPass s
  | .mgmtRequestFrame f => Sys2Proof.Machine.execMgmtRequestFrame f s
  | .csp1Frame f => Sys2Proof.Machine.execCsp1Frame f s
  | .csp1SelectTimeout => Sys2Proof.Machine.execCsp1SelectTimeout s
  | .csp1LinesWrite r lines => Sys2Proof.Machine.execCsp1LinesWrite r lines s
  | .cspModeWrite r csp1 mode => Sys2Proof.Machine.execCspModeWrite r csp1 mode s
  -- link life (chapters 03, 06)
  | .trainAdmit p => Sys2Proof.Machine.execTrainAdmit p s
  | .anPageReceive p pg => Sys2Proof.Machine.execAnPageReceive p pg s
  | .anAbandon p => Sys2Proof.Machine.execAnAbandon p s
  | .trainingSignalDetect p => Sys2Proof.Machine.execTrainingSignalDetect p s
  | .warmCheck p mismatch => Sys2Proof.Machine.execWarmCheck p mismatch s
  | .linkUp p => Sys2Proof.Machine.execLinkUp p s
  | .trainFail p => Sys2Proof.Machine.execTrainFail p s
  | .linkLoss p => Sys2Proof.Machine.execLinkLoss p s
  | .backoffExpire p => Sys2Proof.Machine.execBackoffExpire p s
  | .rovdlyExpire p => Sys2Proof.Machine.execRovdlyExpire p s
  | .plcaBeacon p => Sys2Proof.Machine.execPlcaBeacon p s
  | .plcaBeaconConflict p => Sys2Proof.Machine.execPlcaBeaconConflict p s
  | .plcaBeaconTimeout p => Sys2Proof.Machine.execPlcaBeaconTimeout p s
  | .plcaToExpire p => Sys2Proof.Machine.execPlcaToExpire p s
  | .plcaSeenExpire p node => Sys2Proof.Machine.execPlcaSeenExpire p node s
  | .rsDecode p first errs erasedBad frames => Sys2Proof.Machine.execRsDecode p first errs erasedBad frames s
  | .portTestmodeWrite r p tm => Sys2Proof.Machine.execPortTestmodeWrite r p tm s
  | .prbsResync p bits errs => Sys2Proof.Machine.execPrbsResync p bits errs s
  -- receive path (chapter 04)
  | .portGainWrite r p gain => Sys2Proof.Machine.execPortGainWrite r p gain s
  | .adcRecalRequest r p seq => Sys2Proof.Machine.execAdcRecalRequest r p seq s
  | .adcRecalDone p => Sys2Proof.Machine.execAdcRecalDone p s
  | .recalInterval p => Sys2Proof.Machine.execRecalInterval p s
  | .swapEffect p => Sys2Proof.Machine.execSwapEffect p s
  | .mirrorDone p => Sys2Proof.Machine.execMirrorDone p s
  | .gatherComplete n t u => Sys2Proof.Machine.execGatherComplete n t u s
  | .slubStart p u v => Sys2Proof.Machine.execSlubStart p u v s
  | .slubWindowEnd p u => Sys2Proof.Machine.execSlubWindowEnd p u s
  | .slubCap p => Sys2Proof.Machine.execSlubCap p s
  | .snrBlockEnd p u v => Sys2Proof.Machine.execSnrBlockEnd p u v s
  | .mfbEstimate p start u => Sys2Proof.Machine.execMfbEstimate p start u s
  | .sqiUpdate p => Sys2Proof.Machine.execSqiUpdate p s
  -- idle, sleep and wake (chapter 06)
  | .lpiTxRequest p => Sys2Proof.Machine.execLpiTxRequest p s
  | .lpiTxWake p => Sys2Proof.Machine.execLpiTxWake p s
  | .lpiWakeDone p => Sys2Proof.Machine.execLpiWakeDone p s
  | .lpiRxChange p enter => Sys2Proof.Machine.execLpiRxChange p enter s
  | .sleepRequestReceive p => Sys2Proof.Machine.execSleepRequestReceive p s
  | .sleepHandshakeDone p => Sys2Proof.Machine.execSleepHandshakeDone p s
  | .detectorArm p => Sys2Proof.Machine.execDetectorArm p s
  | .lineEnergyDetect x => Sys2Proof.Machine.execLineEnergyDetect x s
  | .remoteWake p => Sys2Proof.Machine.execRemoteWake p s
  | .wakeForward p => Sys2Proof.Machine.execWakeForward p s
  | .localWake p => Sys2Proof.Machine.execLocalWake p s
  | .falseWakeTimeout p => Sys2Proof.Machine.execFalseWakeTimeout p s
  | .txOverload p legN => Sys2Proof.Machine.execTxOverload p legN s
  -- skeins (chapter 05)
  | .lgSkeinWrite r g n v => Sys2Proof.Machine.execLgSkeinWrite r g n v s
  | .skeinSwapEffect g n => Sys2Proof.Machine.execSkeinSwapEffect g n s
  | .skeinMemberLeave g k => Sys2Proof.Machine.execSkeinMemberLeave g k s
  | .skeinRefresh g n ws => Sys2Proof.Machine.execSkeinRefresh g n ws s
  | .oamMessageSend p u v => Sys2Proof.Machine.execOamMessageSend p u v s
  | .d2ReportReceive p w => Sys2Proof.Machine.execD2ReportReceive p w s
  -- roving and carding (chapter 07)
  | .rovingHelloReceive p frame snr u v w => Sys2Proof.Machine.execRovingHelloReceive p frame snr u v w s
  | .rovingAckReceive p frame snr u v => Sys2Proof.Machine.execRovingAckReceive p frame snr u v s
  | .rovingSetreqReceive p frame u => Sys2Proof.Machine.execRovingSetreqReceive p frame u s
  | .rovingSetackReceive p frame u => Sys2Proof.Machine.execRovingSetackReceive p frame u s
  | .rovingSnrrepReceive p frame snr u => Sys2Proof.Machine.execRovingSnrrepReceive p frame snr u s
  | .rovingDataReceive p frame first u => Sys2Proof.Machine.execRovingDataReceive p frame first u s
  | .rovingAcqTimeout p => Sys2Proof.Machine.execRovingAcqTimeout p s
  | .rovingRetry p => Sys2Proof.Machine.execRovingRetry p s
  | .rovingSettingSwitch p => Sys2Proof.Machine.execRovingSettingSwitch p s
  | .rovingSnrrepSend p snr => Sys2Proof.Machine.execRovingSnrrepSend p snr s
  | .rovingSnrLow p snr => Sys2Proof.Machine.execRovingSnrLow p snr s
  | .rovingFallback p u => Sys2Proof.Machine.execRovingFallback p u s
  | .rovingLoss p => Sys2Proof.Machine.execRovingLoss p s
  | .rovingRestartWindow p u => Sys2Proof.Machine.execRovingRestartWindow p u s
  | .rovingWindowEnd p u => Sys2Proof.Machine.execRovingWindowEnd p u s
  | .cardingDone p discard peaks => Sys2Proof.Machine.execCardingDone p discard peaks s
  | .fpSnapshot p u => Sys2Proof.Machine.execFpSnapshot p u s
  | .fpSnapshotRetry p => Sys2Proof.Machine.execFpSnapshotRetry p s
  | .fpTrendPoint p => Sys2Proof.Machine.execFpTrendPoint p s
  -- Wovin scalar, immediate, local and branch (chapter 08)
  | .add n w => Sys2Proof.Machine.execAdd n w s
  | .addi n w => Sys2Proof.Machine.execAddi n w s
  | .sub n w => Sys2Proof.Machine.execSub n w s
  | .and n w => Sys2Proof.Machine.execAnd n w s
  | .andi n w => Sys2Proof.Machine.execAndi n w s
  | .or n w => Sys2Proof.Machine.execOr n w s
  | .ori n w => Sys2Proof.Machine.execOri n w s
  | .xor n w => Sys2Proof.Machine.execXor n w s
  | .xori n w => Sys2Proof.Machine.execXori n w s
  | .sll n w => Sys2Proof.Machine.execSll n w s
  | .slli n w => Sys2Proof.Machine.execSlli n w s
  | .srl n w => Sys2Proof.Machine.execSrl n w s
  | .srli n w => Sys2Proof.Machine.execSrli n w s
  | .sra n w => Sys2Proof.Machine.execSra n w s
  | .srai n w => Sys2Proof.Machine.execSrai n w s
  | .slt n w => Sys2Proof.Machine.execSlt n w s
  | .slti n w => Sys2Proof.Machine.execSlti n w s
  | .sltu n w => Sys2Proof.Machine.execSltu n w s
  | .sltiu n w => Sys2Proof.Machine.execSltiu n w s
  | .mul n w => Sys2Proof.Machine.execMul n w s
  | .muli n w => Sys2Proof.Machine.execMuli n w s
  | .mulh n w => Sys2Proof.Machine.execMulh n w s
  | .min n w => Sys2Proof.Machine.execMin n w s
  | .mini n w => Sys2Proof.Machine.execMini n w s
  | .max n w => Sys2Proof.Machine.execMax n w s
  | .maxi n w => Sys2Proof.Machine.execMaxi n w s
  | .clz n w => Sys2Proof.Machine.execClz n w s
  | .sat n w => Sys2Proof.Machine.execSat n w s
  | .sati n w => Sys2Proof.Machine.execSati n w s
  | .li n w => Sys2Proof.Machine.execLi n w s
  | .lih n w => Sys2Proof.Machine.execLih n w s
  | .lpc n w => Sys2Proof.Machine.execLpc n w s
  | .ldl n w => Sys2Proof.Machine.execLdl n w s
  | .stl n w => Sys2Proof.Machine.execStl n w s
  | .ldv n w => Sys2Proof.Machine.execLdv n w s
  | .stv n w => Sys2Proof.Machine.execStv n w s
  | .beq n w => Sys2Proof.Machine.execBeq n w s
  | .bne n w => Sys2Proof.Machine.execBne n w s
  | .blt n w => Sys2Proof.Machine.execBlt n w s
  | .bge n w => Sys2Proof.Machine.execBge n w s
  | .bltu n w => Sys2Proof.Machine.execBltu n w s
  | .bgeu n w => Sys2Proof.Machine.execBgeu n w s
  | .jal n w => Sys2Proof.Machine.execJal n w s
  | .jalr n w => Sys2Proof.Machine.execJalr n w s
  | .branchResolve n => Sys2Proof.Machine.execBranchResolve n s
  -- Wovin vector
  | .vadd n w => Sys2Proof.Machine.execVadd n w s
  | .vsub n w => Sys2Proof.Machine.execVsub n w s
  | .vaddh n w => Sys2Proof.Machine.execVaddh n w s
  | .vsubh n w => Sys2Proof.Machine.execVsubh n w s
  | .vand n w => Sys2Proof.Machine.execVand n w s
  | .vor n w => Sys2Proof.Machine.execVor n w s
  | .vxor n w => Sys2Proof.Machine.execVxor n w s
  | .vsll n w => Sys2Proof.Machine.execVsll n w s
  | .vsra n w => Sys2Proof.Machine.execVsra n w s
  | .vmac n w => Sys2Proof.Machine.execVmac n w s
  | .vmul n w => Sys2Proof.Machine.execVmul n w s
  | .vrnd n w => Sys2Proof.Machine.execVrnd n w s
  | .vcmul n w => Sys2Proof.Machine.execVcmul n w s
  | .vcmac n w => Sys2Proof.Machine.execVcmac n w s
  | .vabsh n w => Sys2Proof.Machine.execVabsh n w s
  | .vnegh n w => Sys2Proof.Machine.execVnegh n w s
  | .vbcst n w => Sys2Proof.Machine.execVbcst n w s
  | .vext n w => Sys2Proof.Machine.execVext n w s
  | .vins n w => Sys2Proof.Machine.execVins n w s
  | .vred n w => Sys2Proof.Machine.execVred n w s
  | .vperm n w => Sys2Proof.Machine.execVperm n w s
  | .vsel n w => Sys2Proof.Machine.execVsel n w s
  | .vcmp n w => Sys2Proof.Machine.execVcmp n w s
  | .vmax n w => Sys2Proof.Machine.execVmax n w s
  | .vmin n w => Sys2Proof.Machine.execVmin n w s
  | .vunpk n w => Sys2Proof.Machine.execVunpk n w s
  | .vflag n w => Sys2Proof.Machine.execVflag n w s
  | .vbfly n w => Sys2Proof.Machine.execVbfly n w s
  -- Wovin tagged operations
  | .ldb n w => Sys2Proof.Machine.execLdb n w s
  | .stb n w => Sys2Proof.Machine.execStb n w s
  | .gsw n w => Sys2Proof.Machine.execGsw n w s
  | .cwr n w => Sys2Proof.Machine.execCwr n w s
  | .cswSwap n w => Sys2Proof.Machine.execCswSwap n w s
  | .cswMirror n w => Sys2Proof.Machine.execCswMirror n w s
  | .ldf n w => Sys2Proof.Machine.execLdf n w s
  | .mbs n w => Sys2Proof.Machine.execMbs n w s
  | .mbr n w => Sys2Proof.Machine.execMbr n w s
  | .lck n w => Sys2Proof.Machine.execLck n w s
  | .ulk n w => Sys2Proof.Machine.execUlk n w s
  | .frx n w => Sys2Proof.Machine.execFrx n w s
  | .ftx n w => Sys2Proof.Machine.execFtx n w s
  | .tagComplete n t => Sys2Proof.Machine.execTagComplete n t s
  | .knotGrant k => Sys2Proof.Machine.execKnotGrant k s
  -- Wovin system
  | .wait n w => Sys2Proof.Machine.execWait n w s
  | .fence n w => Sys2Proof.Machine.execFence n w s
  | .fenceW n w => Sys2Proof.Machine.execFenceW n w s
  | .trap n w => Sys2Proof.Machine.execTrap n w s
  | .eret n w => Sys2Proof.Machine.execEret n w s
  | .sleep n w => Sys2Proof.Machine.execSleep n w s
  | .mfs n w => Sys2Proof.Machine.execMfs n w s
  | .mts n w => Sys2Proof.Machine.execMts n w s
  | .waita n w => Sys2Proof.Machine.execWaita n w s
  | .spnHalt r n => Sys2Proof.Machine.execSpnHalt r n s
  | .spnHaltDone n => Sys2Proof.Machine.execSpnHaltDone n s
  | .spnRelease r n => Sys2Proof.Machine.execSpnRelease r n s
  | .spnCtlModeWrite r n mode replay => Sys2Proof.Machine.execSpnCtlModeWrite r n mode replay s
  | .spnImdataAccess r n write v => Sys2Proof.Machine.execSpnImdataAccess r n write v s
  | .spnDmdataAccess r n write v => Sys2Proof.Machine.execSpnDmdataAccess r n write v s
  -- line runtime, mailboxes and knots (chapter 09)
  | .mbDoorbellWrite r index => Sys2Proof.Machine.execMbDoorbellWrite r index s
  | .commandCopy => Sys2Proof.Machine.execCommandCopy s
  | .mbRingConfigWrite r reg v => Sys2Proof.Machine.execMbRingConfigWrite r reg v s
  | .completionWrite id => Sys2Proof.Machine.execCompletionWrite id s
  | .mbCplrdWrite r index => Sys2Proof.Machine.execMbCplrdWrite r index s
  | .ringRetry cpl raise => Sys2Proof.Machine.execRingRetry cpl raise s
  | .hello id => Sys2Proof.Machine.execHello id s
  | .nop id => Sys2Proof.Machine.execNop id s
  | .partition id => Sys2Proof.Machine.execPartition id s
  | .delegateWin id => Sys2Proof.Machine.execDelegateWin id s
  | .delegateLine id => Sys2Proof.Machine.execDelegateLine id s
  | .portEnable id => Sys2Proof.Machine.execPortEnable id s
  | .portDisable id => Sys2Proof.Machine.execPortDisable id s
  | .portConfig id => Sys2Proof.Machine.execPortConfig id s
  | .portRestart id => Sys2Proof.Machine.execPortRestart id s
  | .portSleep id => Sys2Proof.Machine.execPortSleep id s
  | .portWake id => Sys2Proof.Machine.execPortWake id s
  | .portCard id => Sys2Proof.Machine.execPortCard id s
  | .portFpcapture id => Sys2Proof.Machine.execPortFpcapture id s
  | .portFpread id => Sys2Proof.Machine.execPortFpread id s
  | .portFprestore id => Sys2Proof.Machine.execPortFprestore id s
  | .portCoefload id => Sys2Proof.Machine.execPortCoefload id s
  | .portPlca id => Sys2Proof.Machine.execPortPlca id s
  | .skeinSet id => Sys2Proof.Machine.execSkeinSet id s
  | .rtStage id => Sys2Proof.Machine.execRtStage id s
  | .rtSwitch r w => Sys2Proof.Machine.execRtSwitch r w s
  | .quantumBoundary n => Sys2Proof.Machine.execQuantumBoundary n s
  | .quantumTimeout n => Sys2Proof.Machine.execQuantumTimeout n s
  | .supervisorMove => Sys2Proof.Machine.execSupervisorMove s
  | .knotHostAcquire k lease => Sys2Proof.Machine.execKnotHostAcquire k lease s
  | .knotHostRelease k => Sys2Proof.Machine.execKnotHostRelease k s
  | .knotHostRenew k lease => Sys2Proof.Machine.execKnotHostRenew k lease s
  | .knotLeaseExpire k => Sys2Proof.Machine.execKnotLeaseExpire k s
  | .mbTxWrite r n v => Sys2Proof.Machine.execMbTxWrite r n v s
  | .mbHostrxRead r => Sys2Proof.Machine.execMbHostrxRead r s
  -- traffic manager (chapter 10)
  | .frameIngress f => Sys2Proof.Machine.execFrameIngress f s
  | .txSelect e => Sys2Proof.Machine.execTxSelect e s
  | .frameTxDone e => Sys2Proof.Machine.execFrameTxDone e s
  | .gateEntryAdvance e => Sys2Proof.Machine.execGateEntryAdvance e s
  | .gclChange r e seq => Sys2Proof.Machine.execGclChange r e seq s
  | .gclSwap e => Sys2Proof.Machine.execGclSwap e s
  | .sgChange r k seq => Sys2Proof.Machine.execSgChange r k seq s
  | .sgSwap k => Sys2Proof.Machine.execSgSwap k s
  | .queueSample e q => Sys2Proof.Machine.execQueueSample e q s
  | .tmPolicerWrite r st second v => Sys2Proof.Machine.execTmPolicerWrite r st second v s
  | .tmMeterWrite r m k v => Sys2Proof.Machine.execTmMeterWrite r m k v s
  -- Plylink (chapter 11)
  | .hlFrameReceive n f => Sys2Proof.Machine.execHlFrameReceive n f s
  | .capabilitySetReceive n bytes => Sys2Proof.Machine.execCapabilitySetReceive n bytes s
  | .capabilitySetSend n => Sys2Proof.Machine.execCapabilitySetSend n s
  | .creditSetReceive n bytes => Sys2Proof.Machine.execCreditSetReceive n bytes s
  | .timeOrderedSetSend n => Sys2Proof.Machine.execTimeOrderedSetSend n s
  | .hlEnable r n => Sys2Proof.Machine.execHlEnable r n s
  | .hlBuseqChange r n seq => Sys2Proof.Machine.execHlBuseqChange r n seq s
  | .hlSlip r n seq => Sys2Proof.Machine.execHlSlip r n seq s
  | .hlAlign n => Sys2Proof.Machine.execHlAlign n s
  | .hlAlignLoss n => Sys2Proof.Machine.execHlAlignLoss n s
  | .hlStep n => Sys2Proof.Machine.execHlStep n s
  | .hlRxLock n => Sys2Proof.Machine.execHlRxLock n s
  | .hlRun n => Sys2Proof.Machine.execHlRun n s
  | .hlLos n => Sys2Proof.Machine.execHlLos n s
  | .hlLol n => Sys2Proof.Machine.execHlLol n s
  | .hlRebuExpire n => Sys2Proof.Machine.execHlRebuExpire n s
  | .hlTxsleep r n on => Sys2Proof.Machine.execHlTxsleep r n on s
  | .hlRxsleep r n on => Sys2Proof.Machine.execHlRxsleep r n on s
  | .hlTxAbort n => Sys2Proof.Machine.execHlTxAbort n s
  -- distaff (chapter 12)
  | .dstArm r seq => Sys2Proof.Machine.execDstArm r seq s
  | .dstTrigseq r seq => Sys2Proof.Machine.execDstTrigseq r seq s
  | .dstPostDone u => Sys2Proof.Machine.execDstPostDone u s
  | .dstCheckpoint c u => Sys2Proof.Machine.execDstCheckpoint c u s
  | .dstRelease r seq => Sys2Proof.Machine.execDstRelease r seq s
  | .dstExport r seq => Sys2Proof.Machine.execDstExport r seq s
  | .dstRddataRead r => Sys2Proof.Machine.execDstRddataRead r s
  | .replayStart r g v => Sys2Proof.Machine.execReplayStart r g v s
  | .replayDone g u v w => Sys2Proof.Machine.execReplayDone g u v w s
  | .d3TriggerReceive p w => Sys2Proof.Machine.execD3TriggerReceive p w s
  -- clocks and time (chapter 13)
  | .clkMonitorWindow src dev ppm => Sys2Proof.Machine.execClkMonitorWindow src dev ppm s
  | .pllLockDrop k => Sys2Proof.Machine.execPllLockDrop k s
  | .clkEdgeTimeout src => Sys2Proof.Machine.execClkEdgeTimeout src s
  | .asyncSafeState c => Sys2Proof.Machine.execAsyncSafeState c s
  | .pllLock k => Sys2Proof.Machine.execPllLock k s
  | .pllUnblock k => Sys2Proof.Machine.execPllUnblock k s
  | .clkSrcselWrite r w => Sys2Proof.Machine.execClkSrcselWrite r w s
  | .clkPllctlWrite r k w => Sys2Proof.Machine.execClkPllctlWrite r k w s
  | .clkReadyRead r => Sys2Proof.Machine.execClkReadyRead r s
  | .clkAutoreturn => Sys2Proof.Machine.execClkAutoreturn s
  | .xqueueResume d => Sys2Proof.Machine.execXqueueResume d s
  | .timeSet r seq => Sys2Proof.Machine.execTimeSet r seq s
  | .timeStep r seq => Sys2Proof.Machine.execTimeStep r seq s
  | .ppsInEdge => Sys2Proof.Machine.execPpsInEdge s
  | .ppsOutPulse => Sys2Proof.Machine.execPpsOutPulse s
  | .ppsOutEnd => Sys2Proof.Machine.execPpsOutEnd s
  -- power (chapter 14)
  | .domainTargetOn r d => Sys2Proof.Machine.execDomainTargetOn r d s
  | .domainTargetRet r d delay => Sys2Proof.Machine.execDomainTargetRet r d delay s
  | .domainTargetOff r d delay => Sys2Proof.Machine.execDomainTargetOff r d delay s
  | .handshakeDelayExpire d again => Sys2Proof.Machine.execHandshakeDelayExpire d again s
  | .domainEntryDone d => Sys2Proof.Machine.execDomainEntryDone d s
  | .domainWakeDone d => Sys2Proof.Machine.execDomainWakeDone d s
  | .requestAbsentTimeout r => Sys2Proof.Machine.execRequestAbsentTimeout r s
  | .pwrForceoff r w => Sys2Proof.Machine.execPwrForceoff r w s
  | .vddCoreLoss => Sys2Proof.Machine.execVddCoreLoss s
  | .parkEntryDone => Sys2Proof.Machine.execParkEntryDone s
  | .wakeInAssert => Sys2Proof.Machine.execWakeInAssert s
  | .parkWake src => Sys2Proof.Machine.execParkWake src s
  | .vddCoreReturn b => Sys2Proof.Machine.execVddCoreReturn b s
  | .railUndervoltage rail => Sys2Proof.Machine.execRailUndervoltage rail s
  | .aonBrownout => Sys2Proof.Machine.execAonBrownout s
  | .aonRestart => Sys2Proof.Machine.execAonRestart s
  | .holdupEngage => Sys2Proof.Machine.execHoldupEngage s
  | .holdVokFall => Sys2Proof.Machine.execHoldVokFall s
  | .holdGaugeEmpty holdMv => Sys2Proof.Machine.execHoldGaugeEmpty holdMv s
  -- faults and self-test (chapter 15)
  | .faultEvent => Sys2Proof.Machine.execFaultEvent s
  | .faultQuietExpire src => Sys2Proof.Machine.execFaultQuietExpire src s
  | .fltRelease r seq src => Sys2Proof.Machine.execFltRelease r seq src s
  | .fltReccfgWrite r w => Sys2Proof.Machine.execFltReccfgWrite r w s
  | .fltCodecfgWrite r c w => Sys2Proof.Machine.execFltCodecfgWrite r c w s
  | .faultNWidthExpire => Sys2Proof.Machine.execFaultNWidthExpire s
  | .fltPinWrite r v => Sys2Proof.Machine.execFltPinWrite r v s
  | .fltAckWrite r ack => Sys2Proof.Machine.execFltAckWrite r ack s
  | .fltHistRead r => Sys2Proof.Machine.execFltHistRead r s
  | .bistInterval => Sys2Proof.Machine.execBistInterval s
  | .bistConditionTimeout => Sys2Proof.Machine.execBistConditionTimeout s
  | .bistDone fail => Sys2Proof.Machine.execBistDone fail s
  | .bistAbort => Sys2Proof.Machine.execBistAbort s
  | .bistExternal r seq cls unit => Sys2Proof.Machine.execBistExternal r seq cls unit s
  -- images, flash, pins (chapters 16, 17)
  | .csp0Commit r w => Sys2Proof.Machine.execCsp0Commit r w s
  | .flashOpDone => Sys2Proof.Machine.execFlashOpDone s
  | .flashOpTimeout => Sys2Proof.Machine.execFlashOpTimeout s
  | .flashLineFill line => Sys2Proof.Machine.execFlashLineFill line s
  | .flashReadTimeout => Sys2Proof.Machine.execFlashReadTimeout s
  | .csp0Reboot r w => Sys2Proof.Machine.execCsp0Reboot r w s
  | .pinFuncWrite r pin v => Sys2Proof.Machine.execPinFuncWrite r pin v s
  | .pinFuncSwitchDone pin => Sys2Proof.Machine.execPinFuncSwitchDone pin s
  | .plcaBeaconReturn p => Sys2Proof.Machine.execPlcaBeaconReturn p s
  | .partnerSleepReject p => Sys2Proof.Machine.execPartnerSleepReject p s

end Sys2Proof.Machine
end

