-- ==== Sys2Proof/Safety.lean ====
section
/-! DEFINITION. Safe states and safe steps, in the terms the statements use: legal fuses, a spindle that issues an instruction, what the instruction then leaves, and a register access that goes through. -/

namespace Sys2Proof

open Machine

/-! ## Fuses -/

/-- The life-cycle codes (R6): TEST, OEM, FIELD, RETURN. -/
def lcLegal (lc : BitVec 4) : Bool := decide (lc = 1 ∨ lc = 3 ∨ lc = 7 ∨ lc = 15)

/-- Fuses are legal (R6, R55, R391): a life-cycle code, a programming in progress only to the next code, at most 64 anti-rollback fuses. -/
def fusesLegal (f : Fuses) : Bool :=
  lcLegal f.lc && (match f.prog with
    | none => true
    | some n => decide (nextLc f.lc = some n)) && decide (f.count ≤ 64)

/-- `g` is reached from `f` by blowing fuses only: one-way, one life-cycle step at most (R6, R394). -/
def fusesForward (f g : Fuses) : Bool :=
  (decide (g.lc = f.lc) || decide (nextLc f.lc = some g.lc)) && decide (f.count ≤ g.count)

/-! ## Outcomes -/

/-- The machine answers a next state. -/
def completes (o : Machine.Out) : Prop := ∃ t, o = .next t

/-- The machine answers a next state of which P holds. -/
def nextWith (o : Machine.Out) (P : State → Prop) : Prop := ∃ t, o = .next t ∧ P t

/-! ## Issue of a Wovin instruction -/

/-- The row's word, opcode and low 40 bits, stands at the PC of running spindle n, whose cluster is on and whose fetch is not held;
`c`: the fetch corrected a single-bit error. -/
def Fetches (s : State) (n opc : Nat) (w : BitVec 40) (c : Bool) : Prop :=
  (s.spn n).run = .running ∧ s.domOn (30 + n / 8) = true ∧ s.fetchWaits n = false ∧
    s.fetch n = .word (BitVec.ofNat 48 (opc * 2 ^ 40 + w.toNat)) c

/-- Nothing holds the instruction: its path lets it issue, and none of the registers it names is pending (R25, R214, R219). -/
def Issues (s : State) (n opc : Nat) (w : BitVec 40) (c ahead : Bool) (regs : List Nat) : Prop :=
  Fetches s n opc w c ∧ (s.spn n).mayIssue ahead = true ∧ ∀ r ∈ regs, (s.spn n).pendingReg r = false

/-- What the fetch alone leaves: the count of a corrected error (R195), and of a flash word's pass through the prefetch buffer (R389). -/
def fetchedState (s : State) (n : Nat) (c : Bool) : State :=
  (if c then s.bump (Reg.SPN_ECCCOR n) else s).fetched (s.spn n).pc

/-- The state with other spindles. -/
def withSpns (s : State) (l : Tab Spindle) : State := { s with spns := l }

/-- Spindle n becomes x, and beside it the state is u: every other spindle, and everything that is not a spindle, is as s or u has it. -/
def Leaves (s u : State) (n : Nat) (x : Spindle) (o : Machine.Out) : Prop :=
  nextWith o (fun t => t.spn n = x ∧ (∀ m, m ≠ n → t.spn m = s.spn m) ∧ t = withSpns u t.spns)

/-- The instruction completes: spindle n becomes x, and beside it nothing changes but what the fetch leaves. -/
def Retires (s : State) (n : Nat) (c : Bool) (x : Spindle) (o : Machine.Out) : Prop := Leaves s (fetchedState s n c) n x o

/-- The instruction raises an exception outside a handler (R221, R222): EPC, ECAUSE, MODE.EXC, PC 4, SPN_EPC, SPN_ECAUSE and SPN_EXCCNT;
the registers g and v, the tags and every other spindle stay. -/
def Raises (s : State) (n code info : Nat) (o : Machine.Out) : Prop :=
  let x := s.spn n
  let epc : Word := BitVec.ofNat 48 (if code = 4 then x.pc + 1 else x.pc)
  let cause : Word := BitVec.ofNat 48 (code * 2 ^ 40 + info % 2 ^ 32)
  nextWith o (fun t => t.spn n = { x with epc := epc, ecause := cause, exc := true, pc := 4 } ∧
    (∀ m, m ≠ n → t.spn m = s.spn m) ∧ t.reg (Reg.SPN_EPC n) = epc ∧ t.reg (Reg.SPN_ECAUSE n) = cause ∧
    t.reg (Reg.SPN_EXCCNT n) = s.reg (Reg.SPN_EXCCNT n) + 1 ∧ t.pending = s.pending ∧ t.bobbin = s.bobbin ∧ t.fuses = s.fuses)

/-! ## Register accesses -/

/-- Requester r can access word a at once: it is present, none of its accesses waits, and the domain that serves the word is on. -/
def CanReach (s : State) (r : Requester) (a : Nat) : Prop :=
  s.present (reqNo r) = true ∧ s.firstOf (reqNo r) = none ∧ ∀ d, domainOf a = some d → s.domOn d = true

/-- It can write the word: its rights cover it (R35). -/
def CanWrite (s : State) (r : Requester) (a : Nat) : Prop := CanReach s r a ∧ s.mayWrite (reqNo r) a = true

/-- The requester's access of word a completed with this status; a write returns no data (R39, R40). -/
def Completed (t : State) (r : Requester) (a status : Nat) (data : Word) : Prop :=
  t.getReply (reqNo r) = { status := status, addr := a, data := data }

/-- A write of word a by r completes with this status, in a next state of which P holds. -/
def Performs (r : Requester) (a status : Nat) (o : Machine.Out) (P : State → Prop) : Prop :=
  nextWith o (fun t => Completed t r a status 0 ∧ P t)

/-- Requester r can write a guarded register: its A at `a` and its A + 1. -/
def CanPair (s : State) (r : Requester) (a : Nat) : Prop := CanWrite s r a ∧ s.mayWrite (reqNo r) (a + 1) = true

/-! ## Commands of the runtime -/

/-- The outstanding command at position i. -/
def cmdOf (s : State) (i : Nat) : Cmd := nth { w0 := 0, w1 := 0, w2 := 0, w3 := 0 } s.rt.cmds i

/-- The runtime takes up the command at position i, which is the first live one with this opcode and CMDID: its turn has come (R233) and its entry is good (R236). -/
def TakesUp (s : State) (op id i : Nat) : Prop :=
  s.supUp = true ∧ s.cmdAt op id = some i ∧ (cmdOf s i).st = .waiting ∧ mayStart (s.rt.cmds.take i) (cmdOf s i) = true ∧ s.entryStatus (cmdOf s i) = 0

/-- The command at position i has completed with this status and RESULT. -/
def Finished (t : State) (i status : Nat) (result : Word) : Prop := ∃ gen, (cmdOf t i).st = .finished status result gen

/-- A fault event of this source, code and INFO joins the collector's input queue (R361, R362), unless the queue is full or the code is locked. -/
def Queued (s t : State) (src code info : Nat) : Prop :=
  s.flt.queue.length < 64 → s.codeLocked code = false →
    t.flt.queue = s.flt.queue ++ [{ src := src, code := code, info := info, at_ := s.time, seq := s.flt.arrivals, ns := s.now }]

/-- The supervisor's spindle is one, and is in SUP mode. -/
def SupWrites (s : State) : Prop := s.supSpn < 48 ∧ (s.spn s.supSpn).mode = 0

end Sys2Proof
end

