-- ==== Sys2Proof/WellFormed.lean ====
section
/-! DEFINITION. What a command's operands must satisfy beyond their types: the shapes that the spec gives frames, sets and reports. -/

namespace Sys2Proof

/-- Identities that a frame may enter the pipeline with (R23): line ports, host lanes, the spindle channel. -/
def sourceIdent (n : Nat) : Bool := decide (n < 112) || decide (n = 114)

/-- A CSP1 frame: whole words of one command and its data, at most 64 (R381). -/
def CspFrame.wellFormed (f : CspFrame) : Bool := decide (f.words.length ≤ 65)

/-- The common modes, the role and the dialect page are known when the exchange completes (R135, R136). -/
def AnPage.wellFormed (pg : AnPage) : Bool := pg.last || (decide (pg.common = 0) && decide (pg.dialect = none))

/-- The command is one that the spec's rules can give. -/
def Instr.wellFormed : Instr → Bool
  | .csp1Frame f => f.wellFormed
  | .anPageReceive _ pg => pg.wellFormed
  | .cardingDone _ discard _ => decide (discard.toNat ≤ 64)
  | .capabilitySetReceive _ bytes => decide (bytes.length = 7 ∨ bytes.length = 15)
  | .creditSetReceive _ bytes => decide (bytes.length = 7)
  | .frameIngress f => sourceIdent f.ident
  | _ => true

end Sys2Proof
end

