-- ==== Sys2Proof/Certificates/Slice0/Obligations.lean ====
section
/-! DEFINITION. The statements about the LZ9648 model that the provers settle. -/

open Sys2Proof Sys2Proof.Machine

/-! ## The queue, time, reset -/

/-- Every command: a step takes the command at the front of the queue and is its effect on the state with the queue's rest. -/
def Obligations.StepRunsFrontCommand : Prop :=
  ∀ (s : State) (c : Instr) (cs : List Instr), s.pending = c :: cs → step s = exec c { s with pending := cs }

/-- R413, R414, R326: on an empty queue a step completes and time advances by one TIME tick, of 2 ns plus ADJ, or of 5 ns on the fallback; a TIME_SET
that waits is applied at the tick, which makes the time valid. The ports' datapaths take in the symbols that have come; with no replay running and no
TARGET waiting, bobbin and spindles stay, and with no port's datapath running, none in TRAIN or ROVING and VOK set, no register changes. That an empty
queue lets time pass is the model's choice (log entry 1). -/
def Obligations.IdleStepAdvancesTime : Prop :=
  ∀ s : State, s.pending = [] → s.waitQ = [] → s.stepPend = false → (∀ g, g < 6 → (s.lg g).replay.st ≠ 1) → (∀ d, (s.dom d).next = none) →
    let dt := if s.rb Reg.CLK_ACTIVE 9 then 2 else 5
    nextWith (step s) (fun t => t.now = s.now + dt ∧ t.pending = [] ∧ t.bobbin = s.bobbin ∧ t.spns = s.spns ∧
      (s.setPend = false → (∀ p, p < 96 → s.rxRuns p = false ∧ s.pst p ≠ 2 ∧ s.pst p ≠ 4) → s.rb Reg.PWR_HOLDSTAT 47 = true → t.regs = s.regs) ∧
      (s.rootUp = true → s.setPend = false →
        t.time = timeAdd s.time ((dt * 2 ^ 18 : Nat) + (if s.rb Reg.CLK_ACTIVE 9 then signed 24 (s.rf Reg.TIME_RATE 23 0) else 0))) ∧
      (s.rootUp = true → s.setPend = true → t.time = s.reg Reg.TIME_SETS ++ s.reg Reg.TIME_SETN ∧ t.rb Reg.TIME_STAT 47 = true ∧ t.setPend = false))

/-- What reset leaves, as the spec states it: every port DISABLED (R78), every spindle HALTED with its MODE (R195, R227), empty bobbin and
queues, life-cycle TEST with no fuse programmed (R6), every lane OFF (R299), every knot free (R250), the fault collector empty (R361). That memory
that nothing has written reads 0, and flash 0xFF, is the model's choice (log entries 3 and 4). The reset state meets the premises of FusesStayLegal and
MemoriesStayCanonical. -/
def Obligations.ResetState : Prop :=
  let s := State.reset
  s.pending = [] ∧ (∀ p, p < 96 → s.pst p = 0) ∧ (∀ n, n < 48 → (s.spn n).run = .halted ∧
    (s.spn n).mode = if n = 0 then 0 else if n < 40 then 1 else 2) ∧
  s.fuses.lc = 1 ∧ s.fuses.count = 0 ∧ (∀ n, n < 16 → s.lst n = 0) ∧ (∀ k, k < 64 → s.knotHeld k = false ∧ s.knotOwner k = 63) ∧
  s.flt.queue = [] ∧ s.flt.hist = [] ∧ s.bobbin = [] ∧ s.flash = [] ∧ s.rt.cmds = [] ∧ s.waitQ = [] ∧
  s.fuses.prog = none ∧ fusesLegal s.fuses = true ∧ Tab.wf (fun _ => 0#48) s.bobbin = true ∧ Tab.wf (fun _ => 0xFF#8) s.flash = true

/-- No command reads or changes the queue of commands: a step leaves exactly the queue's rest (the model's choice, log entry 1). -/
def Obligations.CommandsLeaveTheQueue : Prop :=
  ∀ (c : Instr) (s t : State), exec c s = .next t → t.pending = s.pending

/-- R32, R389: every step keeps the bobbin and the flash in their canonical form: addresses strictly rising, no entry that says what an unlisted address
reads as. -/
def Obligations.MemoriesStayCanonical : Prop :=
  ∀ s t : State, Tab.wf (fun _ => 0#48) s.bobbin = true → Tab.wf (fun _ => 0xFF#8) s.flash = true → step s = .next t →
    Tab.wf (fun _ => 0#48) t.bobbin = true ∧ Tab.wf (fun _ => 0xFF#8) t.flash = true

/-! ## Register accesses (R32–R55) -/

/-- R35, R37, R40, R26: how a write by a present requester with nothing waiting fails, and what it then leaves: DENIED outside its delegation,
with fault 0x14 of a spindle's source; NOMAP where no row assigns the word; ABSENT where the domain is isolated, and a write that its flushing queue
then drops counts in CLK_XDROP of ROOT (R335; log entry 163); RDONLY where the word is not writable, the runtime's own words of a port
apart (R79).
R32, R36, R43: a REGISTER_WRITE into the bobbin stores that word and no other; into a word of the ID block, or a port's configuration word
that no rule gives a further effect, it stores the bits the word has, put into their range, and no other register changes but the distaff's record of the write (R311).
A word of a port that its state's owner writes takes the runtime's bits (R79). -/
def Obligations.RegisterWrites : Prop :=
  (
  ∀ (r : Requester) (a : BitVec 32) (v : Word) (s : State),
    s.present (reqNo r) = true → s.firstOf (reqNo r) = none →
    (a.toNat < 0x1000000 → s.mayWrite (reqNo r) a.toNat = false →
      Performs r a.toNat 3 (exec (.registerWrite r a v) s) (fun t =>
        (∀ b, b ≠ Reg.FLT_REPEATCNT → b ≠ Reg.FLT_INLOST → t.reg b = s.reg b) ∧ t.bobbin = s.bobbin ∧ t.spns = s.spns)) ∧
    (0x1800000 ≤ a.toNat →
      Performs r a.toNat 1 (exec (.registerWrite r a v) s) (fun t => t.regs = s.regs ∧ t.bobbin = s.bobbin ∧ t.spns = s.spns ∧ t.flt = s.flt)) ∧
    (∀ d, RegMap.at a.toNat ≠ none → domainOf a.toNat = some d → s.mayWrite (reqNo r) a.toNat = true → (s.dom d).isolated = true →
      Performs r a.toNat 2 (exec (.registerWrite r a v) s) (fun t => (∀ b, b ≠ Reg.CLK_XDROP 2 → t.reg b = s.reg b) ∧
        t.reg (Reg.CLK_XDROP 2) = s.reg (Reg.CLK_XDROP 2) + (if crossClock d then 1 else 0) ∧ t.bobbin = s.bobbin ∧ t.pwr = s.pwr)) ∧
    (∀ l row, RegMap.at a.toNat = some (l, row, false) → row.acc = .ro ∨ row.acc = .cnt ∨ row.acc = .live → isDelegation l = false → CanWrite s r a.toNat →
      (l.blk = .port → s.isRuntime (reqNo r) = true → runMask l.off = 0) →
      Performs r a.toNat 6 (exec (.registerWrite r a v) s) (fun t => t.regs = s.regs ∧ t.bobbin = s.bobbin ∧ t.spns = s.spns))
  ) ∧ (
  ∀ (r : Requester) (a : BitVec 32) (v : Word) (s : State), CanWrite s r a.toNat →
    (0x1000000 ≤ a.toNat → a.toNat < 0x1800000 →
      Performs r a.toNat 0 (exec (.registerWrite r a v) s) (fun t =>
        t.bob (a.toNat - 0x1000000) = v ∧ (∀ k, k ≠ a.toNat - 0x1000000 → t.bob k = s.bob k) ∧ t.regs = s.regs ∧ t.spns = s.spns)) ∧
    (∀ l row, RegMap.at a.toNat = some (l, row, false) → row.acc = .rw →
      (l.blk = .id ∨ (l.blk = .port ∧ l.off ≠ 2 ∧ l.off ≠ 4 ∧ l.off ≠ 8 ∧ l.off ≠ 0x20 ∧ l.off ≠ 0x24 ∧ l.off ≠ 0x25 ∧ l.off ≠ 0x72)) →
      Performs r a.toNat 0 (exec (.registerWrite r a v) s) (fun t =>
        t.reg a.toNat = clampWord l (s.reg (Reg.PORT_CAP l.inst)) ((s.reg a.toNat &&& ~~~BitVec.ofNat 48 row.mask) ||| (v &&& BitVec.ofNat 48 row.mask)) ∧
        (∀ b, b ≠ a.toNat → b ≠ Reg.DST_EVLOST → b ≠ Reg.DST_STAT → t.reg b = s.reg b) ∧
        t.bobbin = s.bobbin ∧ t.spns = s.spns ∧ t.ports = s.ports ∧ t.fuses = s.fuses)) ∧
    (∀ l row, RegMap.at a.toNat = some (l, row, false) → l.blk = .port → l.off ≠ 0 → runMask l.off ≠ 0 → s.isRuntime (reqNo r) = true →
      Performs r a.toNat 0 (exec (.registerWrite r a v) s) (fun t =>
        t.reg a.toNat = (s.reg a.toNat &&& ~~~BitVec.ofNat 48 (runMask l.off)) ||| (v &&& BitVec.ofNat 48 (runMask l.off)) ∧
        (∀ b, b ≠ a.toNat → b ≠ Reg.DST_EVLOST → b ≠ Reg.DST_STAT → t.reg b = s.reg b) ∧ t.bobbin = s.bobbin ∧ t.spns = s.spns ∧ t.ports = s.ports))
  )

/-- R44: a read of the A of a 96-bit register returns bits [47:0] and latches bits [95:48] for this requester; the TIME it returns is the device time.
R45: a write to the A of a guarded register is held for its requester and completes PENDING, whatever was held before; when the window of 256
ROOT cycles ends the held write is discarded, with fault 0x0F1. -/
def Obligations.SplitReadsAndGuards : Prop :=
  (
  ∀ (r : Requester) (a : BitVec 32) (l : RegLoc) (row : RegRow) (s : State),
    RegMap.at a.toNat = some (l, row, false) → row.acc = .sh → a.toNat ≠ Reg.FLT_HIST → CanReach s r a.toNat →
    nextWith (exec (.shRead r a) s) (fun t =>
      Completed t r a.toNat 0 ((s.shVal l a.toNat).extractLsb' 0 48) ∧ t.shadowOf (reqNo r) = (s.shVal l a.toNat).extractLsb' 48 48 ∧
      t.regs = s.regs ∧ t.spns = s.spns ∧ (l.blk = .time → l.off = 0 → s.shVal l a.toNat = s.time))
  ) ∧ (
  (∀ (r : Requester) (a : BitVec 32) (v : Word) (l : RegLoc) (row : RegRow) (s : State),
    RegMap.at a.toNat = some (l, row, false) → row.acc = .grd → CanWrite s r a.toNat → domainOf a.toNat = none →
    Performs r a.toNat 4 (exec (.guardHold r a v) s) (fun t =>
      t.guardSlot (reqNo r) = some { addr := a.toNat, val := v, since := s.now } ∧ t.reg a.toNat = s.reg a.toNat ∧ t.fuses = s.fuses)) ∧
  (∀ (r : Requester) (g : Guard) (s : State), s.guardSlot (reqNo r) = some g → s.flt.queue.length < 64 → s.codeLocked 0x31 = false →
    nextWith (exec (.guardWindowExpire r) s) (fun t =>
      t.guardSlot (reqNo r) = none ∧ t.fuses = s.fuses ∧
      t.flt.queue = s.flt.queue ++ [{ src := 0x0F1, code := 0x31, info := g.addr % 2 ^ 28, at_ := s.time, seq := s.flt.arrivals, ns := s.now }]))
  )

/-- R39, R41: the status word of a single access carries its code; that of a burst the first code other than OK and PENDING, with its word's address, else OK and the start address; and every word
of a burst write is executed under its own status: the words that the bobbin holds are stored, whatever the unassigned words around them complete with. -/
def Obligations.BurstStatus : Prop :=
  (∀ (b : ReplyBuf) (ws : List (Nat × Nat × Option Word)), b.burst = true → b.status = 0 → b.cut = false → b.addr = b.start →
    let r := ws.foldl (fun x y => x.put y.1 y.2.1 y.2.2) b
    ((∀ y ∈ ws, y.1 = 0 ∨ y.1 = 4) → r.status = 0 ∧ r.addr = b.start) ∧
    (∀ pre x post, ws = pre ++ x :: post → (∀ y ∈ pre, y.1 = 0 ∨ y.1 = 4) → x.1 ≠ 0 → x.1 ≠ 4 → r.status = x.1 ∧ r.addr = x.2.1) ∧
    (∀ u c : Bool, fld (r.statusWord u c) 47 44 = r.status % 16 ∧ fld (r.statusWord u c) 31 0 = r.addr % 2 ^ 32)) ∧
  (∀ (b : ReplyBuf) (st a : Nat) (d : Option Word), b.burst = false → b.status = 0 → b.cut = false → b.addr = b.start →
    (b.put st a d).status = st ∧ (b.put st a d).addr = if st = 0 then b.start else a) ∧
  (∀ (s : State) (c : MgmtCmd) (ws : List Word), c.op = 3 → ws.length = c.count → c.addr + c.count ≤ 2 ^ 32 →
    (∀ i, i < c.count → let a := c.addr + i
      (0x1000000 ≤ a ∧ a < 0x1800000 ∧ CanReach s .host a) ∨ ((a < 0x1000000 ∨ (0x1800000 ≤ a ∧ a < 0x4000000)) ∧ RegMap.at a = none)) →
    let t := s.mgmtWords false c .bare ws
    (∀ k, k < 0x800000 → t.bob k = if c.addr ≤ 0x1000000 + k ∧ 0x1000000 + k < c.addr + c.count then ws.getD (0x1000000 + k - c.addr) 0 else s.bob k) ∧
    t.regs = s.regs)

/-- R6: the life-cycle state is one of four and advances in their order, one step at a time: a guarded write of LC_STATE that names the next state starts its
fuse; one that names any other state is discarded with REFUSED and a NOTE event and leaves the state; the programming ends in the state named; and no
step of the machine, whatever command it takes, moves the life cycle otherwise. -/
def Obligations.LifeCycleRule : Prop :=
  (∀ (w : Word) (s : State), CanPair s .host Reg.LC_STATE → s.guardSlot (reqNo .host) = none →
    (nextLc s.fuses.lc = some (w.extractLsb' 0 4) → s.fuses.prog = none →
      Performs .host (Reg.LC_STATE + 1) 0 (exec (.lcStateWrite .host w) s) (fun t =>
        t.fuses = { s.fuses with prog := some (w.extractLsb' 0 4) } ∧ t.bobbin = s.bobbin ∧ t.spns = s.spns)) ∧
    (nextLc s.fuses.lc ≠ some (w.extractLsb' 0 4) →
      Performs .host (Reg.LC_STATE + 1) 8 (exec (.lcStateWrite .host w) s) (fun t =>
        t.fuses = s.fuses ∧ t.bobbin = s.bobbin ∧ t.spns = s.spns ∧ Queued s t 0x0F2 0x34 (w.toNat % 2 ^ 28)))) ∧
  (∀ (n : BitVec 4) (s : State), s.fuses.prog = some n →
    exec .lcFuseDone s = .next { s with fuses := { s.fuses with lc := n, prog := none } }) ∧
  (∀ s t : State, fusesLegal s.fuses = true → step s = .next t → lcLegal t.fuses.lc = true ∧ fusesForward s.fuses t.fuses = true)

/-- R6, R55, R394: every step keeps the fuses legal: a life-cycle code, a programming in progress only towards the next one, at most 64 rollback fuses. -/
def Obligations.FusesStayLegal : Prop :=
  ∀ s t : State, fusesLegal s.fuses = true → step s = .next t → fusesLegal t.fuses = true

/-- The guarded pairs whose committed value is stored (R52, R247, R328, R334, R358, R365): what each leaves where it is not refused. -/
def Obligations.GuardedPairsStore : Prop :=
  ∀ (r : Requester) (w : Word) (s : State),
    (CanPair s .host Reg.ID_MGMTPATH → bitOf w 0 ≠ s.rb Reg.ID_MGMTPATH 0 → (bitOf w 0 = true → s.lst 0 = 5) →
      Performs .host (Reg.ID_MGMTPATH + 1) 0 (exec (.idMgmtpathWrite .host w) s) (fun t =>
        t.rb Reg.ID_MGMTPATH 0 = bitOf w 0 ∧ t.knots.hostEpoch = (s.knots.hostEpoch + 1) % 256)) ∧
    (CanPair s r Reg.MB_RTSLOT → s.rb Reg.MB_RTSTAT (40 + fld w 0 0) = true → s.oldCount = 0 →
      Performs r (Reg.MB_RTSLOT + 1) 0 (exec (.rtSwitch r w) s) (fun t => t.rf Reg.MB_RTSLOT 0 0 = fld w 0 0 ∧ t.rt = s.rt)) ∧
    (CanPair s r Reg.CLK_SRCSEL → (∀ b ∈ srcFields, s.fieldRefusal b w = 0 ∧ (s.src (srcOfField b)).blocked = false) →
      Performs r (Reg.CLK_SRCSEL + 1) 0 (exec (.clkSrcselWrite r w) s) (fun t =>
        t.reg Reg.CLK_SRCSEL = w &&& 0x7FD#48 ∧ t.reg Reg.CLK_ACTIVE = w &&& 0x7FD#48)) ∧
    (∀ k : Fin 15, CanPair s r (Reg.CLK_PLLCTL k) → s.loopUsed k = false →
      Performs r (Reg.CLK_PLLCTL k + 1) 0 (exec (.clkPllctlWrite r k w) s) (fun t =>
        t.rb (Reg.CLK_PLLCTL k) 47 = bitOf w 47 ∧ t.rf (Reg.CLK_PLLCTL k) 1 0 = (if k = 13 then 2 else fld w 1 0))) ∧
    (CanPair s r Reg.FLT_RECCFG →
      Performs r (Reg.FLT_RECCFG + 1) 0 (exec (.fltReccfgWrite r w) s) (fun t =>
        t.rf Reg.FLT_RECCFG 47 34 = clampNat 1 10000 (fld w 47 34) ∧ t.rf Reg.FLT_RECCFG 33 28 = max 1 (fld w 33 28) ∧
        t.rf Reg.FLT_RECCFG 27 20 = max 1 (fld w 27 20))) ∧
    (∀ (c : BitVec 6) (sev m : Nat) (locked : Bool), CanPair s r (Reg.FLT_CODECFG c.toNat) → FaultCode.info c.toNat = some (sev, m, locked) →
      (locked = true → fld w 46 44 = s.rf (Reg.FLT_CODECFG c.toNat) 46 44) → fld w 45 44 ≤ m →
      Performs r (Reg.FLT_CODECFG c.toNat + 1) 0 (exec (.fltCodecfgWrite r c w) s) (fun t => t.rf (Reg.FLT_CODECFG c.toNat) 46 44 = fld w 46 44)) ∧
    (CanPair s r Reg.PWR_FORCEOFF → fld w 5 0 < 50 →
      Performs r (Reg.PWR_FORCEOFF + 1) 0 (exec (.pwrForceoff r w) s) (fun t => (t.dom (fld w 5 0)).st = 2 ∧ t.reg Reg.PWR_FORCEOFF = BitVec.ofNat 48 (fld w 5 0)))

/-! ## Commands that write a register of one block -/

/-- Commands that write one register of a port or line group (R75, R82, R84, R113, R319): what the write does. A refused skein keeps its word. -/
def Obligations.PortRegisterCommands : Prop :=
  ∀ (r : Requester) (s : State),
    (∀ (p : PortNo) (tm : BitVec 4), CanWrite s r (Reg.PORT_TESTMODE p) →
      Performs r (Reg.PORT_TESTMODE p) 0 (exec (.portTestmodeWrite r p tm) s) (fun t =>
        t.rf (Reg.PORT_TESTMODE p) 3 0 = tm.toNat ∧ ∀ q : PortNo, t.reg (Reg.PORT_STATE q) = s.reg (Reg.PORT_STATE q))) ∧
    (∀ (p : PortNo) (gain : BitVec 6), CanWrite s r (Reg.PORT_AFE p) →
      Performs r (Reg.PORT_AFE p) 0 (exec (.portGainWrite r p gain) s) (fun t =>
        t.rf (Reg.PORT_AFE p) 5 0 = min 32 gain.toNat ∧ (t.port p).half = (s.port p).half ∧
        ((min 32 gain.toNat ≠ s.rf (Reg.PORT_AFE p) 5 0) → s.symcnt p + 64 ≤ (t.port p).settleEnd))) ∧
    (∀ (p : PortNo) (seq : BitVec 4), CanWrite s r (Reg.PORT_AFE p) → s.rf (Reg.PORT_AFE p) 19 16 ≠ seq.toNat →
      Performs r (Reg.PORT_AFE p) 0 (exec (.adcRecalRequest r p seq) s) (fun t =>
        t.rf (Reg.PORT_AFE p) 19 16 = seq.toNat ∧ t.rb (Reg.PORT_AFE p) 24 = true ∧
        (s.rb (Reg.PORT_AFE p) 24 = false → (t.port p).calRun = seq.toNat) ∧
        (s.rb (Reg.PORT_AFE p) 24 = true → (t.port p).calHeld = some seq.toNat))) ∧
    (∀ (g : LgNo) (k : Fin 8) (v : Word), CanWrite s r (Reg.LG_SKEIN g k) →
      (s.skeinRefusal g k v = 0 →
        Performs r (Reg.LG_SKEIN g k) 0 (exec (.lgSkeinWrite r g k v) s) (fun t => t.reg (Reg.LG_SKEIN g k) = v &&& 0xCF000000FFFF#48)) ∧
      (s.skeinRefusal g k v ≠ 0 →
        Performs r (Reg.LG_SKEIN g k) 8 (exec (.lgSkeinWrite r g k v) s) (fun t =>
          t.reg (Reg.LG_SKEIN g k) = s.reg (Reg.LG_SKEIN g k) ∧ t.rf (Reg.LG_SKCFGSTAT g) 3 0 = s.skeinRefusal g k v % 16))) ∧
    (∀ (g : LgNo) (v : Word), CanWrite s r (Reg.LG_REPCTL g) → s.rb (Reg.LG_REPCTL g) 47 = false →
      Performs r (Reg.LG_REPCTL g) 0 (exec (.replayStart r g v) s) (fun t =>
        (t.lg g).replay.st = 1 ∧ (t.lg g).replay.src = bitOf v 40 ∧ (t.lg g).replay.spn = fld v 37 32 ∧ (t.lg g).replay.base = fld v 31 0 ∧
        (t.lg g).replay.at_ = s.now ∧ t.rf (Reg.LG_REPSTAT g) 47 45 = 1))

/-- R197, R217, R227, R228: halting, releasing and configuring a spindle, and the windows on its memories, whose address advances. A read of
a word with a single-bit error is corrected and counted, of one with a double-bit error counted (R195), its data a free value (log entry 159).
R217: a spindle that halts reports it once no tag is in flight and no branch is unresolved, with the PC in SPN_STARTPC. -/
def Obligations.SpindleControlCommands : Prop :=
  (
  ∀ (r : Requester) (n : SpnNo) (s : State),
    let x := s.spn n
    let a := Reg.SPN_CTL n
    let ctlFits := s.rf a 5 4 = x.mode ∧ s.rb a 1 = x.replay ∧ x.mode < 3 ∧ (x.mode = 0 → n = s.supSpn)
    (CanWrite s r a → ctlFits → s.rb a 47 = false → x.run = .running →
      Performs r a 0 (exec (.spnHalt r n) s) (fun t =>
        (t.spn n).run = .halting ∧ (t.spn n).pc = x.pc ∧ t.rb a 47 = true ∧ ∀ m, m ≠ n.val → t.spn m = s.spn m)) ∧
    (CanWrite s r a → ctlFits → s.rb a 47 = true → (x.run = .halted ∨ x.run = .doubleHalt) →
      Performs r a 0 (exec (.spnRelease r n) s) (fun t =>
        (t.spn n).run = .running ∧ (t.spn n).pc = s.rf (Reg.SPN_STARTPC n) 31 0 ∧ t.rb a 47 = false ∧ (t.spn n).g = x.g ∧ (t.spn n).dmem = x.dmem)) ∧
    (∀ (mode : BitVec 2) (rp : Bool), CanWrite s r a → (s.spnState n = 1 ∨ s.spnState n = 5) → mode.toNat < 3 →
      (mode.toNat = 0 → n = s.supSpn) → s.rb a 47 = true →
      Performs r a 0 (exec (.spnCtlModeWrite r n mode rp) s) (fun t =>
        (t.spn n).mode = mode.toNat ∧ (t.spn n).replay = rp ∧ (t.spn n).run = x.run ∧ (t.spn n).imem = x.imem)) ∧
    (∀ (mode : BitVec 2) (rp : Bool), CanWrite s r a → s.spnState n ≠ 1 → s.spnState n ≠ 5 → mode.toNat ≠ x.mode →
      Performs r a 8 (exec (.spnCtlModeWrite r n mode rp) s) (fun t => t.spns = s.spns ∧ t.rf (Reg.SPN_STAT n) 43 40 = 1)) ∧
    (∀ v : Word, CanWrite s r (Reg.SPN_IMDATA n) →
      let k := (s.preq (reqNo r) (Reg.SPN_IMADDR n)).toNat % 0x2000
      Performs r (Reg.SPN_IMDATA n) 0 (exec (.spnImdataAccess r n true v) s) (fun t =>
        (t.spn n).im k = v ∧ (∀ j, j ≠ k → (t.spn n).im j = x.im j) ∧
        t.preq (reqNo r) (Reg.SPN_IMADDR n) = BitVec.ofNat 48 ((k + 1) % 0x2000))) ∧
    (∀ v : Word, CanReach s r (Reg.SPN_IMDATA n) →
      let k := (s.preq (reqNo r) (Reg.SPN_IMADDR n)).toNat % 0x2000
      let e := Tab.get (fun _ => 0) x.eccI k
      nextWith (exec (.spnImdataAccess r n false v) s) (fun t =>
        (∃ d, Completed t r (Reg.SPN_IMDATA n) (if Tab.get (fun _ => false) s.badpar (Reg.SPN_IMDATA n) then 7 else 0) d ∧ (e ≠ 2 → d = x.im k)) ∧
        t.reg (Reg.SPN_ECCCOR n) = s.reg (Reg.SPN_ECCCOR n) + (if e = 1 then 1 else 0) ∧
        t.reg (Reg.SPN_ECCUNC n) = s.reg (Reg.SPN_ECCUNC n) + (if e = 2 then 1 else 0) ∧
        t.spns = s.spns ∧ t.preq (reqNo r) (Reg.SPN_IMADDR n) = BitVec.ofNat 48 ((k + 1) % 0x2000))) ∧
    (∀ v : Word, CanWrite s r (Reg.SPN_DMDATA n) →
      let k := (s.preq (reqNo r) (Reg.SPN_DMADDR n)).toNat % 0x4000
      Performs r (Reg.SPN_DMDATA n) 0 (exec (.spnDmdataAccess r n true v) s) (fun t =>
        (t.spn n).dm k = v ∧ (∀ j, j ≠ k → (t.spn n).dm j = x.dm j) ∧
        t.preq (reqNo r) (Reg.SPN_DMADDR n) = BitVec.ofNat 48 ((k + 1) % 0x4000))) ∧
    (∀ v : Word, CanReach s r (Reg.SPN_DMDATA n) →
      let k := (s.preq (reqNo r) (Reg.SPN_DMADDR n)).toNat % 0x4000
      let e := Tab.get (fun _ => 0) x.eccD k
      nextWith (exec (.spnDmdataAccess r n false v) s) (fun t =>
        (∃ d, Completed t r (Reg.SPN_DMDATA n) (if Tab.get (fun _ => false) s.badpar (Reg.SPN_DMDATA n) then 7 else 0) d ∧ (e ≠ 2 → d = x.dm k)) ∧
        t.reg (Reg.SPN_ECCCOR n) = s.reg (Reg.SPN_ECCCOR n) + (if e = 1 then 1 else 0) ∧
        t.reg (Reg.SPN_ECCUNC n) = s.reg (Reg.SPN_ECCUNC n) + (if e = 2 then 1 else 0) ∧
        t.spns = s.spns ∧ t.preq (reqNo r) (Reg.SPN_DMADDR n) = BitVec.ofNat 48 ((k + 1) % 0x4000)))
  ) ∧ (
  ∀ (n : SpnNo) (s : State),
    let x := s.spn n
    x.run = .halting → x.ckpts = [] → (∀ u, u < 8 → x.op u = none) →
    nextWith (exec (.spnHaltDone n) s) (fun t =>
      (t.spn n).run = (if x.dbl then .doubleHalt else if s.rb (Reg.SPN_CTL n) 47 then .halted else .running) ∧
      t.rf (Reg.SPN_STARTPC n) 31 0 = x.pc % 2 ^ 32 ∧ (t.spn n).g = x.g ∧ ∀ m, m ≠ n.val → t.spn m = s.spn m)
  )

/-- R229, R230, R232, R253: doorbell, ring registers, completion index, mailboxes. A write that enables a ring resets its indices, the host's with the
device's, and the PHASE pass (R254; log entry 30).
R250, R251: the host acquires a free knot for a lease, renews it, releases it; when the lease runs out the knot is released broken. -/
def Obligations.MailboxAndHostKnots : Prop :=
  (
  ∀ (r : Requester) (s : State),
    (∀ ix : BitVec 16, CanWrite s r Reg.MB_DOORBELL →
      let far := s.cmdRingOn = true ∧ 2 ^ s.rf Reg.MB_CMDSIZE 3 0 < (ix.toNat + 65536 - s.rf Reg.MB_CMDRD 15 0) % 65536
      (¬ far → Performs r Reg.MB_DOORBELL 0 (exec (.mbDoorbellWrite r ix) s) (fun t => t.reg Reg.MB_DOORBELL = BitVec.ofNat 48 ix.toNat)) ∧
      (far → Performs r Reg.MB_DOORBELL 0 (exec (.mbDoorbellWrite r ix) s) (fun t =>
        t.reg Reg.MB_DOORBELL = s.reg Reg.MB_DOORBELL ∧ t.reg Reg.MB_BADBELL = s.reg Reg.MB_BADBELL + 1))) ∧
    (∀ (k : Fin 4) (v : Word), CanWrite s r (ringReg k) →
      (s.ringBusy = false → Performs r (ringReg k) 0 (exec (.mbRingConfigWrite r k v) s) (fun t =>
        ((k = 0 ∨ k = 2) → t.rf (ringReg k) 31 0 = fld v 31 0) ∧
        ((k = 1 ∨ k = 3) → t.rf (ringReg k) 3 0 = if fld v 3 0 = 0 then 0 else clampNat (if k = 1 then 6 else 8) 12 (fld v 3 0)) ∧
        (k = 1 → fld v 3 0 ≠ 0 → t.reg Reg.MB_CMDRD = 0 ∧ t.reg Reg.MB_DOORBELL = 0) ∧
        (k = 3 → fld v 3 0 ≠ 0 → t.reg Reg.MB_CPLWR = 0 ∧ t.reg Reg.MB_CPLRD = 0 ∧ t.rt.phase = true) ∧
        (k = 0 ∨ k = 2 ∨ fld v 3 0 = 0 → t.reg Reg.MB_CMDRD = s.reg Reg.MB_CMDRD ∧ t.reg Reg.MB_CPLWR = s.reg Reg.MB_CPLWR ∧ t.rt = s.rt))) ∧
      (s.ringBusy = true → Performs r (ringReg k) 8 (exec (.mbRingConfigWrite r k v) s) (fun t =>
        t.reg (ringReg k) = s.reg (ringReg k) ∧ t.rf Reg.MB_HOSTSTAT 47 44 = 1))) ∧
    (∀ ix : BitVec 16, CanWrite s r Reg.MB_CPLRD →
      Performs r Reg.MB_CPLRD 0 (exec (.mbCplrdWrite r ix) s) (fun t => t.rf Reg.MB_CPLRD 15 0 = ix.toNat ∧ t.rt = s.rt)) ∧
    (∀ (n : SpnNo) (v : Word), CanWrite s r (Reg.MB_TX n) → s.spnInService n = true →
      ((s.spn n).mbox.length < 16 → Performs r (Reg.MB_TX n) 0 (exec (.mbTxWrite r n v) s) (fun t => (t.spn n).mbox = (s.spn n).mbox ++ [v])) ∧
      (16 ≤ (s.spn n).mbox.length → Performs r (Reg.MB_TX n) 8 (exec (.mbTxWrite r n v) s) (fun t => t.spns = s.spns))) ∧
    (∀ w rest, CanReach s r Reg.MB_HOSTRX → s.rt.hostBox = w :: rest →
      nextWith (exec (.mbHostrxRead r) s) (fun t => Completed t r Reg.MB_HOSTRX 0 w ∧ t.rt.hostBox = rest))
  ) ∧ (
  ∀ (k : Fin 64) (lease : BitVec 32) (s : State),
    let a := Reg.KNOT_HOST k
    let mine := s.knotHeld k = true ∧ s.knotOwner k = 48
    (CanWrite s .host a → 32 ≤ k.val → s.knots.hostEpoch < 256 →
      (s.knotHeld k = false → s.waiters k = [] → Performs .host a 0 (exec (.knotHostAcquire k lease) s) (fun t =>
        t.knotHeld k = true ∧ t.knotOwner k = 48 ∧ t.knotBroken k = s.knotBroken k ∧
        t.leaseEnd k = s.now + 1000 * clampNat 1000 10000000 lease.toNat)) ∧
      (s.knotHeld k = true → Performs .host a 8 (exec (.knotHostAcquire k lease) s) (fun t => t.reg (Reg.KNOT_STATE k) = s.reg (Reg.KNOT_STATE k))) ∧
      (mine → Performs .host a 0 (exec (.knotHostRenew k lease) s) (fun t =>
        t.knotHeld k = true ∧ t.leaseEnd k = s.now + 1000 * clampNat 1000 10000000 lease.toNat)) ∧
      (mine → Performs .host a 0 (exec (.knotHostRelease k) s) (fun t => t.knotHeld k = false ∧ t.knotOwner k = 63 ∧ t.knotBroken k = false))) ∧
    (mine → nextWith (exec (.knotLeaseExpire k) s) (fun t =>
      t.knotHeld k = false ∧ t.knotOwner k = 63 ∧ t.knotBroken k = true ∧ t.knots.hostEpoch = (s.knots.hostEpoch + 1) % 256 ∧
      t.reg Reg.KNOT_BROKENCNT = s.reg Reg.KNOT_BROKENCNT + 1))
  )

/-- R259, R278, R281: gate-list changes are taken up as pending, policer and meter words stored and their levels started afresh.
R297, R299, R303, R304: commands on a lane's control register. A disabled lane that is enabled starts its search;
a sleep is announced in eight capability sets first, but where the transmitter sends nothing (log entry 161).
R315–R318: commands on the distaff's control register, and a read of the frozen hank. Of the causes in one cycle the lowest stands (R316). -/
def Obligations.TrafficLaneAndDistaffRegisters : Prop :=
  (
  ∀ (r : Requester) (s : State),
    (let changes := fun (i : Instr) (l : Nat) (seq : BitVec 4) =>
        CanWrite s r (glCtl l) → s.rf (glCtl l) 19 16 ≠ seq.toNat →
        (s.glPending l = false → s.rf (glAdmin l) 7 0 ≠ 0 → s.rf (glAdmin l) 7 0 ≤ glMax l → s.rf (glAdmin l) 39 8 ≠ 0 →
          Performs r (glCtl l) 0 (exec i s) (fun t => t.rb (glCtl l) 24 = true ∧ t.rf (glCtl l) 19 16 = seq.toNat ∧ t.rb (glCtl l) 47 = s.rb (glCtl l) 47)) ∧
        (s.glPending l = true → Performs r (glCtl l) 8 (exec i s) (fun t => t.rf (glCtl l) 19 16 = s.rf (glCtl l) 19 16 ∧ t.rf (glCtl l) 31 28 = 1))
     (∀ (e : EgrNo) (seq : BitVec 4), changes (.gclChange r e seq) e seq) ∧
     (∀ (j : Fin 64) (seq : BitVec 4), j.val ≠ 0 → changes (.sgChange r j seq) (112 + j.val) seq)) ∧
    (∀ (st : Fin 4096) (v : Word), CanWrite s r (Reg.TM_SPOL0 st) →
      Performs r (Reg.TM_SPOL0 st) 0 (exec (.tmPolicerWrite r st false v) s) (fun t =>
        t.reg (Reg.TM_SPOL0 st) &&& 0xC00001FFFFFF#48 = v &&& 0xC00001FFFFFF#48 ∧ Tab.get (fun _ => none) t.tm.pol st = none)) ∧
    (∀ (st : Fin 4096) (v : Word), CanWrite s r (Reg.TM_SPOL1 st) →
      Performs r (Reg.TM_SPOL1 st) 0 (exec (.tmPolicerWrite r st true v) s) (fun t =>
        t.reg (Reg.TM_SPOL1 st) &&& 0xFFFFFF#48 = v &&& 0xFFFFFF#48 ∧ Tab.get (fun _ => none) t.tm.pol st = none)) ∧
    (∀ (m : Fin 1024) (k : Fin 4) (row : RegRow) (v : Word), CanWrite s r (Reg.TM_MCFG m + k) →
      RegMap.at (Reg.TM_MCFG m + k) = some ({ blk := .meter, inst := m, sub := 0, off := k }, row, false) →
      Performs r (Reg.TM_MCFG m + k) 0 (exec (.tmMeterWrite r m k v) s) (fun t =>
        t.reg (Reg.TM_MCFG m + k) &&& BitVec.ofNat 48 row.mask = v &&& BitVec.ofNat 48 row.mask ∧ Tab.get (fun _ => none) t.tm.met (2 * m) = none ∧
        Tab.get (fun _ => none) t.tm.met (2 * m + 1) = none))
  ) ∧ (
  ∀ (r : Requester) (n : LaneNo) (s : State),
    let a := Reg.HL_CTL n
    CanWrite s r a →
    (s.rb a 47 = false → (s.lane n).isolated = false →
      Performs r a 0 (exec (.hlEnable r n) s) (fun t => t.rb a 47 = true ∧ t.lst n = 1 ∧ t.aligned n = false)) ∧
    (∀ seq : BitVec 4, s.rf a 19 16 ≠ seq.toNat →
      Performs r a 0 (exec (.hlBuseqChange r n seq) s) (fun t =>
        t.rf (Reg.HL_STAT n) 19 16 = seq.toNat ∧ t.reg (Reg.HL_BRINGUP n) = s.reg (Reg.HL_BRINGUP n) + 1 ∧
        (s.lst n ≠ 0 → t.lst n = 1))) ∧
    (∀ seq : BitVec 4, s.rf a 23 20 ≠ seq.toNat →
      Performs r a 0 (exec (.hlSlip r n seq) s) (fun t => t.rf (Reg.HL_STAT n) 23 20 = seq.toNat ∧ t.aligned n = false)) ∧
    (∀ on : Bool, s.rb a 8 = !on → (on = true → s.sleepRefusal n = 0) →
      Performs r a 0 (exec (.hlTxsleep r n on) s) (fun t =>
        t.rb a 8 = on ∧ (on = true → (t.lane n).sleepTx = true ∧ (t.lane n).txSets = 8 ∧ t.rb (Reg.HL_STAT n) 39 = s.rb (Reg.HL_STAT n) 39) ∧
        (on = false → (t.lane n).sleepTx = false ∧ t.rb (Reg.HL_STAT n) 39 = false))) ∧
    (∀ on : Bool, s.rb a 9 = !on → (on = true → s.sleepRefusal n = 0) →
      Performs r a 0 (exec (.hlRxsleep r n on) s) (fun t => t.rb a 9 = on ∧
        (on = true → s.laneSends n = true → (t.lane n).rxSets = 8 ∧ t.rb (Reg.HL_STAT n) 38 = s.rb (Reg.HL_STAT n) 38) ∧
        (on = true → s.laneSends n = false → t.rb (Reg.HL_STAT n) 38 = true) ∧ (on = false → t.rb (Reg.HL_STAT n) 38 = false))) ∧
    (s.rb a 8 = false → s.sleepRefusal n ≠ 0 →
      Performs r a 8 (exec (.hlTxsleep r n true) s) (fun t => t.rf (Reg.HL_STAT n) 27 24 = s.sleepRefusal n ∧ t.reg a = s.reg a))
  ) ∧ (
  ∀ (r : Requester) (s : State) (seq : BitVec 4), CanWrite s r Reg.DST_CTL →
    (s.rf Reg.DST_CTL 23 20 ≠ seq.toNat →
      (s.armRefusal = 0 → Performs r Reg.DST_CTL 0 (exec (.dstArm r seq) s) (fun t =>
        t.dstState = 1 ∧ t.rf Reg.DST_HANKID 31 0 = (s.rf Reg.DST_HANKID 31 0 + 1) % 2 ^ 32 ∧ t.rf Reg.DST_CTL 23 20 = seq.toNat)) ∧
      (s.armRefusal ≠ 0 → Performs r Reg.DST_CTL 8 (exec (.dstArm r seq) s) (fun t =>
        t.dstState = s.dstState ∧ t.rf Reg.DST_STAT 43 40 = s.armRefusal ∧ t.reg Reg.DST_CTL = s.reg Reg.DST_CTL))) ∧
    (s.rf Reg.DST_CTL 19 16 ≠ seq.toNat →
      Performs r Reg.DST_CTL 0 (exec (.dstTrigseq r seq) s) (fun t =>
        (s.dstState = 1 → t.dstState = 2 ∧ t.rf Reg.DST_STAT 39 36 = 1 ∧ t.reg Reg.DST_TRIGCNT = s.reg Reg.DST_TRIGCNT + 1) ∧
        (s.dstState ≠ 1 → (s.dstState = 2 → s.dst.trigNow ≠ some s.now) →
          t.dstState = s.dstState ∧ t.reg Reg.DST_TRIGLOST = s.reg Reg.DST_TRIGLOST + 1) ∧
        (s.dstState = 2 → s.dst.trigNow = some s.now → 1 ≤ s.rf Reg.DST_STAT 39 36 →
          t.dstState = 2 ∧ t.rf Reg.DST_STAT 39 36 = 1 ∧ t.reg Reg.DST_TRIGLOST = s.reg Reg.DST_TRIGLOST))) ∧
    (s.rf Reg.DST_CTL 15 12 ≠ seq.toNat → s.replayReads = false → s.dstState = 3 →
      Performs r Reg.DST_CTL 0 (exec (.dstRelease r seq) s) (fun t => t.dstState = 0 ∧ t.dst.hank = [] ∧ t.reg Reg.DST_HANKLEN = 0)) ∧
    (s.rf Reg.DST_CTL 11 8 ≠ seq.toNat →
      Performs r Reg.DST_CTL 0 (exec (.dstExport r seq) s) (fun t =>
        t.rf Reg.DST_CTL 11 8 = seq.toNat ∧ t.dst.hank = s.dst.hank ∧
        ((s.rb Reg.DST_EXPCFG 47 = false ∨ s.dstState ≠ 3) → t.tm = s.tm) ∧
        (s.rb Reg.DST_EXPCFG 47 = true → s.dstState = 3 → t.tm.nextFid = s.tm.nextFid + (s.dst.hank.length + 239) / 240))) ∧
    (CanReach s r Reg.DST_RDDATA →
      let k := (s.preq (reqNo r) Reg.DST_RDADDR).toNat
      nextWith (exec (.dstRddataRead r) s) (fun t =>
        Completed t r Reg.DST_RDDATA 0 (s.dst.hank.getD k 0) ∧ t.preq (reqNo r) Reg.DST_RDADDR = BitVec.ofNat 48 (k + 1) ∧ t.dst = s.dst))
  )

/-- R328, R414, R339–R343: a read of CLK_READY acknowledges what it reads; TIME_SET and TIME_STEP wait for the next tick; TARGET of a domain at rest.
R364–R368, R376, R380, R385, R397, R406: commands on registers of the fault collector, self-test, CSP and the pins. -/
def Obligations.ClockPowerAndControlRegisters : Prop :=
  (
  ∀ (r : Requester) (s : State),
    (CanReach s r Reg.CLK_READY →
      nextWith (exec (.clkReadyRead r) s) (fun t => Completed t r Reg.CLK_READY 0 (s.reg Reg.CLK_READY) ∧
        t.reg Reg.CLK_ACK = s.reg Reg.CLK_ACK ||| s.reg Reg.CLK_READY)) ∧
    (∀ seq : BitVec 4, CanWrite s r Reg.TIME_CTL →
      (s.rf Reg.TIME_CTL 23 20 ≠ seq.toNat → Performs r Reg.TIME_CTL 0 (exec (.timeSet r seq) s) (fun t =>
        t.setPend = true ∧ t.stepPend = s.stepPend ∧ t.time = s.time ∧ t.rf Reg.TIME_CTL 23 20 = seq.toNat)) ∧
      (s.rf Reg.TIME_CTL 19 16 ≠ seq.toNat → Performs r Reg.TIME_CTL 0 (exec (.timeStep r seq) s) (fun t =>
        t.stepPend = true ∧ t.setPend = s.setPend ∧ t.time = s.time ∧ t.rf Reg.TIME_CTL 19 16 = seq.toNat))) ∧
    (∀ d : Fin 50, CanWrite s r (Reg.PWR_DOMCTL d) → (s.dom d).chg = 0 →
      ((s.dom d).st = 1 ∨ (s.dom d).st = 2 →
        Performs r (Reg.PWR_DOMCTL d) 0 (exec (.domainTargetOn r d) s) (fun t => (t.dom d).chg = 3 ∧ t.rf (Reg.PWR_DOMCTL d) 1 0 = 0)) ∧
      (∀ delay : Bool, (s.dom d).st = 0 →
        (s.entryReason d true (s.retMem d 0) = none →
          Performs r (Reg.PWR_DOMCTL d) 0 (exec (.domainTargetRet r d delay) s) (fun t => (t.dom d).chg = 1 ∧ (t.dom d).delayed = delay ∧ (t.dom d).st = 0)) ∧
        (s.entryReason d true false = none →
          Performs r (Reg.PWR_DOMCTL d) 0 (exec (.domainTargetOff r d delay) s) (fun t => (t.dom d).chg = 2 ∧ (t.dom d).delayed = delay ∧ (t.dom d).st = 0)) ∧
        (∀ why unit, s.entryReason d true false = some (why, unit) →
          Performs r (Reg.PWR_DOMCTL d) 0 (exec (.domainTargetOff r d false) s) (fun t =>
            (t.dom d).chg = 0 ∧ (t.dom d).st = 0 ∧ t.rf (Reg.PWR_DOMSTAT d) 43 40 = why % 16 ∧ t.rf (Reg.PWR_DOMCTL d) 1 0 = 0 ∧
            t.reg Reg.PWR_REFUSECNT = s.reg Reg.PWR_REFUSECNT + 1))))
  ) ∧ (
  ∀ (r : Requester) (s : State),
    (∀ (seq : BitVec 4) (src : BitVec 12), CanWrite s r Reg.FLT_RELEASE → s.rf Reg.FLT_RELEASE 47 44 ≠ seq.toNat →
      ((s.fsrc src.toNat).st = 2 → Performs r Reg.FLT_RELEASE 0 (exec (.fltRelease r seq src) s) (fun t => (t.fsrc src.toNat).st = 0)) ∧
      ((s.fsrc src.toNat).st ≠ 2 → Performs r Reg.FLT_RELEASE 8 (exec (.fltRelease r seq src) s) (fun t => t.flt = s.flt ∧ t.rf Reg.FLT_STAT 43 40 = 4))) ∧
    (∀ v : Word, CanWrite s r Reg.FLT_PIN →
      Performs r Reg.FLT_PIN 0 (exec (.fltPinWrite r v) s) (fun t =>
        t.rf Reg.FLT_PIN 9 0 = clampNat 1 1000 (fld v 9 0) ∧ t.rb Reg.FLT_PIN 47 = bitOf v 47 ∧ (bitOf v 47 = false → t.flt.hold = false))) ∧
    (∀ ack : BitVec 16, CanWrite s r Reg.FLT_INTCFG →
      Performs r Reg.FLT_INTCFG 0 (exec (.fltAckWrite r ack) s) (fun t => t.rf Reg.FLT_INTCFG 15 0 = ack.toNat ∧ t.rb Reg.FLT_INTCFG 47 = s.rb Reg.FLT_INTCFG 47)) ∧
    (∀ (x : Rec) (rest : List Rec), CanReach s r Reg.FLT_HIST → s.flt.hist = x :: rest →
      nextWith (exec (.fltHistRead r) s) (fun t => Completed t r Reg.FLT_HIST 0 x.w0 ∧ t.shadowOf (reqNo r) = x.w1 ∧
        t.flt.hist = (if r = .host then rest else s.flt.hist))) ∧
    (∀ (seq cls : BitVec 4) (unit : BitVec 16), CanWrite s r Reg.BIST_CTL → s.rf Reg.BIST_CTL 47 44 ≠ seq.toNat → s.lcOpen = true →
      unit.toNat < testUnits cls.toNat → s.bist.cur = none →
      Performs r Reg.BIST_CTL 0 (exec (.bistExternal r seq cls unit) s) (fun t =>
        t.bist.cur = some { cls := cls.toNat, unit := unit.toNat, ext := true, seq := seq.toNat, since := s.flt.arrivals })) ∧
    (∀ lines : BitVec 2, CanWrite s r Reg.CSP1_CFG → (s.rb Reg.CSP1_CFG 47 = true → s.lcOpen = true) →
      Performs r Reg.CSP1_CFG 0 (exec (.csp1LinesWrite r lines) s) (fun t =>
        t.rf Reg.CSP1_CFG 45 44 = min 2 lines.toNat ∧ t.csp1.lines = some (min 2 lines.toNat) ∧ t.rb Reg.CSP1_CFG 47 = s.rb Reg.CSP1_CFG 47)) ∧
    (∀ csp1 mode : Bool, CanWrite s r (if csp1 then Reg.CSP1_CFG else Reg.CSP0_CFG) →
      (s.lcOpen = true → s.boot.commit = none →
        Performs r (if csp1 then Reg.CSP1_CFG else Reg.CSP0_CFG) 0 (exec (.cspModeWrite r csp1 mode) s) (fun t =>
          t.rb (if csp1 then Reg.CSP1_CFG else Reg.CSP0_CFG) 47 = mode)) ∧
      (csp1 = false → s.boot.commit ≠ none →
        Performs r Reg.CSP0_CFG 8 (exec (.cspModeWrite r csp1 mode) s) (fun t => t.rf Reg.CSP0_STAT 43 40 = 2 ∧ t.reg Reg.CSP0_CFG = s.reg Reg.CSP0_CFG)) ∧
      (s.lcOpen = false → mode = true → (csp1 = false → s.boot.commit = none) →
        Performs r (if csp1 then Reg.CSP1_CFG else Reg.CSP0_CFG) 8 (exec (.cspModeWrite r csp1 mode) s) (fun t =>
          t.rf (if csp1 then Reg.CSP1_STAT else Reg.CSP0_STAT) 43 40 = 1 ∧ t.csp1 = s.csp1))) ∧
    (∀ (pin : Fin 32) (v : Word), CanWrite s r (Reg.PIN_FUNC pin) →
      (s.pinRefusal pin (fld v 1 0) = 0 → Performs r (Reg.PIN_FUNC pin) 0 (exec (.pinFuncWrite r pin v) s) (fun t =>
        t.rf (Reg.PIN_FUNC pin) 1 0 = fld v 1 0 ∧ t.rf (Reg.PIN_FUNC pin) 9 8 = fld v 9 8 ∧
        t.rf (Reg.PIN_FUNC pin) 7 6 = (if fld v 7 6 = 3 then 2 else fld v 7 6) ∧ t.rb (Reg.PIN_FUNC pin) 47 = (s.rb (Reg.PIN_FUNC pin) 47 || decide (fld v 1 0 ≠ s.pinFunc pin)))) ∧
      (s.pinRefusal pin (fld v 1 0) ≠ 0 → Performs r (Reg.PIN_FUNC pin) 8 (exec (.pinFuncWrite r pin v) s) (fun t =>
        t.reg (Reg.PIN_FUNC pin) = s.reg (Reg.PIN_FUNC pin) ∧ t.rf Reg.PIN_STAT 47 44 = s.pinRefusal pin (fld v 1 0))))
  )

/-! ## Wovin instructions (R194–R228) -/

/-- R203, register forms: each instruction gives its result of a and b to the register named by D, in one step, and nothing else changes
but the PC, the count of retired instructions and what the fetch leaves.
R203, immediate forms: b is the sign-extended IMM30.
R203 CLZ, R204 LI, LIH and LPC. The result of CLZ is the number v of leading zeros: a lies below 2^(48 − v) and, unless it is 0, not
below 2^(47 − v).
R194: a write to g0 is discarded and g0 reads 0; a write to any other scalar register changes what that one reads, and no other
scalar register and no lane of a vector register. -/
def Obligations.ScalarInstructions : Prop :=
  (
  ∀ row ∈ ([
      (0x00, Instr.add, fun a b => a + b), (0x01, Instr.sub, fun a b => a - b), (0x02, Instr.and, fun a b => a &&& b),
      (0x03, Instr.or, fun a b => a ||| b), (0x04, Instr.xor, fun a b => a ^^^ b), (0x05, Instr.sll, fun a b => a <<< (b.toNat % 64)),
      (0x06, Instr.srl, fun a b => a >>> (b.toNat % 64)), (0x07, Instr.sra, fun a b => a.sshiftRight (b.toNat % 64)),
      (0x08, Instr.slt, fun a b => if a.toInt < b.toInt then 1 else 0), (0x09, Instr.sltu, fun a b => if a.toNat < b.toNat then 1 else 0),
      (0x0A, Instr.mul, fun a b => BitVec.ofInt 48 (a.toInt * b.toInt)),
      (0x0B, Instr.mulh, fun a b => (a.signExtend 96 * b.signExtend 96).extractLsb' 48 48),
      (0x0C, Instr.min, fun a b => BitVec.ofInt 48 (min a.toInt b.toInt)), (0x0D, Instr.max, fun a b => BitVec.ofInt 48 (max a.toInt b.toInt)),
      (0x0F, Instr.sat, fun a b =>
        let k := if b.toNat % 64 = 0 ∨ 48 < b.toNat % 64 then 48 else b.toNat % 64
        BitVec.ofInt 48 (max (-(2 ^ (k - 1))) (min (2 ^ (k - 1) - 1) a.toInt)))]
      : List (Nat × (SpnNo → BitVec 40 → Instr) × (Word → Word → Word))),
    ∀ (n : SpnNo) (w : BitVec 40) (s : State) (c : Bool),
      Issues s n row.1 w c true [opD w, opA w, opB w] → w.toNat % 2 ^ 25 = 0 →
      Retires s n c (((s.spn n).setGr (opD w) (row.2.2 ((s.spn n).gr (opA w)) ((s.spn n).gr (opB w)))).step ((s.spn n).pc + 1))
        (exec (row.2.1 n w) s)
  ) ∧ (
  ∀ row ∈ ([
      (0x10, Instr.addi, fun a b => a + b), (0x12, Instr.andi, fun a b => a &&& b), (0x13, Instr.ori, fun a b => a ||| b),
      (0x14, Instr.xori, fun a b => a ^^^ b), (0x15, Instr.slli, fun a b => a <<< (b.toNat % 64)),
      (0x16, Instr.srli, fun a b => a >>> (b.toNat % 64)), (0x17, Instr.srai, fun a b => a.sshiftRight (b.toNat % 64)),
      (0x18, Instr.slti, fun a b => if a.toInt < b.toInt then 1 else 0), (0x19, Instr.sltiu, fun a b => if a.toNat < b.toNat then 1 else 0),
      (0x1A, Instr.muli, fun a b => BitVec.ofInt 48 (a.toInt * b.toInt)),
      (0x1C, Instr.mini, fun a b => BitVec.ofInt 48 (min a.toInt b.toInt)), (0x1D, Instr.maxi, fun a b => BitVec.ofInt 48 (max a.toInt b.toInt)),
      (0x1F, Instr.sati, fun a b =>
        let k := if b.toNat % 64 = 0 ∨ 48 < b.toNat % 64 then 48 else b.toNat % 64
        BitVec.ofInt 48 (max (-(2 ^ (k - 1))) (min (2 ^ (k - 1) - 1) a.toInt)))]
      : List (Nat × (SpnNo → BitVec 40 → Instr) × (Word → Word → Word))),
    ∀ (n : SpnNo) (w : BitVec 40) (s : State) (c : Bool),
      Issues s n row.1 w c true [opD w, opA w] →
      Retires s n c (((s.spn n).setGr (opD w) (row.2.2 ((s.spn n).gr (opA w)) ((w.extractLsb' 0 30).signExtend 48))).step ((s.spn n).pc + 1))
        (exec (row.2.1 n w) s)
  ) ∧ (
  ∀ (n : SpnNo) (w : BitVec 40) (s : State) (c : Bool),
    (Issues s n 0x0E w c true [opD w, opA w] → w.toNat % 2 ^ 30 = 0 →
      ∃ v : Nat, v ≤ 48 ∧ ((s.spn n).gr (opA w)).toNat < 2 ^ (48 - v) ∧ (v < 48 → 2 ^ (47 - v) ≤ ((s.spn n).gr (opA w)).toNat) ∧
        Retires s n c (((s.spn n).setGr (opD w) (BitVec.ofNat 48 v)).step ((s.spn n).pc + 1)) (exec (.clz n w) s)) ∧
    (Issues s n 0x20 w c true [opD w] →
      Retires s n c (((s.spn n).setGr (opD w) ((w.extractLsb' 0 35).signExtend 48)).step ((s.spn n).pc + 1)) (exec (.li n w) s)) ∧
    (Issues s n 0x21 w c true [opD w] → w.toNat / 2 ^ 13 % 2 ^ 22 = 0 →
      Retires s n c (((s.spn n).setGr (opD w) (w.extractLsb' 0 13 ++ ((s.spn n).gr (opD w)).extractLsb' 0 35)).step ((s.spn n).pc + 1))
        (exec (.lih n w) s)) ∧
    (Issues s n 0x22 w c true [opD w] →
      Retires s n c (((s.spn n).setGr (opD w) (BitVec.ofNat 48 (s.spn n).pc + (w.extractLsb' 0 35).signExtend 48)).step ((s.spn n).pc + 1))
        (exec (.lpc n w) s))
  ) ∧ (
  ∀ (x : Spindle) (d : Nat) (v : Word),
    x.gr 0 = 0 ∧ x.setGr 0 v = x ∧ (d ≠ 0 → (x.setGr d v).gr d = v) ∧ (∀ r, r ≠ d → (x.setGr d v).gr r = x.gr r) ∧
    (∀ r i, (x.setGr d v).vl r i = x.vl r i)
  )

/-- R205: the four local accesses, of m = 1 or 8 words at ea = a + IMM30 inside DMEM, which no gather, receive or store in flight holds (R206)
and of which a load finds no word with a double-bit error (R195). `e` single-bit errors of a load are corrected and counted: at once, or, on a
predicted path, with the branch, whose confirmation counts them (R220).
R205: a local access that touches a word outside DMEM raises LOCAL with the first offending address, and nothing is accessed. -/
def Obligations.LocalMemoryAccesses : Prop :=
  (
  ∀ (n : SpnNo) (w : BitVec 40) (s : State) (c : Bool) (e : Nat),
    let x := s.spn n
    let ea := (x.gr (opA w) + (w.extractLsb' 0 30).signExtend 48).toNat
    let k := ea - 0xFFFF0000
    let base := if c then s.bump (Reg.SPN_ECCCOR n) else s
    let loaded := (if x.ckpts.isEmpty then base.addCnt (Reg.SPN_ECCCOR n) e else base).fetched x.pc
    let ahead := fun (y : Spindle) => if x.ckpts.isEmpty then y else y.updPath x.issued (fun d => { d with ecc := d.ecc + e })
    (Issues s n 0x30 w c true [opD w, opA w] → 0xFFFF0000 ≤ ea → ea < 0xFFFF4000 → x.localHeld ea 1 false = false → x.eccScan k 1 = (e, none) →
      Leaves s loaded n ((ahead (x.setGr (opD w) (x.dm k))).step (x.pc + 1)) (exec (.ldl n w) s)) ∧
    (Issues s n 0x31 w c false [opD w, opA w] → 0xFFFF0000 ≤ ea → ea < 0xFFFF4000 → x.localHeld ea 1 true = false →
      Retires s n c ((x.setDm k (x.gr (opD w))).step (x.pc + 1)) (exec (.stl n w) s)) ∧
    (Issues s n 0x32 w c true [opA w] → w.toNat / 2 ^ 39 = 0 → 0xFFFF0000 ≤ ea → ea + 8 ≤ 0xFFFF4000 → x.localHeld ea 8 false = false →
      x.eccScan k 8 = (e, none) →
      Leaves s loaded n ((ahead (x.setVr (opD w) (fun i => x.dm (k + i)))).step (x.pc + 1)) (exec (.ldv n w) s)) ∧
    (Issues s n 0x33 w c false [opA w] → w.toNat / 2 ^ 39 = 0 → 0xFFFF0000 ≤ ea → ea + 8 ≤ 0xFFFF4000 → x.localHeld ea 8 true = false →
      Retires s n c ((x.setDms k ((List.range 8).map (x.vl (opD w)))).step (x.pc + 1)) (exec (.stv n w) s))
  ) ∧ (
  ∀ row ∈ ([(0x30, Instr.ldl, 1, true), (0x31, Instr.stl, 1, false), (0x32, Instr.ldv, 8, true), (0x33, Instr.stv, 8, false)]
      : List (Nat × (SpnNo → BitVec 40 → Instr) × Nat × Bool)),
    ∀ (n : SpnNo) (w : BitVec 40) (s : State) (c : Bool),
      let x := s.spn n
      let ea := (x.gr (opA w) + (w.extractLsb' 0 30).signExtend 48).toNat
      Issues s n row.1 w c row.2.2.2 (if row.2.2.1 = 8 then [opA w] else [opD w, opA w]) → (row.2.2.1 = 8 → w.toNat / 2 ^ 39 = 0) → x.exc = false → x.ckpts = [] →
      (ea < 0xFFFF0000 ∨ 0xFFFF4000 < ea + row.2.2.1) →
      Raises s n 3 (if 0xFFFF0000 ≤ ea ∧ ea < 0xFFFF4000 then 0xFFFF4000 else ea) (exec (row.2.1 n w) s)
  )

/-- R207: the conditional branches whose operands are at hand go to PC + OFFSET30 or to the next word; JAL and JALR write
PC + 1 and go; they wait on a predicted path (R219). -/
def Obligations.BranchesAndJumps : Prop :=
  (∀ row ∈ ([
      (0x50, Instr.beq, fun a b => a = b), (0x51, Instr.bne, fun a b => a ≠ b), (0x52, Instr.blt, fun a b => a.toInt < b.toInt),
      (0x53, Instr.bge, fun a b => b.toInt ≤ a.toInt), (0x54, Instr.bltu, fun a b => a.toNat < b.toNat),
      (0x55, Instr.bgeu, fun a b => b.toNat ≤ a.toNat)] : List (Nat × (SpnNo → BitVec 40 → Instr) × (Word → Word → Prop))),
    ∀ (n : SpnNo) (w : BitVec 40) (s : State) (c : Bool),
      let x := s.spn n
      Issues s n row.1 w c true [opD w, opA w] →
      (row.2.2 (x.gr (opD w)) (x.gr (opA w)) →
        Retires s n c (x.step (x.pc + ((w.extractLsb' 0 30).signExtend 48).toNat)) (exec (row.2.1 n w) s)) ∧
      (¬ row.2.2 (x.gr (opD w)) (x.gr (opA w)) → Retires s n c (x.step (x.pc + 1)) (exec (row.2.1 n w) s))) ∧
  (∀ (n : SpnNo) (w : BitVec 40) (s : State) (c : Bool),
    let x := s.spn n
    (Issues s n 0x56 w c false [opD w] → w.toNat / 2 ^ 30 % 32 = 0 →
      Retires s n c ((x.setGr (opD w) (BitVec.ofNat 48 (x.pc + 1))).step (x.pc + ((w.extractLsb' 0 30).signExtend 48).toNat)) (exec (.jal n w) s)) ∧
    (Issues s n 0x57 w c false [opD w, opA w] →
      Retires s n c ((x.setGr (opD w) (BitVec.ofNat 48 (x.pc + 1))).step (x.gr (opA w) + (w.extractLsb' 0 30).signExtend 48).toNat)
        (exec (.jalr n w) s)))

/-- R208: the instructions that form each lane of vD from the same lane of vA and vB. FN bits that an instruction does not name are zero.
R208, R209: the other instructions with one vector result: shifts by a scalar, the accumulating product, halves of one source, a
broadcast, a lane, a permutation, a selection, and unpacked tap words.
R209: what a lane of VUNPK holds: with FN[2] = 0 the sample 8q + i, scaled by 2^13 in hi with lo zero; with FN[2] = 1 the complex sample
8q + i; zero where FN[3] = 1 and the source word carries SETTLE, OVR, ERAS or LPI.
R208: the instructions with a scalar result, and the two with two results. Where D and C of VCMAC or VBFLY name one register no result is
stated, and the eight lanes are free values of the model (log entry 22). -/
def Obligations.VectorInstructions : Prop :=
  (
  ∀ row ∈ ([
      (0x60, Instr.vadd, 0, fun _ a b => a + b), (0x61, Instr.vsub, 0, fun _ a b => a - b),
      (0x62, Instr.vaddh, 0, fun _ a b => halves (sat24 (hi a + hi b)) (sat24 (lo a + lo b))),
      (0x63, Instr.vsubh, 0, fun _ a b => halves (sat24 (hi a - hi b)) (sat24 (lo a - lo b))),
      (0x64, Instr.vand, 0, fun _ a b => a &&& b), (0x65, Instr.vor, 0, fun _ a b => a ||| b), (0x66, Instr.vxor, 0, fun _ a b => a ^^^ b),
      (0x6A, Instr.vmul, 0x3F, fun fn a b =>
        lane48 (asr ((if fn % 2 = 0 then hi a else lo a) * (if fn / 2 % 2 = 0 then hi b else lo b)) (fn / 4 % 16))),
      (0x6B, Instr.vrnd, 0x3F, fun fn a b => halves (sat24 (rnd a.toInt fn)) (sat24 (rnd b.toInt fn))),
      (0x6C, Instr.vcmul, 1, fun fn a b =>
        if fn = 0 then halves (sat24 (rnd (hi a * hi b - lo a * lo b) 22)) (sat24 (rnd (hi a * lo b + lo a * hi b) 22))
        else halves (sat24 (rnd (hi a * hi b + lo a * lo b) 22)) (sat24 (rnd (lo a * hi b - hi a * lo b) 22))),
      (0x76, Instr.vcmp, 3, fun fn a b =>
        if (fn = 0 ∧ a = b) ∨ (fn = 1 ∧ a.toInt < b.toInt) ∨ (fn = 2 ∧ a.toNat < b.toNat) ∨ (fn = 3 ∧ a.toInt ≤ b.toInt) then 1 else 0),
      (0x77, Instr.vmax, 0, fun _ a b => BitVec.ofInt 48 (max a.toInt b.toInt)), (0x78, Instr.vmin, 0, fun _ a b => BitVec.ofInt 48 (min a.toInt b.toInt))]
      : List (Nat × (SpnNo → BitVec 40 → Instr) × Nat × (Nat → Word → Word → Word))),
    ∀ (n : SpnNo) (w : BitVec 40) (s : State) (c : Bool),
      let x := s.spn n
      Issues s n row.1 w c true [] → opFN w ≤ row.2.2.1 → opVC w = 0 → w.toNat % 2 ^ 16 = 0 →
      Retires s n c ((x.setVr (opVD w) (fun i => row.2.2.2 (opFN w) (x.vl (opVA w) i) (x.vl (opVB w) i))).step (x.pc + 1)) (exec (row.2.1 n w) s)
  ) ∧ (
  ∀ (n : SpnNo) (w : BitVec 40) (s : State) (c : Bool),
    let x := s.spn n
    let gv := x.gr (opG w)
    (Issues s n 0x67 w c true [opG w] → zeros w (zV true true false false true 0) = true →
      Retires s n c ((x.setVr (opVD w) (fun i => x.vl (opVA w) i <<< (gv.toNat % 64))).step (x.pc + 1)) (exec (.vsll n w) s)) ∧
    (Issues s n 0x68 w c true [opG w] → zeros w (zV true true false false true 0) = true →
      Retires s n c ((x.setVr (opVD w) (fun i => (x.vl (opVA w) i).sshiftRight (gv.toNat % 64))).step (x.pc + 1)) (exec (.vsra n w) s)) ∧
    (Issues s n 0x69 w c true [] → zeros w (zV true true true false false 0x7F) = true →
      Retires s n c ((x.setVr (opVD w) (fun i =>
        let p := asr ((if opFN w % 2 = 0 then hi (x.vl (opVA w) i) else lo (x.vl (opVA w) i)) *
          (if opFN w / 2 % 2 = 0 then hi (x.vl (opVB w) i) else lo (x.vl (opVB w) i))) (opFN w / 4 % 16)
        lane48 (sat48 ((x.vl (opVD w) i).toInt + (if opFN w / 64 % 2 = 1 then -p else p))))).step (x.pc + 1)) (exec (.vmac n w) s)) ∧
    (Issues s n 0x6E w c true [] → zeros w (zV true true false false false 0) = true →
      Retires s n c ((x.setVr (opVD w) (fun i => halves (sat24 |hi (x.vl (opVA w) i)|) (sat24 |lo (x.vl (opVA w) i)|))).step (x.pc + 1))
        (exec (.vabsh n w) s)) ∧
    (Issues s n 0x6F w c true [] → zeros w (zV true true false false false 0) = true →
      Retires s n c ((x.setVr (opVD w) (fun i => halves (sat24 (-hi (x.vl (opVA w) i))) (sat24 (-lo (x.vl (opVA w) i))))).step (x.pc + 1))
        (exec (.vnegh n w) s)) ∧
    (Issues s n 0x70 w c true [opG w] → zeros w (zV true false false false true 0) = true →
      Retires s n c ((x.setVr (opVD w) (fun _ => gv)).step (x.pc + 1)) (exec (.vbcst n w) s)) ∧
    (Issues s n 0x72 w c true [opG w] → zeros w (zV true false false false true 7) = true →
      Retires s n c ((x.setVl (opVD w) (opFN w) gv).step (x.pc + 1)) (exec (.vins n w) s)) ∧
    (Issues s n 0x74 w c true [] → zeros w (zV true true true false false 0) = true →
      Retires s n c ((x.setVr (opVD w) (fun i => x.vl (opVA w) ((x.vl (opVB w) i).toNat % 8))).step (x.pc + 1)) (exec (.vperm n w) s)) ∧
    (Issues s n 0x75 w c true [] → zeros w (zV true true true true false 0) = true →
      Retires s n c ((x.setVr (opVD w) (fun i => if (x.vl (opVC w) i).getLsbD 0 then x.vl (opVA w) i else x.vl (opVB w) i)).step (x.pc + 1))
        (exec (.vsel n w) s)) ∧
    (Issues s n 0x79 w c true [] → zeros w (zV true true false false false (if natBit (opFN w) 2 then 0xD else 0xF)) = true →
      Retires s n c ((x.setVr (opVD w) (unpkLane x w)).step (x.pc + 1)) (exec (.vunpk n w) s))
  ) ∧ (
  ∀ (x : Spindle) (w : BitVec 40) (i : Fin 8),
    let fn := opFN w
    let part := fun (u : Word) (pos : Nat) => ((u.extractLsb' (30 - 10 * pos) 10).toInt * 2 ^ 13 : Int)
    let marked := fun (u : Word) => decide (u.extractLsb' 44 4 ≠ 0)
    (fn / 4 % 2 = 0 →
      let k := 8 * (fn % 4) + i
      let u := x.vl (opVA w) (k / 4)
      unpkLane x w i = if fn / 8 % 2 = 1 ∧ marked u = true then 0 else halves (part u (k % 4)) 0) ∧
    (fn / 4 % 2 = 1 →
      let k := 8 * (fn % 2) + i
      let u := x.vl (opVA w) (k / 2)
      unpkLane x w i = if fn / 8 % 2 = 1 ∧ marked u = true then 0 else halves (part u (2 * (k % 2))) (part u (2 * (k % 2) + 1)))
  ) ∧ (
  ∀ (n : SpnNo) (w : BitVec 40) (s : State) (c : Bool),
    let x := s.spn n
    (Issues s n 0x71 w c true [opG w] → zeros w (zV false true false false true 7) = true →
      Retires s n c ((x.setGr (opG w) (x.vl (opVA w) (opFN w))).step (x.pc + 1)) (exec (.vext n w) s)) ∧
    (Issues s n 0x73 w c true [opG w] → zeros w (zV false true false false true 0) = true →
      Retires s n c ((x.setGr (opG w) (lane48 (sat48 (((List.range 8).map (fun i => (x.vl (opVA w) i).toInt)).sum)))).step (x.pc + 1))
        (exec (.vred n w) s)) ∧
    (Issues s n 0x7A w c true [opG w] → zeros w (zV false true false false true 0xF) = true →
      ∃ v : Word, (∀ i : Fin 48, v.getLsbD i = (decide (i < 8) &&
          ((natBit (opFN w) 0 && (x.vl (opVA w) i).getLsbD 47) || (natBit (opFN w) 1 && (x.vl (opVA w) i).getLsbD 46) ||
           (natBit (opFN w) 2 && (x.vl (opVA w) i).getLsbD 45) || (natBit (opFN w) 3 && (x.vl (opVA w) i).getLsbD 44)))) ∧
        Retires s n c ((x.setGr (opG w) v).step (x.pc + 1)) (exec (.vflag n w) s)) ∧
    (Issues s n 0x6D w c true [] → zeros w (zV true true true true false 0x3D) = true →
      (opVD w ≠ opVC w →
        Retires s n c
          (((x.setVr (opVD w) (fun i => lane48 (sat48 ((x.vl (opVD w) i).toInt +
              asr (cmulRe (x.vl (opVA w) i) (x.vl (opVB w) i) (natBit (opFN w) 0)) (opFN w / 4 % 16))))).setVr (opVC w)
            (fun i => lane48 (sat48 ((x.vl (opVC w) i).toInt +
              asr (cmulIm (x.vl (opVA w) i) (x.vl (opVB w) i) (natBit (opFN w) 0)) (opFN w / 4 % 16))))).step (x.pc + 1)) (exec (.vcmac n w) s)) ∧
      (opVD w = opVC w → nextWith (exec (.vcmac n w) s) (fun t =>
        (∃ f : Nat → Word, t.spn n = (x.setVr (opVD w) f).step (x.pc + 1)) ∧ ∀ m, m ≠ n.val → t.spn m = s.spn m))) ∧
    (Issues s n 0x7B w c true [] → zeros w (zV true true true true false 1) = true →
      (opVD w ≠ opVC w →
        Retires s n c
          (((x.setVr (opVD w) (fun i => halves
              (bflyPart w (hi (x.vl (opVA w) i)) (cmulRe (x.vl (opVC w) i) (x.vl (opVB w) i) false))
              (bflyPart w (lo (x.vl (opVA w) i)) (cmulIm (x.vl (opVC w) i) (x.vl (opVB w) i) false)))).setVr (opVC w)
            (fun i => halves
              (bflyPart w (hi (x.vl (opVA w) i)) (-cmulRe (x.vl (opVC w) i) (x.vl (opVB w) i) false))
              (bflyPart w (lo (x.vl (opVA w) i)) (-cmulIm (x.vl (opVC w) i) (x.vl (opVB w) i) false)))).step (x.pc + 1)) (exec (.vbfly n w) s)) ∧
      (opVD w = opVC w → nextWith (exec (.vbfly n w) s) (fun t =>
        (∃ f : Nat → Word, t.spn n = (x.setVr (opVD w) f).step (x.pc + 1)) ∧ ∀ m, m ≠ n.val → t.spn m = s.spn m)))
  )

/-- R210–R214: issue of a tagged operation off every predicted path, on an idle tag: it is recorded on its tag with the address it acts on and
the register it will write, the PC advances, and the registers, the other tags and TS stay. What the domain and the port make of it is
the operation's completion.
R94, R212, R213: the other four tagged operations. MBR and FRX name their destination in D, FRX and FTX a buffer that lies inside DMEM
(of an FTX with a double-bit error in its header, whose LEN is then a free value, one that a frame of any LEN leaves inside; R195, log entry 159),
CSW_MIRROR is CSW with OFFSET27 = 1.
R205, R211–R213: a buffer that leaves DMEM raises LOCAL with its first offending address, and nothing is recorded. -/
def Obligations.TaggedInstructionsIssue : Prop :=
  (
  ∀ row ∈ ([
      (0x40, Instr.ldb, OpKind.ldb, 0, true, true, true, fun _ _ => 0), (0x41, Instr.stb, .stb, 0, true, true, false, fun _ _ => 0),
      (0x42, Instr.gsw, .gsw, 2 ^ 27 - 2 ^ 10, true, false, false, fun x w => if gthSkein (x.gr (opA w)).toNat then 0 else low w 10 + 1),
      (0x43, Instr.cwr, .cwr, 2 ^ 27 - 2 ^ 10, true, false, false, fun _ w => low w 10 + 1),
      (0x44, Instr.cswSwap, .cswSwap, 31 * 2 ^ 35 + 2 ^ 27 - 1, false, false, false, fun _ _ => 0),
      (0x45, Instr.ldf, .ldf, 0, true, true, true, fun _ _ => 0), (0x46, Instr.mbs, .mbs, 0, true, true, false, fun _ _ => 0),
      (0x48, Instr.lck, .lck, 15 * 2 ^ 36, false, true, false, fun _ _ => 0), (0x49, Instr.ulk, .ulk, 31 * 2 ^ 35, false, true, false, fun _ _ => 0)]
      : List (Nat × (SpnNo → BitVec 40 → Instr) × OpKind × Nat × Bool × Bool × Bool × (Spindle → BitVec 40 → Nat))),
    ∀ (n : SpnNo) (w : BitVec 40) (s : State) (c : Bool),
      let x := s.spn n
      let words := row.2.2.2.2.2.2.2 x w
      Issues s n row.1 w c false (if row.2.2.2.2.1 then [opD w, opA w] else [opA w]) → zeros w row.2.2.2.1 = true → x.op (opT w) = none →
      (words = 0 ∨ localOk (x.gr (opD w)).toNat words = true) →
      nextWith (exec (row.2.1 n w) s) (fun t => ∃ o : TagOp,
        (t.spn n).op (opT w) = some o ∧ o.kind = row.2.2.1 ∧
        o.ea = (if row.2.2.2.2.2.1 then (x.gr (opA w) + (w.extractLsb' 0 27).signExtend 48).toNat else (x.gr (opA w)).toNat) ∧
        o.dst = (if row.2.2.2.2.2.2.1 then some (opD w) else none) ∧ o.seq = x.issued ∧
        (t.spn n).pc = (x.pc + 1) % 2 ^ 48 ∧ (∀ u, u ≠ opT w → (t.spn n).op u = x.op u) ∧
        (∀ r, (t.spn n).gr r = x.gr r) ∧ (∀ r i, (t.spn n).vl r i = x.vl r i) ∧ (t.spn n).status = x.status ∧ t.bobbin = s.bobbin)
  ) ∧ (
  ∀ (n : SpnNo) (w : BitVec 40) (s : State) (c : Bool),
    let x := s.spn n
    let ea := (x.gr (opA w) + (w.extractLsb' 0 27).signExtend 48).toNat
    let fl := fld (x.dm (ea - 0xFFFF0000 + 1)) 35 22
    let fw := if 64 ≤ fl ∧ fl ≤ 9216 then 2 + (fl + 5) / 6 else 2
    let holds := fun (kind : OpKind) (at_ : Nat) (dst : Option Nat) (t : State) => ∃ o : TagOp,
      (t.spn n).op (opT w) = some o ∧ o.kind = kind ∧ o.ea = at_ ∧ o.dst = dst ∧ (t.spn n).pc = (x.pc + 1) % 2 ^ 48 ∧
      (∀ u, u ≠ opT w → (t.spn n).op u = x.op u) ∧ (∀ r, (t.spn n).gr r = x.gr r) ∧ (t.spn n).status = x.status
    x.op (opT w) = none →
    (Issues s n 0x44 w c false [opA w] → zeros w (31 * 2 ^ 35 + 2 ^ 27 - 2) = true → low w 1 = 1 →
      nextWith (exec (.cswMirror n w) s) (holds .cswMirror (x.gr (opA w)).toNat none)) ∧
    (Issues s n 0x47 w c false [opD w] → zeros w (31 * 2 ^ 30 + 2 ^ 27 - 1) = true →
      nextWith (exec (.mbr n w) s) (holds .mbr 0 (some (opD w)))) ∧
    (Issues s n 0x4A w c false [opD w, opA w] → localOk (x.gr (opA w)).toNat (low w 27) = true →
      nextWith (exec (.frx n w) s) (holds .frx 0 (some (opD w)))) ∧
    (Issues s n 0x4B w c false [opA w] → zeros w (31 * 2 ^ 35) = true →
      (localOk ea fw = true ∧ (x.eccScan (ea - 0xFFFF0000) 2).2 = none) ∨ localOk ea 1538 = true →
      nextWith (exec (.ftx n w) s) (holds .ftx ea none))
  ) ∧ (
  ∀ (n : SpnNo) (w : BitVec 40) (s : State) (c : Bool),
    let x := s.spn n
    let bad := fun (a : Nat) => if 0xFFFF0000 ≤ a ∧ a < 0xFFFF4000 then 0xFFFF4000 else a
    let outside := fun (a m : Nat) => a < 0xFFFF0000 ∨ 0xFFFF4000 < a + m
    let d := (x.gr (opD w)).toNat
    let a := (x.gr (opA w)).toNat
    let ea := (x.gr (opA w) + (w.extractLsb' 0 27).signExtend 48).toNat
    x.exc = false → x.ckpts = [] →
    (Issues s n 0x42 w c false [opD w, opA w] → zeros w (2 ^ 27 - 2 ^ 10) = true → gthSkein a = false → outside d (low w 10 + 1) →
      Raises s n 3 (bad d) (exec (.gsw n w) s)) ∧
    (Issues s n 0x43 w c false [opD w, opA w] → zeros w (2 ^ 27 - 2 ^ 10) = true → outside d (low w 10 + 1) →
      Raises s n 3 (bad d) (exec (.cwr n w) s)) ∧
    (Issues s n 0x4A w c false [opD w, opA w] → outside a (low w 27) → Raises s n 3 (bad a) (exec (.frx n w) s)) ∧
    (Issues s n 0x4B w c false [opA w] → zeros w (31 * 2 ^ 35) = true → outside ea 2 → Raises s n 3 (bad ea) (exec (.ftx n w) s))
  )

/-- R199, R213, R214: a tag whose status is decided completes with it, its destination receives zero; an MBR takes the oldest message.
R100, R211: a gather of one port that answers takes its words from the one of the numbers that START names modulo 2^32 and that lies within 2^31
of the newest: it stores them in order from its local address and completes OK, or PARITY with a failed parity among them (R371); it waits for
words not written yet; it is REFUSED, counted in PORT_TAPOVR, where words are no longer held; and it is ABSENT on a port that does not answer. DMEM
elsewhere, the registers and the other statuses stay. -/
def Obligations.TagsCompleteAndGathersStore : Prop :=
  (
  ∀ (n : SpnNo) (tag : Fin 8) (s : State) (o : TagOp),
    let x := s.spn n
    s.domOn (30 + n / 8) = true → s.rootUp = true → x.op tag = some o →
    (∀ st, o.done = some st →
      nextWith (exec (.tagComplete n tag) s) (fun t =>
        (t.spn n).op tag = none ∧ (t.spn n).tagStatus tag = st ∧ (∀ d, o.dst = some d → (t.spn n).gr d = 0) ∧
        (∀ r, o.dst ≠ some r → (t.spn n).gr r = x.gr r) ∧ (∀ u, u ≠ tag.val → (t.spn n).tagStatus u = x.tagStatus u))) ∧
    (∀ m rest, o.done = none → o.kind = .mbr → x.mbox = m :: rest →
      nextWith (exec (.tagComplete n tag) s) (fun t =>
        (t.spn n).op tag = none ∧ (t.spn n).tagStatus tag = 0 ∧ (t.spn n).mbox = rest ∧
        (∀ d, o.dst = some d → d ≠ 0 → (t.spn n).gr d = m) ∧ ∀ r, o.dst ≠ some r → (t.spn n).gr r = x.gr r))
  ) ∧ (
  (∀ start count : Nat, start < 2 ^ 32 →
    (startWord start count - start) % 2 ^ 32 = 0 ∧ (count : Int) - 1 - 2 ^ 31 ≤ startWord start count ∧
    startWord start count < (count : Int) - 1 + 2 ^ 31) ∧
  ∀ (n : SpnNo) (tag : Fin 8) (s : State) (o : TagOp),
    let x := s.spn n
    let p := gthPort o.ea
    let src := gthSrc o.ea
    let k := o.loc - 0xFFFF0000
    let from_ := startWord (o.ea % 2 ^ 32) (s.srcCount p src)
    s.domOn (30 + n / 8) = true → s.rootUp = true → x.replay = false →
    x.op tag = some o → o.kind = .gsw → o.done = none → gthSkein o.ea = false → o.val.toNat = o.len →
    0xFFFF0000 ≤ o.loc → o.loc + o.len ≤ 0xFFFF4000 →
    (s.gthAnswers p src = false → nextWith (exec (.gatherComplete n tag ()) s) (fun t =>
      (t.spn n).op tag = none ∧ (t.spn n).tagStatus tag = 2 ∧ ∀ j, (t.spn n).dm j = x.dm j)) ∧
    (s.gthAnswers p src = true →
      (∀ ws, s.window p src from_ o.len = .full ws → nextWith (exec (.gatherComplete n tag ()) s) (fun t =>
        (t.spn n).op tag = none ∧ (t.spn n).tagStatus tag = (if s.windowBad p src from_ o.len then 7 else 0) ∧
        (∀ i, i < o.len → (t.spn n).dm (k + i) = ws.getD i 0) ∧
        (∀ j, (j < k ∨ k + o.len ≤ j) → (t.spn n).dm j = x.dm j) ∧ ∀ r, o.dst = none → (t.spn n).gr r = x.gr r)) ∧
      (s.window p src from_ o.len = .open → exec (.gatherComplete n tag ()) s = .next s) ∧
      (s.window p src from_ o.len = .lost → nextWith (exec (.gatherComplete n tag ()) s) (fun t =>
        (t.spn n).op tag = none ∧ (t.spn n).tagStatus tag = 8 ∧ t.reg (Reg.PORT_TAPOVR p) = s.reg (Reg.PORT_TAPOVR p) + 1 ∧
        ∀ j, (j < k ∨ k + o.len ≤ j) → (t.spn n).dm j = x.dm j)))
  )

/-- R252: a free knot goes to the oldest waiting request, whose tag will complete OK, or BROKEN after a broken release. -/
def Obligations.KnotGoesToOldestWaiter : Prop :=
  ∀ (k : Fin 64) (s : State) (m u : Nat) (rest : List (Nat × Nat)) (o : TagOp),
    s.knotHeld k = false → s.waiters k = (m, u) :: rest → m < 48 → s.epochOf m < 256 → (s.spn m).op u = some o →
    nextWith (exec (.knotGrant k) s) (fun t =>
      t.knotHeld k = true ∧ t.knotOwner k = m ∧ t.knotBroken k = s.knotBroken k ∧ t.waiters k = rest ∧
      (t.spn m).op u = some { o with done := some (if s.knotBroken k then 9 else 0) })

/-- R218–R220: the oldest unresolved branch, its operands at hand, confirms the predicted path, whose state stays and whose operations stop
being speculative up to the next branch and whose loads now count what they met; or it restores registers, TS and the count from the branch on, takes the other path and forgets
the operations issued on the wrong one, whose loads it counts. -/
def Obligations.BranchResolution : Prop :=
  ∀ (n : SpnNo) (s : State) (c : Ckpt) (rest : List Ckpt),
    let x := s.spn n
    let taken := branchTaken c.opc (({ x with g := c.g } : Spindle).gr c.ra) (({ x with g := c.g } : Spindle).gr c.rb)
    x.ckpts = c :: rest → x.resolvable c = true →
    (taken = c.pred → nextWith (exec (.branchResolve n) s) (fun t =>
      (t.spn n).ckpts = rest ∧ (t.spn n).pc = x.pc ∧ (t.spn n).g = x.g ∧ (t.spn n).v = x.v ∧ (t.spn n).status = x.status ∧
      (∀ m, m ≠ n.val → t.spn m = s.spn m) ∧
      t.reg (Reg.SPN_ECCCOR n) = s.reg (Reg.SPN_ECCCOR n) + BitVec.ofNat 48 c.ecc ∧
      t.reg Reg.CSP0_PFHIT = s.reg Reg.CSP0_PFHIT + BitVec.ofNat 48 c.hits ∧
      t.reg Reg.CSP0_PFMISS = s.reg Reg.CSP0_PFMISS + BitVec.ofNat 48 c.misses ∧
      ∀ a, a ≠ Reg.SPN_ECCCOR n → a ≠ Reg.CSP0_PFHIT → a ≠ Reg.CSP0_PFMISS → t.reg a = s.reg a)) ∧
    (taken ≠ c.pred → nextWith (exec (.branchResolve n) s) (fun t =>
      (t.spn n).ckpts = [] ∧ (t.spn n).pc = (if taken then c.taken else c.next) ∧ (t.spn n).g = c.g ∧ (t.spn n).v = c.v ∧
      (t.spn n).status = c.status ∧ (t.spn n).inst = c.inst ∧ (∀ y ∈ (t.spn n).ops, ∀ o, y.2 = some o → o.seq < c.at_) ∧
      t.reg (Reg.SPN_SPECCAN n) = s.reg (Reg.SPN_SPECCAN n) + BitVec.ofNat 48 c.loads.length))

/-- R216: the fences and waits whose condition holds retire and change nothing else; SLEEP stops issue, ERET leaves the handler for EPC.
R198, R216, R225: MFS reads the eight special registers; a read of TIME latches TIMEH. In replay it is the time that the line group's replay
datapath gives. -/
def Obligations.SystemAndSpecialRegisterInstructions : Prop :=
  (
  ∀ (n : SpnNo) (w : BitVec 40) (s : State) (c : Bool),
    let x := s.spn n
    let v := x.gr (opA w)
    (Issues s n 0x80 w c false [] → zeros w (zS false false true 0) = true → x.op (opT w) = none →
      Retires s n c (x.step (x.pc + 1)) (exec (.wait n w) s)) ∧
    (Issues s n 0x81 w c false [] → zeros w (zS false false false 0) = true → (∀ u, u < 8 → x.op u = none) →
      Retires s n c (x.step (x.pc + 1)) (exec (.fence n w) s)) ∧
    (Issues s n 0x82 w c false [] → zeros w (zS false false false 0) = true → (∀ u o, u < 8 → x.op u = some o → o.writes = false) →
      Retires s n c (x.step (x.pc + 1)) (exec (.fenceW n w) s)) ∧
    (Issues s n 0x84 w c false [] → zeros w (zS false false false 0) = true → x.exc = true →
      Retires s n c (({ x with exc := false } : Spindle).step x.epc.toNat) (exec (.eret n w) s)) ∧
    (Issues s n 0x85 w c false [] → zeros w (zS false false false 0) = true →
      Retires s n c (({ x with run := .sleeping } : Spindle).step (x.pc + 1)) (exec (.sleep n w) s)) ∧
    (Issues s n 0x87 w c false [opA w] → zeros w (zS false true false 15) = true →
      (low w 4 = 2 → Retires s n c (({ x with epc := v } : Spindle).step (x.pc + 1)) (exec (.mts n w) s)) ∧
      (low w 4 = 3 → Retires s n c (({ x with ecause := v &&& 0xFF00FFFFFFFF#48 } : Spindle).step (x.pc + 1)) (exec (.mts n w) s)) ∧
      (low w 4 = 4 → Retires s n c (({ x with specen := bitOf v 8 } : Spindle).step (x.pc + 1)) (exec (.mts n w) s))) ∧
    (Issues s n 0x88 w c false [opD w] → zeros w (zS true false false 255) = true →
      ∀ k, k < 8 → natBit (low w 8) k = true → x.op k = none → (∀ j, j < k → natBit (low w 8) j = true → x.op j ≠ none) →
        Retires s n c ((x.setGr (opD w) (BitVec.ofNat 48 k)).step (x.pc + 1)) (exec (.waita n w) s))
  ) ∧ (
  ∀ (n : SpnNo) (w : BitVec 40) (s : State) (c : Bool),
    let x := s.spn n
    let gives := fun (v : Word) => Retires s n c ((x.setGr (opD w) v).step (x.pc + 1)) (exec (.mfs n w) s)
    Issues s n 0x86 w c false [opD w] → zeros w (zS true false false 15) = true →
    (low w 4 = 0 → gives (BitVec.ofNat 48 x.pc)) ∧ (low w 4 = 1 → gives x.ts) ∧ (low w 4 = 2 → gives x.epc) ∧ (low w 4 = 3 → gives x.ecause) ∧
    (low w 4 = 4 → gives (BitVec.ofNat 48 (x.mode + bnat x.exc * 2 ^ 4 + bnat x.replay * 2 ^ 5 + bnat x.specen * 2 ^ 8))) ∧
    (low w 4 = 5 → gives (BitVec.ofNat 48 (n + n / 8 * 2 ^ 8))) ∧ (low w 4 = 7 → gives x.timeH) ∧
    (low w 4 = 6 → x.replay = false →
      Retires s n c ((({ x with timeH := s.time.extractLsb' 48 48 } : Spindle).setGr (opD w) (s.time.extractLsb' 0 48)).step (x.pc + 1))
        (exec (.mfs n w) s)) ∧
    (∀ g, low w 4 = 6 → x.replay = true → s.replayOf n = some g →
      Retires s n c ((({ x with timeH := (s.repTime g).extractLsb' 48 48 } : Spindle).setGr (opD w) ((s.repTime g).extractLsb' 0 48)).step (x.pc + 1))
        (exec (.mfs n w) s)) ∧
    (7 < low w 4 → x.exc = false → x.ckpts = [] → Raises s n 1 0x86 (exec (.mfs n w) s))
  )

/-- R216, R221: TRAP raises exception 4 with IMM27; EPC is the address after it.
R202, R221, R223: a must-be-zero field that is not zero raises ILLEGAL with the opcode, and an exception inside a handler changes no
saved register: the spindle halts and the fault is raised. Said of instructions of each format. -/
def Obligations.ExceptionsEnterTheHandler : Prop :=
  (
  ∀ (n : SpnNo) (w : BitVec 40) (s : State) (c : Bool),
    Issues s n 0x83 w c false [] → zeros w (zS false false false (2 ^ 27 - 1)) = true → (s.spn n).exc = false → (s.spn n).ckpts = [] →
    Raises s n 4 (w.toNat % 2 ^ 27) (exec (.trap n w) s)
  ) ∧ (
  ∀ row ∈ ([
      (0x00, Instr.add, 2 ^ 25 - 1), (0x0E, Instr.clz, 2 ^ 30 - 1), (0x21, Instr.lih, 2 ^ 35 - 2 ^ 13), (0x56, Instr.jal, 2 ^ 35 - 2 ^ 30),
      (0x42, Instr.gsw, 2 ^ 27 - 2 ^ 10), (0x47, Instr.mbr, 31 * 2 ^ 30 + 2 ^ 27 - 1), (0x49, Instr.ulk, 31 * 2 ^ 35),
      (0x60, Instr.vadd, zV true true true false false 0), (0x72, Instr.vins, zV true false false false true 7),
      (0x81, Instr.fence, zS false false false 0), (0x83, Instr.trap, zS false false false (2 ^ 27 - 1)), (0x86, Instr.mfs, zS true false false 15)]
      : List (Nat × (SpnNo → BitVec 40 → Instr) × Nat)),
    ∀ (n : SpnNo) (w : BitVec 40) (s : State) (c : Bool),
      Fetches s n row.1 w c → zeros w row.2.2 = false → (s.spn n).ckpts = [] →
      ((s.spn n).exc = false → Raises s n 1 row.1 (exec (row.2.1 n w) s)) ∧
      ((s.spn n).exc = true → nextWith (exec (row.2.1 n w) s) (fun t =>
        (t.spn n).run = .halting ∧ (t.spn n).pc = (s.spn n).pc ∧ (t.spn n).epc = (s.spn n).epc ∧ (t.spn n).ecause = (s.spn n).ecause))
  )

/-! ## The line runtime and its rings (R229–R249) -/

/-- R230, R232, R234: the runtime copies the entry the doorbell announces, of the bobbin changing only its own state region (R249), and writes a completion: RESULT, then W0 with PHASE, STATUS, CMDID and GEN, then the
index. A retry that still finds its bank absent after 100 ms raises fault 0x32. -/
def Obligations.RingTransfers : Prop :=
  ∀ s : State, s.supUp = true →
    let ix := s.rf Reg.MB_CMDRD 15 0
    let base := s.rf Reg.MB_CMDBASE 31 0
    let k := 4 * (ix % 2 ^ s.rf Reg.MB_CMDSIZE 3 0)
    let c : Cmd := { w0 := s.ringWord base k, w1 := s.ringWord base (k + 1), w2 := s.ringWord base (k + 2), w3 := s.ringWord base (k + 3) }
    let wr := s.rf Reg.MB_CPLWR 15 0
    let cbase := s.rf Reg.MB_CPLBASE 31 0 + 2 * (wr % 2 ^ s.rf Reg.MB_CPLSIZE 3 0)
    (s.cmdRingOn = true → s.rf Reg.MB_DOORBELL 15 0 = (ix + 1) % 65536 → s.rt.cmds.length < 256 → (∀ d ∈ entryDoms (base + k) 4, s.domOn d = true) →
      let copies := fun (i : Instr) => nextWith (exec i s) (fun t =>
        t.rt.cmds = s.rt.cmds ++ [s.acceptCmd c] ∧ t.reg Reg.MB_CMDRD = BitVec.ofNat 48 ((ix + 1) % 65536) ∧
        ∀ j, j + 0x1000000 < s.rf Reg.MB_RTBASE 31 0 ∨ s.rf Reg.MB_RTBASE 31 0 + 262144 ≤ j + 0x1000000 → t.bob j = s.bob j)
      copies .commandCopy ∧ (s.ringAbsent false = false → ∀ late : Bool, copies (.ringRetry false late))) ∧
    (∀ (id : BitVec 16) (i st gen : Nat) (res : Word), s.finishedAt (fun c => decide (c.id = id.toNat)) = some i →
      (cmdOf s i).st = .finished st res gen → (cmdOf s i).id = id.toNat → s.mayPost i = true → s.cplRoom = true → (∀ d ∈ entryDoms cbase 2, s.domOn d = true) →
      isBobbin cbase = true → isBobbin (cbase + 1) = true → nextWith (exec (.completionWrite id) s) (fun t =>
        t.bob (cbase + 1 - 0x1000000) = res ∧
        t.bob (cbase - 0x1000000) = BitVec.ofNat 48 (bnat s.rt.phase * 2 ^ 47 + st % 256 * 2 ^ 32 + id.toNat * 2 ^ 16 + gen % 65536) ∧
        (∀ j, j ≠ cbase - 0x1000000 → j ≠ cbase + 1 - 0x1000000 → t.bob j = s.bob j) ∧
        t.reg Reg.MB_CPLWR = BitVec.ofNat 48 ((wr + 1) % 65536) ∧ t.rt.cmds.length + 1 = s.rt.cmds.length ∧
        t.reg Reg.MB_CMDCNT = s.reg Reg.MB_CMDCNT + 1)) ∧
    (∀ cpl : Bool, s.ringWants cpl = true → s.ringAbsent cpl = true → s.flt.queue.length < 64 → s.codeLocked 0x32 = false →
      nextWith (exec (.ringRetry cpl true) s) (fun t => t.regs = s.regs ∧
        t.flt.queue = s.flt.queue ++ [{ src := 0x0F2, code := 0x32, info := bnat cpl, at_ := s.time, seq := s.flt.arrivals, ns := s.now }]))

/-- R235, R240, R243, R244, R246: the commands on the device and on spindles complete with their effect. Whether a staged runtime can read the state
of the one it replaces is an open value of the model (log entry 10): an image that cannot completes IMAGEBAD.
R245–R248: a RUN spindle at a quantum boundary enters the selected slot at its first instruction, or leaves for USER mode if a partition
wants it; one that stays in the old slot for 100 ms is halted with fault 0x11. -/
def Obligations.DeviceCommandsAndQuanta : Prop :=
  (
  ∀ (id : BitVec 16) (i : Nat) (s : State),
    let c := cmdOf s i
    let n := c.tindex
    (TakesUp s 0x01 id.toNat i → s.rt.cmds.length ≤ 1 → c.arg0 < 256 →
      (∀ v, v ∈ s.apiNow → v ≤ c.arg0 → v ≠ 0 → (∀ u ∈ s.apiNow, u ≤ c.arg0 → u ≤ v) →
        nextWith (exec (.hello id) s) (fun t => Finished t i 0 (BitVec.ofNat 48 v) ∧ t.reg Reg.MB_VERSION = BitVec.ofNat 48 v)) ∧
      ((∀ u ∈ s.apiNow, c.arg0 < u) → nextWith (exec (.hello id) s) (fun t => Finished t i 2 0 ∧ t.regs = s.regs))) ∧
    (TakesUp s 0x02 id.toNat i → nextWith (exec (.nop id) s) (fun t => Finished t i 0 0 ∧ t.regs = s.regs ∧ t.ports = s.ports ∧ t.bobbin = s.bobbin)) ∧
    (TakesUp s 0x03 id.toNat i → c.arg0 ≤ 16 → (s.poolModes c.arg0).any (fun x => decide (x.2 = 1 ∧ (s.spn x.1).mode = 2) && !s.isHalted x.1) = false →
      nextWith (exec (.partition id) s) (fun t => t.rt.u = c.arg0 ∧ ((cmdOf t i).st = .running ∨ ∃ r, Finished t i 0 r))) ∧
    (TakesUp s 0x03 id.toNat i → 16 < c.arg0 → nextWith (exec (.partition id) s) (fun t => t.rt.u = s.rt.u ∧ Finished t i 4 0)) ∧
    (TakesUp s 0x04 id.toNat i → SupWrites s → s.domOn (30 + n / 8) = true →
      (c.arg0 < 8 → c.arg2 < 2 ^ 32 → c.arg1 ≤ c.arg2 → (c.arg2 < 0x10 ∨ 0x13 < c.arg1) →
        nextWith (exec (.delegateWin id) s) (fun t => Finished t i 0 0 ∧ t.reg (Reg.SPN_DWBASE n c.arg0) = BitVec.ofNat 48 (2 ^ 47 + c.arg1) ∧
          t.reg (Reg.SPN_DWLIM n c.arg0) = BitVec.ofNat 48 c.arg2)) ∧
      (8 ≤ c.arg0 → c.arg0 < 16 → nextWith (exec (.delegateWin id) s) (fun t => Finished t i 0 0 ∧ t.reg (Reg.SPN_DWBASE n (c.arg0 - 8)) = 0))) ∧
    (TakesUp s 0x05 id.toNat i → SupWrites s → s.domOn (30 + n / 8) = true →
      (c.arg0 = 0 → c.opt = false → nextWith (exec (.delegateLine id) s) (fun t => Finished t i 0 0 ∧
        t.reg (Reg.SPN_DGATHER0 n) = c.w2 ∧ t.reg (Reg.SPN_DGATHER1 n) = c.w3)) ∧
      (c.arg0 = 1 → c.opt = false → c.arg2 = 0 → nextWith (exec (.delegateLine id) s) (fun t => Finished t i 0 0 ∧ t.reg (Reg.SPN_DSKG n) = c.w2))) ∧
    (TakesUp s 0x30 id.toNat i → 0x1000000 ≤ c.arg1 → c.arg1 + c.arg2 ≤ 0x1800000 → c.arg2 ≠ 0 → s.oldCount = 0 →
      (∀ d ∈ entryDoms c.arg1 c.arg2, s.domOn d = true) →
      let w := fun k => if k < c.arg2 then s.bob (c.arg1 - 0x1000000 + k) else 0
      let ver := s.rf Reg.MB_VERSION 7 0
      imgCheck w s.fuses.count s.lcTest = 0 → c.arg2 = 2048 + imgBodyLen w → bitOf (w 0) 18 = true → fld (w 6) 31 0 ≤ 3840 →
      fld (w 6) 47 40 ≤ ver → ver ≤ fld (w 6) 39 32 →
      nextWith (exec (.rtStage id) s) (fun t =>
        let slot := 1 - s.rf Reg.MB_RTSLOT 0 0
        if Config.readsState (imgWords w 2048 (imgBodyLen w)) then
          Finished t i 0 (BitVec.ofNat 48 slot) ∧ t.rb Reg.MB_RTSTAT (40 + slot) = true ∧ t.reg Reg.MB_RTSLOT = s.reg Reg.MB_RTSLOT
        else Finished t i 10 0 ∧ t.regs = s.regs)) ∧
    (TakesUp s 0x20 id.toNat i → SupWrites s → s.domOn (24 + n / 8) = true → n < 48 →
      (s.skeinRefusal (n / 8) (n % 8) c.w2 = 0 → nextWith (exec (.skeinSet id) s) (fun t => Finished t i 0 0 ∧
        t.reg (Reg.LG_SKEIN (n / 8) (n % 8)) = c.w2 &&& 0xCF000000FFFF#48)) ∧
      (s.skeinRefusal (n / 8) (n % 8) c.w2 ≠ 0 → nextWith (exec (.skeinSet id) s) (fun t =>
        Finished t i 6 (BitVec.ofNat 48 (s.skeinRefusal (n / 8) (n % 8) c.w2)) ∧ t.reg (Reg.LG_SKEIN (n / 8) (n % 8)) = s.reg (Reg.LG_SKEIN (n / 8) (n % 8)))))
  ) ∧ (
  ∀ (n : SpnNo) (s : State), s.spnInService n = true →
    let x := s.spn n
    (x.mode = 1 → x.run = .running → x.ckpts = [] → (∀ u, u < 8 → x.op u = none) →
      ((s.poolModes s.rt.u).contains (n.val, 2) = false → s.bist.cur = none → nextWith (exec (.quantumBoundary n) s) (fun t =>
        t.spn n = { x with oldSlot := false, pc := if s.rf Reg.MB_RTSLOT 0 0 = 0 then 0x100 else 0x1000 } ∧ t.regs = s.regs ∧
        ∀ m, m ≠ n.val → t.spn m = s.spn m)) ∧
      ((s.poolModes s.rt.u).contains (n.val, 2) = true → nextWith (exec (.quantumBoundary n) s) (fun t =>
        (t.spn n).mode = 2 ∧ (t.spn n).run = .halted ∧ t.rb (Reg.SPN_CTL n) 47 = true))) ∧
    (x.oldSlot = true → x.run = .running → s.flt.queue.length < 64 → s.codeLocked 0x11 = false → nextWith (exec (.quantumTimeout n) s) (fun t =>
      (t.spn n).run = .halting ∧ (t.spn n).oldSlot = false ∧ t.rb (Reg.SPN_CTL n) 47 = true ∧
      t.flt.queue = s.flt.queue ++ [{ src := 0x080 + n, code := 0x11, info := 0, at_ := s.time, seq := s.flt.arrivals, ns := s.now }]))
  )

/-- R81, R155, R159, R184, R237–R239: the commands that move a port, or start what will, with PORT_LINKSTAT.CAUSE 3 for an end by command. -/
def Obligations.PortStateCommands : Prop :=
  ∀ (id : BitVec 16) (i : Nat) (s : State),
    let c := cmdOf s i
    let p := c.tindex
    (TakesUp s 0x10 id.toNat i → s.pst p = 0 → s.quadOn p = true →
      nextWith (exec (.portEnable id) s) (fun t => Finished t i 0 0 ∧ t.pst p = 1 ∧ (t.port p).wantAdmit = true)) ∧
    (TakesUp s 0x10 id.toNat i → s.pst p ≠ 0 → nextWith (exec (.portEnable id) s) (fun t => Finished t i 5 0 ∧ t.regs = s.regs ∧ t.ports = s.ports)) ∧
    (TakesUp s 0x11 id.toNat i → s.pst p ≠ 0 →
      nextWith (exec (.portDisable id) s) (fun t => Finished t i 0 0 ∧ t.pst p = 0 ∧ t.pgen p = (s.pgen p + 1) % 65536 ∧
        (s.pst p = 3 → t.rf (Reg.PORT_LINKSTAT p) 47 44 = 3))) ∧
    (TakesUp s 0x12 id.toNat i → SupWrites s → s.quadOn p = true → c.arg2 / 512 = 0 → c.arg2 / 8 % 32 = 0 →
      (c.opt = false → nextWith (exec (.portConfig id) s) (fun t => Finished t i 0 0 ∧ t.pst p = s.pst p ∧
        t.rf (Reg.PORT_DIALECTCFG p) 2 0 = c.arg2 % 8 ∧ t.rf (Reg.PORT_FECCFG p) 0 0 = c.arg2 / 256 ∧
        t.rf (Reg.PORT_MODE p) 14 13 = fld c.w2 14 13 ∧ t.rb (Reg.PORT_MODE p) 12 = bitOf c.w2 12)) ∧
      (c.opt = true → s.restartable p = true → nextWith (exec (.portConfig id) s) (fun t => Finished t i 0 0 ∧ t.pst p = 1 ∧
        t.rf (Reg.PORT_LINKSTAT p) 47 44 = 3 ∧ (t.port p).applMode = t.reg (Reg.PORT_MODE p))) ∧
      (c.opt = true → s.restartable p = false → s.pst p ≠ 1 → nextWith (exec (.portConfig id) s) (fun t => Finished t i 0 0 ∧ t.pst p = s.pst p ∧
        t.rf (Reg.PORT_MODE p) 14 13 = fld c.w2 14 13))) ∧
    (TakesUp s 0x13 id.toNat i →
      (s.restartable p = true → nextWith (exec (.portRestart id) s) (fun t => Finished t i 0 0 ∧ t.pst p = 1 ∧ t.rf (Reg.PORT_LINKSTAT p) 47 44 = 3)) ∧
      (s.pst p = 1 → nextWith (exec (.portRestart id) s) (fun t => (cmdOf t i).st = .running ∧ t.pst p = 1 ∧ (t.port p).wantAdmit = true)) ∧
      (s.pst p = 0 → nextWith (exec (.portRestart id) s) (fun t => Finished t i 5 0 ∧ t.ports = s.ports))) ∧
    (TakesUp s 0x14 id.toNat i → s.pst p = 3 → s.framesBarSleep p = false →
      (hasTc10 (s.pmode p) = false → nextWith (exec (.portSleep id) s) (fun t => Finished t i 0 0 ∧ t.pst p = 6 ∧ t.rf (Reg.PORT_LINKSTAT p) 47 44 = 2)) ∧
      (hasTc10 (s.pmode p) = true → (s.port p).sleepHs = 0 →
        nextWith (exec (.portSleep id) s) (fun t => (cmdOf t i).st = .running ∧ (t.port p).sleepHs = 2 ∧ t.pst p = 3))) ∧
    (TakesUp s 0x15 id.toNat i → s.asleep p = true → nextWith (exec (.portWake id) s) (fun t => (cmdOf t i).st = .running ∧ t.ports = s.ports)) ∧
    (TakesUp s 0x16 id.toNat i → s.quadOn p = true →
      (s.pst p = 0 ∨ s.pst p = 1 ∨ s.pst p = 3 → nextWith (exec (.portCard id) s) (fun t => (cmdOf t i).st = .running ∧ t.pst p = 5 ∧
        (t.port p).cardFrom = s.pst p ∧ t.rf (Reg.PORT_CARDSTAT p) 47 44 = 1 ∧ (s.pst p = 3 → t.rf (Reg.PORT_LINKSTAT p) 47 44 = 3))) ∧
      (s.pst p = 4 → nextWith (exec (.portCard id) s) (fun t => (cmdOf t i).st = .running ∧ t.pst p = 4 ∧ t.rphase p = 5)))

/-- R91–R95, R164, R190, R237, R244: the commands that carry data of a port: fingerprints, coefficients, PLCA parameters. -/
def Obligations.PortDataCommands : Prop :=
  ∀ (id : BitVec 16) (i : Nat) (s : State),
    let c := cmdOf s i
    let p := c.tindex
    let at_ := c.arg1 - 0x1000000
    (TakesUp s 0x17 id.toNat i → s.pst p = 3 → nextWith (exec (.portFpcapture id) s) (fun t =>
      (cmdOf t i).st = .running ∧ t.port p = { s.port p with fpSum := [], fpCount := 0 })) ∧
    (s.supUp = true → s.cmdAt 0x17 id.toNat = some i → c.st = .running → s.pst p = 3 → s.userPort p = false → (∀ d ∈ s.rtDoms, s.domOn d = true) →
      s.cswRefusal p = 0 → nextWith (exec (.portFpcapture id) s) (fun t => t.reg (Reg.PORT_FPSNAP p) = s.reg (Reg.PORT_FPSNAP p) + 1 ∧
        ((s.port p).fpCount < 15 → (cmdOf t i).st = .running ∧ (t.port p).fpCount = (s.port p).fpCount + 1 ∧ (t.port p).fp = (s.port p).fp ∧
          ∀ k, k < 1152 → (t.port p).fpSum.getD k 0 = (s.port p).fpSum.getD k 0 + pairTap (s.halfWord p (s.servingHalf p) (k / 2)) k) ∧
        (15 ≤ (s.port p).fpCount → Finished t i 0 0 ∧ (t.port p).fp = (s.fpTake p).fpMean p ∧ t.rb (Reg.PORT_FPSTAT p) 47 = true))) ∧
    (inBobbin c.arg1 580 = true → s.quadOn p = true → (∀ d ∈ s.rtDoms, s.domOn d = true) → (∀ d ∈ entryDoms c.arg1 580, s.domOn d = true) →
      (TakesUp s 0x18 id.toNat i → s.rb (Reg.PORT_FPSTAT p) 47 = true → nextWith (exec (.portFpread id) s) (fun t => Finished t i 0 580 ∧
        (∀ j, j < (s.port p).fp.length → t.bob (at_ + j) = (s.port p).fp.getD j 0) ∧
        ∀ k, (k < at_ ∨ at_ + (s.port p).fp.length ≤ k) → t.bob k = s.bob k)) ∧
      (TakesUp s 0x19 id.toNat i → s.fpHeaderOk p (s.bob at_) (s.bob (at_ + 1)) = true → nextWith (exec (.portFprestore id) s) (fun t => Finished t i 0 0 ∧
        (t.port p).fp.length = 580 ∧ (∀ j, j < 580 → (t.port p).fp.getD j 0 = s.bob (at_ + j)) ∧ t.rb (Reg.PORT_FPSTAT p) 47 = true))) ∧
    (let off := c.arg2 % 1024
     let n := c.arg2 / 1024 + 1
     TakesUp s 0x1A id.toNat i → c.arg2 < 2 ^ 20 → off + n ≤ 0x254 → inBobbin c.arg1 n = true → s.userPort p = false → s.portHeld p = false → s.quadOn p = true →
      (∀ d ∈ entryDoms c.arg1 n, s.domOn d = true) → s.coefBusy p = 0 → s.rb (Reg.PORT_COEFSTAT p) 4 = false →
      nextWith (exec (.portCoefload id) s) (fun t =>
        (∀ j, j < n → t.halfWord p (1 - s.servingHalf p) (off + j) = coefWord (off + j) (s.bob (at_ + j))) ∧
        (∀ k, k < 1024 → t.halfWord p (s.servingHalf p) k = s.halfWord p (s.servingHalf p) k) ∧
        (c.opt = false → Finished t i 0 0 ∧ t.rb (Reg.PORT_COEFSTAT p) 6 = false) ∧
        (c.opt = true → (cmdOf t i).st = .running ∧ t.rb (Reg.PORT_COEFSTAT p) 6 = true))) ∧
    (let w := clampPort 8 0 (c.w2 &&& 0xFFFFFFFFF#48)
     let cur := (s.port p).applPlca
     TakesUp s 0x1B id.toNat i → s.pst p = 3 → s.pmode p = 1 →
      (fld w 4 0 = fld cur 4 0 → fld w 11 11 = fld cur 11 11 →
        nextWith (exec (.portPlca id) s) (fun t => (cmdOf t i).st = .running ∧ (t.port p).plcaNext = some w ∧ t.regs = s.regs)) ∧
      (fld w 4 0 ≠ fld cur 4 0 → nextWith (exec (.portPlca id) s) (fun t => Finished t i 4 0 ∧ t.ports = s.ports)))

/-! ## Link life (R30, R134–R166, R241) -/

/-- R30, R134, R147, R155, R159, R160, R174: the transitions that a command takes when its condition holds. The port is in the new state, GEN has
counted one, PORT_LINKSTAT.CAUSE says why where a rule gives a cause, and no other port's PORT_STATE changes.
R134, R137, R142, R166: what entry to UP leaves: MODE and ROLE as resolved, LINK, the agreed dialects, the counts, ATTEMPT cleared. -/
def Obligations.PortTransitions : Prop :=
  (
  ∀ (p : PortNo) (s : State),
    let x := s.port p
    let moves := fun (i : Instr) (st : Nat) (cause : Option Nat) => nextWith (exec i s) (fun t =>
      t.pst p = st ∧ t.pgen p = (s.pgen p + 1) % 65536 ∧ (∀ c, cause = some c → t.rf (Reg.PORT_LINKSTAT p) 47 44 = c) ∧
      (∀ q : PortNo, q ≠ p → t.reg (Reg.PORT_STATE q) = s.reg (Reg.PORT_STATE q)) ∧ t.bobbin = s.bobbin ∧ t.fuses = s.fuses)
    (s.pst p = 2 → moves (.linkUp p) 3 none) ∧
    (s.pst p = 2 → x.fromRov = false → x.falseDue = false → moves (.trainFail p) 1 (some 8)) ∧
    (s.pst p = 2 → x.fromRov = true → moves (.trainFail p) 4 (some 8)) ∧
    (s.pst p = 3 → s.pmode p ≠ 1 → moves (.linkLoss p) (if s.rb (Reg.PORT_LINKCFG p) 47 then 1 else 0) (some 1)) ∧
    (s.pst p = 1 → x.attempt = true → bitOf x.applMode 12 = false → x.resRole = 2 → x.resMode ≠ 0 → moves (.trainingSignalDetect p) 2 none) ∧
    (s.pst p = 3 → x.sleepHs ≠ 0 → moves (.sleepHandshakeDone p) 6 (some 2)) ∧
    (s.pst p = 1 → x.wakeKind ≠ 0 → x.wakeLocal = false → moves (.falseWakeTimeout p) 6 none) ∧
    (s.asleep p = true → x.detArmed = true → x.detLevel = true → x.wakeKind ≠ 1 → s.quadOn p = true → moves (.remoteWake p) 1 none) ∧
    (s.asleep p = true → s.localWakeDue p = true → s.quadOn p = true → moves (.localWake p) 1 none) ∧
    (s.pst p = 1 → x.upD1 = true → x.lossCause = 1 → s.rf (Reg.PORT_LINKCFG p) 27 16 ≠ 0 →
      x.lossAt + s.rf (Reg.PORT_LINKCFG p) 27 16 * 10 ^ 6 ≤ s.now → moves (.rovdlyExpire p) 4 none)
  ) ∧ (
  ∀ (p : PortNo) (s : State), s.pst p = 2 →
    let x := s.port p
    nextWith (exec (.linkUp p) s) (fun t =>
      t.pmode p = x.resMode % 16 ∧ t.prole p = x.resRole % 4 ∧ t.rb (Reg.PORT_STATE p) 26 = true ∧
      t.rf (Reg.PORT_STATE p) 19 17 = x.resDial % 8 ∧ t.rb (Reg.PORT_STATE p) 16 = x.resPre ∧
      t.reg (Reg.PORT_TRAINCNT p) = s.reg (Reg.PORT_TRAINCNT p) + 1 ∧
      t.reg (Reg.PORT_WARMCNT p) = (if x.warm then s.reg (Reg.PORT_WARMCNT p) + 1 else s.reg (Reg.PORT_WARMCNT p)) ∧
      t.rf (Reg.PORT_LINKSTAT p) 39 32 = 0 ∧ t.rb (Reg.PORT_LINKSTAT p) 43 = x.warm)
  )

/-- R62, R134, R135, R149, R241: admission starts the first waiting port's attempt, which counts and negotiates, or trains at once as a forced
MASTER; the page that completes an exchange resolves mode and role and starts training; an abandoned attempt fails with CAUSE 7 and waits.
R62: the role two settings resolve to: forced roles win, equal forced roles conflict, equal preferences are settled by the seed. The settings are
0 prefer MASTER, 1 prefer SLAVE, 2 forced MASTER, 3 forced SLAVE; the result 1 is MASTER, 2 SLAVE. -/
def Obligations.NegotiationAndRoles : Prop :=
  (
  ∀ (p : PortNo) (s : State),
    let x := s.port p
    let a := s.rf (Reg.PORT_LINKSTAT p) 39 32
    (s.waiting p = true → s.firstWaiting p = true → s.admitted < 3 * s.runSpindles.length →
      (bitOf x.applMode 12 = true → nextWith (exec (.trainAdmit p) s) (fun t =>
        (t.port p).attempt = true ∧ (t.port p).wantAdmit = false ∧ t.pst p = 1 ∧ t.rf (Reg.PORT_LINKSTAT p) 39 32 = min 255 (a + 1) ∧
        t.reg (Reg.PORT_ANCNT p) = s.reg (Reg.PORT_ANCNT p) + 1)) ∧
      (bitOf x.applMode 12 = false → s.forceMode p x.applMode = 2 → fld x.applMode 14 13 % 2 = 0 →
        nextWith (exec (.trainAdmit p) s) (fun t => t.pst p = 2 ∧ t.pmode p = 2 ∧ t.prole p = 1))) ∧
    (∀ pg : AnPage, ∀ r : Nat, s.pst p = 1 → x.attempt = true → x.backoff = false → bitOf x.applMode 12 = true → pg.last = true →
      let m := highestMode (pg.common.toNat &&& fld x.applMode 7 0)
      2 ≤ m → resolveRole (s.roleSetting p) pg.role.toNat pg.seed = some r →
      nextWith (exec (.anPageReceive p pg) s) (fun t => t.pst p = 2 ∧ t.pmode p = m ∧ t.prole p = r)) ∧
    (s.pst p = 1 → x.attempt = true → nextWith (exec (.anAbandon p) s) (fun t =>
      (t.port p).attempt = false ∧ (t.port p).backoff = true ∧ t.rf (Reg.PORT_LINKSTAT p) 47 44 = 7 ∧
      t.reg (Reg.PORT_TRAINFAIL p) = s.reg (Reg.PORT_TRAINFAIL p) + 1 ∧ t.pst p = 1 ∧
      (t.port p).waitMs = (let k := a + 1
        if k < 2 then 0 else if 14 < k then s.rf (Reg.PORT_LINKCFG p) 11 0 else min (50 * 2 ^ (k - 2)) (s.rf (Reg.PORT_LINKCFG p) 11 0)))) ∧
    (s.pst p = 1 → x.backoff = true → nextWith (exec (.backoffExpire p) s) (fun t =>
      t.port p = { x with backoff := false, wantAdmit := true } ∧ t.regs = s.regs)) ∧
    (s.pst p = 2 → x.warm = true → nextWith (exec (.warmCheck p true) s) (fun t =>
      (t.port p).warm = false ∧ (t.port p).coefKept = false ∧ t.reg (Reg.PORT_WARMMISS p) = s.reg (Reg.PORT_WARMMISS p) + 1 ∧ t.pst p = 2))
  ) ∧ (
  ∀ (own far : Fin 4) (seed : Bool),
    (resolveRole own far seed = none ↔ own = far ∧ 2 ≤ own.val) ∧
    (own = 2 → far ≠ 2 → resolveRole own far seed = some 1) ∧ (far = 2 → own ≠ 2 → resolveRole own far seed = some 2) ∧
    (own = 3 → far ≠ 3 → resolveRole own far seed = some 2) ∧ (far = 3 → own ≠ 3 → resolveRole own far seed = some 1) ∧
    (own = 0 → far = 1 → resolveRole own far seed = some 1) ∧ (own = 1 → far = 0 → resolveRole own far seed = some 2) ∧
    (own = far → own.val < 2 → resolveRole own far seed = some (if seed then 1 else 2)) ∧
    (∀ r, resolveRole own far seed = some r → ∃ q, resolveRole far own (!seed) = some q ∧ r + q = 3)
  )

/-- R65–R68, R162–R165: PLCA of a 10BASE-T1S port in UP: the beacon, which starts a cycle and takes over a waiting configuration, what ends or restores it,
the opportunity that passes unused once its time is over, the nodes seen.
R69–R72, R76: decoding of the codeword from line symbol `first` on with e errors outside its f erased symbols, those that touch a slub's erasure
window, of which b are wrong: erasures are used within the parity, 2e + f within it corrects, and the counters count; a codeword that stays wrong marks
its frames. What counts as a corrected symbol, and when PORT_RSOVER counts, is the model's choice (log entry 147). After 32 errored bits in a row the
PRBS checker looks for its sequence again. -/
def Obligations.PlcaAndDecodingCounts : Prop :=
  (
  ∀ (p : PortNo) (s : State),
    let x := s.port p
    let a := Reg.PORT_PLCASTAT p
    (s.plcaOn p = true → s.plcaId p = 0 → s.plcaConflict p = false →
      nextWith (exec (.plcaBeacon p) s) (fun t => t.rf a 1 0 = 3 ∧ (t.port p).plcaOpp = 0 ∧
        (∀ w, x.plcaNext = some w → (t.port p).applPlca = w ∧ (t.port p).plcaNext = none ∧ t.reg (Reg.PORT_PLCACFG p) = w) ∧
        (x.plcaNext = none → (t.port p).applPlca = x.applPlca)) ∧
      nextWith (exec (.plcaBeaconConflict p) s) (fun t => t.rf a 2 0 = 4 ∧ t.reg (Reg.PORT_PLCABCN p) = s.reg (Reg.PORT_PLCABCN p) + 1)) ∧
    (s.plcaOn p = true → s.plcaId p ≠ 0 → s.plcaConflict p = false →
      nextWith (exec (.plcaBeacon p) s) (fun t => t.rf a 1 0 = 1 ∧ (t.port p).plcaOpp = 0 ∧
        (∀ w, x.plcaNext = some w → (t.port p).applPlca = w ∧ (t.port p).plcaNext = none ∧ t.reg (Reg.PORT_PLCACFG p) = w) ∧
        (x.plcaNext = none → (t.port p).applPlca = x.applPlca))) ∧
    (s.plcaCycle p = true → s.cur p = none → x.plcaAt + s.plcaWait p ≤ s.now →
      nextWith (exec (.plcaToExpire p) s) (fun t =>
        t.port p = { x with plcaOpp := x.plcaOpp + 1, plcaAt := s.now, plcaBurst := 0 } ∧ t.regs = s.regs)) ∧
    (s.plcaOn p = true → s.plcaId p ≠ 0 →
      nextWith (exec (.plcaBeaconTimeout p) s) (fun t => t.rb a 0 = false ∧ t.ports = s.ports) ∧
      nextWith (exec (.plcaBeaconReturn p) s) (fun t => t.rb a 0 = true ∧ t.ports = s.ports)) ∧
    (∀ node : Fin 32, nextWith (exec (.plcaSeenExpire p node) s) (fun t => t.rb (Reg.PORT_PLCASEEN p) node = false ∧
      ∀ i : Fin 32, i ≠ node → t.rb (Reg.PORT_PLCASEEN p) i = s.rb (Reg.PORT_PLCASEEN p) i))
  ) ∧ (
  ∀ (p : PortNo) (first e b k : Nat) (s : State),
    let f := s.rsErased p first
    let wrong := e + min b f
    let par := rsParity (s.pmode p)
    let use := bitOf (s.port p).applFec 0 = true ∧ f ≤ par
    let good := (use ∧ 2 * e + f ≤ par) ∨ (¬ use ∧ 2 * wrong ≤ par)
    (s.pst p = 3 → hasOam (s.pmode p) = true →
      nextWith (exec (.rsDecode p first e b k) s) (fun t =>
        t.reg (Reg.PORT_RSCW p) = s.reg (Reg.PORT_RSCW p) + 1 ∧
        (use → t.reg (Reg.PORT_RSERAS p) = s.reg (Reg.PORT_RSERAS p) + BitVec.ofNat 48 f) ∧
        (¬ use → t.reg (Reg.PORT_RSERAS p) = s.reg (Reg.PORT_RSERAS p)) ∧
        t.reg (Reg.PORT_RSOVER p) = s.reg (Reg.PORT_RSOVER p) + (if bitOf (s.port p).applFec 0 = true ∧ par < f then 1 else 0) ∧
        (good → wrong ≠ 0 → t.reg (Reg.PORT_RSCORR p) = s.reg (Reg.PORT_RSCORR p) + 1 ∧
          t.reg (Reg.PORT_RSSYM p) = s.reg (Reg.PORT_RSSYM p) + BitVec.ofNat 48 wrong) ∧
        (good → t.reg (Reg.PORT_RSUNC p) = s.reg (Reg.PORT_RSUNC p) ∧ (t.port p).rsMarks = (s.port p).rsMarks) ∧
        (¬ good → t.reg (Reg.PORT_RSUNC p) = s.reg (Reg.PORT_RSUNC p) + 1 ∧ (t.port p).rsMarks = (s.port p).rsMarks + k ∧
          t.reg (Reg.PORT_RSCORR p) = s.reg (Reg.PORT_RSCORR p)))) ∧
    (s.testMode p = 9 → (s.port p).prbsSync = true → 32 ≤ (s.port p).prbsBad →
      nextWith (exec (.prbsResync p () ()) s) (fun t =>
        t.port p = { s.port p with prbsSync := false, prbsGood := 0, prbsBad := 0 } ∧ t.regs = s.regs))
  )

/-- R155–R161, R357: the sleep handshake, the wake detector, forwarding, and an overload of the driver. -/
def Obligations.SleepAndWakeCommands : Prop :=
  ∀ (p : PortNo) (s : State),
    let x := s.port p
    (s.pst p = 3 → hasTc10 (s.pmode p) = true → x.sleepHs = 0 → s.rb (Reg.PORT_SLEEPCFG p) 47 = true → s.framesBarSleep p = false →
      nextWith (exec (.sleepRequestReceive p) s) (fun t => t.port p = { x with sleepHs := 1 } ∧ t.regs = s.regs)) ∧
    (s.pst p = 3 → x.sleepHs = 2 → nextWith (exec (.partnerSleepReject p) s) (fun t =>
      t.pst p = 3 ∧ (t.port p).sleepHs = 0 ∧ ∀ c ∈ t.rt.cmds, c.onPort p = true → c.op = 0x14 → c.st ≠ .running)) ∧
    (s.pst p = 3 → x.sleepHs = 1 → x.sleepCmd = false → nextWith (exec (.partnerSleepReject p) s) (fun t =>
      t.port p = { x with sleepHs := 0 } ∧ t.regs = s.regs)) ∧
    (s.pst p = 3 → x.sleepHs = 1 → x.sleepCmd = true → nextWith (exec (.partnerSleepReject p) s) (fun t => t.pst p = 3 ∧
      (s.framesBarSleep p = false → (t.port p).sleepHs = 2 ∧ t.rb (Reg.PORT_PCSSTAT p) 3 = false) ∧
      (s.framesBarSleep p = true → (t.port p).sleepHs = 0 ∧ ∀ c ∈ t.rt.cmds, c.onPort p = true → c.op = 0x14 → c.st ≠ .running))) ∧
    (s.asleep p = true → s.rb (Reg.PORT_SLEEPCFG p) 45 = true →
      nextWith (exec (.detectorArm p) s) (fun t =>
        t.port p = { x with detArmed := true, detThr := s.rf (Reg.PORT_SLEEPCFG p) 3 0, detQual := s.rf (Reg.PORT_SLEEPCFG p) 29 24 } ∧ t.regs = s.regs)) ∧
    (∀ level : Bool, nextWith (exec (.lineEnergyDetect { port := p, level := level }) s) (fun t => t.port p = { x with detLevel := level } ∧ t.regs = s.regs)) ∧
    (x.wakeKind = 1 → s.rb (Reg.PORT_SLEEPCFG p) 39 = true →
      nextWith (exec (.wakeForward p) s) (fun t =>
        (∀ j : PortNo, s.wakeGroup p j = true → s.quadOn j = true → t.pst j = 1 ∧ (t.port j).wakeKind = 2) ∧
        (∀ j : PortNo, s.wakeGroup p j = false → t.reg (Reg.PORT_STATE j) = s.reg (Reg.PORT_STATE j)))) ∧
    (∀ legN : Bool, s.flt.queue.length < 64 → s.codeLocked 0x04 = false →
      nextWith (exec (.txOverload p legN) s) (fun t => t.ports = s.ports ∧ t.regs = s.regs ∧
        t.flt.queue = s.flt.queue ++ [{ src := p, code := 0x04, info := bnat legN, at_ := s.time, seq := s.flt.arrivals, ns := s.now }]))

/-! ## Receive path, skeins, OAM (R82–R131, R144–R153) -/

/-- R84, R92, R102: a recalibration ends and the one held starts; the runtime's own request; a swap exchanges the halves; a mirror copies the serving half.
R105–R107: NHIT hits within 8 symbols start a slub, whose window opens PRE symbols before the first of them; it closes POST symbols after the last
hit, or at the cap of 4 × MAXLEN symbols, and counts: its symbols, and a window at the cap as long, after which the detector waits. -/
def Obligations.EqualiserEvents : Prop :=
  (
  ∀ (p : PortNo) (s : State),
    let x := s.port p
    let a := Reg.PORT_AFE p
    let c := Reg.PORT_COEFSTAT p
    (s.rb a 24 = true → nextWith (exec (.adcRecalDone p) s) (fun t =>
      t.rf a 23 20 = x.calRun % 16 ∧ (t.port p).calHeld = none ∧ s.symcnt p + 256 ≤ (t.port p).settleEnd ∧
      (x.calHeld = none → t.rb a 24 = false) ∧ (∀ v, x.calHeld = some v → t.rb a 24 = true ∧ (t.port p).calRun = v))) ∧
    (s.pst p = 3 → nextWith (exec (.recalInterval p) s) (fun t => t.rf a 19 16 = (s.rf a 19 16 + 1) % 16 ∧ t.rb a 24 = true)) ∧
    (s.rb c 6 = true → nextWith (exec (.swapEffect p) s) (fun t =>
      t.rf c 3 3 = 1 - s.rf c 3 3 ∧ t.rb c 6 = false ∧ t.reg (Reg.PORT_SWAPCNT p) = s.reg (Reg.PORT_SWAPCNT p) + 1 ∧
      (t.port p).mark = true ∧ (∀ h k, t.halfWord p h k = s.halfWord p h k))) ∧
    (s.rb c 7 = true → nextWith (exec (.mirrorDone p) s) (fun t =>
      t.rb c 7 = false ∧ t.rf c 3 3 = s.rf c 3 3 ∧ ∀ k, k < 0x254 →
        t.halfWord p (1 - s.servingHalf p) k = coefWord k (s.halfWord p (s.servingHalf p) k) ∧
        t.halfWord p (s.servingHalf p) k = s.halfWord p (s.servingHalf p) k))
  ) ∧ (
  ∀ (p : PortNo) (s : State),
    let x := s.port p
    let w := x.applSlub
    let len := x.slubLast + 1 - x.slub.start
    let cap := 4 * fld w 41 32
    let ends := fun (t : State) =>
      (t.port p).slub.active = false ∧ (t.port p).slub.blocked = decide (cap ≤ len) ∧
      (t.port p).rx.wins.head? = some (x.slub.start, x.slubLast) ∧ t.reg (Reg.PORT_SLUBCNT p) = s.reg (Reg.PORT_SLUBCNT p) + 1 ∧
      t.reg (Reg.PORT_SLUBSYM p) = s.reg (Reg.PORT_SLUBSYM p) + BitVec.ofNat 48 len ∧
      t.reg (Reg.PORT_SLUBLONG p) = s.reg (Reg.PORT_SLUBLONG p) + (if cap ≤ len then 1 else 0)
    x.slubLast = min (x.slub.last + fld w 31 24) (x.slub.start + cap - 1) ∧
    (∀ first last rest, bitOf w 47 = true → x.slub.active = false → x.rx.hits = last :: rest → firstOfHits (fld w 13 10) x.rx.hits = some first →
      nextWith (exec (.slubStart p () ()) s) (fun t =>
        (t.port p).slub.active = true ∧ (t.port p).slub.start = first - fld w 21 16 ∧ (t.port p).slub.last = last)) ∧
    (x.slub.active = true → x.slubLast < x.rx.decN → nextWith (exec (.slubWindowEnd p ()) s) ends) ∧
    (x.slub.active = true → x.slubLast < x.rx.decN → cap ≤ len → nextWith (exec (.slubCap p) s) ends)
  )

/-- R108, R109, R144, R145, R151–R153, R80: the estimates of a port in UP, and low-power idle, which changes no GEN. An estimate whose window is not held,
clean and equalised as the slicer errors say is dropped; the spectra that the bound of any other is the mean of are the runtime's arithmetic (log entry
143). The port wakes when a queue holds a frame that does not wait only behind a gate that opens more than Tw + 2 µs from now, under GATEWAKE = 1. -/
def Obligations.EstimatesAndLowPower : Prop :=
  ∀ (p : PortNo) (s : State), s.pst p = 3 →
    let x := s.port p
    (∀ n q : Nat, x.rx.snrLast = some (n, q) → nextWith (exec (.snrBlockEnd p () ()) s) (fun t =>
      t.rb (Reg.PORT_SNR p) 47 = decide (16384 ≤ n) ∧ t.port p = { x with rx := { x.rx with snrLast := none } } ∧
      (16384 ≤ n → q = 0 → t.rf (Reg.PORT_SNR p) 15 0 = 6000) ∧
      (n < 16384 → t.rf (Reg.PORT_SNR p) 15 0 = s.rf (Reg.PORT_SNR p) 15 0 ∧ t.rb (Reg.PORT_SQI p) 47 = false))) ∧
    (∀ (start : Nat) (xs es : List Word), x.rx.tapWords 0 start 8192 = some xs → x.rx.tapWords 1 start 8192 = some es →
      let e := es.flatMap wordSamples
      let fits := xs.all (cleanWord 2) = true ∧ es.all (cleanWord 1) = true ∧
        (((s.equalise p (xs.flatMap wordSamples) 32704 32 []).reverse).drop 32).map (·.2) = (e.drop 64).take 32672
      (fits → nextWith (exec (.mfbEstimate p start ()) s) (fun t =>
        let mfb := BitVec.ofInt 16 (mfbOf (s.pmode p) (xs.flatMap wordSamples) (((s.equalise p (xs.flatMap wordSamples) 32704 32 []).reverse).map (·.1)))
        t.rf (Reg.PORT_MFB p) 15 0 = mfb.toNat ∧ t.rb (Reg.PORT_MFB p) 47 = true ∧ t.rb (Reg.PORT_GAP p) 47 = true ∧
        t.rf (Reg.PORT_GAP p) 15 0 = (mfb - BitVec.ofNat 16 (s.snrOf p 32768 ((e.map (fun q => q.natAbs ^ 2)).sum)).1).toNat)) ∧
      (¬ fits → exec (.mfbEstimate p start ()) s = .next s)) ∧
    (s.rb (Reg.PORT_SNR p) 47 = true → x.sqiFirst = true → nextWith (exec (.sqiUpdate p) s) (fun t =>
      t.rf (Reg.PORT_SQI p) 2 0 = sqiLevel (s.pmode p) (s.rf (Reg.PORT_SNR p) 15 0) 0 ∧ t.rb (Reg.PORT_SQI p) 47 = true ∧ (t.port p).sqiFirst = false)) ∧
    (s.rb (Reg.PORT_SNR p) 47 = true → x.sqiFirst = false → nextWith (exec (.sqiUpdate p) s) (fun t =>
      let plain := sqiLevel (s.pmode p) (s.rf (Reg.PORT_SNR p) 15 0) 0
      let cur := s.rf (Reg.PORT_SQI p) 2 0
      t.rb (Reg.PORT_SQI p) 47 = true ∧ (plain < cur → t.rf (Reg.PORT_SQI p) 2 0 = plain) ∧
      (cur ≤ plain → t.rf (Reg.PORT_SQI p) 2 0 = max cur (sqiLevel (s.pmode p) (s.rf (Reg.PORT_SNR p) 15 0) 25)))) ∧
    (∀ q : Nat, q < 8 → s.queue p q ≠ [] →
      (s.rb (Reg.PORT_LPICFG p) 16 = false ∨ s.gateOpen p q s.ns = true ∨ s.shClass p q = 0 ∨
        ∃ d, s.nextOpen p q s.ns = some d ∧ d ≤ Config.lpiWakeNs (s.pmode p) + 2000) →
      s.rb (Reg.PORT_PCSSTAT p) 3 = true → nextWith (exec (.lpiTxWake p) s) (fun t =>
      t.rb (Reg.PORT_PCSSTAT p) 3 = false ∧ t.rb (Reg.PORT_STATE p) 27 = s.rb (Reg.PORT_PCSSTAT p) 4 ∧ (t.port p).txWaking = true ∧ t.pgen p = s.pgen p)) ∧
    ((∀ q : Nat, q < 8 → s.queue p q = []) → exec (.lpiTxWake p) s = .next s) ∧
    nextWith (exec (.lpiWakeDone p) s) (fun t => t.port p = { x with txWaking := false } ∧ t.regs = s.regs) ∧
    (∀ enter : Bool, x.resEee = true → hasOam (s.pmode p) = true → nextWith (exec (.lpiRxChange p enter) s) (fun t =>
      t.rb (Reg.PORT_PCSSTAT p) 4 = enter ∧ t.rb (Reg.PORT_STATE p) 27 = (s.rb (Reg.PORT_PCSSTAT p) 3 || enter) ∧ t.pgen p = s.pgen p ∧
      t.reg (Reg.PORT_LPIRXCNT p) = if enter && !(s.rb (Reg.PORT_PCSSTAT p) 4) then s.reg (Reg.PORT_LPIRXCNT p) + 1 else s.reg (Reg.PORT_LPIRXCNT p)))

/-- R144: the SQI thresholds rise with the level, so the level found is the only one between its threshold and the next. -/
def Obligations.SqiLevelsAreOrdered : Prop :=
  ∀ (m snr extra : Nat),
    let l := sqiLevel m snr extra
    l ≤ 7 ∧ (0 < l → sqiThreshold m l + extra ≤ snr) ∧ (l < 7 → snr < sqiThreshold m (l + 1) + extra) ∧
    (∀ snr', snr ≤ snr' → l ≤ sqiLevel m snr' extra)

/-- R113–R126, R131: the swap of a skein's halves decides who serves; a member that is no longer eligible leaves; a refresh writes the idle half, in which
only eligible members are named, victims as aggressors, and no precoder acts without aligned reports, and asks for the swap.
R130, R131, R321: the payload of an OAM message: a d3 trigger that is due, else the d2 report, VALID only if its three symbols are decided and
unmarked; a received d2 report counts by its TYPE. -/
def Obligations.SkeinsAndOam : Prop :=
  (
  ∀ (g : LgNo) (n : Fin 8) (s : State),
    ((s.lg g).pend.getLsbD n = true → nextWith (exec (.skeinSwapEffect g n) s) (fun t =>
      t.skHalf g n = 1 - s.skHalf g n ∧ (t.lg g).pend.getLsbD n = false ∧ t.reg (Reg.LG_SKSWAP g) = s.reg (Reg.LG_SKSWAP g) + 1 ∧
      (∀ i : Fin 16, natBit (s.skMembers g n) i = true →
        t.serves (16 * g + i) = (s.skEligible g i && s.skNamed g i (1 - s.skHalf g n))) ∧
      (∀ i : Fin 16, natBit (s.skMembers g n) i = false → t.serves (16 * g + i) = s.serves (16 * g + i)))) ∧
    (∀ i : Fin 16, s.skEligible g i = false → s.serves (16 * g + i) = true →
      nextWith (exec (.skeinMemberLeave g i) s) (fun t =>
        t.serves (16 * g + i) = false ∧ t.reg (Reg.LG_SKLEAVE g) = s.reg (Reg.LG_SKLEAVE g) + 1 ∧
        ∀ j : Fin 16, j ≠ i → t.serves (16 * g + j) = s.serves (16 * g + j))) ∧
    (∀ (v : Fin 16) (off : Fin 339) (w : Word), s.skMembers g n ≠ 0 → s.userSkein (8 * g + n) = false → s.domOn (24 + g) = true → s.skBusy g n = 0 →
      natBit (s.skMembers g n) v = true →
      nextWith (exec (.skeinRefresh g n [(v, off, w)]) s) (fun t =>
        let h := 1 - s.skHalf g n
        (t.lg g).pend.getLsbD n = true ∧ t.skHalf g n = s.skHalf g n ∧
        (off.val ≠ 0x150 → off.val ≠ 0x152 → t.slotWord g h v off = slotMask off w) ∧
        (∀ i : Fin 16, natBit (s.skMembers g n) i = true →
          bitOf (t.slotWord g h i 0x152) 0 = s.skEligible g i ∧
          (bitOf (t.slotWord g h i 0x152) 1 = true → (s.port (16 * g + i)).d2Align = true ∧ s.d2On (16 * g + i) = true) ∧
          ∀ a : Fin 7, bitOf (t.slotWord g h i 0x150) (6 * a + 5) = true → s.skEligible g (fld (t.slotWord g h i 0x150) (6 * a + 3) (6 * a)) = true) ∧
        ∀ k, k < 352 → t.slotWord g (s.skHalf g n) v k = s.slotWord g (s.skHalf g n) v k))
  ) ∧ (
  ∀ (p : PortNo) (s : State) (w : Word), s.pst p = 3 →
    let x := s.port p
    (hasOam (s.pmode p) = true → 0 < x.d3Left → s.rb (Reg.PORT_STATE p) 19 = true →
      nextWith (exec (.oamMessageSend p () ()) s) (fun t => t.port p = { x with oam := x.d3Word, d3Left := x.d3Left - 1 } ∧ t.regs = s.regs)) ∧
    (hasOam (s.pmode p) = true → x.d3Left = 0 → s.rb (Reg.PORT_STATE p) 18 = true →
      nextWith (exec (.oamMessageSend p () ()) s) (fun t => t.regs = s.regs ∧
        (∀ r, x.rx.report = some r → (t.port p).oam = r) ∧ (x.rx.report = none → (t.port p).oam = s.d2Word p (x.rx.decN - 3)))) ∧
    (∀ n : Nat, fld (s.d2Word p n) 47 44 = 0xD ∧ fld (s.d2Word p n) 43 32 = n % 4096 ∧ bitOf (s.d2Word p n) 30 = false ∧
      (bitOf (s.d2Word p n) 31 = true ↔
        n + 3 ≤ x.rx.decN ∧ ∀ i : Nat, i < 3 → (s.sym p (n + i : Nat)).marked = false ∧ s.erased p (n + i) = false)) ∧
    (s.rb (Reg.PORT_STATE p) 18 = true → nextWith (exec (.d2ReportReceive p w) s) (fun t =>
      (fld w 47 44 = 0xD → t.reg (Reg.LG_D2RPT (p / 16)) = s.reg (Reg.LG_D2RPT (p / 16)) + 1 ∧ t.reg (Reg.LG_D2BAD (p / 16)) = s.reg (Reg.LG_D2BAD (p / 16))) ∧
      (fld w 47 44 ≠ 0xD → t.reg (Reg.LG_D2BAD (p / 16)) = s.reg (Reg.LG_D2BAD (p / 16)) + 1 ∧ t.reg (Reg.LG_D2RPT (p / 16)) = s.reg (Reg.LG_D2RPT (p / 16)))))
  )

/-! ## Roving and carding (R167–R193) -/

/-- R174–R178: the roving link's control frames and what each end does with them, and a frame that its checks reject. A phase is 1 seeking, 2 listening,
3 linked, 4 in a restart window; `fs` are the fields of a control frame (R176). The slave that answers a HELLO is linked from its next slot on.
R175, R181, R182, R241: restart attempts from roving, with negotiation: a linked port is silent in its window, the control frames that the window cuts wait
to be sent again, an admitted attempt runs, and without success roving resumes at its setting. -/
def Obligations.RovingLink : Prop :=
  (
  ∀ (p : PortNo) (s : State) (frame fs : List Byte) (a : BitVec 16),
    let x := s.port p
    let linked := s.pst p = 4 ∧ s.rlink p = 3
    (rovParse frame = .bad → s.pst p = 4 →
      ∀ i ∈ [Instr.rovingHelloReceive p frame a () () (), .rovingAckReceive p frame a () (), .rovingSetreqReceive p frame (), .rovingSetackReceive p frame (),
          .rovingSnrrepReceive p frame a ()],
        exec i s = .next (s.bump (Reg.PORT_ROVBAD p))) ∧
    (rovParse frame = .ctl 1 fs → s.rovSlave p = true →
      nextWith (exec (.rovingHelloReceive p frame a () () ()) s) (fun t =>
        t.rlink p = s.rlink p ∧ (t.port p).rov.linkAt = some (s.now - 4 * ladTs 0 + 2000000) ∧
        t.rfn p = (rovFld fs 0 4 + 4) % 2 ^ 32 ∧ (t.port p).rov.retry = rovFld fs 4 2 ∧ (t.port p).rov.rwin = rovFld fs 6 2 ∧
        (t.port p).rov.ladmax = min x.rov.own (rovFld fs 8 1) ∧ (t.port p).rovTx = rovCtl 2 [(4, rovFld fs 0 4), (1, x.rov.own), (2, a.toNat)])) ∧
    (rovParse frame = .ctl 2 fs → s.rovMaster p = true → s.rlink p = 1 →
      nextWith (exec (.rovingAckReceive p frame a () ()) s) (fun t =>
        t.rlink p = 3 ∧ t.rfn p = s.rfn p ∧ t.rf (Reg.PORT_ROVSTAT p) 31 16 = a.toNat ∧ t.rf (Reg.PORT_ROVSTAT p) 15 0 = rovFld fs 5 2 % 2 ^ 16 ∧
        (t.port p).rov.ladmax = min x.rov.own (rovFld fs 4 1))) ∧
    (rovParse frame = .ctl 3 fs → s.rovSlave p = true → s.rlink p = 3 → rovFld fs 0 1 ≤ 20 →
      nextWith (exec (.rovingSetreqReceive p frame ()) s) (fun t =>
        (t.port p).rov.next = some (rovFld fs 0 1, rovFld fs 1 4) ∧ (t.port p).rov.acked = true ∧
        (t.port p).rovTx = rovCtl 4 [(1, rovFld fs 0 1), (4, rovFld fs 1 4)] ∧ t.regs = s.regs)) ∧
    (rovParse frame = .ctl 4 fs → s.rovMaster p = true → s.rlink p = 3 → x.rov.next = some (rovFld fs 0 1, rovFld fs 1 4) → s.rfn p < rovFld fs 1 4 →
      nextWith (exec (.rovingSetackReceive p frame ()) s) (fun t => t.port p = { x with rov := { x.rov with acked := true } } ∧ t.regs = s.regs)) ∧
    (rovParse frame = .ctl 5 fs → linked → nextWith (exec (.rovingSnrrepReceive p frame a ()) s) (fun t =>
      t.rfn p = s.rfn p ∧ t.rf (Reg.PORT_ROVSTAT p) 15 0 = rovFld fs 4 2 % 2 ^ 16 ∧ t.rf (Reg.PORT_ROVSTAT p) 31 16 = a.toNat ∧ t.rlink p = 3)) ∧
    (∀ i f, x.rov.next = some (i, f) → linked → f ≤ s.rfn p → nextWith (exec (.rovingSettingSwitch p) s) (fun t =>
      (t.port p).rov.next = none ∧ t.rset p = (if x.rov.acked then i % 32 else s.rset p) ∧
      t.reg (Reg.PORT_ROVSTEP p) = if x.rov.acked then s.reg (Reg.PORT_ROVSTEP p) + 1 else s.reg (Reg.PORT_ROVSTEP p))) ∧
    (linked → nextWith (exec (.rovingSnrrepSend p a) s) (fun t => t.rf (Reg.PORT_ROVSTAT p) 31 16 = a.toNat ∧
      (t.port p).rovTx = rovCtl 5 [(4, s.rfn p), (2, a.toNat)])) ∧
    (linked → signed 16 a.toNat < 1200 - 300 * (ladK (s.rset p) : Int) →
      nextWith (exec (.rovingSnrLow p a) s) (fun t => t.rf (Reg.PORT_ROVSTAT p) 31 16 = a.toNat ∧
        (t.port p).rovTx = rovCtl 5 [(4, s.rfn p), (2, a.toNat)])) ∧
    (linked → s.rfn p % 16 = 0 → nextWith (exec (.rovingFallback p ()) s) (fun t => t.rset p = 0 ∧ t.rlink p = 3)) ∧
    (linked → s.rset p = 0 → nextWith (exec (.rovingLoss p) s) (fun t =>
      t.rlink p = (if s.prole p = 2 then 2 else 1) ∧ t.rfn p = 0 ∧ t.reg (Reg.PORT_ROVLOSS p) = s.reg (Reg.PORT_ROVLOSS p) + 1)) ∧
    (s.rovMaster p = true → s.rlink p = 1 → 15 < s.rfn p → nextWith (exec (.rovingAcqTimeout p) s) (fun t =>
      t.rlink p = 1 ∧ t.rfn p = 0 ∧ t.rset p = 0 ∧ (t.port p).rov.ladmax = x.rov.own ∧
      (t.port p).rovTx = rovCtl 1 [(4, 0), (2, x.rov.retry), (2, x.rov.rwin), (1, x.rov.own), (1, 1)]))
  ) ∧ (
  ∀ (p : PortNo) (s : State), s.pst p = 4 →
    let x := s.port p
    (s.rphase p = 3 → x.rov.window = false → 0 < s.rfn p → 0 < x.rov.retry / 4 → s.rfn p % (x.rov.retry / 4) = 0 → bitOf x.applMode 12 = true →
      s.admitted < 3 * s.runSpindles.length → nextWith (exec (.rovingRestartWindow p ()) s) (fun t =>
        t.rphase p = 4 ∧ (t.port p).rov.ctl = x.rov.cut ++ x.rov.ctl ∧ t.rfn p = s.rfn p ∧ (t.port p).attempt = true ∧ (t.port p).rov.window = true ∧ (t.port p).rov.txq = [] ∧ t.pst p = 4 ∧
        t.reg (Reg.PORT_ROVRETRY p) = s.reg (Reg.PORT_ROVRETRY p) + 1)) ∧
    ((s.rphase p = 1 ∨ s.rphase p = 2) → x.rov.window = false → bitOf x.applMode 12 = true → s.admitted < 3 * s.runSpindles.length → nextWith (exec (.rovingRetry p) s) (fun t =>
      (t.port p).attempt = true ∧ (t.port p).rov.window = true ∧ t.rphase p = s.rphase p ∧ t.pst p = 4)) ∧
    (x.rov.window = true → s.rphase p = 4 → inWindow x.rov.retry x.rov.rwin (s.rfn p) = false → nextWith (exec (.rovingWindowEnd p ()) s) (fun t =>
      t.rphase p = 3 ∧ t.rset p = s.rset p ∧ t.rfn p = s.rfn p ∧ (t.port p).rov.window = false ∧ (t.port p).attempt = false ∧ t.pst p = 4))
  )

/-- R184–R192: a carding sweep from DISABLED ends with its status and events; a snapshot mirrors the halves, or is refused and retried; a trend point
takes up the sums. -/
def Obligations.CardingCommands : Prop :=
  ∀ (p : PortNo) (s : State),
    let x := s.port p
    (∀ (d : BitVec 7) (peaks : List CardPeak), s.pst p = 5 → x.cardFrom = 0 → nextWith (exec (.cardingDone p d peaks) s) (fun t =>
      t.pst p = 0 ∧ t.rf (Reg.PORT_CARDSTAT p) 47 44 = (if 16 < d.toNat then 3 else 2) ∧ t.rf (Reg.PORT_CARDSTAT p) 38 32 = d.toNat ∧
      (16 < d.toNat → t.rf (Reg.PORT_CARDSTAT p) 43 40 = 0))) ∧
    (∀ i ∈ [Instr.fpSnapshot p (), .fpSnapshotRetry p], (i = .fpSnapshotRetry p → 0 < x.fpRefused) →
      s.fpRuns p = true → s.userPort p = false → s.cswRefusal p = 0 → nextWith (exec i s) (fun t =>
      t.reg (Reg.PORT_FPSNAP p) = s.reg (Reg.PORT_FPSNAP p) + 1 ∧ (t.port p).fpRefused = 0 ∧
      ∀ k, k < 0x254 → t.halfWord p (1 - s.servingHalf p) k = coefWord k (s.halfWord p (s.servingHalf p) k))) ∧
    (s.fpRuns p = true → s.userPort p = false → s.cswRefusal p ≠ 0 → 0 < x.fpRefused → nextWith (exec (.fpSnapshotRetry p) s) (fun t =>
      t.reg (Reg.PORT_SWAPREF p) = s.reg (Reg.PORT_SWAPREF p) + 1 ∧
      (x.fpRefused < 9 → (t.port p).fpRefused = x.fpRefused + 1) ∧
      (9 ≤ x.fpRefused → (t.port p).fpRefused = 0 ∧ t.reg (Reg.PORT_FPMISS p) = s.reg (Reg.PORT_FPMISS p) + 1))) ∧
    (0 < x.driftCnt → nextWith (exec (.fpTrendPoint p) s) (fun t =>
      (t.port p).driftSum = [] ∧ (t.port p).driftCnt = 0 ∧ (t.port p).trend.length = min 64 (x.trend.length + 1) ∧
      (t.port p).trend.head? = some (x.driftSum.map (fun v => v * 1000 / (x.driftCnt : Int)))))

/-! ## Traffic manager (R256–R282, R417) -/

/-- R59, R256–R261, R267: what the pipeline does with a frame from a host lane in RUN, from the spindle channel or from a line port in UP: no stream, a bad frame, a stream without
an egress, and a stream whose one egress has room.
R71, R176, R180: a roving data frame whose header and body are good enters the pipeline of a port in ROVING; a bad one is discarded and counts in
PORT_ROVBAD. What a sender forms as a data frame is good. -/
def Obligations.FramesEnterThePipeline : Prop :=
  (
  ∀ (f : InFrame) (s : State), s.tmOn = true →
    let src := f.ident
    let run := (96 ≤ src ∧ src < 112 ∧ s.rf (Reg.HL_STAT (src - 96)) 47 44 = 5) ∨ src = 114
    let good := f.bytes.length ≤ 9216 ∧ fcsGood f.bytes = true
    let look := s.lookup src (f.bytes.take 9216)
    (src < 96 → s.pst src = 3 → (s.pmode src = 1 → s.cur src = none) → look = none → nextWith (exec (.frameIngress f) s) (fun t =>
      t.reg (Reg.PORT_RXFRM src) = s.reg (Reg.PORT_RXFRM src) + 1 ∧ t.reg Reg.TM_NOMATCH = s.reg Reg.TM_NOMATCH + 1 ∧ t.tm = s.tm)) ∧
    (run → look = none → exec (.frameIngress f) s = .next (s.bump Reg.TM_NOMATCH)) ∧
    (∀ st, st < 4096 → look = some st → run →
      let act := s.reg (Reg.TM_SACT2 st)
      (¬ good → bitOf act 45 = false →
        exec (.frameIngress f) s = .next ((s.bump (Reg.TM_SMATCH st)).bump (Reg.TM_SFCSBAD st))) ∧
      (good → fld act 22 17 = 0 → s.rb (Reg.TM_SPOL0 st) 47 = false → bitOf act 33 = false → bitOf act 44 = false →
        (s.actionEgresses st src false = [] → nextWith (exec (.frameIngress f) s) (fun t =>
          t.reg (Reg.TM_SMATCH st) = s.reg (Reg.TM_SMATCH st) + 1 ∧ t.reg (Reg.TM_SNOEGR st) = s.reg (Reg.TM_SNOEGR st) + 1 ∧ t.tm = s.tm)) ∧
        (∀ e, s.actionEgresses st src false = [e] → s.egressState e = 0 → s.rb (Reg.TM_QCFG e (s.actionQueue st f.bytes)) 46 = false →
          s.depth e (s.actionQueue st f.bytes) + cellsOf f.bytes.length ≤ s.qLimit e (s.actionQueue st f.bytes) 3 →
          cellsOf f.bytes.length + s.poolRes 3 ≤ s.tmFree →
          nextWith (exec (.frameIngress f) s) (fun t =>
            let q := s.actionQueue st f.bytes
            t.reg (Reg.TM_SMATCH st) = s.reg (Reg.TM_SMATCH st) + 1 ∧ t.reg (Reg.TM_QENQ e q) = s.reg (Reg.TM_QENQ e q) + 1 ∧
            t.queue e q = s.queue e q ++ [{ fid := s.tm.nextFid, at_ := s.ns }] ∧ t.tm.nextFid = s.tm.nextFid + 1 ∧
            ∃ d, t.frame s.tm.nextFid = some d ∧ d.bytes = f.bytes ∧ d.copies = 1 ∧ d.desc.src = src ∧ d.desc.stream = st ∧ d.desc.colour = 3))))
  ) ∧ (
  ∀ (p : PortNo) (f : List Byte) (first : BitVec 96) (bs : List Byte) (s : State), s.pst p = 4 →
    (64 ≤ bs.length → bs.length ≤ 2048 → rovParse (rovFrame 0 bs) = .data bs) ∧
    (rovParse f = .data bs → s.tmOn = true → fcsGood bs = true → s.lookup p bs = none →
      nextWith (exec (.rovingDataReceive p f first ()) s) (fun t =>
        t.reg (Reg.PORT_ROVRXFRM p) = s.reg (Reg.PORT_ROVRXFRM p) + 1 ∧ t.reg (Reg.PORT_RXFRM p) = s.reg (Reg.PORT_RXFRM p) + 1 ∧
        t.reg Reg.TM_NOMATCH = s.reg Reg.TM_NOMATCH + 1 ∧ t.tm = s.tm)) ∧
    (rovParse f = .bad → exec (.rovingDataReceive p f first ()) s = .next (s.bump (Reg.PORT_ROVBAD p)))
  )

/-- R260: a frame marked FCS_BAD or TRUNC bypasses gate, policer and meter, carries COLOUR 11, goes only to host-lane egresses of its action and only
where FCSB = 1, and counts in TM_SFCSBAD either way. -/
def Obligations.BadFrames : Prop :=
  ∀ (f : InFrame) (s : State) (st : Nat), s.tmOn = true → st < 4096 →
    (f.ident < 96 ∧ s.pst f.ident = 3) ∨ (96 ≤ f.ident ∧ f.ident < 112 ∧ s.rf (Reg.HL_STAT (f.ident - 96)) 47 44 = 5) ∨ f.ident = 114 →
    (f.ident < 96 → s.pmode f.ident = 1 → s.cur f.ident = none) → (9216 < f.bytes.length ∨ fcsGood f.bytes = false) → s.lookup f.ident (f.bytes.take 9216) = some st →
    nextWith (exec (.frameIngress f) s) (fun t =>
      t.reg (Reg.TM_SFCSBAD st) = s.reg (Reg.TM_SFCSBAD st) + 1 ∧ t.reg (Reg.TM_SGATEDROP st) = s.reg (Reg.TM_SGATEDROP st) ∧
      t.tm.pol = s.tm.pol ∧ t.tm.met = s.tm.met ∧ t.spns = s.spns ∧
      (∀ e q, e < 112 → q < 8 → (e < 96 ∨ s.rb (Reg.TM_SACT2 st) 45 = false ∨ s.rb (Reg.TM_SACT2 st) (e - 96) = false) → t.queue e q = s.queue e q) ∧
      (∀ e q, e < 112 → q < 8 → ∀ x ∈ t.queue e q, x ∈ s.queue e q ∨ ∃ d, t.frame x.fid = some d ∧ d.desc.colour = 3))

/-- R271, R417: at a line egress that can send, the frame that starts is the head of the highest queue that holds a committed-eligible frame behind an open
gate; the frame that leaves counts at its queue and its port, a management reply at its lane alone (R50, R305). -/
def Obligations.SelectionAndTransmission : Prop :=
  ∀ (e : EgrNo) (s : State),
    (e.val < 96 → s.pst e ≠ 4 → s.txReady e = true → (∀ q, q < 8 → s.tm.held.get (fun _ => 0) (8 * e.val + q) = 0) →
      ∀ (q : Nat) (x : QEntry) (rest : List QEntry), q < 8 → s.queue e q = x :: rest → s.gateTest e q = .start → s.shClass e q = 2 →
        (∀ k, q < k → k < 8 → s.queue e k = []) → s.linkFails x.fid = false → s.dequeueDrop e q x.fid = [] → s.bankToWake x.fid = none →
        nextWith (exec (.txSelect e) s) (fun t =>
          t.cur e = some { q := q, fid := x.fid, at_ := x.at_ } ∧ t.queue e q = rest ∧ (∀ k, k < 8 → k ≠ q → t.queue e k = s.queue e k) ∧
          (∀ d, d ≠ e.val → t.cur d = s.cur d) ∧ t.regs = s.regs)) ∧
    (∀ c, s.cur e = some c → c.mgmt = true → 96 ≤ e.val → nextWith (exec (.frameTxDone e) s) (fun t =>
      t.cur e = none ∧ t.reg (Reg.HL_TXFRM (e.val - 96)) = s.reg (Reg.HL_TXFRM (e.val - 96)) + 1 ∧
      (∀ b, b ≠ Reg.HL_TXFRM (e.val - 96) → t.reg b = s.reg b) ∧ (∀ k j, t.queue k j = s.queue k j))) ∧
    (∀ c, s.cur e = some c → c.mgmt = false → nextWith (exec (.frameTxDone e) s) (fun t =>
      t.cur e = none ∧ t.reg (Reg.TM_QDEQ e c.q) = s.reg (Reg.TM_QDEQ e c.q) + 1 ∧
      t.reg (Reg.TM_QBYTES e c.q) = s.reg (Reg.TM_QBYTES e c.q) + BitVec.ofNat 48 (s.frameLen c.fid) ∧
      (e.val < 96 → t.reg (Reg.PORT_TXFRM e) = s.reg (Reg.PORT_TXFRM e) + 1 ∧
        (s.plcaOwn e = true → t.rb (Reg.PORT_PLCASEEN e) (s.plcaId e % 32) = true)) ∧
      (96 ≤ e.val → t.reg (Reg.HL_TXFRM (e.val - 96)) = s.reg (Reg.HL_TXFRM (e.val - 96)) + 1) ∧
      (∀ k j, t.queue k j = s.queue k j)))

/-- R275, R276, R278: a committed list comes into operation: its entries and length are the operational ones, CHANGED follows CHANGE, PEND clears, and the
cycle starts where R278 puts it; a window that closes on a guarded head frame counts.
R151, R152, R279, R280: a queue sample counts in its bins and raises the maxima; an idle egress enters low-power idle. -/
def Obligations.GateListsAndSamples : Prop :=
  (
  ∀ s : State,
    let swaps := fun (i : Instr) (l : Nat) => s.glPending l = true → nextWith (exec i s) (fun t =>
      t.glPending l = false ∧ (t.gcl l).oper = true ∧ (t.gcl l).start = s.glSwapAt l ∧ t.reg (glOper l) = s.reg (glAdmin l) ∧
      t.rf (glCtl l) 23 20 = s.rf (glCtl l) 19 16 ∧ t.reg (glSwap l) = s.reg (glSwap l) + 1 ∧
      ∀ k w, k < glMax l → w < 2 → t.reg (glOE l k w) = s.reg (glAE l k w))
    (∀ e : EgrNo, swaps (.gclSwap e) e) ∧
    (∀ i : Fin 64, i.val ≠ 0 → swaps (.sgSwap i) (112 + i)) ∧
    (∀ e : EgrNo, s.glPending e = false → exec (.gclSwap e) s = .next s) ∧
    (∀ (e : EgrNo) (q : Nat), q < 8 → (∀ k, k < 8 → k ≠ q → s.tm.held.get (fun _ => 0) (8 * e.val + k) = 0) →
      let h := s.tm.held.get (fun _ => 0) (8 * e.val + q)
      (h ≠ 0 → h ≤ s.ns + 1 → nextWith (exec (.gateEntryAdvance e) s) (fun t =>
        t.reg (Reg.TM_EGUARD e) = s.reg (Reg.TM_EGUARD e) + 1 ∧ t.tm.held.get (fun _ => 0) (8 * e.val + q) = 0)) ∧
      (h = 0 ∨ s.ns + 1 < h → exec (.gateEntryAdvance e) s = .next s))
  ) ∧ (
  (∀ (e : EgrNo) (q : Fin 8) (s : State), s.tmOn = true → s.depth e q < 2 ^ 18 →
    let w := s.reg (Reg.TM_QSAMPLE e q)
    let d := s.depth e q
    let delay := match s.queue e q with
      | [] => 0
      | x :: _ => s.ns - x.at_
    nextWith (exec (.queueSample e q) s) (fun t =>
      t.reg (Reg.TM_QSAMPLES e q) = s.reg (Reg.TM_QSAMPLES e q) + 1 ∧
      (∀ k, k < 16 → t.reg (Reg.TM_QHISTD e q k) = s.reg (Reg.TM_QHISTD e q k) + if k = histBin d (2 ^ fld w 27 24) then 1 else 0) ∧
      (∀ k, k < 16 → t.reg (Reg.TM_QHISTL e q k) = s.reg (Reg.TM_QHISTL e q k) + if k = histBin delay (8 * 2 ^ fld w 31 28) then 1 else 0) ∧
      t.rf (Reg.TM_QMAXDEPTH e q) 41 24 = max d (s.rf (Reg.TM_QMAXDEPTH e q) 41 24) ∧
      t.reg (Reg.TM_QMAXDLY e q) = BitVec.ofNat 48 (max delay (s.reg (Reg.TM_QMAXDLY e q)).toNat))) ∧
  (∀ (p : PortNo) (s : State), s.pst p = 3 → (s.port p).resEee = true → hasOam (s.pmode p) = true → s.rb (Reg.PORT_PCSSTAT p) 3 = false →
    (s.port p).txWaking = false → s.cur p = none → (∀ q, q < 8 → s.queueIdle p q = true) →
    nextWith (exec (.lpiTxRequest p) s) (fun t =>
      t.rb (Reg.PORT_PCSSTAT p) 3 = true ∧ t.rb (Reg.PORT_STATE p) 27 = true ∧ t.rb (Reg.PORT_PCSSTAT p) 4 = s.rb (Reg.PORT_PCSSTAT p) 4 ∧
      t.reg (Reg.PORT_LPITXCNT p) = s.reg (Reg.PORT_LPITXCNT p) + 1 ∧ t.pgen p = s.pgen p))
  )

/-- R275: the running entries of a gate list tile its cycle: at every position of the cycle one entry holds, and it is one of the list's that has time.
Where none has, every gate is open and no guard is set (the model's choice, log entry 26). -/
def Obligations.GateEntriesTileTheCycle : Prop :=
  ∀ (es : List (Nat × Nat × Nat)) (cycle pos : Nat), es ≠ [] → pos < cycle →
    ∃ x : Seg, segAt (segsOf es cycle) pos = some x ∧ ((∃ e ∈ es, e.2.1 ≠ 0 ∧ e.1 = x.gates ∧ e.2.2 = x.guard) ∨ ((∀ e ∈ es, e.2.1 = 0) ∧ x.gates = 255 ∧ x.guard = 0)) ∧
      ∀ y ∈ segsOf es cycle, y.st ≤ pos → pos < y.en → y = x

/-- Bytes that the policer of stream st passes of frames (counted length, tick, input colour) that arrive in this order. -/
def policedBytes (st : Nat) : List (Nat × Nat × Nat) → State → Nat
  | [], _ => 0
  | (l, t, c) :: rest, s => (if (s.police st c l t).1 = 2 then 0 else l) + policedBytes st rest (s.police st c l t).2

/-- R264: a policer passes no more than its burst and what its rate brings in the time the frames span, whatever their lengths and colours are. -/
def Obligations.PolicerBoundsTraffic : Prop :=
  ∀ (s : State) (st t0 t1 : Nat) (fs : List (Nat × Nat × Nat)), st < 4096 →
    fs.Pairwise (fun a b => a.2.1 ≤ b.2.1) → (∀ f ∈ fs, t0 ≤ f.2.1 ∧ f.2.1 ≤ t1) →
    policedBytes st fs s * byteU ≤ s.rf (Reg.TM_SPOL1 st) 23 0 * byteU + gain (s.rf (Reg.TM_SPOL0 st) 24 0) (t1 - t0)

/-! ## Host lanes, management, distaff (R50–R53, R289–R321, R381–R386) -/

/-- R288, R292: the code errors before a frame count in HL_CODEERR, and 4 within 256 symbols end the alignment. Then the checks on a frame from the host,
in order: the first that fails discards the frame and counts it; a frame that passes counts in HL_RXFRM and enters the pipeline, or, on the spindle
channel, a spindle's receive queue with the device's own descriptor (its PRI is the model's choice, log entry 152).
R50–R53: a management frame on HL0 while CSP1 carries management is discarded and counted. While HL0 does, a request of one read of a bobbin word
is answered by one frame to its sender: a status word with its SEQ and address, and the word; a request of no command by one without words. -/
def Obligations.HostAndManagementFrames : Prop :=
  (
  ∀ (n : LaneNo) (f : LaneFrame) (s0 : State),
    let s := s0.groupsIn n f.pre
    let port := fld f.w0 47 41
    let ver := s.rf (Reg.HL_STAT n) 35 32
    let sound := s.laneHears n = true ∧ f.good = true ∧ f.codeErr = false ∧ f.bytes.length ≤ 9216
    let tagged := sound ∧ fld f.w1 7 0 = hcrc f.w0 f.w1 ∧ fld f.w1 15 8 = ver
    let drops := fun (cnt : Nat) => exec (.hlFrameReceive n f) s0 = .next (s.bump cnt)
    (f.pre = [] → s = s0) ∧
    (s0.laneOn n = true → s0.lst n ≠ 0 → s0.rb (Reg.HL_STAT n) 38 = false → s0.aligned n = true →
      s.reg (Reg.HL_CODEERR n) = s0.reg (Reg.HL_CODEERR n) + BitVec.ofNat 48 (codeErrors f.pre true 0).length ∧
      s.aligned n = !(fourNear (codeErrors f.pre true 0))) ∧
    (s.laneHears n = false → exec (.hlFrameReceive n f) s0 = .next s) ∧
    (s.laneHears n = true → (f.good = false ∨ f.codeErr = true ∨ 9216 < f.bytes.length) → drops (Reg.HL_RXABORT n)) ∧
    (sound → (fld f.w1 7 0 ≠ hcrc f.w0 f.w1 ∨ fld f.w1 15 8 ≠ ver) → drops (Reg.HL_RXHCRC n)) ∧
    (tagged → port ≠ 112 → port ≠ 96 + n.val → (port ≠ 114 ∨ ver ≠ 3) → drops (Reg.HL_RXBADID n)) ∧
    (tagged → port = 96 + n.val → (f.bytes.length < 64 ∨ fld f.w1 35 22 ≠ f.bytes.length) → drops (Reg.HL_RXLEN n)) ∧
    (tagged → port = 114 → ver = 3 → 64 ≤ f.bytes.length → fld f.w1 35 22 = f.bytes.length → fcsGood f.bytes = false → drops (Reg.HL_RXFCS n)) ∧
    (tagged → port = 96 + n.val → 64 ≤ f.bytes.length → fld f.w1 35 22 = f.bytes.length → fcsGood f.bytes = true →
      nextWith (exec (.hlFrameReceive n f) s0) (fun t => t.reg (Reg.HL_RXFRM n) = s.reg (Reg.HL_RXFRM n) + 1 ∧
        (s.tmOn = true → s.lookup (96 + n.val) f.bytes = none → t = (s.bump (Reg.HL_RXFRM n)).bump Reg.TM_NOMATCH))) ∧
    (tagged → port = 114 → ver = 3 → 64 ≤ f.bytes.length → fld f.w1 35 22 = f.bytes.length → fcsGood f.bytes = true →
      let k := fld f.w1 41 36
      nextWith (exec (.hlFrameReceive n f) s0) (fun t => t.reg (Reg.HL_RXFRM n) = s.reg (Reg.HL_RXFRM n) + 1 ∧
        (s.spnTakes k = true → ∃ y : SpnFrame, (t.spn k).rxq = (s.spn k).rxq ++ [y] ∧ y.bytes = f.bytes ∧
          (y.w0, y.w1) = tagHeader { src := 114, tsNs := tsNsOf f.first, stream := k, len := f.bytes.length } 0 3) ∧
        (s.spnTakes k = false → t.reg Reg.TM_SPNDROP = s.reg Reg.TM_SPNDROP + 1 ∧ t.spns = s.spns)))
  ) ∧ (
  ∀ (f : LaneFrame) (s0 : State),
    let s := s0.groupsIn 0 f.pre
    let ok := s.laneHears 0 = true ∧ f.good = true ∧ f.codeErr = false ∧ f.bytes.length ≤ 9216 ∧
      fld f.w1 7 0 = hcrc f.w0 f.w1 ∧ fld f.w1 15 8 = s.rf (Reg.HL_STAT 0) 35 32 ∧ fld f.w0 47 41 = 112
    (ok → s.rb Reg.ID_MGMTPATH 0 = false → exec (.mgmtRequestFrame f) s0 = .next (s.bump (Reg.HL_MGMTDROP 0))) ∧
    (∀ w : Word, ok → s.rb Reg.ID_MGMTPATH 0 = true → 64 ≤ f.bytes.length → fld f.w1 35 22 = f.bytes.length → fcsGood f.bytes = true →
      bytesVal ((f.bytes.drop 12).take 2) = 0x88B5 → bytesVal ((f.bytes.drop 14).take 2) = 6 → wordOfBytes ((f.bytes.drop 16).take 6) = w →
      fld w 47 46 = 0 → 0x1000000 ≤ fld w 31 0 → fld w 31 0 < 0x1800000 → CanReach s .host (fld w 31 0) → s.inband = [] →
      nextWith (exec (.mgmtRequestFrame f) s0) (fun t => ∃ b : InbandBuf,
        (t.lane 0).mgmt = (s.lane 0).mgmt ++ [b.frame] ∧ b.head = (f.bytes.drop 6).take 6 ++ f.bytes.take 6 ++ [0x88#8, 0xB5#8] ∧ b.tail = [] ∧
        b.parts.flatMap (fun r => r.words false) =
          [BitVec.ofNat 48 (fld w 39 32 * 2 ^ 32 + fld w 31 0), s.bob (fld w 31 0 - 0x1000000)] ∧
        t.reg (Reg.HL_RXFRM 0) = s.reg (Reg.HL_RXFRM 0) + 1 ∧ t.bobbin = s.bobbin)) ∧
    (ok → s.rb Reg.ID_MGMTPATH 0 = true → 64 ≤ f.bytes.length → fld f.w1 35 22 = f.bytes.length → fcsGood f.bytes = true →
      bytesVal ((f.bytes.drop 12).take 2) = 0x88B5 → bytesVal ((f.bytes.drop 14).take 2) = 0 → s.inband = [] →
      nextWith (exec (.mgmtRequestFrame f) s0) (fun t => ∃ b : InbandBuf, (t.lane 0).mgmt = (s.lane 0).mgmt ++ [b.frame] ∧
        b.head = (f.bytes.drop 6).take 6 ++ f.bytes.take 6 ++ [0x88#8, 0xB5#8] ∧ b.parts = [] ∧ b.tail = []))
  )

/-- R52, R53, R379, R381–R386, R402: a CSP1 frame whose command word came whole counts. One of a read of a bobbin word leaves its reply; behind four replies
it is void; while HL0 carries management it is ignored, and its command word still counts; a select timeout returns to one line. Where CSP1 is down or no
pin serves as its select, nothing happens. -/
def Obligations.Csp1Frames : Prop :=
  ∀ (f : CspFrame) (s : State),
    (s.csp1Up = false ∨ s.csp1Pin = false → exec (.csp1Frame f) s = .next s ∧ exec .csp1SelectTimeout s = .next s) ∧
    (s.csp1Up = true → s.csp1Pin = true →
    (s.rb Reg.CSP1_CFG 47 = false → s.rb Reg.ID_MGMTPATH 0 = false → ∀ cmd, f.words = [cmd] → fld cmd 47 46 = 0 →
      (s.csp1.replies = [] → 0x1000000 ≤ fld cmd 31 0 → fld cmd 31 0 < 0x1800000 → CanReach s .host (fld cmd 31 0) →
        nextWith (exec (.csp1Frame f) s) (fun t => t.reg Reg.CSP1_FRAMES = s.reg Reg.CSP1_FRAMES + 1 ∧ t.bobbin = s.bobbin ∧
          ∃ b, t.csp1.replies = [b] ∧ b.words false = [BitVec.ofNat 48 (fld cmd 39 32 * 2 ^ 32 + fld cmd 31 0), s.bob (fld cmd 31 0 - 0x1000000)])) ∧
      (4 ≤ s.csp1.replies.length → f.devWords = 0 → f.devCut = false → nextWith (exec (.csp1Frame f) s) (fun t =>
        t.reg Reg.CSP1_VOIDCNT = s.reg Reg.CSP1_VOIDCNT + 1 ∧ t.csp1.nextId = s.csp1.nextId ∧ t.bobbin = s.bobbin))) ∧
    (s.rb Reg.CSP1_CFG 47 = false → s.rb Reg.ID_MGMTPATH 0 = true → pathBurst f = false → s.csp1.replies = [] → nextWith (exec (.csp1Frame f) s) (fun t =>
      t.reg Reg.CSP1_IGNCNT = s.reg Reg.CSP1_IGNCNT + 1 ∧
      t.reg Reg.CSP1_FRAMES = s.reg Reg.CSP1_FRAMES + (if f.words = [] then 0 else 1) ∧ t.csp1.sent = [] ∧ t.bobbin = s.bobbin)) ∧
    (s.rb Reg.CSP1_CFG 47 = true → exec (.csp1Frame f) s = .refused .csp1MasterMode) ∧
    (s.rb Reg.CSP1_CFG 47 = false → nextWith (exec .csp1SelectTimeout s) (fun t =>
      t.rf Reg.CSP1_CFG 45 44 = 0 ∧ t.csp1.lines = none ∧ t.csp1.replies = s.csp1.replies)))

/-- R295, R298, R300, R301, R306: what the ordered sets received on a lane do. With a TXSLEEP notice the loss event of that moment is none. A credit set
leaves the GRANTED on which a frame that starts on the same tick is judged.
R295, R298, R303: the capability set and the time set that a lane sends between frames carry their CRC-8 and the values the rules give; a capability
set is one that a receiver accepts; with the eighth notice of a sleep the direction sleeps, and a receiver whose notices a quiet transmitter can no longer
give with it (the model's choice, log entry 161). -/
def Obligations.OrderedSets : Prop :=
  (
  ∀ (n : LaneNo) (bs : List Byte) (s : State), s.lst n ≠ 0 → s.rb (Reg.HL_STAT n) 38 = false →
    let ver := agreeVer (s.ownVers n) (setByte bs 2)
    let rate := min (s.ownRate n) (setByte bs 3 % 8)
    (setGood 7 bs = false → nextWith (exec (.capabilitySetReceive n bs) s) (fun t =>
      t.reg (Reg.HL_OSBAD n) = s.reg (Reg.HL_OSBAD n) + 1 ∧ (t.lane n).good = 0 ∧ t.reg (Reg.HL_STAT n) = s.reg (Reg.HL_STAT n))) ∧
    (setGood 7 bs = true → setByte bs 1 = 1 → s.lst n = 2 → gateBit (setByte bs 4) 0 = true → gateBit (setByte bs 4) 1 = false →
      (ver ≠ 0 → nextWith (exec (.capabilitySetReceive n bs) s) (fun t =>
        t.lst n = 2 ∧ t.rb (Reg.HL_STAT n) 42 = true ∧ t.reg (Reg.HL_PARTNER n) = BitVec.ofNat 48 (bytesVal ((bs.drop 1).take 5)) ∧
        (t.lane n).good = (s.lane n).good + 1 ∧
        (2 ≤ (s.lane n).good → (t.lane n).ver = ver ∧ (t.lane n).rate = rate ∧ t.rf (Reg.HL_STAT n) 35 32 = ver) ∧
        ((s.lane n).good < 2 → (s.lane n).ver = 0 → (t.lane n).ver = 0))) ∧
      (ver = 0 → nextWith (exec (.capabilitySetReceive n bs) s) (fun t => t.lst n = 6 ∧
        (gateBit (setByte bs 4) 2 = false → Queued s t (0x070 + n.val) 0x0C 0)))) ∧
    (setGood 7 bs = true → setByte bs 1 = 1 → gateBit (setByte bs 4) 2 = true → s.lst n = 5 → nextWith (exec (.capabilitySetReceive n bs) s) (fun t =>
      t.rb (Reg.HL_STAT n) 37 = true ∧ t.lst n = 5 ∧
      t.flt.queue = s.flt.queue.filter (fun e => !decide (e.src = 0x070 + n.val ∧ e.code = 0x0D ∧ e.ns = s.now)))) ∧
    (setGood 7 bs = true → 2 ≤ s.rf (Reg.HL_STAT n) 35 32 → setByte bs 1 % 8 ≠ setByte bs 4 % 8 →
      nextWith (exec (.creditSetReceive n bs) s) (fun t =>
        t.rf (Reg.HL_CRED n (setByte bs 1 % 8)) 47 32 = bytesVal ((bs.drop 1).take 2) ∧
        t.rf (Reg.HL_CRED n (setByte bs 4 % 8)) 47 32 = bytesVal ((bs.drop 4).take 2) ∧
        ((s.lane n).credWas = [] → (setByte bs 1 % 8, s.rf (Reg.HL_CRED n (setByte bs 1 % 8)) 47 32, s.tick) ∈ (t.lane n).credWas) ∧
        ∀ q, q < 8 → t.rf (Reg.HL_CRED n q) 31 0 = s.rf (Reg.HL_CRED n q) 31 0)) ∧
    ((setGood 7 bs = false ∨ s.rf (Reg.HL_STAT n) 35 32 < 2) → exec (.creditSetReceive n bs) s = .next (s.bump (Reg.HL_OSBAD n)))
  ) ∧ (
  ∀ (n : LaneNo) (s : State), s.laneSends n = true → s.cur (96 + n.val) = none →
    let x := s.lane n
    nextWith (exec (.capabilitySetSend n) s) (fun t =>
      let o := (t.lane n).setOut
      setGood 7 o = true ∧ setByte o 1 = 1 ∧ setByte o 2 = s.ownVers n % 256 ∧ setByte o 3 = (s.rf (Reg.HL_STAT n) 30 28 * 16 + s.ownRate n) % 256 ∧
      gateBit (setByte o 4) 0 = s.aligned n ∧ gateBit (setByte o 4) 1 = decide (x.ver ≠ 0) ∧ (t.lane n).code = lineCode (setSyms false o) ∧
      (t.lane n).goSent = (if x.ver ≠ 0 then x.goSent + 1 else 0) ∧ (t.lane n).txSets = x.txSets - 1 ∧
      (t.lane n).rxSets = (if x.txSets = 1 then 0 else x.rxSets - 1) ∧ (x.txSets ≠ 1 → x.rxSets ≠ 1 → t.regs = s.regs) ∧
      t.rb (Reg.HL_STAT n) 39 = decide (x.txSets = 1) ∧
      t.rb (Reg.HL_STAT n) 38 = (s.rb (Reg.HL_STAT n) 38 || decide (x.rxSets = 1 ∨ (x.rxSets ≠ 0 ∧ x.txSets = 1)))) ∧
    (s.lst n = 5 → s.rf (Reg.HL_STAT n) 35 32 = 3 → s.rb (Reg.HL_CFG n) 45 = true →
      nextWith (exec (.timeOrderedSetSend n) s) (fun t =>
        let o := (t.lane n).setOut
        setGood 15 o = true ∧ setByte o 1 = 2 ∧ bytesVal ((o.drop 1).take 6) = timeSec s.time ∧ bytesVal ((o.drop 7).take 6) = s.time.toNat % 2 ^ 48 ∧
        (t.lane n).code = lineCode (setSyms false o) ∧ t.regs = s.regs))
  )

/-- R296–R305: a lane's bring-up and its losses, state by state: 1 SEARCH, 2 EXCHANGE, 3 STEP, 4 REALIGN, 5 RUN, 7 LOST. A receiver aligns where its word
boundary stands right, or where the supervisor's search slips to it; RUN needs the transmitter's clock; an aborted frame ends with K30.7 behind the bytes
that had left (how many is free, log entry 67). -/
def Obligations.LaneBringUpAndLoss : Prop :=
  ∀ (n : LaneNo) (s : State),
    let x := s.lane n
    let st := Reg.HL_STAT n
    let goes := fun (i : Instr) (v : Nat) => nextWith (exec i s) (fun t => t.lst n = v ∧ (∀ m : LaneNo, m ≠ n → t.reg (Reg.HL_STAT m) = s.reg (Reg.HL_STAT m)) ∧ t.bobbin = s.bobbin)
    (s.rb st 38 = false → (x.off = 0 ∨ s.supSearch n = true) →
      (s.lst n = 1 → goes (.hlAlign n) 2 ∧ nextWith (exec (.hlAlign n) s) (fun t => t.aligned n = true ∧ (t.lane n).ver = 0)) ∧
      (s.lst n = 7 → s.rb st 41 = false → s.rb st 40 = false → x.clkWait = false → s.rb Reg.CLK_ACTIVE 8 = true → goes (.hlAlign n) 5)) ∧
    (x.off ≠ 0 → s.supSearch n = false → exec (.hlAlign n) s = .next s) ∧
    (s.aligned n = true → (s.lst n = 5 → goes (.hlAlignLoss n) 7) ∧ (s.lst n = 2 → goes (.hlAlignLoss n) 1) ∧
      nextWith (exec (.hlAlignLoss n) s) (fun t => t.aligned n = false ∧ t.reg (Reg.HL_CODEERR n) = s.reg (Reg.HL_CODEERR n) + 4)) ∧
    (s.lst n = 2 → x.ver ≠ 0 → 16 ≤ x.goSent → x.goSeen = true →
      (x.rate = 0 → goes (.hlStep n) 4) ∧ (x.rate ≠ 0 → x.rate < 8 → goes (.hlStep n) 3 ∧
        nextWith (exec (.hlStep n) s) (fun t => t.rf st 30 28 = x.rate ∧ t.aligned n = false))) ∧
    (s.lst n = 3 → goes (.hlRxLock n) 4 ∧ nextWith (exec (.hlRxLock n) s) (fun t => t.aligned n = false ∧ t.rb st 41 = false ∧ t.rb st 40 = false)) ∧
    (s.lst n = 4 → s.aligned n = true → s.rb st 42 = true → s.rf (Reg.HL_PARTNER n) 31 28 = s.rf st 30 28 → x.clkWait = false → s.rb Reg.CLK_ACTIVE 8 = true →
      goes (.hlRun n) 5 ∧
      nextWith (exec (.hlRun n) s) (fun t => ∀ q, q < 8 → t.reg (Reg.HL_CRED n q) = 0)) ∧
    (s.lst n = 5 → s.rxSleeps n = false →
      (s.rb st 41 = false → goes (.hlLos n) 7 ∧ nextWith (exec (.hlLos n) s) (fun t => t.rb st 41 = true ∧ t.reg (Reg.HL_LOSCNT n) = s.reg (Reg.HL_LOSCNT n) + 1 ∧
        Queued s t (0x070 + n.val) 0x0D 1)) ∧
      (s.rb st 40 = false → goes (.hlLol n) 7 ∧ nextWith (exec (.hlLol n) s) (fun t => t.rb st 40 = true ∧ t.reg (Reg.HL_LOLCNT n) = s.reg (Reg.HL_LOLCNT n) + 1 ∧
        Queued s t (0x070 + n.val) 0x0D 2))) ∧
    (s.lst n = 7 → x.clkWait = false → goes (.hlRebuExpire n) 1 ∧
      nextWith (exec (.hlRebuExpire n) s) (fun t => t.reg (Reg.HL_BRINGUP n) = s.reg (Reg.HL_BRINGUP n) + 1 ∧ t.rf st 30 28 = 0)) ∧
    (∀ c, s.cur (96 + n.val) = some c → nextWith (exec (.hlTxAbort n) s) (fun t =>
      t.cur (96 + n.val) = none ∧ t.reg (Reg.HL_TXABORT n) = s.reg (Reg.HL_TXABORT n) + 1 ∧ t.lst n = s.lst n ∧
      ∀ f : SentFrame, s.lastSent (96 + n.val) = some f → ∃ k, k ≤ f.bytes.length ∧
        (t.lane n).code = lineCode (frameSyms f.w0 f.w1 (f.bytes.take k) false)))

/-- R314–R321: the end of the post-trigger time freezes the hank, which begins with its format, its HANKID and its cause; a checkpoint whose copy completes
joins its channel's latest four; a replay ends with the differences of what it has applied and run; the first trigger message with a HANKID triggers a recorded port's distaff, a repeat is ignored. What a
checkpoint holds beside its place is the model's choice (log entry 154). -/
def Obligations.DistaffEvents : Prop :=
  ∀ s : State,
    (s.dstState = 2 → s.postOver = true → nextWith (exec (.dstPostDone ()) s) (fun t =>
      t.dstState = 3 ∧ (s.dst.taking = [] → t.dst.ckpts = s.dst.ckpts) ∧ t.dst.taking = [] ∧ t.reg Reg.DST_HANKLEN = BitVec.ofNat 48 t.dst.hank.length ∧ t.rf Reg.DST_STAT 39 36 = s.rf Reg.DST_STAT 39 36 ∧
      t.dst.hank.getD 0 0 = 0xD15700010000#48 ∧ t.dst.hank.getD 1 0 = s.reg Reg.DST_HANKID ∧
      t.dst.hank.getD 6 0 = BitVec.ofNat 48 (s.rf Reg.DST_STAT 39 36) ∧
      (∀ c : Fin 4, s.rb (Reg.DST_CH c) 47 = true → t.dst.stopped.getLsbD c = true) ∧ t.bobbin = s.bobbin)) ∧
    (s.dstState = 2 → s.postOver = false → exec (.dstPostDone ()) s = .next s) ∧
    (∀ c : Fin 4, s.dst.taking.find? (fun k => decide (k.ch = c.val)) = none → exec (.dstCheckpoint c ()) s = .next s) ∧
    (∀ (c : Fin 4) (k : Ckp), s.dst.taking.find? (fun x => decide (x.ch = c.val)) = some k →
      (s.dst.ckpts.filter (fun x => decide (x.ch = c.val))).length ≤ 4 →
      nextWith (exec (.dstCheckpoint c ()) s) (fun t =>
        let mine := fun (l : List Ckp) => l.filter (fun x => decide (x.ch = c.val))
        mine t.dst.ckpts = (mine s.dst.ckpts).drop ((mine s.dst.ckpts).length + 1 - 4) ++ [k] ∧ t.dst.taking = s.dst.taking.erase k ∧
        (∀ d : Fin 4, d ≠ c → t.dst.ckpts.filter (fun x => decide (x.ch = d.val)) = s.dst.ckpts.filter (fun x => decide (x.ch = d.val))) ∧ t.regs = s.regs)) ∧
    (∀ g : LgNo,
      ((s.lg g).replay.st = 1 →
        let u := s.repEnd g
        let n := (u.lg g).replay.diffs
        nextWith (exec (.replayDone g () () ()) s) (fun t =>
          t.rf (Reg.LG_REPSTAT g) 47 45 = 2 ∧ t.rb (Reg.LG_REPSTAT g) 44 = (decide (n = 0) && s.repAllRaw g && !bitOf (s.repWord g 22) 0) ∧
          (∃ k, k ≤ n ∧ t.reg (Reg.LG_REPMIS g) = s.reg (Reg.LG_REPMIS g) + BitVec.ofNat 48 k ∧
            (k = 0 → t.reg (Reg.LG_REPFIRST g) = s.reg (Reg.LG_REPFIRST g))) ∧
          t.ports = s.ports ∧ t.dst = s.dst ∧ t.flt = s.flt)) ∧
      ((s.lg g).replay.st ≠ 1 → exec (.replayDone g () () ()) s = .next s)) ∧
    (∀ (p : PortNo) (w : Word), s.pst p = 3 → s.rb (Reg.PORT_STATE p) 19 = true → fld w 47 44 = 0xE →
      ((s.port p).d3Seen = some (fld w 31 16) → exec (.d3TriggerReceive p w) s = .next s) ∧
      ((s.port p).d3Seen ≠ some (fld w 31 16) → s.recorded p = true → s.dstState = 1 → s.rb Reg.DST_TRIGCFG 45 = true →
        nextWith (exec (.d3TriggerReceive p w) s) (fun t => t.dstState = 2 ∧ t.rf Reg.DST_STAT 39 36 = 6 ∧ t.reg Reg.DST_TRIGCNT = s.reg Reg.DST_TRIGCNT + 1 ∧
          (t.port p).d3Seen = some (fld w 31 16))))

/-! ## Clocks and power (R323–R354) -/

/-- R327, R331–R334: a window is good within 2,000 tenths of a ppm of its reference, a crystal's against FOSC within 4 %, and XTAL0's against a ready XTAL1
within 2,000 again. A source becomes READY with its third good window in a row; domains given a loop that is still blocked move as it unblocks; a ready source that fails a window, loses lock or shows no edge loses READY
and ACK, counts, and its domains leave it; the asynchronous logic puts what a stopped clock feeds into its safe state.
R334, R335, R413–R416: the supervisor's return of the selected domains, a crossing queue that runs again, and the pulse per second at the time unit. -/
def Obligations.ClockSourcesAndReturn : Prop :=
  (
  ∀ (s : State),
    let failed := fun (k : Nat) (o : Out) => nextWith o (fun t =>
      t.ready k = false ∧ t.rb Reg.CLK_ACK k = false ∧ t.rb Reg.CLK_FAIL k = true ∧ t.reg (Reg.CLK_FAILCNT k) = s.reg (Reg.CLK_FAILCNT k) + 1 ∧
      (∀ b ∈ srcFields, srcOfField b = k → t.rb Reg.CLK_ACTIVE b = false) ∧ (t.src k).good = 0)
    (∀ (k : Fin 18) (dev : BitVec 32) (ppm : BitVec 16),
      let good := if k = 0 ∧ s.ready 1 = true then ppm.toInt.natAbs ≤ 2000 else dev.toInt.natAbs ≤ (if k.val < 2 then 400000 else 2000)
      (k = 17 → s.loopRefReady 0 = true) → (isLoop k = true → s.loopEn (k.val - 2) = true ∧ (s.src k).locked = true ∧ s.loopRefReady (k.val - 2) = true) →
      (good → s.ready k = false → (s.src k).good < 2 → nextWith (exec (.clkMonitorWindow k dev ppm) s) (fun t =>
        (t.src k).good = (s.src k).good + 1 ∧ t.ready k = false ∧ t.spns = s.spns)) ∧
      (good → s.ready k = false → (s.src k).good = 2 → nextWith (exec (.clkMonitorWindow k dev ppm) s) (fun t => t.ready k = true ∧ t.rb Reg.CLK_FAIL k = false)) ∧
      (¬good → s.ready k = true → failed k (exec (.clkMonitorWindow k dev ppm) s))) ∧
    (∀ k : Fin 15, s.ready (loopSrc k) = true → failed (loopSrc k) (exec (.pllLockDrop k) s)) ∧
    (∀ k : Fin 18, s.ready k = true → failed k (exec (.clkEdgeTimeout k) s)) ∧
    (∀ k : Fin 15, s.loopEn k = true → s.loopRefReady k = true → (s.src (loopSrc k)).locked = false →
      nextWith (exec (.pllLock k) s) (fun t => (t.src (loopSrc k)).locked = true ∧ (t.src (loopSrc k)).good = 0 ∧ t.regs = s.regs)) ∧
    (∀ k : Fin 15, (s.src (loopSrc k)).locked = true → s.boot.coreDue = false → s.boot.hlDue = false →
      nextWith (exec (.pllUnblock k) s) (fun t => (t.src (loopSrc k)).blocked = false ∧ (t.src (loopSrc k)).locked = true ∧
        t.reg Reg.CLK_ACTIVE = s.reg Reg.CLK_ACTIVE ||| (s.src (loopSrc k)).due ∧ ∀ a, a ≠ Reg.CLK_ACTIVE → t.reg a = s.reg a)) ∧
    (∀ g : LgNo, nextWith (exec (.asyncSafeState (.lgH g)) s) (fun t => t.regs = s.regs ∧
      ∀ p : PortNo, t.port p = if p.val / 16 = g.val then { s.port p with quietH := true } else s.port p)) ∧
    nextWith (exec (.asyncSafeState .root) s) (fun t => t.faultN = true ∧ t.regs = s.regs) ∧
    (∀ n : LaneNo, s.laneOn n = true → s.lst n ≠ 0 → nextWith (exec (.asyncSafeState .hl) s) (fun t =>
      t.lst n = 7 ∧ t.rb (Reg.HL_STAT n) 39 = true ∧ (t.lane n).clkWait = true ∧ t.cur (96 + n) = none))
  ) ∧ (
  ∀ s : State,
    (s.rb Reg.CLK_CFG 0 = true → 2 ≤ s.boot.phase → s.rootUp = true → nextWith (exec .clkAutoreturn s) (fun t =>
      t.reg Reg.CLK_SRCSEL = s.reg Reg.CLK_SRCSEL ∧ t.reg Reg.CLK_ACK = s.reg Reg.CLK_ACK ||| s.reg Reg.CLK_READY ∧
      ∀ b ∈ srcFields, t.rb Reg.CLK_ACTIVE b = (s.rb Reg.CLK_ACTIVE b || (s.rb Reg.CLK_SRCSEL b && s.ready (srcOfField b) &&
        !(s.src (srcOfField b)).blocked)))) ∧
    (∀ d : Fin 50, (s.dom d).st = 0 → (s.dom d).chg = 0 → (s.dom d).isolated = false → nextWith (exec (.xqueueResume d) s) (fun t => (t.dom d) = { s.dom d with flushing := false } ∧ t.regs = s.regs)) ∧
    (s.rootUp = true → nextWith (exec .ppsInEdge s) (fun t =>
      t.reg Reg.TIME_PPSCAP = s.time.extractLsb' 0 48 ∧ t.reg (Reg.TIME_PPSCAP + 1) = s.time.extractLsb' 48 48 ∧
      t.reg Reg.TIME_PPSCNT = s.reg Reg.TIME_PPSCNT + 1 ∧ t.time = s.time)) ∧
    (s.rootUp = true → s.rb Reg.TIME_PPSCFG 47 = true → nextWith (exec .ppsOutPulse s) (fun t => t.pins = { s.pins with pps := true } ∧ t.regs = s.regs)) ∧
    nextWith (exec .ppsOutEnd s) (fun t => t.pins = { s.pins with pps := false } ∧ t.regs = s.regs)
  )

/-- R338–R343: the ends of a domain's transitions: entry, after a delayed handshake or not, wake, and a wake that a request waited for too long. -/
def Obligations.DomainTransitions : Prop :=
  ∀ (d : Fin 50) (s : State),
    let x := s.dom d
    (x.chg = 1 ∨ x.chg = 2 → x.delayed = true → x.st < 3 → x.next = none ∨ x.next = some x.st →
      nextWith (exec (.handshakeDelayExpire d true) s) (fun t =>
        (t.dom d).chg = 0 ∧ (t.dom d).st = x.st ∧ (t.dom d).next = none ∧ t.rf (Reg.PWR_DOMSTAT d) 43 40 = 5 ∧ t.rf (Reg.PWR_DOMCTL d) 1 0 = x.st ∧
        t.reg Reg.PWR_REFUSECNT = s.reg Reg.PWR_REFUSECNT + 1) ∧
      (s.entryReason d true (decide (x.chg = 1) && s.retMem d 0) = none → nextWith (exec (.handshakeDelayExpire d false) s) (fun t =>
        t.dom d = { x with delayed := false } ∧ t.regs = s.regs))) ∧
    (x.chg = 1 ∨ x.chg = 2 → x.delayed = false → x.next = none → nextWith (exec (.domainEntryDone d) s) (fun t =>
      (t.dom d).st = x.chg ∧ (t.dom d).chg = 0 ∧ (t.dom d).flushing = true ∧ t.rf (Reg.PWR_DOMCTL d) 1 0 = x.chg ∧
      (∀ e : Fin 50, e ≠ d → t.dom e = s.dom e) ∧ t.fuses = s.fuses ∧ t.flash = s.flash ∧
      (∀ k, 36 ≤ d.val → d.val < 44 → k / 0x100000 ≠ d.val - 36 → t.bob k = s.bob k) ∧
      (36 ≤ d.val → d.val < 44 → x.chg = 1 → s.retMem d 0 = true → t.bobbin = s.bobbin) ∧
      (d.val < 36 ∨ 44 ≤ d.val → t.bobbin = s.bobbin))) ∧
    (x.chg = 3 → x.next = none → (∀ l, lgOfDom d = some l → (s.dom l).st = 0 ∧ (s.dom l).chg = 0) → s.waitQ = [] → s.flt.late = [] →
      nextWith (exec (.domainWakeDone d) s) (fun t =>
        (t.dom d).st = 0 ∧ (t.dom d).chg = 0 ∧ (t.dom d).flushing = false ∧ t.rf (Reg.PWR_DOMCTL d) 1 0 = 0 ∧ t.bobbin = s.bobbin)) ∧
    (∀ (r : Requester) (h : Waiting), s.waitQ = [h] → h.req = reqNo r → h.sink = .bare → domainOf h.addr = some d.val → s.gate d = .stall →
      nextWith (exec (.requestAbsentTimeout r) s) (fun t =>
        t.waitQ = [] ∧ t.getReply (reqNo r) = { status := 2, addr := h.addr, data := 0 } ∧ t.dom d = x ∧ Queued s t 0x0ED 0x2E d))

/-- R344–R351: VDD_CORE's loss starts park entry; AON goes on through low-power mode, wakes, and returns; its own faults are owed until ROOT runs.
R352–R354: the reserve: ROOT goes on on FOSC with the commit and every domain outside RET is lost; the gauge and VOK end what they must. When the commit
stops, the sequencer starts with VDD_CORE present again, and park entry without it. -/
def Obligations.ParkRailsAndHoldUp : Prop :=
  (
  ∀ s : State,
    (let parks := fun (i : Instr) => nextWith (exec i s) (fun t =>
        t.pwr.core = false ∧ t.pwr.park = 1 ∧ t.rootUp = false ∧ t.flash = s.flash ∧ t.fuses.count = s.fuses.count ∧ t.pending = s.pending ∧
        t.reg Reg.PWR_WAKECFG = s.reg Reg.PWR_WAKECFG ∧ t.pwr.owed = s.pwr.owed ++ [(0xE2, 0x21, 0)] ∧
        ∀ d : Fin 50, s.inRet d = true → (t.dom d).st = 1)
     s.pwr.core = true → s.rb Reg.PWR_HOLDSTAT 46 = false → parks .vddCoreLoss ∧ parks (.railUndervoltage .core)) ∧
    (s.pwr.park = 1 → nextWith (exec .parkEntryDone s) (fun t => t.pwr.park = 2 ∧ t.pwr.pwrReq = false ∧ t.rb Reg.PWR_AONSTAT 47 = true)) ∧
    (s.rb Reg.PWR_WAKECFG 16 = true → exec .wakeInAssert s = .next { s with pwr := { s.pwr with wakeIn := true } }) ∧
    (s.rb Reg.PWR_WAKECFG 16 = false → exec .wakeInAssert s = .next s) ∧
    (∀ src : WakeSource, s.wakeSampled = false → exec (.parkWake src) s = .next s) ∧
    (∀ src : WakeSource, s.wakeSampled = true →
      let on := match src with
        | .line p => (s.port p).detArmed
        | .wakeIn => s.rb Reg.PWR_WAKECFG 16 && s.pwr.wakeIn
      (on = true → nextWith (exec (.parkWake src) s) (fun t => t.pwr.park = 3 ∧ t.pwr.pwrReq = true ∧ t.rb Reg.PWR_AONSTAT 47 = false ∧
        t.rf Reg.PWR_WAKELAST 47 44 = (match src with
          | .line _ => 1
          | .wakeIn => 2) ∧ ∀ p, src = .line p → t.rf Reg.PWR_WAKELAST 39 32 = p.val)) ∧
      (on = false → exec (.parkWake src) s = .next s)) ∧
    (∀ b : BootInputs, s.rb Reg.PWR_HOLDSTAT 45 = false → s.pwr.park ≠ 0 → nextWith (exec (.vddCoreReturn b) s) (fun t =>
      t.pwr.core = true ∧ t.pwr.park = 0 ∧ t.boot.phase = 1 ∧ t.rootUp = true ∧ t.flash = s.flash ∧ t.fuses.count = s.fuses.count ∧ t.pwr.owed = [])) ∧
    (∀ b : BootInputs, s.rb Reg.PWR_HOLDSTAT 45 = true → exec (.vddCoreReturn b) s = .next { s with pwr := { s.pwr with core := true, bootIn := some b } }) ∧
    (s.rootUp = true → nextWith (exec (.railUndervoltage .sram) s) (fun t => Queued s t 0xE3 0x22 0) ∧
      (s.rb Reg.PWR_HOLDSTAT 45 = false → nextWith (exec (.railUndervoltage .ret) s) (fun t => Queued s t 0xE4 0x23 0)) ∧
      (s.rb Reg.PWR_HOLDSTAT 45 = true → nextWith (exec (.railUndervoltage .ret) s) (fun t => t.pwr.ret = false ∧
        ∀ d : Fin 50, s.inRet d = true → (t.dom d).st = 2)) ∧
      nextWith (exec (.railUndervoltage .lineAnalog) s) (fun t => Queued s t 0xE5 0x24 0) ∧
      nextWith (exec (.railUndervoltage .hostAnalog) s) (fun t => Queued s t 0xE6 0x25 0) ∧
      (s.rb Reg.PWR_HOLDSTAT 46 = false → nextWith (exec (.railUndervoltage .io) s) (fun t => Queued s t 0xE7 0x26 0))) ∧
    (s.rb Reg.PWR_AONSTAT 47 = true → s.rootUp = false → nextWith (exec .aonBrownout s) (fun t =>
      t.rb Reg.PWR_AONSTAT 47 = false ∧ t.rb Reg.PWR_AONSTAT 46 = true ∧ t.rf Reg.PWR_AONSTAT 7 0 = min 255 (s.rf Reg.PWR_AONSTAT 7 0 + 1) ∧
      t.pwr.owed = s.pwr.owed ++ [(0xE0, 0x28, min 255 (s.rf Reg.PWR_AONSTAT 7 0 + 1))])) ∧
    nextWith (exec .aonRestart s) (fun t =>
      t.reg Reg.PWR_WAKECFG = RegMap.resetWord Reg.PWR_WAKECFG ∧ t.rf Reg.PWR_WAKELAST 47 44 = 3 ∧ t.reg Reg.PWR_PARKTIME = s.aonTick ∧
      t.pwr.pwrReq = true ∧ t.rb Reg.PWR_AONSTAT 47 = false ∧ (s.pwr.park ≠ 0 → t.pwr.park = 3) ∧
      (s.rootUp = false → t.pwr.owed = s.pwr.owed ++ [(0xE1, 0x29, 0)]) ∧ (s.rootUp = true → Queued s t 0xE1 0x29 0) ∧
      ∀ p : PortNo, (t.port p).detArmed = false)
  ) ∧ (
  ∀ s : State,
    (s.rb Reg.PWR_HOLDSTAT 46 = true → s.rb Reg.PWR_HOLDSTAT 45 = false → nextWith (exec .holdupEngage s) (fun t =>
      t.rb Reg.PWR_HOLDSTAT 45 = true ∧ t.rb Reg.CLK_ACTIVE 0 = false ∧ t.rb Reg.CLK_ACTIVE 10 = false ∧ t.boot = s.boot ∧ t.flash = s.flash ∧
      ∀ d : Fin 50, (s.inRet d = true → t.dom d = s.dom d) ∧ (s.inRet d = false → (t.dom d).st = 2 ∧ (t.dom d).chg = 0))) ∧
    (s.boot.commit = none → nextWith (exec .holdVokFall s) (fun t => t.rb Reg.PWR_HOLDSTAT 47 = false ∧ t.boot = s.boot)) ∧
    (∀ c, s.boot.commit = some c → c.step < 6 → s.rb Reg.PWR_HOLDSTAT 45 = false → nextWith (exec .holdVokFall s) (fun t =>
      t.rb Reg.PWR_HOLDSTAT 47 = false ∧ t.boot.commit = none ∧ t.rb Reg.PWR_HOLDSTAT 46 = false ∧
      t.rf Reg.CSP0_CMTSTAT 47 44 = 5 ∧ t.rf Reg.CSP0_CMTSTAT 43 40 = c.step ∧ t.flash = s.flash ∧
      (s.gauge = 0 → Queued s t 0xE9 0x2B c.step))) ∧
    (∀ c, s.boot.commit = some c → s.rb Reg.PWR_HOLDSTAT 45 = true → s.pwr.io = true →
      (∀ b, s.pwr.core = true → s.pwr.bootIn = some b → nextWith (exec .holdVokFall s) (fun t =>
        t.boot.phase = 1 ∧ t.boot.commit = none ∧ t.pwr.core = true ∧ t.rf Reg.PWR_WAKELAST 47 44 = 0 ∧
        t.rf Reg.PWR_HOLDLAST 47 44 = 2 ∧ t.flash = s.flash)) ∧
      (s.pwr.core = false → nextWith (exec .holdVokFall s) (fun t =>
        t.pwr.park = 1 ∧ t.boot.commit = none ∧ t.rootUp = false ∧ t.rf Reg.PWR_HOLDLAST 47 44 = 2 ∧ t.flash = s.flash))) ∧
    (∀ v : BitVec 16,
      (s.boot.commit = none ∨ s.rb Reg.PWR_HOLDSTAT 47 = false → nextWith (exec (.holdGaugeEmpty v) s) (fun t =>
        t.reg Reg.PWR_HOLDGAUGE = 0 ∧ t.pwr.holdAt = s.now ∧ t.boot = s.boot ∧ t.flt = s.flt)) ∧
      (∀ c, s.boot.commit = some c → c.step < 6 → s.rb Reg.PWR_HOLDSTAT 47 = true → nextWith (exec (.holdGaugeEmpty v) s) (fun t =>
        t.reg Reg.PWR_HOLDGAUGE = BitVec.ofNat 48 (s.gaugeFrom v.toNat) ∧ t.reg Reg.PWR_HOLDDIS = s.reg Reg.PWR_HOLDDIS + 1 ∧ t.boot = s.boot ∧
        (s.rb Reg.PWR_HOLDSTAT 45 = false → Queued s t 0xE8 0x2A c.step))))
  )

/-! ## Faults, self-test, start-up, flash (R18, R242, R356–R407) -/

/-- R361: of the events that wait, none is served after one that it comes before: by severity in force, then by arrival. -/
def Obligations.FaultServiceOrder : Prop :=
  ∀ (s : State), (s.nextEvent = none ↔ s.waitingEvents = []) ∧
    ∀ e, s.nextEvent = some e → e ∈ s.waitingEvents ∧ ∀ x ∈ s.waitingEvents, s.before x e = false

/-- R359–R367: service of an event: a suppressed code counts only, and so does a repeat within QUIET; else the record, the counters and the source's state; a port isolated goes to FAULT.
A quiet source returns, or latches once it has recovered too often; FAULT_N after its width follows HOLD. -/
def Obligations.FaultService : Prop :=
  ∀ s : State,
    (∀ e : Ev, s.rootUp = true → s.flt.queue = [e] → s.flt.latch = [] → s.bist.cur = none →
      (s.codeEn e.code = false → nextWith (exec .faultEvent s) (fun t =>
        t.reg Reg.FLT_SUPPCNT = s.reg Reg.FLT_SUPPCNT + 1 ∧ t.flt.hist = s.flt.hist ∧ t.flt.queue = [] ∧ t.ports = s.ports)) ∧
      (s.codeEn e.code = true → s.isRepeat e = true → nextWith (exec .faultEvent s) (fun t =>
        t.reg Reg.FLT_REPEATCNT = s.reg Reg.FLT_REPEATCNT + 1 ∧ t.reg Reg.FLT_EVCNT = s.reg Reg.FLT_EVCNT ∧ t.flt.hist = s.flt.hist ∧ t.flt.queue = [] ∧
        t.ports = s.ports)) ∧
      (s.codeEn e.code = true → s.fsrc e.src = {} → s.flt.hist.length < 16 →
        let sev := if 2 ≤ s.codeSev e.code ∧ s.downgraded e.src = true then 1 else s.codeSev e.code
        nextWith (exec .faultEvent s) (fun t =>
          t.reg Reg.FLT_EVCNT = s.reg Reg.FLT_EVCNT + 1 ∧ t.flt.hist = s.flt.hist ++ [evRec e sev] ∧
          (t.fsrc e.src).seen = [(e.code, e.ns)] ∧ (t.fsrc e.src).st = (if sev = 0 then 0 else 1) ∧ (t.fsrc e.src).sev = sev ∧
          t.reg Reg.FLT_EVSEQ = (if sev = 0 then s.reg Reg.FLT_EVSEQ else s.reg Reg.FLT_EVSEQ + 1) ∧
          (2 ≤ sev → t.flt.pulse = true) ∧ (sev = 0 → t.ports = s.ports) ∧
          (∀ p : PortNo, e.src = p.val → 2 ≤ sev → (s.dom (quadOf p)).st ≠ 2 → s.pst p ≠ 0 → t.pst p = 7)))) ∧
    (∀ src : BitVec 12,
      let k := src.toNat
      let x := s.fsrc k
      (x.st = 1 → s.rf Reg.FLT_RECCFG 33 28 ≤ (s.recWin k).length → nextWith (exec (.faultQuietExpire src) s) (fun t =>
        t.fsrc k = { x with st := 2, seen := [] } ∧ t.regs = s.regs ∧ t.ports = s.ports)) ∧
      (x.st = 1 → (s.recWin k).length < s.rf Reg.FLT_RECCFG 33 28 → nextWith (exec (.faultQuietExpire src) s) (fun t =>
        t.fsrc k = { recs := s.now :: s.recKept k, total := min 65535 (x.total + 1) } ∧ (∀ p : PortNo, k = p.val → s.pst p = 7 → t.pst p = 1))) ∧
      (x.st ≠ 1 → nextWith (exec (.faultQuietExpire src) s) (fun t => t.fsrc k = { x with seen := [] } ∧ t.regs = s.regs))) ∧
    (s.flt.pulse = true → nextWith (exec .faultNWidthExpire s) (fun t => t.flt = { s.flt with pulse := false, hold := s.rb Reg.FLT_PIN 47 } ∧ t.regs = s.regs)) ∧
    (s.rootUp = true → s.badpar = [] → nextWith (exec .scrubPass s) (fun t => t.reg Reg.ID_SCRUBPASS = s.reg Reg.ID_SCRUBPASS + 1 ∧ t.flt = s.flt)) ∧
    (∀ a : Nat, s.rootUp = true → s.badpar = [(a, true)] → s.scrubs a = true → nextWith (exec .scrubPass s) (fun t =>
      t.reg Reg.ID_PARLAST = BitVec.ofNat 48 (2 ^ 47 + a % 2 ^ 32) ∧ Queued s t 0x0F0 0x30 (a % 2 ^ 28)))

/-- R373–R375: the test of the next unit waits or is skipped; it ends with its result, a failing unit is withdrawn; a test whose unit goes off is ABORTED. -/
def Obligations.SelfTests : Prop :=
  ∀ s : State,
    (s.rb Reg.BIST_CFG 47 = true → 2 ≤ s.boot.phase → s.rootUp = true → s.bist.cur = none → s.testTaken s.bist.cls s.bist.unit = true →
      let c := s.bist.cls
      let u := s.bist.unit
      (s.skipReason c u ≠ 0 → nextWith (exec .bistInterval s) (fun t =>
        t.reg Reg.BIST_SKIPCNT = s.reg Reg.BIST_SKIPCNT + 1 ∧ t.rf Reg.BIST_STAT 23 20 = s.skipReason c u ∧ t.bist.cur = none ∧
        (t.bist.cls, t.bist.unit) = ((nextTestUnit c u).1, (nextTestUnit c u).2.1))) ∧
      (s.skipReason c u = 0 → nextWith (exec .bistInterval s) (fun t =>
        (∃ x, t.bist.cur = some x ∧ x.cls = c ∧ x.unit = u ∧ x.ext = false) ∧ t.reg Reg.BIST_SKIPCNT = s.reg Reg.BIST_SKIPCNT ∧
        (t.bist.cls, t.bist.unit) = ((nextTestUnit c u).1, (nextTestUnit c u).2.1)))) ∧
    (∀ x, s.bist.cur = some x →
      (x.waiting = true → nextWith (exec .bistConditionTimeout s) (fun t =>
        t.bist.cur = none ∧ t.reg Reg.BIST_SKIPCNT = s.reg Reg.BIST_SKIPCNT + 1 ∧ t.rf Reg.BIST_STAT 23 20 = 2)) ∧
      (x.waiting = false → x.ext = false → 1 ≤ x.cls → x.cls ≤ 6 → x.unit < testUnits x.cls →
        nextWith (exec (.bistDone none) s) (fun t =>
          t.bist.cur = none ∧ t.reg Reg.BIST_TESTCNT = s.reg Reg.BIST_TESTCNT + 1 ∧ t.reg Reg.BIST_FAILCNT = s.reg Reg.BIST_FAILCNT ∧
          t.rf Reg.BIST_LAST 47 46 = 0 ∧ t.rf Reg.BIST_LAST 43 40 = x.cls ∧ t.rf Reg.BIST_LAST 39 24 = x.unit) ∧
        (∀ w : BitVec 24, nextWith (exec (.bistDone (some w)) s) (fun t =>
          t.bist.cur = none ∧ t.reg Reg.BIST_TESTCNT = s.reg Reg.BIST_TESTCNT + 1 ∧ t.reg Reg.BIST_FAILCNT = s.reg Reg.BIST_FAILCNT + 1 ∧
          t.rf Reg.BIST_LAST 47 46 = 1 ∧ t.rf Reg.BIST_LAST 23 0 = w.toNat ∧ t.rb (failBit x.cls x.unit).1 (failBit x.cls x.unit).2 = true ∧
          (x.cls = 1 → (t.spn x.unit).withdrawn = true ∧ (t.spn x.unit).run = .halted))) ∧
        ((s.dom (testDomain x.cls x.unit)).st = 2 → nextWith (exec .bistAbort s) (fun t =>
          t.bist.cur = none ∧ t.rf Reg.BIST_LAST 47 46 = 2 ∧ t.reg Reg.BIST_TESTCNT = s.reg Reg.BIST_TESTCNT))))

/-- R18, R49, R242, R330, R398: the release of RESET_N starts the boot sequencer afresh and keeps fuses and flash; the winning slot's supervisor starts on the
lowest spindle that passed, once its cluster is on; it moves when its spindle fails.
R394, R395: the records of the configuration section: the end, a wait, a write, a write of LC_STATE, which fails; then a rollback fuse where the image asks. -/
def Obligations.StartUpAndConfiguration : Prop :=
  (
  ∀ s : State,
    (∀ b : BootInputs, nextWith (exec (.powerOn b) s) (fun t =>
      t.boot.phase = 1 ∧ t.rootUp = true ∧ t.reg Reg.ID_STRAP = BitVec.ofNat 48 b.straps.toNat ∧ t.rb Reg.ID_MGMTPATH 0 = b.straps.getLsbD 0 ∧
      t.rb (Reg.CLK_PLLCTL 0) 47 = true ∧ t.flash = s.flash ∧ t.fuses.count = s.fuses.count ∧ t.fuses.prog = none ∧
      (s.fuses.prog = none → t.fuses.lc = s.fuses.lc) ∧ t.pending = s.pending ∧ t.bobbin = [] ∧ t.rt.cmds = [] ∧ t.waitQ = [])) ∧
    (∀ n : Nat, s.boot.phase = 1 → s.rootUp = true → s.supPick = some n → s.domOn (30 + n / 8) = false →
      exec .supervisorStart s = .next (s.wakeDom (30 + n / 8))) ∧
    (∀ n : Nat, s.boot.phase = 1 → s.rootUp = true → s.supPick = some n → s.domOn (30 + n / 8) = true → nextWith (exec .supervisorStart s) (fun t =>
      let win := if s.rb Reg.CSP0_BOOTSTAT 37 = true ∨ s.rb Reg.CSP0_CFG 47 = true then none else s.selectSlot.2.2
      t.boot.phase = 2 ∧ t.boot.win = win ∧ t.boot.bare = win.isNone ∧ t.supSpn = n ∧ (t.spn n).mode = 0 ∧ (t.spn n).run = .running ∧
      t.rb Reg.CSP0_BOOTSTAT 38 = win.isNone ∧ ∀ k, win = some k → (t.spn n).pc = entryPc k (fld (s.slotImg k 2) 31 0))) ∧
    (∀ n : Nat, 2 ≤ s.boot.phase → s.rootUp = true → s.supFailed = true → s.supNext = some n → nextWith (exec .supervisorMove s) (fun t =>
      t.supSpn = n ∧ (t.spn n).mode = 0 ∧ (t.spn n).run = .running ∧ t.reg Reg.MB_SUPMOVE = s.reg Reg.MB_SUPMOVE + 1))
  ) ∧ (
  ∀ (s : State) (k : Nat), s.boot.win = some k →
    let i := s.boot.cfgIx
    let a := bodyAt + fld (s.slotImg k 3) 31 0 + 2 * i
    let w := s.slotImg k a
    let v := s.slotImg k (a + 1)
    (s.boot.phase = 2 → s.supUp = true → s.boot.cfgWait = false →
      (fld (s.slotImg k 4) 31 0 ≤ i → nextWith (exec .configRecord s) (fun t => t.boot.phase = 3 ∧ t.boot.win = some k ∧ t.fuses = s.fuses)) ∧
      (i < fld (s.slotImg k 4) 31 0 →
        (fld w 47 46 = 2 → exec .configRecord s = .next { s with boot := { s.boot with cfgIx := i + 1, cfgWait := true } }) ∧
        (fld w 47 46 < 2 → fld w 31 0 = Reg.LC_STATE → nextWith (exec .configRecord s) (fun t =>
          t.boot.cfgIx = i + 1 ∧ t.reg Reg.CSP0_CFGERR = s.reg Reg.CSP0_CFGERR + 1 ∧ t.fuses = s.fuses ∧
          (s.rf Reg.CSP0_BOOTSTAT 35 16 = 0xFFFFF → i < 2 ^ 20 → t.rf Reg.CSP0_BOOTSTAT 35 16 = i))) ∧
        (fld w 47 46 = 0 → 0x1000000 ≤ fld w 31 0 → fld w 31 0 < 0x1800000 → (∀ d, domainOf (fld w 31 0) = some d → s.domOn d = true) →
          (s.spn s.supSpn).mode = 0 → nextWith (exec .configRecord s) (fun t =>
            t.bob (fld w 31 0 - 0x1000000) = v ∧ t.boot.cfgIx = i + 1 ∧ t.regs = s.regs)))) ∧
    exec .configWaitExpire s = .next { s with boot := { s.boot with cfgWait := false } } ∧
    (s.boot.phase = 3 → s.rootUp = true → s.rf Reg.CSP0_BOOTSTAT 35 16 = 0xFFFFF → s.fuses.count < 64 →
      (bitOf (s.slotImg k 0) 17 = true → s.fuses.count < fld (s.slotImg k 2) 47 40 →
        exec .rollbackFuseBlow s = .next { s with fuses := { s.fuses with count := s.fuses.count + 1 } }) ∧
      (fld (s.slotImg k 2) 47 40 ≤ s.fuses.count → exec .rollbackFuseBlow s = .next s))
  )

/-- R393: at boot the slot whose SEQ is newer, slot A where neither is, wins if it passes all its checks; if it fails, the other wins if that one passes; with
no valid slot the device comes up bare. Checks 1–5 run on both slots, the others on the second only if the first fails: a slot not checked to the end has
code 9. No winner is older than the rollback fuses (R392). -/
def Obligations.SlotSelectionIsSound : Prop :=
  ∀ s : State,
    let full := fun (k : Nat) => imgCheck (s.slotImg k) s.fuses.count s.lcTest
    let early := fun (k : Nat) => imgHeader (s.slotImg k) s.fuses.count
    let seq := fun (k : Nat) => fld (s.slotImg k 30) 15 0
    let first := if serialNewer 16 (seq 1) (seq 0) then 1 else 0
    let code := fun (k : Nat) => if k = 0 then s.selectSlot.1 else s.selectSlot.2.1
    let win := s.selectSlot.2.2
    (full first = 0 → win = some first) ∧
    (full first ≠ 0 → full (1 - first) = 0 → win = some (1 - first)) ∧
    (full first ≠ 0 → full (1 - first) ≠ 0 → win = none) ∧
    code first = full first ∧
    code (1 - first) = (if early (1 - first) ≠ 0 then early (1 - first) else if full first = 0 then 9 else full (1 - first)) ∧
    (∀ k, win = some k → k < 2 ∧ s.fuses.count ≤ fld (s.slotImg k 2) 47 40) ∧
    (∀ n, s.boot.phase = 1 → s.rootUp = true → s.supPick = some n → s.domOn (30 + n / 8) = true → s.rb Reg.CSP0_BOOTSTAT 37 = false → s.rb Reg.CSP0_CFG 47 = false →
      nextWith (exec .supervisorStart s) (fun t =>
        t.boot.win = win ∧ t.boot.bare = win.isNone ∧ t.rb Reg.CSP0_BOOTSTAT 38 = win.isNone ∧
        t.rf Reg.CSP0_BOOTSTAT 43 40 = code 1 % 16 ∧ t.rf Reg.CSP0_BOOTSTAT 47 44 = code 0 % 16))

/-- R353, R380, R389, R390, R396, R397, R400: a commit starts, runs its flash operations step by step, and ends, and stops where the pads are released; START is refused while one runs; a reboot reads
the slots again in the bare state, and is refused outside it; the prefetch buffer takes a line; reads that waited behind a commit complete ABSENT. -/
def Obligations.FlashAndCommits : Prop :=
  ∀ s : State,
    (∀ (r : Requester) (w : Word), CanPair s r Reg.CSP0_COMMIT → bitOf w 0 = true → s.boot.commit.isSome = true →
      Performs r (Reg.CSP0_COMMIT + 1) 8 (exec (.csp0Commit r w) s) (fun t =>
        t.rf Reg.CSP0_CMTSTAT 47 44 = 6 ∧ t.rf Reg.CSP0_CMTSTAT 39 36 = 1 ∧ t.boot = s.boot ∧ t.flash = s.flash)) ∧
    (∀ (r : Requester) (w : Word), CanPair s r Reg.CSP0_COMMIT → bitOf w 0 = true → s.boot.commit = none →
      let src := s.rf Reg.CSP0_CMTSRC 31 0
      let len := s.rf Reg.CSP0_CMTLEN 17 0
      (∀ b ∈ banksOf src (max len 2048), s.gate (36 + b) = .go) → len = 2048 + imgBodyLen s.staged → len ≤ 262144 →
      imgCheck s.staged s.fuses.count s.lcTest = 0 → s.rb Reg.PWR_HOLDSTAT 47 = true → s.rf Reg.PWR_HOLDNEED 23 0 ≤ s.gauge →
      Performs r (Reg.CSP0_COMMIT + 1) 0 (exec (.csp0Commit r w) s) (fun t =>
        (∃ c, t.boot.commit = some c ∧ c.step = 1 ∧ c.buf = imgWords s.staged 0 len ∧ c.slot = (match s.boot.win with
          | some k => 1 - k
          | none => 0)) ∧
        t.rf Reg.CSP0_CMTSTAT 47 44 = 3 ∧ t.rf Reg.CSP0_CMTSTAT 43 40 = 1 ∧ t.rb Reg.PWR_HOLDSTAT 46 = true ∧ t.flash = s.flash)) ∧
    (∀ (r : Requester) (w : Word), CanPair s r Reg.CSP0_BOOTCTL → s.boot.bare = false →
      Performs r (Reg.CSP0_BOOTCTL + 1) (if bitOf w 0 then 8 else 0) (exec (.csp0Reboot r w) s) (fun t =>
        t.boot = s.boot ∧ t.flash = s.flash ∧ t.spns = s.spns ∧ (bitOf w 0 = true → t.rf Reg.CSP0_STAT 43 40 = 3))) ∧
    (∀ (r : Requester) (w : Word) (n : Nat), CanPair s r Reg.CSP0_BOOTCTL → s.boot.phase = 2 → s.boot.bare = true →
      (bitOf w 0 = false → Performs r (Reg.CSP0_BOOTCTL + 1) 0 (exec (.csp0Reboot r w) s) (fun t => t.boot = s.boot ∧ t.reg Reg.CSP0_BOOTCTL = 0)) ∧
      (bitOf w 0 = true → s.supPick = some n → s.domOn (30 + n / 8) = true →
        Performs r (Reg.CSP0_BOOTCTL + 1) 0 (exec (.csp0Reboot r w) s) (fun t =>
          let win := if s.rb Reg.CSP0_BOOTSTAT 37 = true ∨ s.rb Reg.CSP0_CFG 47 = true then none else s.selectSlot.2.2
          t.boot.phase = 2 ∧ t.boot.win = win ∧ t.boot.bare = win.isNone ∧ t.boot.cfgIx = 0 ∧ t.supSpn = n ∧ (t.spn n).mode = 0 ∧
          (t.spn n).run = .running ∧ t.rb Reg.CSP0_BOOTSTAT 38 = win.isNone ∧ t.flash = s.flash ∧ t.fuses = s.fuses))) ∧
    (∀ c, s.boot.commit = some c → s.rb Reg.PWR_HOLDSTAT 45 = false → c.step < 6 →
      (s.rb Reg.CSP0_CFG 47 = true → nextWith (exec .flashOpDone s) (fun t =>
        t.boot.commit = none ∧ t.flash = s.flash ∧ t.rf Reg.CSP0_CMTSTAT 47 44 = 5 ∧ t.rf Reg.CSP0_CMTSTAT 39 36 = 8)) ∧
      (s.rb Reg.CSP0_CFG 47 = false → 1 < c.left → nextWith (exec .flashOpDone s) (fun t => t.boot.commit = some { c with left := c.left - 1 } ∧ t.flash = (s.flashOp c).flash)) ∧
      (s.rb Reg.CSP0_CFG 47 = false → c.left ≤ 1 → c.step < 5 → nextWith (exec .flashOpDone s) (fun t =>
        t.boot.commit = some { c with step := c.step + 1, left := stepOps (c.step + 1) c.buf.length } ∧ t.flash = (s.flashOp c).flash ∧
        t.rf Reg.CSP0_CMTSTAT 47 44 = 3 ∧ t.rf Reg.CSP0_CMTSTAT 43 40 = c.step + 1)) ∧
      (s.rb Reg.CSP0_CFG 47 = false → c.left ≤ 1 → c.step = 5 → nextWith (exec .flashOpDone s) (fun t =>
        t.boot.commit = none ∧ t.flash = (s.flashOp c).flash ∧ t.rf Reg.CSP0_CMTSTAT 47 44 = 4 ∧ t.rb Reg.PWR_HOLDSTAT 46 = false ∧
        t.reg Reg.CSP0_CMTCNT = s.reg Reg.CSP0_CMTCNT + 1)) ∧
      nextWith (exec .flashOpTimeout s) (fun t =>
        t.boot.commit = none ∧ t.flash = s.flash ∧ t.rf Reg.CSP0_CMTSTAT 47 44 = 5 ∧ t.rf Reg.CSP0_CMTSTAT 39 36 = 8)) ∧
    (∀ l : BitVec 32, s.boot.commit = none → nextWith (exec (.flashLineFill l) s) (fun t =>
      (∃ ws, t.boot.lines.head? = some (l.toNat, ws) ∧
        ((∀ x ∈ s.boot.lines, x.1 ≠ l.toNat) → ws = (List.range 32).map (fun i => s.flashWord (32 * l.toNat + i)))) ∧
      t.boot.lines.length ≤ 8 ∧ (∀ m ∈ t.boot.lines, m.1 = l.toNat ∨ m ∈ s.boot.lines) ∧ t.regs = s.regs)) ∧
    (∀ (r : Requester) (h : Waiting), s.boot.commit.isSome = true → s.waitQ = [h] → h.req = reqNo r → h.sink = .bare → 0x4000000 ≤ h.addr →
      nextWith (exec .flashReadTimeout s) (fun t => t.waitQ = [] ∧ t.getReply (reqNo r) = { status := 2, addr := h.addr, data := 0 } ∧ t.regs = s.regs)) ∧
    (∀ pin : Fin 32, nextWith (exec (.pinFuncSwitchDone pin) s) (fun t =>
      t.rb (Reg.PIN_FUNC pin) 47 = false ∧ t.pinFunc pin = s.pinFunc pin ∧ ∀ q : Fin 32, q ≠ pin → t.reg (Reg.PIN_FUNC q) = s.reg (Reg.PIN_FUNC q)))
end

