-- ==== Sys2Proof/Laws/Tab.lean ====
section
/-! SUPPORT. Laws of the sparse tables: reads after writes, and the canonical form that every operation keeps. -/

namespace Sys2Proof

variable {α : Type}

theorem Tab.get_ins_same (d : Nat → α) (t : Tab α) (k : Nat) (v : α) : Tab.get d (Tab.ins k v t) k = v := by
  induction t with
  | nil => simp [Tab.ins, Tab.get]
  | cons p t ih =>
    obtain ⟨j, w⟩ := p
    simp only [Tab.ins]
    split
    · rename_i h; simp [Tab.get, ih, Nat.ne_of_lt h]
    · split <;> simp [Tab.get]

theorem Tab.get_ins_other (d : Nat → α) (t : Tab α) {k j : Nat} (v : α) (h : j ≠ k) :
    Tab.get d (Tab.ins k v t) j = Tab.get d t j := by
  induction t with
  | nil => simp [Tab.ins, Tab.get, Ne.symm h]
  | cons p t ih =>
    obtain ⟨i, w⟩ := p
    simp only [Tab.ins]
    split
    · simp [Tab.get, ih]
    · split
      · rename_i e; subst e; simp [Tab.get, Ne.symm h]
      · simp [Tab.get, Ne.symm h]

theorem Tab.get_keep (d : Nat → α) (p : Nat → Bool) (t : Tab α) (k : Nat) :
    Tab.get d (Tab.keep p t) k = if p k then Tab.get d t k else d k := by
  induction t with
  | nil => simp [Tab.keep, Tab.get]
  | cons q t ih =>
    obtain ⟨j, w⟩ := q
    simp only [Tab.keep]
    by_cases hj : p j
    · simp only [hj, if_true, Tab.get, ih]
      by_cases e : j = k
      · subst e; simp [hj]
      · simp [e]
    · by_cases e : j = k
      · subst e; simp [hj, ih]
      · simp [hj, e, Tab.get, ih]

/-- A read of the key just written. -/
@[simp] theorem Tab.get_set_same [DecidableEq α] (d : Nat → α) (t : Tab α) (k : Nat) (v : α) :
    Tab.get d (Tab.set d t k v) k = v := by
  simp only [Tab.set]
  split
  · rename_i h; simp [Tab.get_keep, h]
  · exact Tab.get_ins_same d t k v

/-- A read of another key. -/
theorem Tab.get_set_other [DecidableEq α] (d : Nat → α) (t : Tab α) {k j : Nat} (v : α) (h : j ≠ k) :
    Tab.get d (Tab.set d t k v) j = Tab.get d t j := by
  simp only [Tab.set]
  split
  · simp [Tab.get_keep, h]
  · exact Tab.get_ins_other d t v h

theorem Tab.get_set [DecidableEq α] (d : Nat → α) (t : Tab α) (k j : Nat) (v : α) :
    Tab.get d (Tab.set d t k v) j = if j = k then v else Tab.get d t j := by
  by_cases h : j = k
  · subst h; simp
  · simp [h, Tab.get_set_other d t v h]

/-! ## The canonical form -/

theorem Tab.wfFrom_mono [DecidableEq α] (d : Nat → α) {t : Tab α} {lo hi : Nat} (h : lo ≤ hi) (hw : Tab.wfFrom d hi t = true) :
    Tab.wfFrom d lo t = true := by
  cases t with
  | nil => simp [Tab.wfFrom]
  | cons p t =>
    obtain ⟨j, w⟩ := p
    simp only [Tab.wfFrom, Bool.and_eq_true, decide_eq_true_eq] at hw ⊢
    exact ⟨⟨by omega, hw.1.2⟩, hw.2⟩

theorem Tab.wfFrom_keep [DecidableEq α] (d : Nat → α) (p : Nat → Bool) (t : Tab α) :
    ∀ lo, Tab.wfFrom d lo t = true → Tab.wfFrom d lo (Tab.keep p t) = true := by
  induction t with
  | nil => intro lo _; simp [Tab.keep, Tab.wfFrom]
  | cons q t ih =>
    obtain ⟨j, w⟩ := q
    intro lo h
    simp only [Tab.wfFrom, Bool.and_eq_true, decide_eq_true_eq] at h
    simp only [Tab.keep]
    split
    · simp only [Tab.wfFrom, Bool.and_eq_true, decide_eq_true_eq]
      exact ⟨h.1, ih _ h.2⟩
    · exact Tab.wfFrom_mono d (by omega) (ih _ h.2)

theorem Tab.wfFrom_ins [DecidableEq α] (d : Nat → α) (k : Nat) (v : α) (hv : v ≠ d k) (t : Tab α) :
    ∀ lo, lo ≤ k → Tab.wfFrom d lo t = true → Tab.wfFrom d lo (Tab.ins k v t) = true := by
  induction t with
  | nil => intro lo hk _; simp [Tab.ins, Tab.wfFrom, hk, hv]
  | cons q t ih =>
    obtain ⟨j, w⟩ := q
    intro lo hk h
    simp only [Tab.wfFrom, Bool.and_eq_true, decide_eq_true_eq] at h
    simp only [Tab.ins]
    split
    · rename_i hj
      simp only [Tab.wfFrom, Bool.and_eq_true, decide_eq_true_eq]
      exact ⟨h.1, ih _ (by omega) h.2⟩
    · split
      · rename_i e; subst e
        simp only [Tab.wfFrom, Bool.and_eq_true, decide_eq_true_eq]
        exact ⟨⟨hk, by simp [hv]⟩, h.2⟩
      · simp only [Tab.wfFrom, Bool.and_eq_true, decide_eq_true_eq]
        exact ⟨⟨hk, by simp [hv]⟩, ⟨by omega, h.1.2⟩, h.2⟩

/-- Every write keeps the canonical form. -/
theorem Tab.wf_set [DecidableEq α] (d : Nat → α) (t : Tab α) (k : Nat) (v : α) (h : Tab.wf d t = true) :
    Tab.wf d (Tab.set d t k v) = true := by
  simp only [Tab.set]
  split
  · exact Tab.wfFrom_keep d _ t 0 h
  · rename_i hv; exact Tab.wfFrom_ins d k v hv t 0 (Nat.zero_le k) h

/-- Dropping entries keeps the canonical form. -/
theorem Tab.wf_keep [DecidableEq α] (d : Nat → α) (p : Nat → Bool) (t : Tab α) (h : Tab.wf d t = true) :
    Tab.wf d (Tab.keep p t) = true := Tab.wfFrom_keep d p t 0 h

end Sys2Proof
end

