-- ==== Sys2Proof/Laws/State.lean ====
section
/-! SUPPORT. What each update of State leaves alone, field by field, and what a read after it gives. -/

namespace Sys2Proof.Machine

variable (s : State)

/-! ### setReg -/

@[simp] theorem setReg_pending (a : Nat) (v : Word) : (s.setReg a v).pending = s.pending := rfl
@[simp] theorem setReg_now (a : Nat) (v : Word) : (s.setReg a v).now = s.now := rfl
@[simp] theorem setReg_time (a : Nat) (v : Word) : (s.setReg a v).time = s.time := rfl
@[simp] theorem setReg_setPend (a : Nat) (v : Word) : (s.setReg a v).setPend = s.setPend := rfl
@[simp] theorem setReg_stepPend (a : Nat) (v : Word) : (s.setReg a v).stepPend = s.stepPend := rfl
@[simp] theorem setReg_free (a : Nat) (v : Word) : (s.setReg a v).free = s.free := rfl
@[simp] theorem setReg_perReq (a : Nat) (v : Word) : (s.setReg a v).perReq = s.perReq := rfl
@[simp] theorem setReg_guard (a : Nat) (v : Word) : (s.setReg a v).guard = s.guard := rfl
@[simp] theorem setReg_shadow (a : Nat) (v : Word) : (s.setReg a v).shadow = s.shadow := rfl
@[simp] theorem setReg_reply (a : Nat) (v : Word) : (s.setReg a v).reply = s.reply := rfl
@[simp] theorem setReg_waitQ (a : Nat) (v : Word) : (s.setReg a v).waitQ = s.waitQ := rfl
@[simp] theorem setReg_inband (a : Nat) (v : Word) : (s.setReg a v).inband = s.inband := rfl
@[simp] theorem setReg_nextReply (a : Nat) (v : Word) : (s.setReg a v).nextReply = s.nextReply := rfl
@[simp] theorem setReg_badpar (a : Nat) (v : Word) : (s.setReg a v).badpar = s.badpar := rfl
@[simp] theorem setReg_bobbin (a : Nat) (v : Word) : (s.setReg a v).bobbin = s.bobbin := rfl
@[simp] theorem setReg_bobFree (a : Nat) (v : Word) : (s.setReg a v).bobFree = s.bobFree := rfl
@[simp] theorem setReg_flash (a : Nat) (v : Word) : (s.setReg a v).flash = s.flash := rfl
@[simp] theorem setReg_fuses (a : Nat) (v : Word) : (s.setReg a v).fuses = s.fuses := rfl
@[simp] theorem setReg_csp1 (a : Nat) (v : Word) : (s.setReg a v).csp1 = s.csp1 := rfl
@[simp] theorem setReg_boot (a : Nat) (v : Word) : (s.setReg a v).boot = s.boot := rfl
@[simp] theorem setReg_ports (a : Nat) (v : Word) : (s.setReg a v).ports = s.ports := rfl
@[simp] theorem setReg_lgs (a : Nat) (v : Word) : (s.setReg a v).lgs = s.lgs := rfl
@[simp] theorem setReg_spns (a : Nat) (v : Word) : (s.setReg a v).spns = s.spns := rfl
@[simp] theorem setReg_lanes (a : Nat) (v : Word) : (s.setReg a v).lanes = s.lanes := rfl
@[simp] theorem setReg_rt (a : Nat) (v : Word) : (s.setReg a v).rt = s.rt := rfl
@[simp] theorem setReg_knots (a : Nat) (v : Word) : (s.setReg a v).knots = s.knots := rfl
@[simp] theorem setReg_tm (a : Nat) (v : Word) : (s.setReg a v).tm = s.tm := rfl
@[simp] theorem setReg_dst (a : Nat) (v : Word) : (s.setReg a v).dst = s.dst := rfl
@[simp] theorem setReg_clk (a : Nat) (v : Word) : (s.setReg a v).clk = s.clk := rfl
@[simp] theorem setReg_pwr (a : Nat) (v : Word) : (s.setReg a v).pwr = s.pwr := rfl
@[simp] theorem setReg_flt (a : Nat) (v : Word) : (s.setReg a v).flt = s.flt := rfl
@[simp] theorem setReg_bist (a : Nat) (v : Word) : (s.setReg a v).bist = s.bist := rfl
@[simp] theorem setReg_pins (a : Nat) (v : Word) : (s.setReg a v).pins = s.pins := rfl
@[simp] theorem port_setReg (a : Nat) (v : Word) (q : Nat) : (s.setReg a v).port q = s.port q := rfl
@[simp] theorem lg_setReg (a : Nat) (v : Word) (h : Nat) : (s.setReg a v).lg h = s.lg h := rfl
@[simp] theorem spn_setReg (a : Nat) (v : Word) (m : Nat) : (s.setReg a v).spn m = s.spn m := rfl
@[simp] theorem lane_setReg (a : Nat) (v : Word) (m : Nat) : (s.setReg a v).lane m = s.lane m := rfl
@[simp] theorem dom_setReg (a : Nat) (v : Word) (e' : Nat) : (s.setReg a v).dom e' = s.dom e' := rfl
@[simp] theorem src_setReg (a : Nat) (v : Word) (j : Nat) : (s.setReg a v).src j = s.src j := rfl
@[simp] theorem fsrc_setReg (a : Nat) (v : Word) (j : Nat) : (s.setReg a v).fsrc j = s.fsrc j := rfl
@[simp] theorem bob_setReg (a : Nat) (v : Word) (j : Nat) : (s.setReg a v).bob j = s.bob j := rfl
@[simp] theorem flashByte_setReg (a : Nat) (v : Word) (j : Nat) : (s.setReg a v).flashByte j = s.flashByte j := rfl
@[simp] theorem frame_setReg (a : Nat) (v : Word) (j : Nat) : (s.setReg a v).frame j = s.frame j := rfl
@[simp] theorem queue_setReg (a : Nat) (v : Word) (e' q' : Nat) : (s.setReg a v).queue e' q' = s.queue e' q' := rfl
@[simp] theorem cur_setReg (a : Nat) (v : Word) (e' : Nat) : (s.setReg a v).cur e' = s.cur e' := rfl

/-! ### setPort -/

@[simp] theorem setPort_pending (p : Nat) (x : Port) : (s.setPort p x).pending = s.pending := rfl
@[simp] theorem setPort_now (p : Nat) (x : Port) : (s.setPort p x).now = s.now := rfl
@[simp] theorem setPort_time (p : Nat) (x : Port) : (s.setPort p x).time = s.time := rfl
@[simp] theorem setPort_setPend (p : Nat) (x : Port) : (s.setPort p x).setPend = s.setPend := rfl
@[simp] theorem setPort_stepPend (p : Nat) (x : Port) : (s.setPort p x).stepPend = s.stepPend := rfl
@[simp] theorem setPort_free (p : Nat) (x : Port) : (s.setPort p x).free = s.free := rfl
@[simp] theorem setPort_regs (p : Nat) (x : Port) : (s.setPort p x).regs = s.regs := rfl
@[simp] theorem setPort_perReq (p : Nat) (x : Port) : (s.setPort p x).perReq = s.perReq := rfl
@[simp] theorem setPort_guard (p : Nat) (x : Port) : (s.setPort p x).guard = s.guard := rfl
@[simp] theorem setPort_shadow (p : Nat) (x : Port) : (s.setPort p x).shadow = s.shadow := rfl
@[simp] theorem setPort_reply (p : Nat) (x : Port) : (s.setPort p x).reply = s.reply := rfl
@[simp] theorem setPort_waitQ (p : Nat) (x : Port) : (s.setPort p x).waitQ = s.waitQ := rfl
@[simp] theorem setPort_inband (p : Nat) (x : Port) : (s.setPort p x).inband = s.inband := rfl
@[simp] theorem setPort_nextReply (p : Nat) (x : Port) : (s.setPort p x).nextReply = s.nextReply := rfl
@[simp] theorem setPort_badpar (p : Nat) (x : Port) : (s.setPort p x).badpar = s.badpar := rfl
@[simp] theorem setPort_bobbin (p : Nat) (x : Port) : (s.setPort p x).bobbin = s.bobbin := rfl
@[simp] theorem setPort_bobFree (p : Nat) (x : Port) : (s.setPort p x).bobFree = s.bobFree := rfl
@[simp] theorem setPort_flash (p : Nat) (x : Port) : (s.setPort p x).flash = s.flash := rfl
@[simp] theorem setPort_fuses (p : Nat) (x : Port) : (s.setPort p x).fuses = s.fuses := rfl
@[simp] theorem setPort_csp1 (p : Nat) (x : Port) : (s.setPort p x).csp1 = s.csp1 := rfl
@[simp] theorem setPort_boot (p : Nat) (x : Port) : (s.setPort p x).boot = s.boot := rfl
@[simp] theorem setPort_lgs (p : Nat) (x : Port) : (s.setPort p x).lgs = s.lgs := rfl
@[simp] theorem setPort_spns (p : Nat) (x : Port) : (s.setPort p x).spns = s.spns := rfl
@[simp] theorem setPort_lanes (p : Nat) (x : Port) : (s.setPort p x).lanes = s.lanes := rfl
@[simp] theorem setPort_rt (p : Nat) (x : Port) : (s.setPort p x).rt = s.rt := rfl
@[simp] theorem setPort_knots (p : Nat) (x : Port) : (s.setPort p x).knots = s.knots := rfl
@[simp] theorem setPort_tm (p : Nat) (x : Port) : (s.setPort p x).tm = s.tm := rfl
@[simp] theorem setPort_dst (p : Nat) (x : Port) : (s.setPort p x).dst = s.dst := rfl
@[simp] theorem setPort_clk (p : Nat) (x : Port) : (s.setPort p x).clk = s.clk := rfl
@[simp] theorem setPort_pwr (p : Nat) (x : Port) : (s.setPort p x).pwr = s.pwr := rfl
@[simp] theorem setPort_flt (p : Nat) (x : Port) : (s.setPort p x).flt = s.flt := rfl
@[simp] theorem setPort_bist (p : Nat) (x : Port) : (s.setPort p x).bist = s.bist := rfl
@[simp] theorem setPort_pins (p : Nat) (x : Port) : (s.setPort p x).pins = s.pins := rfl
@[simp] theorem reg_setPort (p : Nat) (x : Port) (b : Nat) : (s.setPort p x).reg b = s.reg b := rfl
@[simp] theorem lg_setPort (p : Nat) (x : Port) (h : Nat) : (s.setPort p x).lg h = s.lg h := rfl
@[simp] theorem spn_setPort (p : Nat) (x : Port) (m : Nat) : (s.setPort p x).spn m = s.spn m := rfl
@[simp] theorem lane_setPort (p : Nat) (x : Port) (m : Nat) : (s.setPort p x).lane m = s.lane m := rfl
@[simp] theorem dom_setPort (p : Nat) (x : Port) (e' : Nat) : (s.setPort p x).dom e' = s.dom e' := rfl
@[simp] theorem src_setPort (p : Nat) (x : Port) (j : Nat) : (s.setPort p x).src j = s.src j := rfl
@[simp] theorem fsrc_setPort (p : Nat) (x : Port) (j : Nat) : (s.setPort p x).fsrc j = s.fsrc j := rfl
@[simp] theorem bob_setPort (p : Nat) (x : Port) (j : Nat) : (s.setPort p x).bob j = s.bob j := rfl
@[simp] theorem flashByte_setPort (p : Nat) (x : Port) (j : Nat) : (s.setPort p x).flashByte j = s.flashByte j := rfl
@[simp] theorem frame_setPort (p : Nat) (x : Port) (j : Nat) : (s.setPort p x).frame j = s.frame j := rfl
@[simp] theorem queue_setPort (p : Nat) (x : Port) (e' q' : Nat) : (s.setPort p x).queue e' q' = s.queue e' q' := rfl
@[simp] theorem cur_setPort (p : Nat) (x : Port) (e' : Nat) : (s.setPort p x).cur e' = s.cur e' := rfl

/-! ### setLg -/

@[simp] theorem setLg_pending (g : Nat) (x : LineGroup) : (s.setLg g x).pending = s.pending := rfl
@[simp] theorem setLg_now (g : Nat) (x : LineGroup) : (s.setLg g x).now = s.now := rfl
@[simp] theorem setLg_time (g : Nat) (x : LineGroup) : (s.setLg g x).time = s.time := rfl
@[simp] theorem setLg_setPend (g : Nat) (x : LineGroup) : (s.setLg g x).setPend = s.setPend := rfl
@[simp] theorem setLg_stepPend (g : Nat) (x : LineGroup) : (s.setLg g x).stepPend = s.stepPend := rfl
@[simp] theorem setLg_free (g : Nat) (x : LineGroup) : (s.setLg g x).free = s.free := rfl
@[simp] theorem setLg_regs (g : Nat) (x : LineGroup) : (s.setLg g x).regs = s.regs := rfl
@[simp] theorem setLg_perReq (g : Nat) (x : LineGroup) : (s.setLg g x).perReq = s.perReq := rfl
@[simp] theorem setLg_guard (g : Nat) (x : LineGroup) : (s.setLg g x).guard = s.guard := rfl
@[simp] theorem setLg_shadow (g : Nat) (x : LineGroup) : (s.setLg g x).shadow = s.shadow := rfl
@[simp] theorem setLg_reply (g : Nat) (x : LineGroup) : (s.setLg g x).reply = s.reply := rfl
@[simp] theorem setLg_waitQ (g : Nat) (x : LineGroup) : (s.setLg g x).waitQ = s.waitQ := rfl
@[simp] theorem setLg_inband (g : Nat) (x : LineGroup) : (s.setLg g x).inband = s.inband := rfl
@[simp] theorem setLg_nextReply (g : Nat) (x : LineGroup) : (s.setLg g x).nextReply = s.nextReply := rfl
@[simp] theorem setLg_badpar (g : Nat) (x : LineGroup) : (s.setLg g x).badpar = s.badpar := rfl
@[simp] theorem setLg_bobbin (g : Nat) (x : LineGroup) : (s.setLg g x).bobbin = s.bobbin := rfl
@[simp] theorem setLg_bobFree (g : Nat) (x : LineGroup) : (s.setLg g x).bobFree = s.bobFree := rfl
@[simp] theorem setLg_flash (g : Nat) (x : LineGroup) : (s.setLg g x).flash = s.flash := rfl
@[simp] theorem setLg_fuses (g : Nat) (x : LineGroup) : (s.setLg g x).fuses = s.fuses := rfl
@[simp] theorem setLg_csp1 (g : Nat) (x : LineGroup) : (s.setLg g x).csp1 = s.csp1 := rfl
@[simp] theorem setLg_boot (g : Nat) (x : LineGroup) : (s.setLg g x).boot = s.boot := rfl
@[simp] theorem setLg_ports (g : Nat) (x : LineGroup) : (s.setLg g x).ports = s.ports := rfl
@[simp] theorem setLg_spns (g : Nat) (x : LineGroup) : (s.setLg g x).spns = s.spns := rfl
@[simp] theorem setLg_lanes (g : Nat) (x : LineGroup) : (s.setLg g x).lanes = s.lanes := rfl
@[simp] theorem setLg_rt (g : Nat) (x : LineGroup) : (s.setLg g x).rt = s.rt := rfl
@[simp] theorem setLg_knots (g : Nat) (x : LineGroup) : (s.setLg g x).knots = s.knots := rfl
@[simp] theorem setLg_tm (g : Nat) (x : LineGroup) : (s.setLg g x).tm = s.tm := rfl
@[simp] theorem setLg_dst (g : Nat) (x : LineGroup) : (s.setLg g x).dst = s.dst := rfl
@[simp] theorem setLg_clk (g : Nat) (x : LineGroup) : (s.setLg g x).clk = s.clk := rfl
@[simp] theorem setLg_pwr (g : Nat) (x : LineGroup) : (s.setLg g x).pwr = s.pwr := rfl
@[simp] theorem setLg_flt (g : Nat) (x : LineGroup) : (s.setLg g x).flt = s.flt := rfl
@[simp] theorem setLg_bist (g : Nat) (x : LineGroup) : (s.setLg g x).bist = s.bist := rfl
@[simp] theorem setLg_pins (g : Nat) (x : LineGroup) : (s.setLg g x).pins = s.pins := rfl
@[simp] theorem reg_setLg (g : Nat) (x : LineGroup) (b : Nat) : (s.setLg g x).reg b = s.reg b := rfl
@[simp] theorem port_setLg (g : Nat) (x : LineGroup) (q : Nat) : (s.setLg g x).port q = s.port q := rfl
@[simp] theorem spn_setLg (g : Nat) (x : LineGroup) (m : Nat) : (s.setLg g x).spn m = s.spn m := rfl
@[simp] theorem lane_setLg (g : Nat) (x : LineGroup) (m : Nat) : (s.setLg g x).lane m = s.lane m := rfl
@[simp] theorem dom_setLg (g : Nat) (x : LineGroup) (e' : Nat) : (s.setLg g x).dom e' = s.dom e' := rfl
@[simp] theorem src_setLg (g : Nat) (x : LineGroup) (j : Nat) : (s.setLg g x).src j = s.src j := rfl
@[simp] theorem fsrc_setLg (g : Nat) (x : LineGroup) (j : Nat) : (s.setLg g x).fsrc j = s.fsrc j := rfl
@[simp] theorem bob_setLg (g : Nat) (x : LineGroup) (j : Nat) : (s.setLg g x).bob j = s.bob j := rfl
@[simp] theorem flashByte_setLg (g : Nat) (x : LineGroup) (j : Nat) : (s.setLg g x).flashByte j = s.flashByte j := rfl
@[simp] theorem frame_setLg (g : Nat) (x : LineGroup) (j : Nat) : (s.setLg g x).frame j = s.frame j := rfl
@[simp] theorem queue_setLg (g : Nat) (x : LineGroup) (e' q' : Nat) : (s.setLg g x).queue e' q' = s.queue e' q' := rfl
@[simp] theorem cur_setLg (g : Nat) (x : LineGroup) (e' : Nat) : (s.setLg g x).cur e' = s.cur e' := rfl

/-! ### setSpn -/

@[simp] theorem setSpn_pending (n : Nat) (x : Spindle) : (s.setSpn n x).pending = s.pending := rfl
@[simp] theorem setSpn_now (n : Nat) (x : Spindle) : (s.setSpn n x).now = s.now := rfl
@[simp] theorem setSpn_time (n : Nat) (x : Spindle) : (s.setSpn n x).time = s.time := rfl
@[simp] theorem setSpn_setPend (n : Nat) (x : Spindle) : (s.setSpn n x).setPend = s.setPend := rfl
@[simp] theorem setSpn_stepPend (n : Nat) (x : Spindle) : (s.setSpn n x).stepPend = s.stepPend := rfl
@[simp] theorem setSpn_free (n : Nat) (x : Spindle) : (s.setSpn n x).free = s.free := rfl
@[simp] theorem setSpn_regs (n : Nat) (x : Spindle) : (s.setSpn n x).regs = s.regs := rfl
@[simp] theorem setSpn_perReq (n : Nat) (x : Spindle) : (s.setSpn n x).perReq = s.perReq := rfl
@[simp] theorem setSpn_guard (n : Nat) (x : Spindle) : (s.setSpn n x).guard = s.guard := rfl
@[simp] theorem setSpn_shadow (n : Nat) (x : Spindle) : (s.setSpn n x).shadow = s.shadow := rfl
@[simp] theorem setSpn_reply (n : Nat) (x : Spindle) : (s.setSpn n x).reply = s.reply := rfl
@[simp] theorem setSpn_waitQ (n : Nat) (x : Spindle) : (s.setSpn n x).waitQ = s.waitQ := rfl
@[simp] theorem setSpn_inband (n : Nat) (x : Spindle) : (s.setSpn n x).inband = s.inband := rfl
@[simp] theorem setSpn_nextReply (n : Nat) (x : Spindle) : (s.setSpn n x).nextReply = s.nextReply := rfl
@[simp] theorem setSpn_badpar (n : Nat) (x : Spindle) : (s.setSpn n x).badpar = s.badpar := rfl
@[simp] theorem setSpn_bobbin (n : Nat) (x : Spindle) : (s.setSpn n x).bobbin = s.bobbin := rfl
@[simp] theorem setSpn_bobFree (n : Nat) (x : Spindle) : (s.setSpn n x).bobFree = s.bobFree := rfl
@[simp] theorem setSpn_flash (n : Nat) (x : Spindle) : (s.setSpn n x).flash = s.flash := rfl
@[simp] theorem setSpn_fuses (n : Nat) (x : Spindle) : (s.setSpn n x).fuses = s.fuses := rfl
@[simp] theorem setSpn_csp1 (n : Nat) (x : Spindle) : (s.setSpn n x).csp1 = s.csp1 := rfl
@[simp] theorem setSpn_boot (n : Nat) (x : Spindle) : (s.setSpn n x).boot = s.boot := rfl
@[simp] theorem setSpn_ports (n : Nat) (x : Spindle) : (s.setSpn n x).ports = s.ports := rfl
@[simp] theorem setSpn_lgs (n : Nat) (x : Spindle) : (s.setSpn n x).lgs = s.lgs := rfl
@[simp] theorem setSpn_lanes (n : Nat) (x : Spindle) : (s.setSpn n x).lanes = s.lanes := rfl
@[simp] theorem setSpn_rt (n : Nat) (x : Spindle) : (s.setSpn n x).rt = s.rt := rfl
@[simp] theorem setSpn_knots (n : Nat) (x : Spindle) : (s.setSpn n x).knots = s.knots := rfl
@[simp] theorem setSpn_tm (n : Nat) (x : Spindle) : (s.setSpn n x).tm = s.tm := rfl
@[simp] theorem setSpn_dst (n : Nat) (x : Spindle) : (s.setSpn n x).dst = s.dst := rfl
@[simp] theorem setSpn_clk (n : Nat) (x : Spindle) : (s.setSpn n x).clk = s.clk := rfl
@[simp] theorem setSpn_pwr (n : Nat) (x : Spindle) : (s.setSpn n x).pwr = s.pwr := rfl
@[simp] theorem setSpn_flt (n : Nat) (x : Spindle) : (s.setSpn n x).flt = s.flt := rfl
@[simp] theorem setSpn_bist (n : Nat) (x : Spindle) : (s.setSpn n x).bist = s.bist := rfl
@[simp] theorem setSpn_pins (n : Nat) (x : Spindle) : (s.setSpn n x).pins = s.pins := rfl
@[simp] theorem reg_setSpn (n : Nat) (x : Spindle) (b : Nat) : (s.setSpn n x).reg b = s.reg b := rfl
@[simp] theorem port_setSpn (n : Nat) (x : Spindle) (q : Nat) : (s.setSpn n x).port q = s.port q := rfl
@[simp] theorem lg_setSpn (n : Nat) (x : Spindle) (h : Nat) : (s.setSpn n x).lg h = s.lg h := rfl
@[simp] theorem lane_setSpn (n : Nat) (x : Spindle) (m : Nat) : (s.setSpn n x).lane m = s.lane m := rfl
@[simp] theorem dom_setSpn (n : Nat) (x : Spindle) (e' : Nat) : (s.setSpn n x).dom e' = s.dom e' := rfl
@[simp] theorem src_setSpn (n : Nat) (x : Spindle) (j : Nat) : (s.setSpn n x).src j = s.src j := rfl
@[simp] theorem fsrc_setSpn (n : Nat) (x : Spindle) (j : Nat) : (s.setSpn n x).fsrc j = s.fsrc j := rfl
@[simp] theorem bob_setSpn (n : Nat) (x : Spindle) (j : Nat) : (s.setSpn n x).bob j = s.bob j := rfl
@[simp] theorem flashByte_setSpn (n : Nat) (x : Spindle) (j : Nat) : (s.setSpn n x).flashByte j = s.flashByte j := rfl
@[simp] theorem frame_setSpn (n : Nat) (x : Spindle) (j : Nat) : (s.setSpn n x).frame j = s.frame j := rfl
@[simp] theorem queue_setSpn (n : Nat) (x : Spindle) (e' q' : Nat) : (s.setSpn n x).queue e' q' = s.queue e' q' := rfl
@[simp] theorem cur_setSpn (n : Nat) (x : Spindle) (e' : Nat) : (s.setSpn n x).cur e' = s.cur e' := rfl

/-! ### setLane -/

@[simp] theorem setLane_pending (n : Nat) (x : Lane) : (s.setLane n x).pending = s.pending := rfl
@[simp] theorem setLane_now (n : Nat) (x : Lane) : (s.setLane n x).now = s.now := rfl
@[simp] theorem setLane_time (n : Nat) (x : Lane) : (s.setLane n x).time = s.time := rfl
@[simp] theorem setLane_setPend (n : Nat) (x : Lane) : (s.setLane n x).setPend = s.setPend := rfl
@[simp] theorem setLane_stepPend (n : Nat) (x : Lane) : (s.setLane n x).stepPend = s.stepPend := rfl
@[simp] theorem setLane_free (n : Nat) (x : Lane) : (s.setLane n x).free = s.free := rfl
@[simp] theorem setLane_regs (n : Nat) (x : Lane) : (s.setLane n x).regs = s.regs := rfl
@[simp] theorem setLane_perReq (n : Nat) (x : Lane) : (s.setLane n x).perReq = s.perReq := rfl
@[simp] theorem setLane_guard (n : Nat) (x : Lane) : (s.setLane n x).guard = s.guard := rfl
@[simp] theorem setLane_shadow (n : Nat) (x : Lane) : (s.setLane n x).shadow = s.shadow := rfl
@[simp] theorem setLane_reply (n : Nat) (x : Lane) : (s.setLane n x).reply = s.reply := rfl
@[simp] theorem setLane_waitQ (n : Nat) (x : Lane) : (s.setLane n x).waitQ = s.waitQ := rfl
@[simp] theorem setLane_inband (n : Nat) (x : Lane) : (s.setLane n x).inband = s.inband := rfl
@[simp] theorem setLane_nextReply (n : Nat) (x : Lane) : (s.setLane n x).nextReply = s.nextReply := rfl
@[simp] theorem setLane_badpar (n : Nat) (x : Lane) : (s.setLane n x).badpar = s.badpar := rfl
@[simp] theorem setLane_bobbin (n : Nat) (x : Lane) : (s.setLane n x).bobbin = s.bobbin := rfl
@[simp] theorem setLane_bobFree (n : Nat) (x : Lane) : (s.setLane n x).bobFree = s.bobFree := rfl
@[simp] theorem setLane_flash (n : Nat) (x : Lane) : (s.setLane n x).flash = s.flash := rfl
@[simp] theorem setLane_fuses (n : Nat) (x : Lane) : (s.setLane n x).fuses = s.fuses := rfl
@[simp] theorem setLane_csp1 (n : Nat) (x : Lane) : (s.setLane n x).csp1 = s.csp1 := rfl
@[simp] theorem setLane_boot (n : Nat) (x : Lane) : (s.setLane n x).boot = s.boot := rfl
@[simp] theorem setLane_ports (n : Nat) (x : Lane) : (s.setLane n x).ports = s.ports := rfl
@[simp] theorem setLane_lgs (n : Nat) (x : Lane) : (s.setLane n x).lgs = s.lgs := rfl
@[simp] theorem setLane_spns (n : Nat) (x : Lane) : (s.setLane n x).spns = s.spns := rfl
@[simp] theorem setLane_rt (n : Nat) (x : Lane) : (s.setLane n x).rt = s.rt := rfl
@[simp] theorem setLane_knots (n : Nat) (x : Lane) : (s.setLane n x).knots = s.knots := rfl
@[simp] theorem setLane_tm (n : Nat) (x : Lane) : (s.setLane n x).tm = s.tm := rfl
@[simp] theorem setLane_dst (n : Nat) (x : Lane) : (s.setLane n x).dst = s.dst := rfl
@[simp] theorem setLane_clk (n : Nat) (x : Lane) : (s.setLane n x).clk = s.clk := rfl
@[simp] theorem setLane_pwr (n : Nat) (x : Lane) : (s.setLane n x).pwr = s.pwr := rfl
@[simp] theorem setLane_flt (n : Nat) (x : Lane) : (s.setLane n x).flt = s.flt := rfl
@[simp] theorem setLane_bist (n : Nat) (x : Lane) : (s.setLane n x).bist = s.bist := rfl
@[simp] theorem setLane_pins (n : Nat) (x : Lane) : (s.setLane n x).pins = s.pins := rfl
@[simp] theorem reg_setLane (n : Nat) (x : Lane) (b : Nat) : (s.setLane n x).reg b = s.reg b := rfl
@[simp] theorem port_setLane (n : Nat) (x : Lane) (q : Nat) : (s.setLane n x).port q = s.port q := rfl
@[simp] theorem lg_setLane (n : Nat) (x : Lane) (h : Nat) : (s.setLane n x).lg h = s.lg h := rfl
@[simp] theorem spn_setLane (n : Nat) (x : Lane) (m : Nat) : (s.setLane n x).spn m = s.spn m := rfl
@[simp] theorem dom_setLane (n : Nat) (x : Lane) (e' : Nat) : (s.setLane n x).dom e' = s.dom e' := rfl
@[simp] theorem src_setLane (n : Nat) (x : Lane) (j : Nat) : (s.setLane n x).src j = s.src j := rfl
@[simp] theorem fsrc_setLane (n : Nat) (x : Lane) (j : Nat) : (s.setLane n x).fsrc j = s.fsrc j := rfl
@[simp] theorem bob_setLane (n : Nat) (x : Lane) (j : Nat) : (s.setLane n x).bob j = s.bob j := rfl
@[simp] theorem flashByte_setLane (n : Nat) (x : Lane) (j : Nat) : (s.setLane n x).flashByte j = s.flashByte j := rfl
@[simp] theorem frame_setLane (n : Nat) (x : Lane) (j : Nat) : (s.setLane n x).frame j = s.frame j := rfl
@[simp] theorem queue_setLane (n : Nat) (x : Lane) (e' q' : Nat) : (s.setLane n x).queue e' q' = s.queue e' q' := rfl
@[simp] theorem cur_setLane (n : Nat) (x : Lane) (e' : Nat) : (s.setLane n x).cur e' = s.cur e' := rfl

/-! ### setDom -/

@[simp] theorem setDom_pending (d : Nat) (x : Dom) : (s.setDom d x).pending = s.pending := rfl
@[simp] theorem setDom_now (d : Nat) (x : Dom) : (s.setDom d x).now = s.now := rfl
@[simp] theorem setDom_time (d : Nat) (x : Dom) : (s.setDom d x).time = s.time := rfl
@[simp] theorem setDom_setPend (d : Nat) (x : Dom) : (s.setDom d x).setPend = s.setPend := rfl
@[simp] theorem setDom_stepPend (d : Nat) (x : Dom) : (s.setDom d x).stepPend = s.stepPend := rfl
@[simp] theorem setDom_free (d : Nat) (x : Dom) : (s.setDom d x).free = s.free := rfl
@[simp] theorem setDom_regs (d : Nat) (x : Dom) : (s.setDom d x).regs = s.regs := rfl
@[simp] theorem setDom_perReq (d : Nat) (x : Dom) : (s.setDom d x).perReq = s.perReq := rfl
@[simp] theorem setDom_guard (d : Nat) (x : Dom) : (s.setDom d x).guard = s.guard := rfl
@[simp] theorem setDom_shadow (d : Nat) (x : Dom) : (s.setDom d x).shadow = s.shadow := rfl
@[simp] theorem setDom_reply (d : Nat) (x : Dom) : (s.setDom d x).reply = s.reply := rfl
@[simp] theorem setDom_waitQ (d : Nat) (x : Dom) : (s.setDom d x).waitQ = s.waitQ := rfl
@[simp] theorem setDom_inband (d : Nat) (x : Dom) : (s.setDom d x).inband = s.inband := rfl
@[simp] theorem setDom_nextReply (d : Nat) (x : Dom) : (s.setDom d x).nextReply = s.nextReply := rfl
@[simp] theorem setDom_badpar (d : Nat) (x : Dom) : (s.setDom d x).badpar = s.badpar := rfl
@[simp] theorem setDom_bobbin (d : Nat) (x : Dom) : (s.setDom d x).bobbin = s.bobbin := rfl
@[simp] theorem setDom_bobFree (d : Nat) (x : Dom) : (s.setDom d x).bobFree = s.bobFree := rfl
@[simp] theorem setDom_flash (d : Nat) (x : Dom) : (s.setDom d x).flash = s.flash := rfl
@[simp] theorem setDom_fuses (d : Nat) (x : Dom) : (s.setDom d x).fuses = s.fuses := rfl
@[simp] theorem setDom_csp1 (d : Nat) (x : Dom) : (s.setDom d x).csp1 = s.csp1 := rfl
@[simp] theorem setDom_boot (d : Nat) (x : Dom) : (s.setDom d x).boot = s.boot := rfl
@[simp] theorem setDom_ports (d : Nat) (x : Dom) : (s.setDom d x).ports = s.ports := rfl
@[simp] theorem setDom_lgs (d : Nat) (x : Dom) : (s.setDom d x).lgs = s.lgs := rfl
@[simp] theorem setDom_spns (d : Nat) (x : Dom) : (s.setDom d x).spns = s.spns := rfl
@[simp] theorem setDom_lanes (d : Nat) (x : Dom) : (s.setDom d x).lanes = s.lanes := rfl
@[simp] theorem setDom_rt (d : Nat) (x : Dom) : (s.setDom d x).rt = s.rt := rfl
@[simp] theorem setDom_knots (d : Nat) (x : Dom) : (s.setDom d x).knots = s.knots := rfl
@[simp] theorem setDom_tm (d : Nat) (x : Dom) : (s.setDom d x).tm = s.tm := rfl
@[simp] theorem setDom_dst (d : Nat) (x : Dom) : (s.setDom d x).dst = s.dst := rfl
@[simp] theorem setDom_clk (d : Nat) (x : Dom) : (s.setDom d x).clk = s.clk := rfl
@[simp] theorem setDom_flt (d : Nat) (x : Dom) : (s.setDom d x).flt = s.flt := rfl
@[simp] theorem setDom_bist (d : Nat) (x : Dom) : (s.setDom d x).bist = s.bist := rfl
@[simp] theorem setDom_pins (d : Nat) (x : Dom) : (s.setDom d x).pins = s.pins := rfl
@[simp] theorem reg_setDom (d : Nat) (x : Dom) (b : Nat) : (s.setDom d x).reg b = s.reg b := rfl
@[simp] theorem port_setDom (d : Nat) (x : Dom) (q : Nat) : (s.setDom d x).port q = s.port q := rfl
@[simp] theorem lg_setDom (d : Nat) (x : Dom) (h : Nat) : (s.setDom d x).lg h = s.lg h := rfl
@[simp] theorem spn_setDom (d : Nat) (x : Dom) (m : Nat) : (s.setDom d x).spn m = s.spn m := rfl
@[simp] theorem lane_setDom (d : Nat) (x : Dom) (m : Nat) : (s.setDom d x).lane m = s.lane m := rfl
@[simp] theorem src_setDom (d : Nat) (x : Dom) (j : Nat) : (s.setDom d x).src j = s.src j := rfl
@[simp] theorem fsrc_setDom (d : Nat) (x : Dom) (j : Nat) : (s.setDom d x).fsrc j = s.fsrc j := rfl
@[simp] theorem bob_setDom (d : Nat) (x : Dom) (j : Nat) : (s.setDom d x).bob j = s.bob j := rfl
@[simp] theorem flashByte_setDom (d : Nat) (x : Dom) (j : Nat) : (s.setDom d x).flashByte j = s.flashByte j := rfl
@[simp] theorem frame_setDom (d : Nat) (x : Dom) (j : Nat) : (s.setDom d x).frame j = s.frame j := rfl
@[simp] theorem queue_setDom (d : Nat) (x : Dom) (e' q' : Nat) : (s.setDom d x).queue e' q' = s.queue e' q' := rfl
@[simp] theorem cur_setDom (d : Nat) (x : Dom) (e' : Nat) : (s.setDom d x).cur e' = s.cur e' := rfl

/-! ### setSrc -/

@[simp] theorem setSrc_pending (k : Nat) (x : ClkSrc) : (s.setSrc k x).pending = s.pending := rfl
@[simp] theorem setSrc_now (k : Nat) (x : ClkSrc) : (s.setSrc k x).now = s.now := rfl
@[simp] theorem setSrc_time (k : Nat) (x : ClkSrc) : (s.setSrc k x).time = s.time := rfl
@[simp] theorem setSrc_setPend (k : Nat) (x : ClkSrc) : (s.setSrc k x).setPend = s.setPend := rfl
@[simp] theorem setSrc_stepPend (k : Nat) (x : ClkSrc) : (s.setSrc k x).stepPend = s.stepPend := rfl
@[simp] theorem setSrc_free (k : Nat) (x : ClkSrc) : (s.setSrc k x).free = s.free := rfl
@[simp] theorem setSrc_regs (k : Nat) (x : ClkSrc) : (s.setSrc k x).regs = s.regs := rfl
@[simp] theorem setSrc_perReq (k : Nat) (x : ClkSrc) : (s.setSrc k x).perReq = s.perReq := rfl
@[simp] theorem setSrc_guard (k : Nat) (x : ClkSrc) : (s.setSrc k x).guard = s.guard := rfl
@[simp] theorem setSrc_shadow (k : Nat) (x : ClkSrc) : (s.setSrc k x).shadow = s.shadow := rfl
@[simp] theorem setSrc_reply (k : Nat) (x : ClkSrc) : (s.setSrc k x).reply = s.reply := rfl
@[simp] theorem setSrc_waitQ (k : Nat) (x : ClkSrc) : (s.setSrc k x).waitQ = s.waitQ := rfl
@[simp] theorem setSrc_inband (k : Nat) (x : ClkSrc) : (s.setSrc k x).inband = s.inband := rfl
@[simp] theorem setSrc_nextReply (k : Nat) (x : ClkSrc) : (s.setSrc k x).nextReply = s.nextReply := rfl
@[simp] theorem setSrc_badpar (k : Nat) (x : ClkSrc) : (s.setSrc k x).badpar = s.badpar := rfl
@[simp] theorem setSrc_bobbin (k : Nat) (x : ClkSrc) : (s.setSrc k x).bobbin = s.bobbin := rfl
@[simp] theorem setSrc_bobFree (k : Nat) (x : ClkSrc) : (s.setSrc k x).bobFree = s.bobFree := rfl
@[simp] theorem setSrc_flash (k : Nat) (x : ClkSrc) : (s.setSrc k x).flash = s.flash := rfl
@[simp] theorem setSrc_fuses (k : Nat) (x : ClkSrc) : (s.setSrc k x).fuses = s.fuses := rfl
@[simp] theorem setSrc_csp1 (k : Nat) (x : ClkSrc) : (s.setSrc k x).csp1 = s.csp1 := rfl
@[simp] theorem setSrc_boot (k : Nat) (x : ClkSrc) : (s.setSrc k x).boot = s.boot := rfl
@[simp] theorem setSrc_ports (k : Nat) (x : ClkSrc) : (s.setSrc k x).ports = s.ports := rfl
@[simp] theorem setSrc_lgs (k : Nat) (x : ClkSrc) : (s.setSrc k x).lgs = s.lgs := rfl
@[simp] theorem setSrc_spns (k : Nat) (x : ClkSrc) : (s.setSrc k x).spns = s.spns := rfl
@[simp] theorem setSrc_lanes (k : Nat) (x : ClkSrc) : (s.setSrc k x).lanes = s.lanes := rfl
@[simp] theorem setSrc_rt (k : Nat) (x : ClkSrc) : (s.setSrc k x).rt = s.rt := rfl
@[simp] theorem setSrc_knots (k : Nat) (x : ClkSrc) : (s.setSrc k x).knots = s.knots := rfl
@[simp] theorem setSrc_tm (k : Nat) (x : ClkSrc) : (s.setSrc k x).tm = s.tm := rfl
@[simp] theorem setSrc_dst (k : Nat) (x : ClkSrc) : (s.setSrc k x).dst = s.dst := rfl
@[simp] theorem setSrc_pwr (k : Nat) (x : ClkSrc) : (s.setSrc k x).pwr = s.pwr := rfl
@[simp] theorem setSrc_flt (k : Nat) (x : ClkSrc) : (s.setSrc k x).flt = s.flt := rfl
@[simp] theorem setSrc_bist (k : Nat) (x : ClkSrc) : (s.setSrc k x).bist = s.bist := rfl
@[simp] theorem setSrc_pins (k : Nat) (x : ClkSrc) : (s.setSrc k x).pins = s.pins := rfl
@[simp] theorem reg_setSrc (k : Nat) (x : ClkSrc) (b : Nat) : (s.setSrc k x).reg b = s.reg b := rfl
@[simp] theorem port_setSrc (k : Nat) (x : ClkSrc) (q : Nat) : (s.setSrc k x).port q = s.port q := rfl
@[simp] theorem lg_setSrc (k : Nat) (x : ClkSrc) (h : Nat) : (s.setSrc k x).lg h = s.lg h := rfl
@[simp] theorem spn_setSrc (k : Nat) (x : ClkSrc) (m : Nat) : (s.setSrc k x).spn m = s.spn m := rfl
@[simp] theorem lane_setSrc (k : Nat) (x : ClkSrc) (m : Nat) : (s.setSrc k x).lane m = s.lane m := rfl
@[simp] theorem dom_setSrc (k : Nat) (x : ClkSrc) (e' : Nat) : (s.setSrc k x).dom e' = s.dom e' := rfl
@[simp] theorem fsrc_setSrc (k : Nat) (x : ClkSrc) (j : Nat) : (s.setSrc k x).fsrc j = s.fsrc j := rfl
@[simp] theorem bob_setSrc (k : Nat) (x : ClkSrc) (j : Nat) : (s.setSrc k x).bob j = s.bob j := rfl
@[simp] theorem flashByte_setSrc (k : Nat) (x : ClkSrc) (j : Nat) : (s.setSrc k x).flashByte j = s.flashByte j := rfl
@[simp] theorem frame_setSrc (k : Nat) (x : ClkSrc) (j : Nat) : (s.setSrc k x).frame j = s.frame j := rfl
@[simp] theorem queue_setSrc (k : Nat) (x : ClkSrc) (e' q' : Nat) : (s.setSrc k x).queue e' q' = s.queue e' q' := rfl
@[simp] theorem cur_setSrc (k : Nat) (x : ClkSrc) (e' : Nat) : (s.setSrc k x).cur e' = s.cur e' := rfl

/-! ### setFsrc -/

@[simp] theorem setFsrc_pending (k : Nat) (x : FSrc) : (s.setFsrc k x).pending = s.pending := rfl
@[simp] theorem setFsrc_now (k : Nat) (x : FSrc) : (s.setFsrc k x).now = s.now := rfl
@[simp] theorem setFsrc_time (k : Nat) (x : FSrc) : (s.setFsrc k x).time = s.time := rfl
@[simp] theorem setFsrc_setPend (k : Nat) (x : FSrc) : (s.setFsrc k x).setPend = s.setPend := rfl
@[simp] theorem setFsrc_stepPend (k : Nat) (x : FSrc) : (s.setFsrc k x).stepPend = s.stepPend := rfl
@[simp] theorem setFsrc_free (k : Nat) (x : FSrc) : (s.setFsrc k x).free = s.free := rfl
@[simp] theorem setFsrc_regs (k : Nat) (x : FSrc) : (s.setFsrc k x).regs = s.regs := rfl
@[simp] theorem setFsrc_perReq (k : Nat) (x : FSrc) : (s.setFsrc k x).perReq = s.perReq := rfl
@[simp] theorem setFsrc_guard (k : Nat) (x : FSrc) : (s.setFsrc k x).guard = s.guard := rfl
@[simp] theorem setFsrc_shadow (k : Nat) (x : FSrc) : (s.setFsrc k x).shadow = s.shadow := rfl
@[simp] theorem setFsrc_reply (k : Nat) (x : FSrc) : (s.setFsrc k x).reply = s.reply := rfl
@[simp] theorem setFsrc_waitQ (k : Nat) (x : FSrc) : (s.setFsrc k x).waitQ = s.waitQ := rfl
@[simp] theorem setFsrc_inband (k : Nat) (x : FSrc) : (s.setFsrc k x).inband = s.inband := rfl
@[simp] theorem setFsrc_nextReply (k : Nat) (x : FSrc) : (s.setFsrc k x).nextReply = s.nextReply := rfl
@[simp] theorem setFsrc_badpar (k : Nat) (x : FSrc) : (s.setFsrc k x).badpar = s.badpar := rfl
@[simp] theorem setFsrc_bobbin (k : Nat) (x : FSrc) : (s.setFsrc k x).bobbin = s.bobbin := rfl
@[simp] theorem setFsrc_bobFree (k : Nat) (x : FSrc) : (s.setFsrc k x).bobFree = s.bobFree := rfl
@[simp] theorem setFsrc_flash (k : Nat) (x : FSrc) : (s.setFsrc k x).flash = s.flash := rfl
@[simp] theorem setFsrc_fuses (k : Nat) (x : FSrc) : (s.setFsrc k x).fuses = s.fuses := rfl
@[simp] theorem setFsrc_csp1 (k : Nat) (x : FSrc) : (s.setFsrc k x).csp1 = s.csp1 := rfl
@[simp] theorem setFsrc_boot (k : Nat) (x : FSrc) : (s.setFsrc k x).boot = s.boot := rfl
@[simp] theorem setFsrc_ports (k : Nat) (x : FSrc) : (s.setFsrc k x).ports = s.ports := rfl
@[simp] theorem setFsrc_lgs (k : Nat) (x : FSrc) : (s.setFsrc k x).lgs = s.lgs := rfl
@[simp] theorem setFsrc_spns (k : Nat) (x : FSrc) : (s.setFsrc k x).spns = s.spns := rfl
@[simp] theorem setFsrc_lanes (k : Nat) (x : FSrc) : (s.setFsrc k x).lanes = s.lanes := rfl
@[simp] theorem setFsrc_rt (k : Nat) (x : FSrc) : (s.setFsrc k x).rt = s.rt := rfl
@[simp] theorem setFsrc_knots (k : Nat) (x : FSrc) : (s.setFsrc k x).knots = s.knots := rfl
@[simp] theorem setFsrc_tm (k : Nat) (x : FSrc) : (s.setFsrc k x).tm = s.tm := rfl
@[simp] theorem setFsrc_dst (k : Nat) (x : FSrc) : (s.setFsrc k x).dst = s.dst := rfl
@[simp] theorem setFsrc_clk (k : Nat) (x : FSrc) : (s.setFsrc k x).clk = s.clk := rfl
@[simp] theorem setFsrc_pwr (k : Nat) (x : FSrc) : (s.setFsrc k x).pwr = s.pwr := rfl
@[simp] theorem setFsrc_bist (k : Nat) (x : FSrc) : (s.setFsrc k x).bist = s.bist := rfl
@[simp] theorem setFsrc_pins (k : Nat) (x : FSrc) : (s.setFsrc k x).pins = s.pins := rfl
@[simp] theorem reg_setFsrc (k : Nat) (x : FSrc) (b : Nat) : (s.setFsrc k x).reg b = s.reg b := rfl
@[simp] theorem port_setFsrc (k : Nat) (x : FSrc) (q : Nat) : (s.setFsrc k x).port q = s.port q := rfl
@[simp] theorem lg_setFsrc (k : Nat) (x : FSrc) (h : Nat) : (s.setFsrc k x).lg h = s.lg h := rfl
@[simp] theorem spn_setFsrc (k : Nat) (x : FSrc) (m : Nat) : (s.setFsrc k x).spn m = s.spn m := rfl
@[simp] theorem lane_setFsrc (k : Nat) (x : FSrc) (m : Nat) : (s.setFsrc k x).lane m = s.lane m := rfl
@[simp] theorem dom_setFsrc (k : Nat) (x : FSrc) (e' : Nat) : (s.setFsrc k x).dom e' = s.dom e' := rfl
@[simp] theorem src_setFsrc (k : Nat) (x : FSrc) (j : Nat) : (s.setFsrc k x).src j = s.src j := rfl
@[simp] theorem bob_setFsrc (k : Nat) (x : FSrc) (j : Nat) : (s.setFsrc k x).bob j = s.bob j := rfl
@[simp] theorem flashByte_setFsrc (k : Nat) (x : FSrc) (j : Nat) : (s.setFsrc k x).flashByte j = s.flashByte j := rfl
@[simp] theorem frame_setFsrc (k : Nat) (x : FSrc) (j : Nat) : (s.setFsrc k x).frame j = s.frame j := rfl
@[simp] theorem queue_setFsrc (k : Nat) (x : FSrc) (e' q' : Nat) : (s.setFsrc k x).queue e' q' = s.queue e' q' := rfl
@[simp] theorem cur_setFsrc (k : Nat) (x : FSrc) (e' : Nat) : (s.setFsrc k x).cur e' = s.cur e' := rfl

/-! ### setFlt -/

@[simp] theorem setFlt_pending (f : Flt) : (s.setFlt f).pending = s.pending := rfl
@[simp] theorem setFlt_now (f : Flt) : (s.setFlt f).now = s.now := rfl
@[simp] theorem setFlt_time (f : Flt) : (s.setFlt f).time = s.time := rfl
@[simp] theorem setFlt_setPend (f : Flt) : (s.setFlt f).setPend = s.setPend := rfl
@[simp] theorem setFlt_stepPend (f : Flt) : (s.setFlt f).stepPend = s.stepPend := rfl
@[simp] theorem setFlt_free (f : Flt) : (s.setFlt f).free = s.free := rfl
@[simp] theorem setFlt_regs (f : Flt) : (s.setFlt f).regs = s.regs := rfl
@[simp] theorem setFlt_perReq (f : Flt) : (s.setFlt f).perReq = s.perReq := rfl
@[simp] theorem setFlt_guard (f : Flt) : (s.setFlt f).guard = s.guard := rfl
@[simp] theorem setFlt_shadow (f : Flt) : (s.setFlt f).shadow = s.shadow := rfl
@[simp] theorem setFlt_reply (f : Flt) : (s.setFlt f).reply = s.reply := rfl
@[simp] theorem setFlt_waitQ (f : Flt) : (s.setFlt f).waitQ = s.waitQ := rfl
@[simp] theorem setFlt_inband (f : Flt) : (s.setFlt f).inband = s.inband := rfl
@[simp] theorem setFlt_nextReply (f : Flt) : (s.setFlt f).nextReply = s.nextReply := rfl
@[simp] theorem setFlt_badpar (f : Flt) : (s.setFlt f).badpar = s.badpar := rfl
@[simp] theorem setFlt_bobbin (f : Flt) : (s.setFlt f).bobbin = s.bobbin := rfl
@[simp] theorem setFlt_bobFree (f : Flt) : (s.setFlt f).bobFree = s.bobFree := rfl
@[simp] theorem setFlt_flash (f : Flt) : (s.setFlt f).flash = s.flash := rfl
@[simp] theorem setFlt_fuses (f : Flt) : (s.setFlt f).fuses = s.fuses := rfl
@[simp] theorem setFlt_csp1 (f : Flt) : (s.setFlt f).csp1 = s.csp1 := rfl
@[simp] theorem setFlt_boot (f : Flt) : (s.setFlt f).boot = s.boot := rfl
@[simp] theorem setFlt_ports (f : Flt) : (s.setFlt f).ports = s.ports := rfl
@[simp] theorem setFlt_lgs (f : Flt) : (s.setFlt f).lgs = s.lgs := rfl
@[simp] theorem setFlt_spns (f : Flt) : (s.setFlt f).spns = s.spns := rfl
@[simp] theorem setFlt_lanes (f : Flt) : (s.setFlt f).lanes = s.lanes := rfl
@[simp] theorem setFlt_rt (f : Flt) : (s.setFlt f).rt = s.rt := rfl
@[simp] theorem setFlt_knots (f : Flt) : (s.setFlt f).knots = s.knots := rfl
@[simp] theorem setFlt_tm (f : Flt) : (s.setFlt f).tm = s.tm := rfl
@[simp] theorem setFlt_dst (f : Flt) : (s.setFlt f).dst = s.dst := rfl
@[simp] theorem setFlt_clk (f : Flt) : (s.setFlt f).clk = s.clk := rfl
@[simp] theorem setFlt_pwr (f : Flt) : (s.setFlt f).pwr = s.pwr := rfl
@[simp] theorem setFlt_bist (f : Flt) : (s.setFlt f).bist = s.bist := rfl
@[simp] theorem setFlt_pins (f : Flt) : (s.setFlt f).pins = s.pins := rfl
@[simp] theorem reg_setFlt (f : Flt) (b : Nat) : (s.setFlt f).reg b = s.reg b := rfl
@[simp] theorem port_setFlt (f : Flt) (q : Nat) : (s.setFlt f).port q = s.port q := rfl
@[simp] theorem lg_setFlt (f : Flt) (h : Nat) : (s.setFlt f).lg h = s.lg h := rfl
@[simp] theorem spn_setFlt (f : Flt) (m : Nat) : (s.setFlt f).spn m = s.spn m := rfl
@[simp] theorem lane_setFlt (f : Flt) (m : Nat) : (s.setFlt f).lane m = s.lane m := rfl
@[simp] theorem dom_setFlt (f : Flt) (e' : Nat) : (s.setFlt f).dom e' = s.dom e' := rfl
@[simp] theorem src_setFlt (f : Flt) (j : Nat) : (s.setFlt f).src j = s.src j := rfl
@[simp] theorem bob_setFlt (f : Flt) (j : Nat) : (s.setFlt f).bob j = s.bob j := rfl
@[simp] theorem flashByte_setFlt (f : Flt) (j : Nat) : (s.setFlt f).flashByte j = s.flashByte j := rfl
@[simp] theorem frame_setFlt (f : Flt) (j : Nat) : (s.setFlt f).frame j = s.frame j := rfl
@[simp] theorem queue_setFlt (f : Flt) (e' q' : Nat) : (s.setFlt f).queue e' q' = s.queue e' q' := rfl
@[simp] theorem cur_setFlt (f : Flt) (e' : Nat) : (s.setFlt f).cur e' = s.cur e' := rfl

/-! ### setBob -/

@[simp] theorem setBob_pending (k : Nat) (v : Word) : (s.setBob k v).pending = s.pending := rfl
@[simp] theorem setBob_now (k : Nat) (v : Word) : (s.setBob k v).now = s.now := rfl
@[simp] theorem setBob_time (k : Nat) (v : Word) : (s.setBob k v).time = s.time := rfl
@[simp] theorem setBob_setPend (k : Nat) (v : Word) : (s.setBob k v).setPend = s.setPend := rfl
@[simp] theorem setBob_stepPend (k : Nat) (v : Word) : (s.setBob k v).stepPend = s.stepPend := rfl
@[simp] theorem setBob_free (k : Nat) (v : Word) : (s.setBob k v).free = s.free := rfl
@[simp] theorem setBob_regs (k : Nat) (v : Word) : (s.setBob k v).regs = s.regs := rfl
@[simp] theorem setBob_perReq (k : Nat) (v : Word) : (s.setBob k v).perReq = s.perReq := rfl
@[simp] theorem setBob_guard (k : Nat) (v : Word) : (s.setBob k v).guard = s.guard := rfl
@[simp] theorem setBob_shadow (k : Nat) (v : Word) : (s.setBob k v).shadow = s.shadow := rfl
@[simp] theorem setBob_reply (k : Nat) (v : Word) : (s.setBob k v).reply = s.reply := rfl
@[simp] theorem setBob_waitQ (k : Nat) (v : Word) : (s.setBob k v).waitQ = s.waitQ := rfl
@[simp] theorem setBob_inband (k : Nat) (v : Word) : (s.setBob k v).inband = s.inband := rfl
@[simp] theorem setBob_nextReply (k : Nat) (v : Word) : (s.setBob k v).nextReply = s.nextReply := rfl
@[simp] theorem setBob_badpar (k : Nat) (v : Word) : (s.setBob k v).badpar = s.badpar := rfl
@[simp] theorem setBob_flash (k : Nat) (v : Word) : (s.setBob k v).flash = s.flash := rfl
@[simp] theorem setBob_fuses (k : Nat) (v : Word) : (s.setBob k v).fuses = s.fuses := rfl
@[simp] theorem setBob_csp1 (k : Nat) (v : Word) : (s.setBob k v).csp1 = s.csp1 := rfl
@[simp] theorem setBob_boot (k : Nat) (v : Word) : (s.setBob k v).boot = s.boot := rfl
@[simp] theorem setBob_ports (k : Nat) (v : Word) : (s.setBob k v).ports = s.ports := rfl
@[simp] theorem setBob_lgs (k : Nat) (v : Word) : (s.setBob k v).lgs = s.lgs := rfl
@[simp] theorem setBob_spns (k : Nat) (v : Word) : (s.setBob k v).spns = s.spns := rfl
@[simp] theorem setBob_lanes (k : Nat) (v : Word) : (s.setBob k v).lanes = s.lanes := rfl
@[simp] theorem setBob_rt (k : Nat) (v : Word) : (s.setBob k v).rt = s.rt := rfl
@[simp] theorem setBob_knots (k : Nat) (v : Word) : (s.setBob k v).knots = s.knots := rfl
@[simp] theorem setBob_tm (k : Nat) (v : Word) : (s.setBob k v).tm = s.tm := rfl
@[simp] theorem setBob_dst (k : Nat) (v : Word) : (s.setBob k v).dst = s.dst := rfl
@[simp] theorem setBob_clk (k : Nat) (v : Word) : (s.setBob k v).clk = s.clk := rfl
@[simp] theorem setBob_pwr (k : Nat) (v : Word) : (s.setBob k v).pwr = s.pwr := rfl
@[simp] theorem setBob_flt (k : Nat) (v : Word) : (s.setBob k v).flt = s.flt := rfl
@[simp] theorem setBob_bist (k : Nat) (v : Word) : (s.setBob k v).bist = s.bist := rfl
@[simp] theorem setBob_pins (k : Nat) (v : Word) : (s.setBob k v).pins = s.pins := rfl
@[simp] theorem reg_setBob (k : Nat) (v : Word) (b : Nat) : (s.setBob k v).reg b = s.reg b := rfl
@[simp] theorem port_setBob (k : Nat) (v : Word) (q : Nat) : (s.setBob k v).port q = s.port q := rfl
@[simp] theorem lg_setBob (k : Nat) (v : Word) (h : Nat) : (s.setBob k v).lg h = s.lg h := rfl
@[simp] theorem spn_setBob (k : Nat) (v : Word) (m : Nat) : (s.setBob k v).spn m = s.spn m := rfl
@[simp] theorem lane_setBob (k : Nat) (v : Word) (m : Nat) : (s.setBob k v).lane m = s.lane m := rfl
@[simp] theorem dom_setBob (k : Nat) (v : Word) (e' : Nat) : (s.setBob k v).dom e' = s.dom e' := rfl
@[simp] theorem src_setBob (k : Nat) (v : Word) (j : Nat) : (s.setBob k v).src j = s.src j := rfl
@[simp] theorem fsrc_setBob (k : Nat) (v : Word) (j : Nat) : (s.setBob k v).fsrc j = s.fsrc j := rfl
@[simp] theorem flashByte_setBob (k : Nat) (v : Word) (j : Nat) : (s.setBob k v).flashByte j = s.flashByte j := rfl
@[simp] theorem frame_setBob (k : Nat) (v : Word) (j : Nat) : (s.setBob k v).frame j = s.frame j := rfl
@[simp] theorem queue_setBob (k : Nat) (v : Word) (e' q' : Nat) : (s.setBob k v).queue e' q' = s.queue e' q' := rfl
@[simp] theorem cur_setBob (k : Nat) (v : Word) (e' : Nat) : (s.setBob k v).cur e' = s.cur e' := rfl

/-! ### setFlashByte -/

@[simp] theorem setFlashByte_pending (k : Nat) (y : Byte) : (s.setFlashByte k y).pending = s.pending := rfl
@[simp] theorem setFlashByte_now (k : Nat) (y : Byte) : (s.setFlashByte k y).now = s.now := rfl
@[simp] theorem setFlashByte_time (k : Nat) (y : Byte) : (s.setFlashByte k y).time = s.time := rfl
@[simp] theorem setFlashByte_setPend (k : Nat) (y : Byte) : (s.setFlashByte k y).setPend = s.setPend := rfl
@[simp] theorem setFlashByte_stepPend (k : Nat) (y : Byte) : (s.setFlashByte k y).stepPend = s.stepPend := rfl
@[simp] theorem setFlashByte_free (k : Nat) (y : Byte) : (s.setFlashByte k y).free = s.free := rfl
@[simp] theorem setFlashByte_regs (k : Nat) (y : Byte) : (s.setFlashByte k y).regs = s.regs := rfl
@[simp] theorem setFlashByte_perReq (k : Nat) (y : Byte) : (s.setFlashByte k y).perReq = s.perReq := rfl
@[simp] theorem setFlashByte_guard (k : Nat) (y : Byte) : (s.setFlashByte k y).guard = s.guard := rfl
@[simp] theorem setFlashByte_shadow (k : Nat) (y : Byte) : (s.setFlashByte k y).shadow = s.shadow := rfl
@[simp] theorem setFlashByte_reply (k : Nat) (y : Byte) : (s.setFlashByte k y).reply = s.reply := rfl
@[simp] theorem setFlashByte_waitQ (k : Nat) (y : Byte) : (s.setFlashByte k y).waitQ = s.waitQ := rfl
@[simp] theorem setFlashByte_inband (k : Nat) (y : Byte) : (s.setFlashByte k y).inband = s.inband := rfl
@[simp] theorem setFlashByte_nextReply (k : Nat) (y : Byte) : (s.setFlashByte k y).nextReply = s.nextReply := rfl
@[simp] theorem setFlashByte_badpar (k : Nat) (y : Byte) : (s.setFlashByte k y).badpar = s.badpar := rfl
@[simp] theorem setFlashByte_bobbin (k : Nat) (y : Byte) : (s.setFlashByte k y).bobbin = s.bobbin := rfl
@[simp] theorem setFlashByte_bobFree (k : Nat) (y : Byte) : (s.setFlashByte k y).bobFree = s.bobFree := rfl
@[simp] theorem setFlashByte_fuses (k : Nat) (y : Byte) : (s.setFlashByte k y).fuses = s.fuses := rfl
@[simp] theorem setFlashByte_csp1 (k : Nat) (y : Byte) : (s.setFlashByte k y).csp1 = s.csp1 := rfl
@[simp] theorem setFlashByte_boot (k : Nat) (y : Byte) : (s.setFlashByte k y).boot = s.boot := rfl
@[simp] theorem setFlashByte_ports (k : Nat) (y : Byte) : (s.setFlashByte k y).ports = s.ports := rfl
@[simp] theorem setFlashByte_lgs (k : Nat) (y : Byte) : (s.setFlashByte k y).lgs = s.lgs := rfl
@[simp] theorem setFlashByte_spns (k : Nat) (y : Byte) : (s.setFlashByte k y).spns = s.spns := rfl
@[simp] theorem setFlashByte_lanes (k : Nat) (y : Byte) : (s.setFlashByte k y).lanes = s.lanes := rfl
@[simp] theorem setFlashByte_rt (k : Nat) (y : Byte) : (s.setFlashByte k y).rt = s.rt := rfl
@[simp] theorem setFlashByte_knots (k : Nat) (y : Byte) : (s.setFlashByte k y).knots = s.knots := rfl
@[simp] theorem setFlashByte_tm (k : Nat) (y : Byte) : (s.setFlashByte k y).tm = s.tm := rfl
@[simp] theorem setFlashByte_dst (k : Nat) (y : Byte) : (s.setFlashByte k y).dst = s.dst := rfl
@[simp] theorem setFlashByte_clk (k : Nat) (y : Byte) : (s.setFlashByte k y).clk = s.clk := rfl
@[simp] theorem setFlashByte_pwr (k : Nat) (y : Byte) : (s.setFlashByte k y).pwr = s.pwr := rfl
@[simp] theorem setFlashByte_flt (k : Nat) (y : Byte) : (s.setFlashByte k y).flt = s.flt := rfl
@[simp] theorem setFlashByte_bist (k : Nat) (y : Byte) : (s.setFlashByte k y).bist = s.bist := rfl
@[simp] theorem setFlashByte_pins (k : Nat) (y : Byte) : (s.setFlashByte k y).pins = s.pins := rfl
@[simp] theorem reg_setFlashByte (k : Nat) (y : Byte) (b : Nat) : (s.setFlashByte k y).reg b = s.reg b := rfl
@[simp] theorem port_setFlashByte (k : Nat) (y : Byte) (q : Nat) : (s.setFlashByte k y).port q = s.port q := rfl
@[simp] theorem lg_setFlashByte (k : Nat) (y : Byte) (h : Nat) : (s.setFlashByte k y).lg h = s.lg h := rfl
@[simp] theorem spn_setFlashByte (k : Nat) (y : Byte) (m : Nat) : (s.setFlashByte k y).spn m = s.spn m := rfl
@[simp] theorem lane_setFlashByte (k : Nat) (y : Byte) (m : Nat) : (s.setFlashByte k y).lane m = s.lane m := rfl
@[simp] theorem dom_setFlashByte (k : Nat) (y : Byte) (e' : Nat) : (s.setFlashByte k y).dom e' = s.dom e' := rfl
@[simp] theorem src_setFlashByte (k : Nat) (y : Byte) (j : Nat) : (s.setFlashByte k y).src j = s.src j := rfl
@[simp] theorem fsrc_setFlashByte (k : Nat) (y : Byte) (j : Nat) : (s.setFlashByte k y).fsrc j = s.fsrc j := rfl
@[simp] theorem bob_setFlashByte (k : Nat) (y : Byte) (j : Nat) : (s.setFlashByte k y).bob j = s.bob j := rfl
@[simp] theorem frame_setFlashByte (k : Nat) (y : Byte) (j : Nat) : (s.setFlashByte k y).frame j = s.frame j := rfl
@[simp] theorem queue_setFlashByte (k : Nat) (y : Byte) (e' q' : Nat) : (s.setFlashByte k y).queue e' q' = s.queue e' q' := rfl
@[simp] theorem cur_setFlashByte (k : Nat) (y : Byte) (e' : Nat) : (s.setFlashByte k y).cur e' = s.cur e' := rfl

/-! ### setFrame -/

@[simp] theorem setFrame_pending (k : Nat) (x : Option Stored) : (s.setFrame k x).pending = s.pending := rfl
@[simp] theorem setFrame_now (k : Nat) (x : Option Stored) : (s.setFrame k x).now = s.now := rfl
@[simp] theorem setFrame_time (k : Nat) (x : Option Stored) : (s.setFrame k x).time = s.time := rfl
@[simp] theorem setFrame_setPend (k : Nat) (x : Option Stored) : (s.setFrame k x).setPend = s.setPend := rfl
@[simp] theorem setFrame_stepPend (k : Nat) (x : Option Stored) : (s.setFrame k x).stepPend = s.stepPend := rfl
@[simp] theorem setFrame_free (k : Nat) (x : Option Stored) : (s.setFrame k x).free = s.free := rfl
@[simp] theorem setFrame_regs (k : Nat) (x : Option Stored) : (s.setFrame k x).regs = s.regs := rfl
@[simp] theorem setFrame_perReq (k : Nat) (x : Option Stored) : (s.setFrame k x).perReq = s.perReq := rfl
@[simp] theorem setFrame_guard (k : Nat) (x : Option Stored) : (s.setFrame k x).guard = s.guard := rfl
@[simp] theorem setFrame_shadow (k : Nat) (x : Option Stored) : (s.setFrame k x).shadow = s.shadow := rfl
@[simp] theorem setFrame_reply (k : Nat) (x : Option Stored) : (s.setFrame k x).reply = s.reply := rfl
@[simp] theorem setFrame_waitQ (k : Nat) (x : Option Stored) : (s.setFrame k x).waitQ = s.waitQ := rfl
@[simp] theorem setFrame_inband (k : Nat) (x : Option Stored) : (s.setFrame k x).inband = s.inband := rfl
@[simp] theorem setFrame_nextReply (k : Nat) (x : Option Stored) : (s.setFrame k x).nextReply = s.nextReply := rfl
@[simp] theorem setFrame_badpar (k : Nat) (x : Option Stored) : (s.setFrame k x).badpar = s.badpar := rfl
@[simp] theorem setFrame_bobbin (k : Nat) (x : Option Stored) : (s.setFrame k x).bobbin = s.bobbin := rfl
@[simp] theorem setFrame_bobFree (k : Nat) (x : Option Stored) : (s.setFrame k x).bobFree = s.bobFree := rfl
@[simp] theorem setFrame_flash (k : Nat) (x : Option Stored) : (s.setFrame k x).flash = s.flash := rfl
@[simp] theorem setFrame_fuses (k : Nat) (x : Option Stored) : (s.setFrame k x).fuses = s.fuses := rfl
@[simp] theorem setFrame_csp1 (k : Nat) (x : Option Stored) : (s.setFrame k x).csp1 = s.csp1 := rfl
@[simp] theorem setFrame_boot (k : Nat) (x : Option Stored) : (s.setFrame k x).boot = s.boot := rfl
@[simp] theorem setFrame_ports (k : Nat) (x : Option Stored) : (s.setFrame k x).ports = s.ports := rfl
@[simp] theorem setFrame_lgs (k : Nat) (x : Option Stored) : (s.setFrame k x).lgs = s.lgs := rfl
@[simp] theorem setFrame_spns (k : Nat) (x : Option Stored) : (s.setFrame k x).spns = s.spns := rfl
@[simp] theorem setFrame_lanes (k : Nat) (x : Option Stored) : (s.setFrame k x).lanes = s.lanes := rfl
@[simp] theorem setFrame_rt (k : Nat) (x : Option Stored) : (s.setFrame k x).rt = s.rt := rfl
@[simp] theorem setFrame_knots (k : Nat) (x : Option Stored) : (s.setFrame k x).knots = s.knots := rfl
@[simp] theorem setFrame_dst (k : Nat) (x : Option Stored) : (s.setFrame k x).dst = s.dst := rfl
@[simp] theorem setFrame_clk (k : Nat) (x : Option Stored) : (s.setFrame k x).clk = s.clk := rfl
@[simp] theorem setFrame_pwr (k : Nat) (x : Option Stored) : (s.setFrame k x).pwr = s.pwr := rfl
@[simp] theorem setFrame_flt (k : Nat) (x : Option Stored) : (s.setFrame k x).flt = s.flt := rfl
@[simp] theorem setFrame_bist (k : Nat) (x : Option Stored) : (s.setFrame k x).bist = s.bist := rfl
@[simp] theorem setFrame_pins (k : Nat) (x : Option Stored) : (s.setFrame k x).pins = s.pins := rfl
@[simp] theorem reg_setFrame (k : Nat) (x : Option Stored) (b : Nat) : (s.setFrame k x).reg b = s.reg b := rfl
@[simp] theorem port_setFrame (k : Nat) (x : Option Stored) (q : Nat) : (s.setFrame k x).port q = s.port q := rfl
@[simp] theorem lg_setFrame (k : Nat) (x : Option Stored) (h : Nat) : (s.setFrame k x).lg h = s.lg h := rfl
@[simp] theorem spn_setFrame (k : Nat) (x : Option Stored) (m : Nat) : (s.setFrame k x).spn m = s.spn m := rfl
@[simp] theorem lane_setFrame (k : Nat) (x : Option Stored) (m : Nat) : (s.setFrame k x).lane m = s.lane m := rfl
@[simp] theorem dom_setFrame (k : Nat) (x : Option Stored) (e' : Nat) : (s.setFrame k x).dom e' = s.dom e' := rfl
@[simp] theorem src_setFrame (k : Nat) (x : Option Stored) (j : Nat) : (s.setFrame k x).src j = s.src j := rfl
@[simp] theorem fsrc_setFrame (k : Nat) (x : Option Stored) (j : Nat) : (s.setFrame k x).fsrc j = s.fsrc j := rfl
@[simp] theorem bob_setFrame (k : Nat) (x : Option Stored) (j : Nat) : (s.setFrame k x).bob j = s.bob j := rfl
@[simp] theorem flashByte_setFrame (k : Nat) (x : Option Stored) (j : Nat) : (s.setFrame k x).flashByte j = s.flashByte j := rfl
@[simp] theorem queue_setFrame (k : Nat) (x : Option Stored) (e' q' : Nat) : (s.setFrame k x).queue e' q' = s.queue e' q' := rfl
@[simp] theorem cur_setFrame (k : Nat) (x : Option Stored) (e' : Nat) : (s.setFrame k x).cur e' = s.cur e' := rfl

/-! ### setQueue -/

@[simp] theorem setQueue_pending (e r : Nat) (l : List QEntry) : (s.setQueue e r l).pending = s.pending := rfl
@[simp] theorem setQueue_now (e r : Nat) (l : List QEntry) : (s.setQueue e r l).now = s.now := rfl
@[simp] theorem setQueue_time (e r : Nat) (l : List QEntry) : (s.setQueue e r l).time = s.time := rfl
@[simp] theorem setQueue_setPend (e r : Nat) (l : List QEntry) : (s.setQueue e r l).setPend = s.setPend := rfl
@[simp] theorem setQueue_stepPend (e r : Nat) (l : List QEntry) : (s.setQueue e r l).stepPend = s.stepPend := rfl
@[simp] theorem setQueue_free (e r : Nat) (l : List QEntry) : (s.setQueue e r l).free = s.free := rfl
@[simp] theorem setQueue_regs (e r : Nat) (l : List QEntry) : (s.setQueue e r l).regs = s.regs := rfl
@[simp] theorem setQueue_perReq (e r : Nat) (l : List QEntry) : (s.setQueue e r l).perReq = s.perReq := rfl
@[simp] theorem setQueue_guard (e r : Nat) (l : List QEntry) : (s.setQueue e r l).guard = s.guard := rfl
@[simp] theorem setQueue_shadow (e r : Nat) (l : List QEntry) : (s.setQueue e r l).shadow = s.shadow := rfl
@[simp] theorem setQueue_reply (e r : Nat) (l : List QEntry) : (s.setQueue e r l).reply = s.reply := rfl
@[simp] theorem setQueue_waitQ (e r : Nat) (l : List QEntry) : (s.setQueue e r l).waitQ = s.waitQ := rfl
@[simp] theorem setQueue_inband (e r : Nat) (l : List QEntry) : (s.setQueue e r l).inband = s.inband := rfl
@[simp] theorem setQueue_nextReply (e r : Nat) (l : List QEntry) : (s.setQueue e r l).nextReply = s.nextReply := rfl
@[simp] theorem setQueue_badpar (e r : Nat) (l : List QEntry) : (s.setQueue e r l).badpar = s.badpar := rfl
@[simp] theorem setQueue_bobbin (e r : Nat) (l : List QEntry) : (s.setQueue e r l).bobbin = s.bobbin := rfl
@[simp] theorem setQueue_bobFree (e r : Nat) (l : List QEntry) : (s.setQueue e r l).bobFree = s.bobFree := rfl
@[simp] theorem setQueue_flash (e r : Nat) (l : List QEntry) : (s.setQueue e r l).flash = s.flash := rfl
@[simp] theorem setQueue_fuses (e r : Nat) (l : List QEntry) : (s.setQueue e r l).fuses = s.fuses := rfl
@[simp] theorem setQueue_csp1 (e r : Nat) (l : List QEntry) : (s.setQueue e r l).csp1 = s.csp1 := rfl
@[simp] theorem setQueue_boot (e r : Nat) (l : List QEntry) : (s.setQueue e r l).boot = s.boot := rfl
@[simp] theorem setQueue_ports (e r : Nat) (l : List QEntry) : (s.setQueue e r l).ports = s.ports := rfl
@[simp] theorem setQueue_lgs (e r : Nat) (l : List QEntry) : (s.setQueue e r l).lgs = s.lgs := rfl
@[simp] theorem setQueue_spns (e r : Nat) (l : List QEntry) : (s.setQueue e r l).spns = s.spns := rfl
@[simp] theorem setQueue_lanes (e r : Nat) (l : List QEntry) : (s.setQueue e r l).lanes = s.lanes := rfl
@[simp] theorem setQueue_rt (e r : Nat) (l : List QEntry) : (s.setQueue e r l).rt = s.rt := rfl
@[simp] theorem setQueue_knots (e r : Nat) (l : List QEntry) : (s.setQueue e r l).knots = s.knots := rfl
@[simp] theorem setQueue_dst (e r : Nat) (l : List QEntry) : (s.setQueue e r l).dst = s.dst := rfl
@[simp] theorem setQueue_clk (e r : Nat) (l : List QEntry) : (s.setQueue e r l).clk = s.clk := rfl
@[simp] theorem setQueue_pwr (e r : Nat) (l : List QEntry) : (s.setQueue e r l).pwr = s.pwr := rfl
@[simp] theorem setQueue_flt (e r : Nat) (l : List QEntry) : (s.setQueue e r l).flt = s.flt := rfl
@[simp] theorem setQueue_bist (e r : Nat) (l : List QEntry) : (s.setQueue e r l).bist = s.bist := rfl
@[simp] theorem setQueue_pins (e r : Nat) (l : List QEntry) : (s.setQueue e r l).pins = s.pins := rfl
@[simp] theorem reg_setQueue (e r : Nat) (l : List QEntry) (b : Nat) : (s.setQueue e r l).reg b = s.reg b := rfl
@[simp] theorem port_setQueue (e r : Nat) (l : List QEntry) (q : Nat) : (s.setQueue e r l).port q = s.port q := rfl
@[simp] theorem lg_setQueue (e r : Nat) (l : List QEntry) (h : Nat) : (s.setQueue e r l).lg h = s.lg h := rfl
@[simp] theorem spn_setQueue (e r : Nat) (l : List QEntry) (m : Nat) : (s.setQueue e r l).spn m = s.spn m := rfl
@[simp] theorem lane_setQueue (e r : Nat) (l : List QEntry) (m : Nat) : (s.setQueue e r l).lane m = s.lane m := rfl
@[simp] theorem dom_setQueue (e r : Nat) (l : List QEntry) (e' : Nat) : (s.setQueue e r l).dom e' = s.dom e' := rfl
@[simp] theorem src_setQueue (e r : Nat) (l : List QEntry) (j : Nat) : (s.setQueue e r l).src j = s.src j := rfl
@[simp] theorem fsrc_setQueue (e r : Nat) (l : List QEntry) (j : Nat) : (s.setQueue e r l).fsrc j = s.fsrc j := rfl
@[simp] theorem bob_setQueue (e r : Nat) (l : List QEntry) (j : Nat) : (s.setQueue e r l).bob j = s.bob j := rfl
@[simp] theorem flashByte_setQueue (e r : Nat) (l : List QEntry) (j : Nat) : (s.setQueue e r l).flashByte j = s.flashByte j := rfl
@[simp] theorem frame_setQueue (e r : Nat) (l : List QEntry) (j : Nat) : (s.setQueue e r l).frame j = s.frame j := rfl
@[simp] theorem cur_setQueue (e r : Nat) (l : List QEntry) (e' : Nat) : (s.setQueue e r l).cur e' = s.cur e' := rfl

/-! ### setCur -/

@[simp] theorem setCur_pending (e : Nat) (x : Option Sending) : (s.setCur e x).pending = s.pending := rfl
@[simp] theorem setCur_now (e : Nat) (x : Option Sending) : (s.setCur e x).now = s.now := rfl
@[simp] theorem setCur_time (e : Nat) (x : Option Sending) : (s.setCur e x).time = s.time := rfl
@[simp] theorem setCur_setPend (e : Nat) (x : Option Sending) : (s.setCur e x).setPend = s.setPend := rfl
@[simp] theorem setCur_stepPend (e : Nat) (x : Option Sending) : (s.setCur e x).stepPend = s.stepPend := rfl
@[simp] theorem setCur_free (e : Nat) (x : Option Sending) : (s.setCur e x).free = s.free := rfl
@[simp] theorem setCur_regs (e : Nat) (x : Option Sending) : (s.setCur e x).regs = s.regs := rfl
@[simp] theorem setCur_perReq (e : Nat) (x : Option Sending) : (s.setCur e x).perReq = s.perReq := rfl
@[simp] theorem setCur_guard (e : Nat) (x : Option Sending) : (s.setCur e x).guard = s.guard := rfl
@[simp] theorem setCur_shadow (e : Nat) (x : Option Sending) : (s.setCur e x).shadow = s.shadow := rfl
@[simp] theorem setCur_reply (e : Nat) (x : Option Sending) : (s.setCur e x).reply = s.reply := rfl
@[simp] theorem setCur_waitQ (e : Nat) (x : Option Sending) : (s.setCur e x).waitQ = s.waitQ := rfl
@[simp] theorem setCur_inband (e : Nat) (x : Option Sending) : (s.setCur e x).inband = s.inband := rfl
@[simp] theorem setCur_nextReply (e : Nat) (x : Option Sending) : (s.setCur e x).nextReply = s.nextReply := rfl
@[simp] theorem setCur_badpar (e : Nat) (x : Option Sending) : (s.setCur e x).badpar = s.badpar := rfl
@[simp] theorem setCur_bobbin (e : Nat) (x : Option Sending) : (s.setCur e x).bobbin = s.bobbin := rfl
@[simp] theorem setCur_bobFree (e : Nat) (x : Option Sending) : (s.setCur e x).bobFree = s.bobFree := rfl
@[simp] theorem setCur_flash (e : Nat) (x : Option Sending) : (s.setCur e x).flash = s.flash := rfl
@[simp] theorem setCur_fuses (e : Nat) (x : Option Sending) : (s.setCur e x).fuses = s.fuses := rfl
@[simp] theorem setCur_csp1 (e : Nat) (x : Option Sending) : (s.setCur e x).csp1 = s.csp1 := rfl
@[simp] theorem setCur_boot (e : Nat) (x : Option Sending) : (s.setCur e x).boot = s.boot := rfl
@[simp] theorem setCur_ports (e : Nat) (x : Option Sending) : (s.setCur e x).ports = s.ports := rfl
@[simp] theorem setCur_lgs (e : Nat) (x : Option Sending) : (s.setCur e x).lgs = s.lgs := rfl
@[simp] theorem setCur_spns (e : Nat) (x : Option Sending) : (s.setCur e x).spns = s.spns := rfl
@[simp] theorem setCur_lanes (e : Nat) (x : Option Sending) : (s.setCur e x).lanes = s.lanes := rfl
@[simp] theorem setCur_rt (e : Nat) (x : Option Sending) : (s.setCur e x).rt = s.rt := rfl
@[simp] theorem setCur_knots (e : Nat) (x : Option Sending) : (s.setCur e x).knots = s.knots := rfl
@[simp] theorem setCur_dst (e : Nat) (x : Option Sending) : (s.setCur e x).dst = s.dst := rfl
@[simp] theorem setCur_clk (e : Nat) (x : Option Sending) : (s.setCur e x).clk = s.clk := rfl
@[simp] theorem setCur_pwr (e : Nat) (x : Option Sending) : (s.setCur e x).pwr = s.pwr := rfl
@[simp] theorem setCur_flt (e : Nat) (x : Option Sending) : (s.setCur e x).flt = s.flt := rfl
@[simp] theorem setCur_bist (e : Nat) (x : Option Sending) : (s.setCur e x).bist = s.bist := rfl
@[simp] theorem setCur_pins (e : Nat) (x : Option Sending) : (s.setCur e x).pins = s.pins := rfl
@[simp] theorem reg_setCur (e : Nat) (x : Option Sending) (b : Nat) : (s.setCur e x).reg b = s.reg b := rfl
@[simp] theorem port_setCur (e : Nat) (x : Option Sending) (q : Nat) : (s.setCur e x).port q = s.port q := rfl
@[simp] theorem lg_setCur (e : Nat) (x : Option Sending) (h : Nat) : (s.setCur e x).lg h = s.lg h := rfl
@[simp] theorem spn_setCur (e : Nat) (x : Option Sending) (m : Nat) : (s.setCur e x).spn m = s.spn m := rfl
@[simp] theorem lane_setCur (e : Nat) (x : Option Sending) (m : Nat) : (s.setCur e x).lane m = s.lane m := rfl
@[simp] theorem dom_setCur (e : Nat) (x : Option Sending) (e' : Nat) : (s.setCur e x).dom e' = s.dom e' := rfl
@[simp] theorem src_setCur (e : Nat) (x : Option Sending) (j : Nat) : (s.setCur e x).src j = s.src j := rfl
@[simp] theorem fsrc_setCur (e : Nat) (x : Option Sending) (j : Nat) : (s.setCur e x).fsrc j = s.fsrc j := rfl
@[simp] theorem bob_setCur (e : Nat) (x : Option Sending) (j : Nat) : (s.setCur e x).bob j = s.bob j := rfl
@[simp] theorem flashByte_setCur (e : Nat) (x : Option Sending) (j : Nat) : (s.setCur e x).flashByte j = s.flashByte j := rfl
@[simp] theorem frame_setCur (e : Nat) (x : Option Sending) (j : Nat) : (s.setCur e x).frame j = s.frame j := rfl
@[simp] theorem queue_setCur (e : Nat) (x : Option Sending) (e' q' : Nat) : (s.setCur e x).queue e' q' = s.queue e' q' := rfl

/-! ### Reads after writes -/

theorem reg_setReg (a b : Nat) (v : Word) : (s.setReg a v).reg b = if b = a then v else s.reg b :=
  Tab.get_set _ _ _ _ _
@[simp] theorem reg_setReg_same (a : Nat) (v : Word) : (s.setReg a v).reg a = v := by simp [reg_setReg]
theorem reg_setReg_other {a b : Nat} (v : Word) (h : b ≠ a) : (s.setReg a v).reg b = s.reg b := by simp [reg_setReg, h]
theorem port_setPort (p q : Nat) (x : Port) : (s.setPort p x).port q = if q = p then x else s.port q :=
  Tab.get_set _ _ _ _ _
@[simp] theorem port_setPort_same (p : Nat) (x : Port) : (s.setPort p x).port p = x := by simp [port_setPort]
theorem port_setPort_other {p q : Nat} (x : Port) (h : q ≠ p) : (s.setPort p x).port q = s.port q := by simp [port_setPort, h]
theorem lg_setLg (g k : Nat) (x : LineGroup) : (s.setLg g x).lg k = if k = g then x else s.lg k :=
  Tab.get_set _ _ _ _ _
@[simp] theorem lg_setLg_same (g : Nat) (x : LineGroup) : (s.setLg g x).lg g = x := by simp [lg_setLg]
theorem lg_setLg_other {g k : Nat} (x : LineGroup) (h : k ≠ g) : (s.setLg g x).lg k = s.lg k := by simp [lg_setLg, h]
theorem spn_setSpn (n m : Nat) (x : Spindle) : (s.setSpn n x).spn m = if m = n then x else s.spn m :=
  Tab.get_set _ _ _ _ _
@[simp] theorem spn_setSpn_same (n : Nat) (x : Spindle) : (s.setSpn n x).spn n = x := by simp [spn_setSpn]
theorem spn_setSpn_other {n m : Nat} (x : Spindle) (h : m ≠ n) : (s.setSpn n x).spn m = s.spn m := by simp [spn_setSpn, h]
theorem lane_setLane (n m : Nat) (x : Lane) : (s.setLane n x).lane m = if m = n then x else s.lane m :=
  Tab.get_set _ _ _ _ _
@[simp] theorem lane_setLane_same (n : Nat) (x : Lane) : (s.setLane n x).lane n = x := by simp [lane_setLane]
theorem lane_setLane_other {n m : Nat} (x : Lane) (h : m ≠ n) : (s.setLane n x).lane m = s.lane m := by simp [lane_setLane, h]
theorem dom_setDom (d e : Nat) (x : Dom) : (s.setDom d x).dom e = if e = d then x else s.dom e :=
  Tab.get_set _ _ _ _ _
@[simp] theorem dom_setDom_same (d : Nat) (x : Dom) : (s.setDom d x).dom d = x := by simp [dom_setDom]
theorem dom_setDom_other {d e : Nat} (x : Dom) (h : e ≠ d) : (s.setDom d x).dom e = s.dom e := by simp [dom_setDom, h]
theorem src_setSrc (k j : Nat) (x : ClkSrc) : (s.setSrc k x).src j = if j = k then x else s.src j :=
  Tab.get_set _ _ _ _ _
@[simp] theorem src_setSrc_same (k : Nat) (x : ClkSrc) : (s.setSrc k x).src k = x := by simp [src_setSrc]
theorem src_setSrc_other {k j : Nat} (x : ClkSrc) (h : j ≠ k) : (s.setSrc k x).src j = s.src j := by simp [src_setSrc, h]
theorem fsrc_setFsrc (k j : Nat) (x : FSrc) : (s.setFsrc k x).fsrc j = if j = k then x else s.fsrc j :=
  Tab.get_set _ _ _ _ _
@[simp] theorem fsrc_setFsrc_same (k : Nat) (x : FSrc) : (s.setFsrc k x).fsrc k = x := by simp [fsrc_setFsrc]
theorem fsrc_setFsrc_other {k j : Nat} (x : FSrc) (h : j ≠ k) : (s.setFsrc k x).fsrc j = s.fsrc j := by simp [fsrc_setFsrc, h]
/-- What the ranges without the words from a to b − 1 hold. -/
theorem freeAt_cut (a b j : Nat) (l : List FreeRange) :
    freeAt (cutRanges a b l) j = if a ≤ j ∧ j < b then none else freeAt l j := by
  induction l with
  | nil => simp [cutRanges, freeAt]
  | cons r t ih =>
    simp only [cutRanges, freeAt]
    repeat' split
    all_goals simp only [List.cons_append, List.nil_append, freeAt, ih]
    all_goals repeat' split
    all_goals first | rfl | (exfalso; omega) | (congr 1; omega)
theorem bob_setBob (k j : Nat) (v : Word) : (s.setBob k v).bob j = if j = k then v else s.bob j := by
  have h : (k ≤ j ∧ j < k + 1) ↔ j = k := by omega
  simp only [State.bob, State.setBob, freeAt_cut, Tab.get_set, h]
  by_cases e : j = k
  · simp [e]
  · simp only [e, if_false]
/-- A word inside a range that the device wrote with what no rule gives is one value that nothing constrains; every other word stays. -/
theorem bob_freshBob (lo n j : Nat) :
    (s.freshBob lo n).bob j = if lo ≤ j ∧ j < lo + n then Config.freeWord (s.free + (j - lo)) else s.bob j := by
  simp only [State.bob, State.freshBob, State.dropBob, freeAt, freeAt_cut, Tab.get_keep]
  by_cases e : lo ≤ j ∧ j < lo + n
  · simp [e]
  · have h : (decide (j < lo) || decide (lo + n ≤ j)) = true := by simp only [Bool.or_eq_true, decide_eq_true_eq]; omega
    simp only [e, h, if_false, if_true]
@[simp] theorem bob_setBob_same (k : Nat) (v : Word) : (s.setBob k v).bob k = v := by simp [bob_setBob]
theorem bob_setBob_other {k j : Nat} (v : Word) (h : j ≠ k) : (s.setBob k v).bob j = s.bob j := by simp [bob_setBob, h]
theorem flashByte_setFlashByte (k j : Nat) (b : Byte) : (s.setFlashByte k b).flashByte j = if j = k then b else s.flashByte j :=
  Tab.get_set _ _ _ _ _
@[simp] theorem flashByte_setFlashByte_same (k : Nat) (b : Byte) : (s.setFlashByte k b).flashByte k = b := by simp [flashByte_setFlashByte]
theorem flashByte_setFlashByte_other {k j : Nat} (b : Byte) (h : j ≠ k) : (s.setFlashByte k b).flashByte j = s.flashByte j := by simp [flashByte_setFlashByte, h]
theorem frame_setFrame (k j : Nat) (x : Option Stored) : (s.setFrame k x).frame j = if j = k then x else s.frame j :=
  Tab.get_set _ _ _ _ _
@[simp] theorem frame_setFrame_same (k : Nat) (x : Option Stored) : (s.setFrame k x).frame k = x := by simp [frame_setFrame]
theorem frame_setFrame_other {k j : Nat} (x : Option Stored) (h : j ≠ k) : (s.setFrame k x).frame j = s.frame j := by simp [frame_setFrame, h]
theorem cur_setCur (e j : Nat) (x : Option Sending) : (s.setCur e x).cur j = if j = e then x else s.cur j :=
  Tab.get_set _ _ _ _ _
@[simp] theorem cur_setCur_same (e : Nat) (x : Option Sending) : (s.setCur e x).cur e = x := by simp [cur_setCur]
theorem cur_setCur_other {e j : Nat} (x : Option Sending) (h : j ≠ e) : (s.setCur e x).cur j = s.cur j := by simp [cur_setCur, h]

/-! ### The updates that are one of these -/

theorem setRf_eq (a hi lo v : Nat) : s.setRf a hi lo v = s.setReg a (putFld (s.reg a) hi lo v) := rfl
theorem setRb_eq (a i : Nat) (b : Bool) : s.setRb a i b = s.setReg a (putFld (s.reg a) i i (bnat b)) := rfl
theorem bump_eq (a : Nat) : s.bump a = s.setReg a (s.reg a + 1) := rfl
theorem addCnt_eq (a n : Nat) : s.addCnt a n = s.setReg a (s.reg a + BitVec.ofNat 48 n) := rfl
theorem updPort_eq (p : Nat) (f : Port → Port) : s.updPort p f = s.setPort p (f (s.port p)) := rfl
theorem updLg_eq (g : Nat) (f : LineGroup → LineGroup) : s.updLg g f = s.setLg g (f (s.lg g)) := rfl
theorem updSpn_eq (n : Nat) (f : Spindle → Spindle) : s.updSpn n f = s.setSpn n (f (s.spn n)) := rfl
theorem updLane_eq (n : Nat) (f : Lane → Lane) : s.updLane n f = s.setLane n (f (s.lane n)) := rfl
theorem updDom_eq (d : Nat) (f : Dom → Dom) : s.updDom d f = s.setDom d (f (s.dom d)) := rfl
theorem updSrc_eq (k : Nat) (f : ClkSrc → ClkSrc) : s.updSrc k f = s.setSrc k (f (s.src k)) := rfl

/-! ### forAll -/

/-- What every step of forAll keeps, forAll keeps. -/
theorem forAll_keeps {α σ : Type} (P : σ → Prop) (f : σ → α → σ) (h : ∀ s a, P s → P (f s a)) :
    ∀ (l : List α) (s : σ), P s → P (forAll f l s)
  | [], _, hs => hs
  | a :: t, s, hs => forAll_keeps P f h t (f s a) (h s a hs)

/-- A reading of the state that no step of forAll changes. -/
theorem forAll_frame {α σ β : Type} (g : σ → β) (f : σ → α → σ) (h : ∀ s a, g (f s a) = g s) (l : List α) (s : σ) :
    g (forAll f l s) = g s :=
  forAll_keeps (fun t => g t = g s) f (fun t a ht => (h t a).trans ht) l s rfl

end Sys2Proof.Machine
end

