-- ==== Sys2Proof/Laws/Access.lean ====
section
/-! SUPPORT. Laws of register accesses: what a requester that can reach a word makes of it, in one step (R37, R40). -/

namespace Sys2Proof.Machine

/-- A domain that is on and not changing lets a request go and is asked nothing. -/
theorem gate_on {s : State} {d : Nat} (h : s.domOn d = true) : s.gate d = .go := by
  simp only [State.domOn, Bool.and_eq_true, decide_eq_true_eq, Bool.not_eq_true'] at h
  simp [State.gate, h.1.1.1, h.1.1.2, h.1.2, h.2]

theorem refuseEntryAt_on {s : State} {d : Nat} (u : Nat) (h : s.domOn d = true) : s.refuseEntryAt d u = s := by
  simp only [State.domOn, Bool.and_eq_true, decide_eq_true_eq, Bool.not_eq_true'] at h
  simp [State.refuseEntryAt, h.1.1.2]

theorem refuseEntry_on {s : State} {d : Nat} (h : s.domOn d = true) : s.refuseEntry d = s := refuseEntryAt_on 0 h

/-- An access to an assigned word of a domain that is on, or of none, is performed at once. -/
theorem attempt_on {s : State} {w : Waiting} (hw : w.write = true → w.addr < 0x1000000 → w.may = true)
    (hm : unmapped w = false) (hf : isFlashWin w.addr = false) (hd : ∀ d, domainOf w.addr = some d → s.domOn d = true) :
    s.attempt w = (some ((s.perform w).1, (s.perform w).2.1), (s.perform w).2.2) := by
  unfold State.attempt
  have h1 : ¬(w.write = true ∧ w.addr < 0x1000000 ∧ w.may = false) := by
    rintro ⟨a, b, c⟩; rw [hw a b] at c; cases c
  simp only [h1, if_false, hm, hf]
  cases e : domainOf w.addr with
  | none => simp
  | some d => simp [gate_on (hd d e), refuseEntryAt_on _ (hd d e)]

theorem access_go {s t : State} {w : Waiting} {st : Nat} {d : Word} (hp : s.present w.req = true) (hf : s.firstOf w.req = none)
    (ha : s.attempt { w with may := s.mayWrite w.req w.addr } = (some (st, d), t)) : s.access w = t.deliver w.req w.sink st w.addr d (!w.write) := by
  simp [State.access, hp, hf, ha]

/-- A write that its requester can make of an assigned register word: the word's own write, and its status as the reply. -/
theorem writeReg_eq {s : State} {r : Requester} {a : Nat} (v : Word) (h : CanWrite s r a) (hb : a < 0x1000000) (hm : RegMap.at a ≠ none) :
    s.writeReg r a v = (s.writeWord (reqNo r) a v).2.setReply (reqNo r) (s.writeWord (reqNo r) a v).1 a 0 := by
  have hu : unmapped { req := reqNo r, write := true, addr := a, data := v, sink := .bare } = false := by
    cases e : RegMap.at a with
    | none => exact absurd e hm
    | some x => simp [unmapped, isBobbin, isFlashWin, e]; omega
  have hf : isFlashWin a = false := by simp [isFlashWin]; omega
  have := attempt_on (s := s) (w := { req := reqNo r, write := true, addr := a, data := v, sink := .bare, may := s.mayWrite (reqNo r) a })
    (fun _ _ => h.2) hu hf h.1.2.2
  rw [State.writeReg, access_go (w := { req := reqNo r, write := true, addr := a, data := v, sink := .bare }) h.1.1 h.1.2.1 this]
  simp [State.deliver, State.perform]

/-- A read that its requester can make of an assigned register word. -/
theorem readReg_eq {s : State} {r : Requester} {a : Nat} (h : CanReach s r a) (hb : a < 0x1000000) (hm : RegMap.at a ≠ none) :
    s.readReg r a = (s.readWord (reqNo r) a).2.2.setReply (reqNo r) (s.readWord (reqNo r) a).1 a (s.readWord (reqNo r) a).2.1 := by
  have hu : unmapped { req := reqNo r, write := false, addr := a, data := 0, sink := .bare } = false := by
    cases e : RegMap.at a with
    | none => exact absurd e hm
    | some x => simp [unmapped, isBobbin, isFlashWin, e]
  have hf : isFlashWin a = false := by simp [isFlashWin]; omega
  have := attempt_on (s := s) (w := { req := reqNo r, write := false, addr := a, data := 0, sink := .bare, may := s.mayWrite (reqNo r) a })
    (fun e _ => by cases e) hu hf h.2.2
  rw [State.readReg, access_go (w := { req := reqNo r, write := false, addr := a, data := 0, sink := .bare }) h.1 h.2.1 this]
  simp [State.deliver, State.perform]

/-- A write that its requester can make of a bobbin word. -/
theorem writeReg_bobbin {s : State} {r : Requester} {a : Nat} (v : Word) (h : CanWrite s r a) (hl : 0x1000000 ≤ a) (hb : a < 0x1800000) :
    s.writeReg r a v = (s.setBob (a - 0x1000000) v).setReply (reqNo r) 0 a 0 := by
  have hi : isBobbin a = true := by simp [isBobbin, hl, hb]
  have hf : isFlashWin a = false := by simp [isFlashWin]; omega
  have := attempt_on (s := s) (w := { req := reqNo r, write := true, addr := a, data := v, sink := .bare, may := s.mayWrite (reqNo r) a })
    (fun _ _ => h.2) (by simp [unmapped, hi]) hf h.1.2.2
  rw [State.writeReg, access_go (w := { req := reqNo r, write := true, addr := a, data := v, sink := .bare }) h.1.1 h.1.2.1 this]
  simp [State.deliver, State.perform, State.writeWord, hi, stOK]

/-- The reply just set, and every other requester's. -/
theorem getReply_setReply (s : State) (r q st a : Nat) (d : Word) :
    (s.setReply r st a d).getReply q = if q = r then { status := st, addr := a, data := d } else s.getReply q :=
  Tab.get_set _ _ _ _ _

end Sys2Proof.Machine
end

