-- ==== Sys2Proof/Laws/Fields.lean ====
section
/-! SUPPORT. Laws of bit fields: a field just written, and a field beside it. -/

namespace Sys2Proof.Machine

theorem mul_pow_mod (x k n : Nat) : x * 2 ^ (k + n) / 2 ^ k = x * 2 ^ n := by
  rw [Nat.pow_add, Nat.mul_comm (2 ^ k), ← Nat.mul_assoc, Nat.mul_div_cancel _ (Nat.two_pow_pos k)]

/-- The bits of a word whose field is replaced, without the wrap to 48 bits. -/
theorem toNat_putFld (w : Word) (hi lo v : Nat) (h : hi < 48) (hl : lo ≤ hi) :
    (putFld w hi lo v).toNat = w.toNat / 2 ^ (hi + 1) * 2 ^ (hi + 1) + v % 2 ^ (hi + 1 - lo) * 2 ^ lo + w.toNat % 2 ^ lo := by
  simp only [putFld, BitVec.toNat_ofNat]
  apply Nat.mod_eq_of_lt
  have hw : w.toNat < 2 ^ 48 := w.isLt
  have h1 : v % 2 ^ (hi + 1 - lo) < 2 ^ (hi + 1 - lo) := Nat.mod_lt _ (Nat.two_pow_pos _)
  have h2 : w.toNat % 2 ^ lo < 2 ^ lo := Nat.mod_lt _ (Nat.two_pow_pos _)
  have e1 : 2 ^ (hi + 1) = 2 ^ (hi + 1 - lo) * 2 ^ lo := by rw [← Nat.pow_add]; congr 1; omega
  have e2 : (2 : Nat) ^ 48 = 2 ^ (48 - (hi + 1)) * 2 ^ (hi + 1) := by rw [← Nat.pow_add]; congr 1; omega
  have h3 : w.toNat / 2 ^ (hi + 1) < 2 ^ (48 - (hi + 1)) := by
    apply Nat.div_lt_of_lt_mul; rw [Nat.mul_comm, ← e2]; exact hw
  have h4 : v % 2 ^ (hi + 1 - lo) * 2 ^ lo + w.toNat % 2 ^ lo < 2 ^ (hi + 1) := by
    rw [e1]
    calc v % 2 ^ (hi + 1 - lo) * 2 ^ lo + w.toNat % 2 ^ lo
        < v % 2 ^ (hi + 1 - lo) * 2 ^ lo + 2 ^ lo := by omega
      _ = (v % 2 ^ (hi + 1 - lo) + 1) * 2 ^ lo := by rw [Nat.add_mul, Nat.one_mul]
      _ ≤ 2 ^ (hi + 1 - lo) * 2 ^ lo := Nat.mul_le_mul_right _ h1
  calc w.toNat / 2 ^ (hi + 1) * 2 ^ (hi + 1) + v % 2 ^ (hi + 1 - lo) * 2 ^ lo + w.toNat % 2 ^ lo
      < w.toNat / 2 ^ (hi + 1) * 2 ^ (hi + 1) + 2 ^ (hi + 1) := by omega
    _ = (w.toNat / 2 ^ (hi + 1) + 1) * 2 ^ (hi + 1) := by rw [Nat.add_mul, Nat.one_mul]
    _ ≤ 2 ^ (48 - (hi + 1)) * 2 ^ (hi + 1) := Nat.mul_le_mul_right _ h3
    _ = 2 ^ 48 := e2.symm

/-- Every bit of a word whose field is replaced. -/
theorem testBit_putFld (w : Word) (hi lo v i : Nat) (h : hi < 48) (hl : lo ≤ hi) :
    (putFld w hi lo v).toNat.testBit i = if lo ≤ i ∧ i ≤ hi then v.testBit (i - lo) else w.toNat.testBit i := by
  rw [toNat_putFld w hi lo v h hl]
  have h2 : w.toNat % 2 ^ lo < 2 ^ lo := Nat.mod_lt _ (Nat.two_pow_pos _)
  have e1 : 2 ^ (hi + 1) = 2 ^ (hi + 1 - lo) * 2 ^ lo := by rw [← Nat.pow_add]; congr 1; omega
  have e : w.toNat / 2 ^ (hi + 1) * 2 ^ (hi + 1) + v % 2 ^ (hi + 1 - lo) * 2 ^ lo + w.toNat % 2 ^ lo =
      2 ^ lo * (2 ^ (hi + 1 - lo) * (w.toNat / 2 ^ (hi + 1)) + v % 2 ^ (hi + 1 - lo)) + w.toNat % 2 ^ lo := by
    rw [e1]; ring
  rw [e, Nat.testBit_two_pow_mul_add _ h2]
  split
  · rename_i hi'
    rw [if_neg (by omega), Nat.testBit_mod_two_pow]; simp [hi']
  · rename_i hlo
    rw [Nat.testBit_two_pow_mul_add _ (Nat.mod_lt _ (Nat.two_pow_pos _))]
    split
    · rw [if_pos (by omega), Nat.testBit_mod_two_pow]; simp; intro; omega
    · rw [if_neg (by omega), Nat.testBit_div_two_pow]; congr 1; omega

theorem testBit_fld (w : Word) (hi lo i : Nat) : (fld w hi lo).testBit i = (decide (i < hi + 1 - lo) && w.toNat.testBit (i + lo)) := by
  simp only [fld, Nat.testBit_mod_two_pow, Nat.testBit_div_two_pow]

/-- A field just written. -/
theorem fld_putFld (w : Word) (hi lo v : Nat) (h : hi < 48) (hl : lo ≤ hi) :
    fld (putFld w hi lo v) hi lo = v % 2 ^ (hi + 1 - lo) := by
  apply Nat.eq_of_testBit_eq
  intro i
  rw [testBit_fld, testBit_putFld w hi lo v (i + lo) h hl, Nat.testBit_mod_two_pow]
  by_cases hi' : i < hi + 1 - lo
  · simp only [hi', decide_true, Bool.true_and]; rw [if_pos (by omega)]; congr 1; omega
  · simp [hi']

/-- A field beside the one written. -/
theorem fld_putFld_other (w : Word) (hi lo v hi' lo' : Nat) (h : hi < 48) (hl : lo ≤ hi) (hd : hi < lo' ∨ hi' < lo) :
    fld (putFld w hi lo v) hi' lo' = fld w hi' lo' := by
  apply Nat.eq_of_testBit_eq
  intro i
  rw [testBit_fld, testBit_fld, testBit_putFld w hi lo v (i + lo') h hl]
  by_cases hi'' : i < hi' + 1 - lo'
  · rw [if_neg (by omega)]
  · simp [hi'']

theorem bitOf_eq (w : Word) (i : Nat) : bitOf w i = w.toNat.testBit i := by
  simp only [bitOf, Nat.testBit_eq_decide_div_mod_eq]

/-- A bit of a word whose field is replaced. -/
theorem bitOf_putFld (w : Word) (hi lo v i : Nat) (h : hi < 48) (hl : lo ≤ hi) :
    bitOf (putFld w hi lo v) i = if lo ≤ i ∧ i ≤ hi then v.testBit (i - lo) else bitOf w i := by
  rw [bitOf_eq, bitOf_eq, testBit_putFld w hi lo v i h hl]

@[simp] theorem testBit_bnat (b : Bool) : (bnat b).testBit 0 = b := by cases b <;> rfl

end Sys2Proof.Machine
end

