-- ==== Sys2Proof/Laws/Fill.lean ====
section
/-! SUPPORT. Laws of a filled range of a sparse table: what it reads, and that it keeps the canonical form. -/

namespace Sys2Proof.Machine

variable {α : Type}

theorem get_append (d : Nat → α) (a b : Tab α) (k : Nat) :
    Tab.get d (a ++ b) k = if a.any (fun x => decide (x.1 = k)) then Tab.get d a k else Tab.get d b k := by
  induction a with
  | nil => simp
  | cons x a ih =>
    obtain ⟨j, w⟩ := x
    by_cases h : j = k
    · simp [Tab.get, h]
    · have hd : decide (j = k) = false := decide_eq_false h
      rw [List.any_cons, hd, Bool.false_or]
      simp only [List.cons_append, Tab.get, if_neg h]
      exact ih

theorem wfFrom_append [DecidableEq α] (d : Nat → α) (a b : Tab α) (m : Nat) (hb : Tab.wfFrom d m b = true) :
    ∀ lo, lo ≤ m → Tab.wfFrom d lo a = true → (∀ x ∈ a, x.1 < m) → Tab.wfFrom d lo (a ++ b) = true := by
  induction a with
  | nil => intro lo h _ _; exact Tab.wfFrom_mono d h hb
  | cons x a ih =>
    obtain ⟨j, w⟩ := x
    intro lo _ hw hm
    simp only [Tab.wfFrom, List.cons_append, Bool.and_eq_true] at hw ⊢
    have hj : j < m := hm (j, w) (by simp)
    exact ⟨hw.1, ih (j + 1) (by omega) hw.2 (fun x hx => hm x (by simp [hx]))⟩

theorem keep_mem (p : Nat → Bool) (t : Tab α) : ∀ x ∈ Tab.keep p t, p x.1 = true := by
  induction t with
  | nil => simp [Tab.keep]
  | cons y t ih =>
    obtain ⟨j, w⟩ := y
    intro x hx
    simp only [Tab.keep] at hx
    by_cases h : p j
    · simp only [h, if_true, List.mem_cons] at hx
      obtain rfl | hx := hx
      · exact h
      · exact ih x hx
    · simp only [h] at hx; exact ih x hx

theorem wfFrom_keep_above [DecidableEq α] (d : Nat → α) (m : Nat) (t : Tab α) :
    ∀ lo, Tab.wfFrom d lo t = true → Tab.wfFrom d m (Tab.keep (fun j => decide (m ≤ j)) t) = true := by
  induction t with
  | nil => intro lo _; simp [Tab.keep, Tab.wfFrom]
  | cons y t ih =>
    obtain ⟨j, w⟩ := y
    intro lo h
    simp only [Tab.wfFrom, Bool.and_eq_true, decide_eq_true_eq] at h
    simp only [Tab.keep]
    by_cases hm : m ≤ j
    · simp only [hm, decide_true, if_true, Tab.wfFrom, Bool.and_eq_true]
      exact ⟨⟨trivial, h.1.2⟩, Tab.wfFrom_keep d _ t _ h.2⟩
    · simp only [hm, decide_false]
      exact ih _ h.2

theorem fillFrom_bounds [DecidableEq α] (d f : Nat → α) (n : Nat) :
    ∀ lo, Tab.wfFrom d lo (fillFrom d f lo n) = true ∧ ∀ x ∈ fillFrom d f lo n, x.1 < lo + n := by
  induction n with
  | zero => intro lo; simp [fillFrom, Tab.wfFrom]
  | succ n ih =>
    intro lo
    have h := ih (lo + 1)
    simp only [fillFrom]
    split
    · exact ⟨Tab.wfFrom_mono d (by omega) h.1, fun x hx => by have := h.2 x hx; omega⟩
    · rename_i hd
      refine ⟨?_, ?_⟩
      · simp only [Tab.wfFrom, Bool.and_eq_true, Bool.not_eq_true', decide_eq_false_iff_not, decide_eq_true_eq]
        exact ⟨⟨Nat.le_refl _, hd⟩, h.1⟩
      · intro x hx
        rw [List.mem_cons] at hx
        obtain rfl | hx := hx
        · show lo < lo + (n + 1); omega
        · have := h.2 x hx; omega

/-- Filling a range keeps the canonical form. -/
theorem wf_fillTab [DecidableEq α] (d : Nat → α) (t : Tab α) (lo n : Nat) (f : Nat → α) (h : Tab.wf d t = true) :
    Tab.wf d (fillTab d t lo n f) = true := by
  have hb := fillFrom_bounds d f n lo
  have hc := wfFrom_keep_above d (lo + n) t 0 h
  have hm := wfFrom_append d (fillFrom d f lo n) _ (lo + n) hc lo (by omega) hb.1 hb.2
  exact wfFrom_append d _ _ lo hm 0 (Nat.zero_le _) (Tab.wfFrom_keep d _ t 0 h)
    (fun x hx => by simpa using keep_mem (fun j => decide (j < lo)) t x hx)

end Sys2Proof.Machine
end

