-- ==== Sys2Proof/Laws/Issue.lean ====
section
/-! SUPPORT. What the issue of an instruction does: the one lemma per outcome that the statements about spindles rest on. -/

namespace Sys2Proof.Machine

/-- The opcode of an instruction word. -/
theorem fld_opcode (opc : Nat) (w : BitVec 40) (h : opc < 256) : fld (BitVec.ofNat 48 (opc * 2 ^ 40 + w.toNat)) 47 40 = opc := by
  have hw := w.isLt
  simp only [fld, BitVec.toNat_ofNat]
  omega

theorem spn_flashTouch (s : State) (k m : Nat) : (s.flashTouch k).spn m = s.spn m := rfl

theorem spn_fetched (s : State) (pc m : Nat) : (s.fetched pc).spn m = s.spn m := by
  unfold State.fetched
  split
  · exact spn_flashTouch s _ m
  · rfl

/-- fetched reads and writes nothing of the spindles. -/
theorem fetched_withSpns (s : State) (pc : Nat) (l : Tab Spindle) : (withSpns s l).fetched pc = withSpns (s.fetched pc) l := by
  unfold State.fetched
  by_cases h : 0x2000 ≤ pc ∧ s.flashHas (pc - 0x2000) = true
  · rw [if_pos h]; exact if_pos h
  · rw [if_neg h]; exact if_neg h

theorem setSpn_eq (s : State) (n : Nat) (x : Spindle) : s.setSpn n x = withSpns s (Tab.set Spindle.reset s.spns n x) := rfl

theorem withSpns_self (s : State) (l m : Tab Spindle) : withSpns (withSpns s l) m = withSpns s m := rfl

theorem withSpns_spns (s : State) (l : Tab Spindle) : (withSpns s l).spns = l := rfl

/-- An instruction that nothing holds does what it does. -/
theorem issue_eq {s : State} {n opc : Nat} {w : BitVec 40} {c ahead : Bool} {regs : List Nat} (act : State → Act)
    (h : Issues s n opc w c ahead regs) (hl : opcodeListed opc = true) (ho : opc < 256) :
    s.issue n opc w true regs ahead act =
      (if c then s.bump (Reg.SPN_ECCCOR n) else s).apply n (act (if c then s.bump (Reg.SPN_ECCCOR n) else s)) := by
  obtain ⟨⟨h1, h2, h3, h4⟩, h5, h6⟩ := h
  have h7 : regs.any (s.spn n).pendingReg = false := by
    simp only [List.any_eq_false]; intro r hr; simp [h6 r hr]
  simp only [State.issue, h1, h2, h3, h4, fld_opcode opc w ho, hl, h5, h7]
  simp

/-- The same for an instruction whose must-be-zero bits are not zero: ILLEGAL (R202, R221). -/
theorem issue_illegal {s : State} {n opc : Nat} {w : BitVec 40} {c ahead : Bool} {regs : List Nat} (act : State → Act)
    (h : Fetches s n opc w c) (hl : opcodeListed opc = true) (ho : opc < 256) :
    s.issue n opc w false regs ahead act = (if c then s.bump (Reg.SPN_ECCCOR n) else s).apply n (.raise 1 opc) := by
  obtain ⟨h1, h2, h3, h4⟩ := h
  simp only [State.issue, h1, h2, h3, h4, fld_opcode opc w ho, hl]
  simp

theorem spn_corr (s : State) (n m : Nat) (c : Bool) : (if c then s.bump (Reg.SPN_ECCCOR n) else s).spn m = s.spn m := by
  cases c <;> rfl

/-- An effect on the spindle alone, then the next PC. -/
theorem apply_retire (s : State) (n : Nat) (c : Bool) (f : Spindle → Spindle) :
    Retires s n c ((f (s.spn n)).step ((f (s.spn n)).pc + 1))
      (.next ((if c then s.bump (Reg.SPN_ECCCOR n) else s).apply n
        (.retire ((if c then s.bump (Reg.SPN_ECCCOR n) else s).updSpn n f)))) := by
  refine ⟨_, rfl, ?_, ?_, ?_⟩
  · simp [State.apply, spn_fetched, updSpn_eq, spn_corr]
  · intro m hm
    simp [State.apply, spn_fetched, updSpn_eq, spn_corr, spn_setSpn, hm]
  · simp only [State.apply, spn_corr, fetchedState, State.updSpn, setSpn_eq, fetched_withSpns, withSpns_self, withSpns_spns]

/-- An effect on the spindle alone, and a PC of its own. -/
theorem apply_jump (s : State) (n : Nat) (c : Bool) (x : Spindle) (pc : Nat) :
    Retires s n c (x.step pc)
      (.next ((if c then s.bump (Reg.SPN_ECCCOR n) else s).apply n
        (.jump ((if c then s.bump (Reg.SPN_ECCCOR n) else s).setSpn n x) pc))) := by
  refine ⟨_, rfl, ?_, ?_, ?_⟩
  · simp [State.apply, spn_fetched, updSpn_eq]
  · intro m hm
    simp [State.apply, spn_fetched, updSpn_eq, spn_corr, spn_setSpn, hm]
  · simp only [State.apply, spn_corr, fetchedState, State.updSpn, setSpn_eq, fetched_withSpns, withSpns_self, withSpns_spns]

/-- Nothing but the PC. -/
theorem apply_pass (s : State) (n : Nat) (c : Bool) :
    Retires s n c ((s.spn n).step ((s.spn n).pc + 1))
      (.next ((if c then s.bump (Reg.SPN_ECCCOR n) else s).apply n (.retire (if c then s.bump (Reg.SPN_ECCCOR n) else s)))) := by
  refine ⟨_, rfl, ?_, ?_, ?_⟩
  · simp [State.apply, spn_fetched, updSpn_eq, spn_corr]
  · intro m hm
    simp [State.apply, spn_fetched, updSpn_eq, spn_corr, spn_setSpn, hm]
  · simp only [State.apply, spn_corr, fetchedState, State.updSpn, setSpn_eq, fetched_withSpns, withSpns_spns]

theorem setGr_pc (x : Spindle) (r : Nat) (v : Word) : (x.setGr r v).pc = x.pc := by
  simp only [Spindle.setGr]; split <;> rfl

end Sys2Proof.Machine
end

