-- ==== Sys2Proof/Laws/Shared.lean ====
section
/-! SUPPORT. Laws of operations that many commands share: raising a fault event (R361), a runtime command that is taken up (R233, R236). -/

namespace Sys2Proof.Machine

/-- All that raising an event can do: the collector changes, and at most one of its counters of repeats and losses. -/
theorem raise_cases (s : State) (src code info : Nat) :
    ∃ f, s.raise src code info = s.setFlt f ∨
      (∃ v, s.raise src code info = (s.setFlt f).setReg Reg.FLT_REPEATCNT v) ∨ ∃ v, s.raise src code info = (s.setFlt f).setReg Reg.FLT_INLOST v := by
  unfold State.raise
  by_cases hl : s.codeLocked code = true
  · rw [if_pos hl]
    split
    · exact ⟨_, .inr (.inl ⟨_, rfl⟩)⟩
    · split
      · exact ⟨_, .inl rfl⟩
      · exact ⟨_, .inl rfl⟩
  · rw [if_neg hl]
    split
    · exact ⟨_, .inl rfl⟩
    · split
      · exact ⟨_, .inr (.inr ⟨_, rfl⟩)⟩
      · exact ⟨_, .inr (.inr ⟨_, rfl⟩)⟩

/-- A reading that the collector's changes and register writes leave, raising an event leaves. -/
theorem raise_frame {β : Type} (g : State → β) (hf : ∀ s f, g (s.setFlt f) = g s) (hr : ∀ s a v, g (s.setReg a v) = g s)
    (s : State) (src code info : Nat) : g (s.raise src code info) = g s := by
  obtain ⟨f, h | ⟨v, h⟩ | ⟨v, h⟩⟩ := raise_cases s src code info <;> rw [h]
  · exact hf s f
  · rw [hr, hf]
  · rw [hr, hf]

/-- The registers that raising an event can change are its counters of repeats and losses. -/
theorem reg_raise (s : State) (src code info a : Nat) (h1 : a ≠ Reg.FLT_REPEATCNT) (h2 : a ≠ Reg.FLT_INLOST) :
    (s.raise src code info).reg a = s.reg a := by
  obtain ⟨f, h | ⟨v, h⟩ | ⟨v, h⟩⟩ := raise_cases s src code info <;> rw [h]
  · exact reg_setFlt s f a
  · rw [reg_setReg_other _ _ h1, reg_setFlt]
  · rw [reg_setReg_other _ _ h2, reg_setFlt]

/-- An event of a code that is not locked joins a queue that has room. -/
theorem raise_queued (s : State) (src code info : Nat) (h : s.flt.queue.length < 64) (hl : s.codeLocked code = false) :
    s.raise src code info = s.setFlt { s.flt with
      arrivals := s.flt.arrivals + 1
      queue := s.flt.queue ++ [{ src := src, code := code, info := info % 2 ^ 28, at_ := s.time, seq := s.flt.arrivals, ns := s.now }] } := by
  simp [State.raise, hl, State.setFlt, h]

/-- A command the runtime takes up does what its program says, from the state as it stands. -/
theorem runCmd_takesUp {s : State} {op id i : Nat} (f : Cmd → Bool → State → Prog × State) (h : TakesUp s op id i) :
    s.runCmd op id f =
      match (f (cmdOf s i) false s).1 with
      | .done st r => (f (cmdOf s i) false s).2.putCmd i
          { cmdOf s i with st := .finished st r ((f (cmdOf s i) false s).2.cmdGen (cmdOf s i)) }
      | .run => if (nth (cmdOf s i) (f (cmdOf s i) false s).2.rt.cmds i).live
          then (f (cmdOf s i) false s).2.putCmd i { cmdOf s i with st := .running, need := [] } else (f (cmdOf s i) false s).2
      | .wait ds => if (nth (cmdOf s i) (f (cmdOf s i) false s).2.rt.cmds i).live
          then (f (cmdOf s i) false s).2.putCmd i { cmdOf s i with need := ds } else (f (cmdOf s i) false s).2 := by
  obtain ⟨hu, hc, hw, hm, he⟩ := h
  have hn : ¬ (cmdOf s i).st = .running := by rw [hw]; decide
  have e : s.runCmd op id f =
      (let c := cmdOf s i
       let put := fun (x : Prog × State) =>
         match x.1 with
         | .done st r => x.2.putCmd i { c with st := .finished st r (x.2.cmdGen c) }
         | .run => if (nth c x.2.rt.cmds i).live then x.2.putCmd i { c with st := .running, need := [] } else x.2
         | .wait ds => if (nth c x.2.rt.cmds i).live then x.2.putCmd i { c with need := ds } else x.2
       if c.st = .running then put (f c true s)
       else if mayStart (s.rt.cmds.take i) c = false then s
       else if s.entryStatus c ≠ 0 then put (.done (s.entryStatus c) 0, s)
       else put (f c false s)) := by
    unfold State.runCmd
    rw [if_neg (by rw [hu]; decide)]
    simp only [hc]
    rfl
  rw [e]
  dsimp only
  rw [if_neg hn, if_neg (by rw [hm]; decide), if_neg (fun h => h he)]

/-- The position put, and every other one. -/
theorem nth_setNth {α : Type} (d v : α) (l : List α) (i j : Nat) (h : i < l.length) :
    nth d (setNth v l i) j = if j = i then v else nth d l j := by
  induction l generalizing i j with
  | nil => simp at h
  | cons x l ih =>
    cases i with
    | zero => cases j <;> simp [setNth, nth]
    | succ i =>
      cases j with
      | zero => simp [setNth, nth]
      | succ j => simpa [setNth, nth] using ih i j (by simpa using h)

end Sys2Proof.Machine
end

