-- ==== Sys2Proof/Tests/Slice0.lean ====
section
/-! SUPPORT. Tests. `test_…`: an ill-formed command for each check of WellFormed. `witness_<statement>`: for every clause of that obligation,
states and operands that meet all its hypotheses together. The states are changes to `up`, a block that runs with spindles 0, 1 and 9 in
service: `F` sets register fields, `P`, `J` and `LJ` change a port, a spindle and a lane, `S` and `M` set a port's state and mode, `C` gives
the runtime one command, `wov` makes spindle 9 fetch one instruction. -/

namespace Sys2Proof.Tests
open Sys2Proof Sys2Proof.Machine

/- One theorem at a time: checked side by side, the theorems below hold one thread each, and their stacks together pass the memory limit. -/
set_option Elab.async false

/-! ## Ill-formed commands -/

theorem test_csp1Frame_length : (Instr.csp1Frame { words := List.replicate 66 0 }).wellFormed = false := by decide
theorem test_anPage_open : (Instr.anPageReceive 3 { page := 0, common := 1 }).wellFormed = false := by decide
theorem test_cardingDone_discard : (Instr.cardingDone 3 65 []).wellFormed = false := by decide
theorem test_capabilitySet_length : (Instr.capabilitySetReceive 3 (List.replicate 8 0)).wellFormed = false := by decide
theorem test_creditSet_length : (Instr.creditSetReceive 3 (List.replicate 8 0)).wellFormed = false := by decide
theorem test_frameIngress_ident : (Instr.frameIngress { ident := 113, bytes := [] }).wellFormed = false := by decide
theorem test_wellFormed : (Instr.frameIngress { ident := 114, bytes := [] }).wellFormed = true := by decide

/-! ## States -/

def C (s : State) (c : Cmd) : State := { s with rt := { s.rt with cmds := [c] } }
def F (s : State) (l : List (Nat × Nat × Nat × Nat)) : State := l.foldl (fun s x => s.setRf x.1 x.2.1 x.2.2.1 x.2.2.2) s
def J (s : State) (n : Nat) (f : Spindle → Spindle) : State := s.updSpn n f
def LJ (s : State) (n : Nat) (f : Lane → Lane) : State := s.updLane n f
def M (s : State) (p m : Nat) : State := F s [(Reg.PORT_STATE p, 23, 20, m)]
def P (s : State) (p : Nat) (f : Port → Port) : State := s.updPort p f
def S (s : State) (p st : Nat) : State := F s [(Reg.PORT_STATE p, 31, 28, st)]
def b0 : ReplyBuf := { id := 3, seq := 1, left := 0, start := 77, addr := 77, burst := true }
def up : State := { boot := { phase := 3, win := some 0 }, spns := [(0, { mode := 0, run := .running }), (1, { run := .running }), (9, { run := .running })] }
def g : Guard := { addr := 0x15004, val := 5, since := 0 }
def sp0 (w : Word) : Spindle := { run := .running, pc := 0x200, imem := [(0x200, w)], g := [(3, 0x800000000005), (4, 0x123456789ABC), (5, 0xFFFFFFFFFFF9), (6, 0xFFFF0010), (7,0x200000)], v := (List.range 64).map (fun k => (k, BitVec.ofNat 48 (k*0x123456789F + 0x800001*k*k))), dmem := (List.range 40).map (fun k => (k, BitVec.ofNat 48 (k*7))) }
def wov (opc w : Nat) (f : Spindle → Spindle) : State := up.setSpn 9 (f (sp0 (BitVec.ofNat 48 (opc*2^40+w))))
def op2 (s : State) (n u : Nat) (o : TagOp) : State := s.updSpn n (fun x => { x with ops := (u, some o) :: x.ops.filter (fun y => y.1 ≠ u) })
def ck (opc : Nat) (p : Bool) : Ckpt := { opc := opc, ra := 4, rb := 5, taken := 0x300, next := 0x201, pred := p, at_ := 3, g := [(4, 77)], v := [(3,4)], status := [(2,3)], inst := 5, loads := [3,4] }
def bs (p : Bool) (o : Nat) : State := op2 (wov 0 0 (fun x => {x with ckpts := [ck o p, {ck o p with at_ := 9}], ops := [(1, some { kind := .ldb, ea := 5, seq := 1}), (2, some { kind := .ldb, ea := 5, seq := 4, spec := true})], issued := 6})) 9 3 { kind := .ldb, ea := 6, seq := 9, spec := true }
def bt (c u : Nat) (w e : Bool) : State := { up with bist := { up.bist with cur := some { cls := c, unit := u, ext := e, seq := 3, since := 0, waiting := w } } }
def bw (n k : Nat) : List Byte := (List.range k).map (fun i => BitVec.ofNat 8 (n / 256^(k-1-i)))
def capS (ver rate fl : Nat) : List Byte := let b := [BitVec.ofNat 8 1, BitVec.ofNat 8 ver, BitVec.ofNat 8 rate, BitVec.ofNat 8 fl, 0, 0]; b ++ [BitVec.ofNat 8 (crc8 b 0)]
def cm (op kind ix a0 : Nat) (w2 w3 : Word) (opt : Bool) : Cmd := { w0 := BitVec.ofNat 48 (op*2^40 + 2*2^36 + 5*2^16 + (if opt then 2 else 0)), w1 := BitVec.ofNat 48 (kind*2^44+ix*2^32+a0), w2 := w2, w3 := w3 }
def cmt (st left : Nat) : Commit := { slot := 1, step := st, left := left, buf := [1,2,3], seq := 0 }
def cs (c : Commit) (s : State) : State := { s with boot := { s.boot with commit := some c } }
def dm (d : Nat) (f : Dom → Dom) : State := (up.setBob 5 7#48).updDom d f
def ds (n : Nat) : State := let s := F up [(Reg.DST_STAT,47,45,n),(Reg.DST_EXPCFG,47,47,1),(Reg.DST_EXPCFG,46,32,96)]; { s with dst := { s.dst with hank := [5,6,7] } }
def dstS (n : Nat) : State := F (S up 3 3) [(Reg.DST_STAT,47,45,n),(Reg.DST_CH 1,47,47,1),(Reg.DST_CH 1,46,40,3),(Reg.DST_TRIGCFG,45,45,1),(Reg.PORT_STATE 3,19,19,1)]
def fe (en code sev src info : Nat) (s : State) : State := { F s [(Reg.FLT_CODECFG code,46,46,en),(Reg.FLT_CODECFG code,45,44,sev)] with flt := { s.flt with queue := [{src := src, code := code, info := info, at_ := 77, seq := 4}] } }
def fin (s : State) : State := C s { cm 2 0 0 0 0 0 false with st := .finished 3 0x123456 9 }
def frm (n : Nat) : List Byte := withFcs ((List.range n).map (fun k => BitVec.ofNat 8 (k*7+3)))
def glr (s : State) (l : Nat) : State := F s [(glAdmin l,7,0,5),(glAdmin l,39,8,1000)]
def idS : Spindle → Spindle := fun x => x
def gT : TagOp := { kind := .gsw, ea := 3*2^38+3, val := 5, loc := 0xFFFF0010, len := 5 }
/-- Words k to k + n − 1 of a sub-ring. -/
def rg (stream k n : Nat) (w : Word) : Tab (Option (Nat × Word)) := (List.range' (8192 * stream + k) n).map (fun j => (j, some (j % 8192, w)))
def X (s : State) (f : Rx → Rx) : State := P s 3 (fun x => { x with rx := f x.rx })
def gs : State := F (S (op2 (wov 0 0 idS) 9 2 gT) 3 3) [(Reg.PORT_TAPCFG 3,2,2,1),(Reg.PORT_TAPCFG 3,6,6,1)]
def img (l : List (Nat × Nat)) (k : Nat) : Word := BitVec.ofNat 48 ((l.lookup k).getD 0)
def img1 : Nat → Word := img [(0, 29231597879296), (1, 10), (2, 5497558138880), (4, 5), (6, 17733919965185), (31, 1298342767), (2047, 3833243929),
  (2048, 16777221), (2049, 1193046), (2050, 140737488355328), (2051, 7), (2052, 16), (2053, 15), (2054, 70368760954885), (2056, 70368769343488)]
def img2 : Nat → Word := img [(0, 29231597879296), (1, 1), (2, 5497558138880), (6, 17733919965185), (31, 4039532679), (2047, 3357415687), (2048, 9)]
def imgB : Nat → Word := img [(0, 29231597879296), (1, 1), (2, 5497558138880), (6, 17733919965185), (31, 4039532679), (2047, 3357415687), (2048, 8)]
def keysI (n : Nat) : List Nat := List.range 32 ++ (List.range (n + 1)).map (2047 + ·)
def inBob (im : Nat → Word) (s : State) : State := (keysI 3).foldl (fun s k => s.setBob (0x100+k) (im k)) s
def flash (im : Nat → Word) (n slot : Nat) : Tab Byte := ((keysI n).flatMap (fun k =>
  (bytesOfWord (im k)).zipIdx.map (fun b => (6*(slot*0x40000+k)+b.2, b.1)))).filter (fun x => decide (x.2 ≠ 0xFF))
def inFl (im : Nat → Word) (n slot : Nat) (s : State) : State := { s with flash := s.flash ++ flash im n slot }
def iso (s : State) (d : Nat) : State := s.updDom d (fun x => { x with isolated := true })
def kg : State := let s := op2 up 9 2 { kind := .lck, ea := 5, accepted := true }; { s with knots := { s.knots with waiters := [(7,[(9,2),(9,4)])] } }
def lf (port : Nat) (bs : List Byte) (l : Nat) (ver : Nat) : LaneFrame := let w0 : Word := BitVec.ofNat 48 (port*2^41 + 5*2^38 + 3*2^36); let w1 : Word := BitVec.ofNat 48 (l*2^22 + ver*2^8); { w0 := w0, w1 := w1 ||| BitVec.ofNat 48 (hcrc w0 w1), bytes := bs }
def ln (n st : Nat) (s : State) : State := F s [(Reg.HL_STAT n,47,44,st),(Reg.HL_STAT n,35,32,3),(Reg.HL_STAT n,43,43,1),(Reg.CLK_ACTIVE,8,8,1)]
def loc (a : Nat) : RegLoc := match RegMap.at a with | some (l,_,_) => l | none => {blk := .id, inst := 0, sub := 0, off := 0}
def mg (w : Nat) : List Byte := withFcs (bw 0x0102030405060708090A0B0C 12 ++ bw 0x88B5 2 ++ bw 6 2 ++ bw w 6 ++ List.replicate 42 0)
def mg0 : List Byte := withFcs (bw 0x0102030405060708090A0B0C 12 ++ bw 0x88B5 2 ++ bw 0 2 ++ List.replicate 48 0)
def pw (s : State) (f : Pwr → Pwr) : State := { s with pwr := f s.pwr }
def q (f : Spindle → Spindle) : State := J up 9 f
def u7 : State := F up [(Reg.MB_VERSION,7,0,0x21)]
def ring : State := F u7 [(Reg.MB_CMDBASE,31,0,0x1000100),(Reg.MB_CMDSIZE,3,0,8),(Reg.MB_CPLBASE,31,0,0x1000800),(Reg.MB_CPLSIZE,3,0,8),(Reg.MB_CMDRD,15,0,65535),(Reg.MB_CPLWR,15,0,300),(Reg.MB_CPLRD,15,0,290)]
def rowOf (a : Nat) : RegRow := match RegMap.at a with | some (_,r,_) => r | none => {off := 0, cnt := 1, step := 1, acc := .rw, mask := 0, rst := 0}
/-- A HELLO, an ACK, a SETREQ, a SETACK and an SNRREP frame, with the fields they carry. -/
def ctlF : Nat → List Byte × List Byte
  | 1 => (rovCtl 1 [(4, 5), (2, 1000), (2, 200), (1, 20), (1, 1)], valBytes 4 5 ++ valBytes 2 1000 ++ valBytes 2 200 ++ [20#8, 1#8])
  | 2 => (rovCtl 2 [(4, 5), (1, 20), (2, 700)], valBytes 4 5 ++ [20#8] ++ valBytes 2 700)
  | 3 => (rovCtl 3 [(1, 5), (4, 160)], 5#8 :: valBytes 4 160)
  | 4 => (rovCtl 4 [(1, 5), (4, 160)], 5#8 :: valBytes 4 160)
  | _ => (rovCtl 5 [(4, 5), (2, 700)], valBytes 4 5 ++ valBytes 2 700)
def rv (ph role : Nat) : State := F (S up 3 4) [(Reg.PORT_ROVSTAT 3,47,45,ph),(Reg.PORT_STATE 3,25,24,role)]
def s2 : State := { up with flt := { up.flt with hist := [{ w0 := 5, w1 := 6 },{ w0 := 7, w1 := 8 }] } }
def st1 : State := { up with fuses := { up.fuses with lc := 1 } }
def tm0 : State := F (S up 3 3) [(Reg.TM_DEFSTREAM 100,47,47,1),(Reg.TM_DEFSTREAM 100,11,0,5),(Reg.TM_DEFSTREAM 3,47,47,1),(Reg.TM_DEFSTREAM 3,11,0,5),(Reg.TM_SKEY0 5,47,47,1),(Reg.HL_STAT 4,47,44,5),(Reg.TM_SACT 5 0,3,3,1),(Reg.TM_SACT2 5,36,34,6)]
def wI (im : Nat) : Nat := 3*2^35+4*2^30+im
def wR : Nat := 3*2^35+4*2^30+5*2^25
def wT (d a t im : Nat) : Nat := d*2^35+a*2^30+t*2^27+im
def wV (d a b c fn g : Nat) : Nat := d*2^36+a*2^32+b*2^28+c*2^24+fn*2^16+g*2^11
def img3 : Nat → Word := img [(0, 29231598141440), (1, 3), (2, 5497558138880), (6, 17733919965185), (31, 3621365925), (2047, 3021690459), (2048, 1), (2049, 2), (2050, 3)]
def lk (n : Nat) : State := up.updSrc n (fun x => { x with locked := true })
def rdy (n : Nat) : State := F up [(Reg.CLK_READY,n,n,1)]
def uU : State := F (J u7 9 (fun x => { x with mode := 2 })) [(Reg.SPN_CTL 9,5,4,2)]
def cs1 (l : List ReplyBuf) : State := { up with csp1 := { up.csp1 with replies := l } }
def fr1 : Stored := { desc := { src := 100 }, bytes := frm 96, cells := [0], copies := 1 }
def rp : State := { up with lgs := [(2, { replay := { st := 1 } })] }
def sk : State := { F up [(Reg.LG_SKEIN 2 3, 47, 0, 0x87000000000F)] with lgs := [(2, { pend := 8, serve := 8 })] }
def sk0 : State := F up [(Reg.LG_SKEIN 2 3, 47, 0, 0x87000000000F)]
def cfg (i : Nat) : State := let s := inFl img1 10 1 st1; { s with boot := { s.boot with phase := 2, win := some 1, cfgIx := i } }
def cfgD (c : Nat) : State := let s := F (inFl img1 10 1 st1) [(Reg.CSP0_BOOTSTAT,35,16,0xFFFFF)]; { s with boot := { s.boot with phase := 3, win := some 1 }, fuses := { s.fuses with count := c } }

/-! ## Hypotheses that decide -/

def reachB (s : State) (r : Requester) (a : Nat) : Bool :=
  s.present (reqNo r) && (s.firstOf (reqNo r)).isNone && (match domainOf a with
    | none => true
    | some d => s.domOn d)
theorem reach_iff (s : State) (r : Requester) (a : Nat) : CanReach s r a ↔ reachB s r a = true := by
  unfold CanReach reachB
  cases domainOf a <;> simp [and_assoc]
theorem write_iff (s : State) (r : Requester) (a : Nat) : CanWrite s r a ↔ (reachB s r a && s.mayWrite (reqNo r) a) = true := by
  simp [CanWrite, reach_iff]
theorem some_iff {α : Type} (o : Option α) (p : α → Prop) : (∀ x, o = some x → p x) ↔ ∀ x ∈ o.toList, p x := by
  cases o <;> simp

/-! ## Witnesses -/

theorem witness_StepRunsFrontCommand :
  let s : State := { up with pending := [.commandCopy] }; let c : Instr := .commandCopy; let cs : List Instr := []; s.pending = c :: cs := by
  decide +kernel

theorem witness_IdleStepAdvancesTime :
  (let s : State := F up [(Reg.PWR_HOLDSTAT,47,47,1)]; s.pending = [] ∧ s.waitQ = [] ∧ s.stepPend = false ∧ (∀ g, g < 6 → (s.lg g).replay.st ≠ 1) ∧
      (∀ d, d < 50 → (s.dom d).next = none) ∧ s.setPend = false ∧ s.rootUp = true ∧ (∀ p, p < 96 → s.rxRuns p = false ∧ s.pst p ≠ 2 ∧ s.pst p ≠ 4) ∧
      s.rb Reg.PWR_HOLDSTAT 47 = true) ∧
  (let s : State := { up with setPend := true }; s.pending = [] ∧ s.waitQ = [] ∧ s.stepPend = false ∧ (∀ g, g < 6 → (s.lg g).replay.st ≠ 1) ∧
      s.pwr.dom = [] ∧ s.setPend = true ∧ s.rootUp = true) := by
  refine ⟨?_, ?_⟩ <;> decide +kernel

theorem witness_ResetState :
  (let p : Nat := 95; p < 96) ∧
  (let n : Nat := 15; n < 48) ∧
  (let n : Nat := 15; n < 16) ∧
  (let k : Nat := 63; k < 64) := by
  refine ⟨?_, ?_, ?_, ?_⟩ <;> decide +kernel

theorem witness_RegisterWrites :
  (let r : Requester := .spn 9; let a : BitVec 32 := BitVec.ofNat 32 (0x15004); let s : State := up; s.present (reqNo r) = true ∧
      s.firstOf (reqNo r) = none ∧ a.toNat < 0x1000000 ∧ s.mayWrite (reqNo r) a.toNat = false) ∧
  (let r : Requester := .host; let a : BitVec 32 := BitVec.ofNat 32 (0x4000000); let s : State := up; s.present (reqNo r) = true ∧
      s.firstOf (reqNo r) = none ∧ 0x1800000 ≤ a.toNat) ∧
  (let r : Requester := .host; let a : BitVec 32 := BitVec.ofNat 32 (Reg.SPN_CTL 9); let s : State := iso (iso up 44) 31; let d : Nat := 31;
      s.present (reqNo r) = true ∧ s.firstOf (reqNo r) = none ∧ RegMap.at a.toNat ≠ none ∧ domainOf a.toNat = some d ∧
      s.mayWrite (reqNo r) a.toNat = true ∧ (s.dom d).isolated = true) ∧
  (let r : Requester := .host; let a : BitVec 32 := BitVec.ofNat 32 (Reg.FLT_STAT); let s : State := up; let l : RegLoc := loc a.toNat;
      let row : RegRow := rowOf a.toNat; s.present (reqNo r) = true ∧ s.firstOf (reqNo r) = none ∧ RegMap.at a.toNat = some (l, row, false) ∧
      (row.acc = .ro ∨ row.acc = .cnt ∨ row.acc = .live) ∧ isDelegation l = false ∧ CanWrite s r a.toNat ∧ (l.blk = .port → s.isRuntime (reqNo r) = true → runMask l.off = 0)) ∧
  (let r : Requester := .host; let a : BitVec 32 := BitVec.ofNat 32 (0x1000005); let s : State := up; CanWrite s r a.toNat ∧ 0x1000000 ≤ a.toNat ∧
      a.toNat < 0x1800000) ∧
  (let r : Requester := .host; let a : BitVec 32 := BitVec.ofNat 32 (Reg.PORT_LINKCFG 3); let s : State := up; let l : RegLoc := loc a.toNat;
      let row : RegRow := rowOf a.toNat; CanWrite s r a.toNat ∧ RegMap.at a.toNat = some (l, row, false) ∧ row.acc = .rw ∧
      (l.blk = .id ∨ (l.blk = .port ∧ l.off ≠ 2 ∧ l.off ≠ 4 ∧ l.off ≠ 8 ∧ l.off ≠ 0x20 ∧ l.off ≠ 0x24 ∧ l.off ≠ 0x25 ∧ l.off ≠ 0x72))) ∧
  (let r : Requester := .spn 0; let a : BitVec 32 := BitVec.ofNat 32 (Reg.PORT_MFB 3); let s : State := up; let l : RegLoc := loc a.toNat;
      let row : RegRow := rowOf a.toNat; CanWrite s r a.toNat ∧ RegMap.at a.toNat = some (l, row, false) ∧ l.blk = .port ∧ l.off ≠ 0 ∧ runMask l.off ≠ 0 ∧
      s.isRuntime (reqNo r) = true) := by
  refine ⟨?_, ?_, ?_, ?_, ?_, ?_, ?_⟩ <;> (try simp only [write_iff]) <;> decide +kernel

theorem witness_SplitReadsAndGuards :
  (let r : Requester := .host; let a : BitVec 32 := BitVec.ofNat 32 (Reg.TIME_NOW); let l : RegLoc := loc a.toNat; let row : RegRow := rowOf a.toNat;
      let s : State := up; RegMap.at a.toNat = some (l, row, false) ∧ row.acc = .sh ∧ a.toNat ≠ Reg.FLT_HIST ∧ CanReach s r a.toNat) ∧
  (let r : Requester := .host; let a : BitVec 32 := BitVec.ofNat 32 (Reg.LC_STATE); let l : RegLoc := loc a.toNat; let row : RegRow := rowOf a.toNat;
      let s : State := up; RegMap.at a.toNat = some (l, row, false) ∧ row.acc = .grd ∧ CanWrite s r a.toNat ∧ domainOf a.toNat = none) ∧
  (let r : Requester := .host; let g : Guard := g; let s : State := up.setGuard 48 (some g); s.guardSlot (reqNo r) = some g ∧
      s.flt.queue.length < 64 ∧ s.codeLocked 0x31 = false) := by
  refine ⟨?_, ?_, ?_⟩ <;> (try simp only [write_iff, reach_iff]) <;> decide +kernel

theorem witness_BurstStatus :
  (let pre : List (Nat × Nat × Option Word) := [(0,5,none),(4,6,some 1)]; let x : Nat × Nat × Option Word := (8,7,none);
      let post : List (Nat × Nat × Option Word) := [(1,3,some 5)]; b0.burst = true ∧ b0.status = 0 ∧ b0.cut = false ∧ b0.addr = b0.start ∧
      (∀ y ∈ pre, y.1 = 0 ∨ y.1 = 4) ∧ x.1 ≠ 0 ∧ x.1 ≠ 4 ∧ (pre ++ x :: post).length = 4) ∧
  (let c : MgmtCmd := { op := 3, count := 3, seq := 5, addr := 0x17FFFFD }; c.op = 3 ∧ [1#48, 2, 3].length = c.count ∧ c.addr + c.count ≤ 2 ^ 32 ∧
      ∀ i, i < 3 → 0x1000000 ≤ c.addr + i ∧ c.addr + i < 0x1800000 ∧ reachB up .host (c.addr + i) = true) ∧
  (∀ i, i < 3 → RegMap.at (0x1800001 + i) = none) ∧
  (let b : ReplyBuf := b0; let ws : List (Nat × Nat × Option Word) := [(0,5,none),(4,6,some 1)]; b.burst = true ∧ b.status = 0 ∧ b.cut = false ∧ b.addr = b.start ∧
      (∀ y ∈ ws, y.1 = 0 ∨ y.1 = 4)) ∧
  (let b : ReplyBuf := b0; b.burst = true ∧ b.status = 0 ∧ b.cut = false ∧ b.addr = b.start) ∧
  (let b : ReplyBuf := { b0 with burst := false }; b.burst = false ∧ b.status = 0 ∧ b.cut = false ∧ b.addr = b.start) := by
  refine ⟨?_, ?_, ?_, ?_, ?_, ?_⟩ <;> decide +kernel

theorem witness_LifeCycleRule :
  (let w : Word := 0x3; let s : State := up; CanPair s .host Reg.LC_STATE ∧ s.guardSlot (reqNo .host) = none ∧
      nextLc s.fuses.lc = some (w.extractLsb' 0 4) ∧ s.fuses.prog = none) ∧
  (let w : Word := 0; let s : State := up; CanPair s .host Reg.LC_STATE ∧ s.guardSlot (reqNo .host) = none ∧
      nextLc s.fuses.lc ≠ some (w.extractLsb' 0 4)) ∧
  (let n : BitVec 4 := 5; let s : State := { up with fuses := { up.fuses with prog := some 5 } }; s.fuses.prog = some n) := by
  refine ⟨?_, ?_, ?_⟩ <;> (try simp only [CanPair, write_iff]) <;> decide +kernel

theorem witness_GuardedPairsStore :
  (let w : Word := 0; let s : State := F up [(Reg.ID_MGMTPATH,0,0,1)]; CanPair s .host Reg.ID_MGMTPATH ∧ bitOf w 0 ≠ s.rb Reg.ID_MGMTPATH 0 ∧
      (bitOf w 0 = true → s.lst 0 = 5)) ∧
  (let r : Requester := .host; let w : Word := 0; let s : State := F up [(Reg.MB_RTSTAT,47,40,0xFF)]; CanPair s r Reg.MB_RTSLOT ∧
      s.rb Reg.MB_RTSTAT (40 + fld w 0 0) = true ∧ s.oldCount = 0) ∧
  (let r : Requester := .host; let w : Word := 0;
      let s : State := { up with clk := (List.range 18).map (fun k => (k, { blocked := false })) }; CanPair s r Reg.CLK_SRCSEL ∧ (∀ b ∈ srcFields, s.fieldRefusal b w = 0 ∧ (s.src (srcOfField b)).blocked = false)) ∧
  (let r : Requester := .host; let s : State := up; let k : Fin 15 := 3; CanPair s r (Reg.CLK_PLLCTL k) ∧ s.loopUsed k = false) ∧
  (let r : Requester := .host; let s : State := up; CanPair s r Reg.FLT_RECCFG) ∧
  (let r : Requester := .host; let w : Word := 0; let s : State := up; let c : BitVec 6 := 5; let sev : Nat := 1; let m : Nat := 2;
      let locked : Bool := false; CanPair s r (Reg.FLT_CODECFG c.toNat) ∧ FaultCode.info c.toNat = some (sev, m, locked) ∧
      (locked = true → fld w 46 44 = s.rf (Reg.FLT_CODECFG c.toNat) 46 44) ∧ fld w 45 44 ≤ m) ∧
  (let r : Requester := .host; let w : Word := 0; let s : State := up; CanPair s r Reg.PWR_FORCEOFF ∧ fld w 5 0 < 50) := by
  refine ⟨?_, ?_, ?_, ?_, ?_, ?_, ?_⟩ <;> (try simp only [CanPair, write_iff]) <;> decide +kernel

theorem witness_PortRegisterCommands :
  (let r : Requester := .host; let s : State := up; let p : PortNo := 3; CanWrite s r (Reg.PORT_TESTMODE p)) ∧
  (let r : Requester := .host; let s : State := up; let p : PortNo := 3; CanWrite s r (Reg.PORT_AFE p)) ∧
  (let r : Requester := .host; let s : State := up; let p : PortNo := 3; let seq : BitVec 4 := 1; CanWrite s r (Reg.PORT_AFE p) ∧
      s.rf (Reg.PORT_AFE p) 19 16 ≠ seq.toNat) ∧
  (let r : Requester := .host; let s : State := up; let g : LgNo := 2; let k : Fin 8 := 3; let v : Word := 0x85000000000F;
      CanWrite s r (Reg.LG_SKEIN g k) ∧ s.skeinRefusal g k v = 0) ∧
  (let r : Requester := .host; let s : State := up; let g : LgNo := 2; let k : Fin 8 := 3; let v : Word := 0x800000000001;
      CanWrite s r (Reg.LG_SKEIN g k) ∧ s.skeinRefusal g k v ≠ 0) ∧
  (let r : Requester := .host; let s : State := up; let g : LgNo := 2; CanWrite s r (Reg.LG_REPCTL g) ∧ s.rb (Reg.LG_REPCTL g) 47 = false) := by
  refine ⟨?_, ?_, ?_, ?_, ?_, ?_⟩ <;> (try simp only [write_iff]) <;> decide +kernel

theorem witness_SpindleControlCommands :
  (let r : Requester := .host; let n : SpnNo := 9; let s : State := F up [(Reg.SPN_CTL 9,47,47,0),(Reg.SPN_CTL 9,5,4,1)]; let x := s.spn n;
      let a := Reg.SPN_CTL n; let ctlFits := s.rf a 5 4 = x.mode ∧ s.rb a 1 = x.replay ∧ x.mode < 3 ∧ (x.mode = 0 → n = s.supSpn); CanWrite s r a ∧
      ctlFits ∧ s.rb a 47 = false ∧ x.run = .running) ∧
  (let r : Requester := .host; let n : SpnNo := 9;
      let s : State := F (J up 9 (fun x => {x with run := .halted})) [(Reg.SPN_CTL 9,47,47,1),(Reg.SPN_CTL 9,5,4,1)]; let x := s.spn n;
      let a := Reg.SPN_CTL n; let ctlFits := s.rf a 5 4 = x.mode ∧ s.rb a 1 = x.replay ∧ x.mode < 3 ∧ (x.mode = 0 → n = s.supSpn); CanWrite s r a ∧
      ctlFits ∧ s.rb a 47 = true ∧ (x.run = .halted ∨ x.run = .doubleHalt)) ∧
  (let r : Requester := .host; let n : SpnNo := 9;
      let s : State := F (J up 9 (fun x => {x with run := .halted})) [(Reg.SPN_CTL 9,47,47,1),(Reg.SPN_CTL 9,5,4,1)]; let a := Reg.SPN_CTL n; let mode : BitVec 2 := 1; CanWrite s r a ∧ (s.spnState n = 1 ∨ s.spnState n = 5) ∧ mode.toNat < 3 ∧
      (mode.toNat = 0 → n = s.supSpn) ∧ s.rb a 47 = true) ∧
  (let r : Requester := .host; let n : SpnNo := 9; let s : State := J up 9 (fun x => {x with mode := 0}); let x := s.spn n; let a := Reg.SPN_CTL n;
      let mode : BitVec 2 := 1; CanWrite s r a ∧ s.spnState n ≠ 1 ∧ s.spnState n ≠ 5 ∧ mode.toNat ≠ x.mode) ∧
  (let r : Requester := .host; let n : SpnNo := 9; let s : State := J up 9 (fun x => {x with mode := 0}); CanWrite s r (Reg.SPN_IMDATA n)) ∧
  (let r : Requester := .host; let n : SpnNo := 9; let s : State := J up 9 (fun x => {x with mode := 0}); CanReach s r (Reg.SPN_IMDATA n)) ∧
  (let r : Requester := .host; let n : SpnNo := 9; let s : State := J up 9 (fun x => {x with mode := 0}); CanWrite s r (Reg.SPN_DMDATA n)) ∧
  (let r : Requester := .host; let n : SpnNo := 9; let s : State := J up 9 (fun x => {x with mode := 0}); CanReach s r (Reg.SPN_DMDATA n)) ∧
  (let n : SpnNo := 9; let s : State := J up 9 (fun x => {x with run := .halting}); let x := s.spn n; x.run = .halting ∧ x.ckpts = [] ∧
      (∀ u, u < 8 → x.op u = none)) := by
  refine ⟨?_, ?_, ?_, ?_, ?_, ?_, ?_, ?_, ?_⟩ <;> (try simp only [write_iff, reach_iff]) <;> decide +kernel

theorem witness_MailboxAndHostKnots :
  (let r : Requester := .host; let s : State := up; let ix : BitVec 16 := 0;
      let far := s.cmdRingOn = true ∧ 2 ^ s.rf Reg.MB_CMDSIZE 3 0 < (ix.toNat + 65536 - s.rf Reg.MB_CMDRD 15 0) % 65536;
      CanWrite s r Reg.MB_DOORBELL ∧ (¬ far)) ∧
  (let r : Requester := .host; let s : State := F up [(Reg.MB_CMDSIZE,3,0,8),(Reg.MB_CPLSIZE,3,0,8)]; let ix : BitVec 16 := 0x8000;
      let far := s.cmdRingOn = true ∧ 2 ^ s.rf Reg.MB_CMDSIZE 3 0 < (ix.toNat + 65536 - s.rf Reg.MB_CMDRD 15 0) % 65536;
      CanWrite s r Reg.MB_DOORBELL ∧ far) ∧
  (let r : Requester := .host; let s : State := up; let k : Fin 4 := 0; let v : Word := 0; CanWrite s r (ringReg k) ∧ s.ringBusy = false ∧
      (k = 0 ∨ k = 2 ∨ fld v 3 0 = 0)) ∧
  (let r : Requester := .host; let s : State := up; let k : Fin 4 := 1; let v : Word := 8; CanWrite s r (ringReg k) ∧ s.ringBusy = false ∧ k = 1 ∧
      fld v 3 0 ≠ 0) ∧
  (let r : Requester := .host; let s : State := up; let k : Fin 4 := 3; let v : Word := 12; CanWrite s r (ringReg k) ∧ s.ringBusy = false ∧ k = 3 ∧
      fld v 3 0 ≠ 0) ∧
  (let r : Requester := .host;
      let s : State := { S up 3 6 with rt := { cmds := [{ w0 := BitVec.ofNat 48 (0x15 * 2^40), w1 := 0, w2 := 0, w3 := 0, st := .running}] } };
      let k : Fin 4 := 0; CanWrite s r (ringReg k) ∧ s.ringBusy = true) ∧
  (let r : Requester := .host; let s : State := up; CanWrite s r Reg.MB_CPLRD) ∧
  (let r : Requester := .host; let s : State := up; let n : SpnNo := 9; CanWrite s r (Reg.MB_TX n) ∧ s.spnInService n = true ∧
      (s.spn n).mbox.length < 16) ∧
  (let r : Requester := .host; let s : State := J up 9 (fun x => {x with mbox := List.replicate 16 3}); let n : SpnNo := 9;
      CanWrite s r (Reg.MB_TX n) ∧ s.spnInService n = true ∧ 16 ≤ (s.spn n).mbox.length) ∧
  (let r : Requester := .host; let s : State := { up with rt := { up.rt with hostBox := [5,6] } }; let w : Word := 5; let rest : List Word := [6];
      CanReach s r Reg.MB_HOSTRX ∧ s.rt.hostBox = w :: rest) ∧
  (let k : Fin 64 := 40; let s : State := up; let a := Reg.KNOT_HOST k; CanWrite s .host a ∧ 32 ≤ k.val ∧ s.knots.hostEpoch < 256 ∧
      s.knotHeld k = false ∧ s.waiters k = []) ∧
  (let k : Fin 64 := 40; let s : State := F up [(Reg.KNOT_STATE 40,47,47,1),(Reg.KNOT_STATE 40,45,40,48)]; let a := Reg.KNOT_HOST k;
      CanWrite s .host a ∧ 32 ≤ k.val ∧ s.knots.hostEpoch < 256 ∧ s.knotHeld k = true) ∧
  (let k : Fin 64 := 40; let s : State := F up [(Reg.KNOT_STATE 40,47,47,1),(Reg.KNOT_STATE 40,45,40,48)]; let a := Reg.KNOT_HOST k;
      let mine := s.knotHeld k = true ∧ s.knotOwner k = 48; CanWrite s .host a ∧ 32 ≤ k.val ∧ s.knots.hostEpoch < 256 ∧ mine) ∧
  (let k : Fin 64 := 40; let s : State := F up [(Reg.KNOT_STATE 40,47,47,1),(Reg.KNOT_STATE 40,45,40,48)];
      let mine := s.knotHeld k = true ∧ s.knotOwner k = 48; mine) := by
  refine ⟨?_, ?_, ?_, ?_, ?_, ?_, ?_, ?_, ?_, ?_, ?_, ?_, ?_, ?_⟩ <;> (try simp only [write_iff, reach_iff]) <;> decide +kernel

theorem witness_TrafficLaneAndDistaffRegisters :
  (∀ l ∈ [0, 5, 111, 113, 175], CanWrite (glr up l) .host (glCtl l) ∧ (glr up l).rf (glCtl l) 19 16 ≠ 15 ∧ (glr up l).glPending l = false ∧
      (glr up l).rf (glAdmin l) 7 0 ≠ 0 ∧ (glr up l).rf (glAdmin l) 7 0 ≤ glMax l ∧ (glr up l).rf (glAdmin l) 39 8 ≠ 0 ∧
      CanWrite (F up [(glCtl l,24,24,1)]) .host (glCtl l) ∧ (F up [(glCtl l,24,24,1)]).glPending l = true) ∧
  (let j : Fin 64 := 40; j.val ≠ 0) ∧
  (let r : Requester := .host; let s : State := up; let st : Fin 4096 := 5; CanWrite s r (Reg.TM_SPOL0 st)) ∧
  (let r : Requester := .host; let s : State := up; let st : Fin 4096 := 5; CanWrite s r (Reg.TM_SPOL1 st)) ∧
  (let r : Requester := .host; let s : State := up; let m : Fin 1024 := 1023; let k : Fin 4 := 0; let row : RegRow := rowOf (Reg.TM_MCFG m + k);
      CanWrite s r (Reg.TM_MCFG m + k) ∧ RegMap.at (Reg.TM_MCFG m + k) = some ({ blk := .meter, inst := m, sub := 0, off := k }, row, false)) ∧
  (let r : Requester := .host; let n : LaneNo := 3; let s : State := up; let a := Reg.HL_CTL n; CanWrite s r a ∧ s.rb a 47 = false ∧
      (s.lane n).isolated = false) ∧
  (let r : Requester := .host; let n : LaneNo := 3; let s : State := ln 3 5 up; let a := Reg.HL_CTL n; let seq : BitVec 4 := 1; CanWrite s r a ∧
      s.rf a 19 16 ≠ seq.toNat ∧ s.lst n ≠ 0) ∧
  (let r : Requester := .host; let n : LaneNo := 3; let s : State := up; let a := Reg.HL_CTL n; let seq : BitVec 4 := 1; CanWrite s r a ∧
      s.rf a 23 20 ≠ seq.toNat) ∧
  (let r : Requester := .host; let n : LaneNo := 3; let s : State := ln 3 5 up; let a := Reg.HL_CTL n; let on : Bool := true; CanWrite s r a ∧
      s.rb a 8 = !on ∧ (on = true → s.sleepRefusal n = 0)) ∧
  (let r : Requester := .host; let n : LaneNo := 3; let s : State := F (ln 3 5 up) [(Reg.HL_CTL 3,8,8,1)]; let a := Reg.HL_CTL n; let on : Bool := false; CanWrite s r a ∧
      s.rb a 8 = !on ∧ (on = true → s.sleepRefusal n = 0)) ∧
  (let r : Requester := .host; let n : LaneNo := 3; let s : State := ln 3 5 up; let a := Reg.HL_CTL n; let on : Bool := true; CanWrite s r a ∧
      s.rb a 9 = !on ∧ (on = true → s.sleepRefusal n = 0) ∧ s.laneSends n = true) ∧
  (let r : Requester := .host; let n : LaneNo := 3; let s : State := F (ln 3 5 up) [(Reg.HL_STAT 3,39,39,1)]; let a := Reg.HL_CTL n; let on : Bool := true; CanWrite s r a ∧
      s.rb a 9 = !on ∧ (on = true → s.sleepRefusal n = 0) ∧ s.laneSends n = false) ∧
  (let r : Requester := .host; let n : LaneNo := 3; let s : State := F (ln 3 5 up) [(Reg.HL_CTL 3,9,9,1)]; let a := Reg.HL_CTL n; let on : Bool := false; CanWrite s r a ∧
      s.rb a 9 = !on ∧ (on = true → s.sleepRefusal n = 0)) ∧
  (let r : Requester := .host; let n : LaneNo := 3; let s : State := up; let a := Reg.HL_CTL n; CanWrite s r a ∧ s.rb a 8 = false ∧
      s.sleepRefusal n ≠ 0) ∧
  (let r : Requester := .host; let s : State := up; let seq : BitVec 4 := 1; CanWrite s r Reg.DST_CTL ∧ s.rf Reg.DST_CTL 23 20 ≠ seq.toNat ∧
      s.armRefusal = 0) ∧
  (let r : Requester := .host; let s : State := ds 1; let seq : BitVec 4 := 1; CanWrite s r Reg.DST_CTL ∧ s.rf Reg.DST_CTL 23 20 ≠ seq.toNat ∧
      s.armRefusal ≠ 0) ∧
  (let r : Requester := .host; let s : State := ds 1; let seq : BitVec 4 := 1; CanWrite s r Reg.DST_CTL ∧ s.rf Reg.DST_CTL 19 16 ≠ seq.toNat ∧
      s.dstState = 1) ∧
  (let r : Requester := .host; let s : State := ds 2; let seq : BitVec 4 := 1; CanWrite s r Reg.DST_CTL ∧ s.rf Reg.DST_CTL 19 16 ≠ seq.toNat ∧
      s.dstState ≠ 1 ∧ (s.dstState = 2 → s.dst.trigNow ≠ some s.now)) ∧
  (let r : Requester := .host; let s : State := let u := F (ds 2) [(Reg.DST_STAT,39,36,3)]; { u with dst := { u.dst with trigNow := some 0 } };
      let seq : BitVec 4 := 1; CanWrite s r Reg.DST_CTL ∧ s.rf Reg.DST_CTL 19 16 ≠ seq.toNat ∧ s.dstState = 2 ∧ s.dst.trigNow = some s.now ∧
      1 ≤ s.rf Reg.DST_STAT 39 36) ∧
  (let r : Requester := .host; let s : State := ds 3; let seq : BitVec 4 := 1; CanWrite s r Reg.DST_CTL ∧ s.rf Reg.DST_CTL 15 12 ≠ seq.toNat ∧
      s.replayReads = false ∧ s.dstState = 3) ∧
  (let r : Requester := .host; let s : State := up; let seq : BitVec 4 := 1; CanWrite s r Reg.DST_CTL ∧ s.rf Reg.DST_CTL 11 8 ≠ seq.toNat) ∧
  (let r : Requester := .host; let s : State := up; CanWrite s r Reg.DST_CTL ∧ CanReach s r Reg.DST_RDDATA) := by
  refine ⟨?_, ?_, ?_, ?_, ?_, ?_, ?_, ?_, ?_, ?_, ?_, ?_, ?_, ?_, ?_, ?_, ?_, ?_, ?_, ?_, ?_, ?_⟩ <;> (try simp only [write_iff, reach_iff]) <;> decide +kernel

theorem witness_ClockPowerAndControlRegisters :
  (let r : Requester := .host; let s : State := up; CanReach s r Reg.CLK_READY) ∧
  (let r : Requester := .host; let s : State := up; let seq : BitVec 4 := 1; CanWrite s r Reg.TIME_CTL ∧ s.rf Reg.TIME_CTL 23 20 ≠ seq.toNat) ∧
  (let r : Requester := .host; let s : State := up; let seq : BitVec 4 := 1; CanWrite s r Reg.TIME_CTL ∧ s.rf Reg.TIME_CTL 19 16 ≠ seq.toNat) ∧
  (let r : Requester := .host; let s : State := (up.updDom 5 (fun x => {x with st := 1})).updDom 31 (fun x => {x with st := 2});
      let d : Fin 50 := 31; CanWrite s r (Reg.PWR_DOMCTL d) ∧ (s.dom d).chg = 0 ∧ ((s.dom d).st = 1 ∨ (s.dom d).st = 2)) ∧
  (let r : Requester := .host; let s : State := up; let d : Fin 50 := 36; CanWrite s r (Reg.PWR_DOMCTL d) ∧ (s.dom d).chg = 0 ∧ (s.dom d).st = 0 ∧
      s.entryReason d true (s.retMem d 0) = none) ∧
  (let r : Requester := .host; let s : State := up; let d : Fin 50 := 36; CanWrite s r (Reg.PWR_DOMCTL d) ∧ (s.dom d).chg = 0 ∧ (s.dom d).st = 0 ∧
      s.entryReason d true false = none) ∧
  (let r : Requester := .host; let s : State := S up 3 2; let d : Fin 50 := 0; let why : Nat := 2; let unit : Nat := 3;
      CanWrite s r (Reg.PWR_DOMCTL d) ∧ (s.dom d).chg = 0 ∧ (s.dom d).st = 0 ∧ s.entryReason d true false = some (why, unit)) ∧
  (let r : Requester := .host; let s : State := up.setFsrc 5 { st := 2 }; let seq : BitVec 4 := 1; let src : BitVec 12 := 5;
      CanWrite s r Reg.FLT_RELEASE ∧ s.rf Reg.FLT_RELEASE 47 44 ≠ seq.toNat ∧ (s.fsrc src.toNat).st = 2) ∧
  (let r : Requester := .host; let s : State := up; let seq : BitVec 4 := 1; let src : BitVec 12 := 0xF2; CanWrite s r Reg.FLT_RELEASE ∧
      s.rf Reg.FLT_RELEASE 47 44 ≠ seq.toNat ∧ (s.fsrc src.toNat).st ≠ 2) ∧
  (let r : Requester := .host; let s : State := up; CanWrite s r Reg.FLT_PIN) ∧
  (let r : Requester := .host; let s : State := up; CanWrite s r Reg.FLT_INTCFG) ∧
  (let r : Requester := .host; let s : State := s2; let x : Rec := { w0 := 5, w1 := 6 }; let rest : List Rec := [{ w0 := 7, w1 := 8 }];
      CanReach s r Reg.FLT_HIST ∧ s.flt.hist = x :: rest) ∧
  (let r : Requester := .host; let s : State := up; let seq : BitVec 4 := 1; let cls : BitVec 4 := 1; let unit : BitVec 16 := 0;
      CanWrite s r Reg.BIST_CTL ∧ s.rf Reg.BIST_CTL 47 44 ≠ seq.toNat ∧ s.lcOpen = true ∧ unit.toNat < testUnits cls.toNat ∧ s.bist.cur = none) ∧
  (let r : Requester := .host; let s : State := up; CanWrite s r Reg.CSP1_CFG ∧ (s.rb Reg.CSP1_CFG 47 = true → s.lcOpen = true)) ∧
  (let r : Requester := .host; let s : State := up; let csp1 : Bool := false; CanWrite s r (if csp1 then Reg.CSP1_CFG else Reg.CSP0_CFG) ∧
      s.lcOpen = true ∧ s.boot.commit = none) ∧
  (let r : Requester := .host; let s : State := cs (cmt 3 2) up; let csp1 : Bool := false;
      CanWrite s r (if csp1 then Reg.CSP1_CFG else Reg.CSP0_CFG) ∧ csp1 = false ∧ s.boot.commit ≠ none) ∧
  (let r : Requester := .host; let s : State := { up with fuses := { up.fuses with lc := 2 } }; let csp1 : Bool := false; let mode : Bool := true;
      CanWrite s r (if csp1 then Reg.CSP1_CFG else Reg.CSP0_CFG) ∧ s.lcOpen = false ∧ mode = true ∧ (csp1 = false → s.boot.commit = none)) ∧
  (let r : Requester := .host; let s : State := up; let pin : Fin 32 := 7; let v : Word := 0; CanWrite s r (Reg.PIN_FUNC pin) ∧
      s.pinRefusal pin (fld v 1 0) = 0) ∧
  (let r : Requester := .host; let s : State := up; let pin : Fin 32 := 7; let v : Word := 1; CanWrite s r (Reg.PIN_FUNC pin) ∧
      s.pinRefusal pin (fld v 1 0) ≠ 0) := by
  refine ⟨?_, ?_, ?_, ?_, ?_, ?_, ?_, ?_, ?_, ?_, ?_, ?_, ?_, ?_, ?_, ?_, ?_, ?_, ?_⟩ <;> (try simp only [write_iff, reach_iff]) <;> decide +kernel

theorem witness_ScalarInstructions :
  (let w : BitVec 40 := BitVec.ofNat 40 wR;
      (∀ o ∈ [0, 1, 2, 3, 4, 5, 6, 7, 8, 9, 10, 11, 12, 13, 15], Issues (wov o wR idS) 9 o w false true [opD w, opA w, opB w]) ∧ w.toNat % 2 ^ 25 = 0) ∧
  (let w : BitVec 40 := BitVec.ofNat 40 (wI 0x20000000);
      ∀ o ∈ [16, 18, 19, 20, 21, 22, 23, 24, 25, 26, 28, 29, 31], Issues (wov o (wI 0x20000000) idS) 9 o w false true [opD w, opA w]) ∧
  (let n : SpnNo := 9; let w : BitVec 40 := BitVec.ofNat 40 (wI 0); let s : State := wov 0x0E w.toNat idS; let c : Bool := false;
      Issues s n 0x0E w c true [opD w, opA w] ∧ w.toNat % 2 ^ 30 = 0) ∧
  (let n : SpnNo := 9; let w : BitVec 40 := BitVec.ofNat 40 (wI 0); let s : State := wov 0x20 w.toNat idS; let c : Bool := false;
      Issues s n 0x20 w c true [opD w]) ∧
  (let n : SpnNo := 9; let w : BitVec 40 := BitVec.ofNat 40 (3*2^35+0x123); let s : State := wov 0x21 w.toNat idS; let c : Bool := false;
      Issues s n 0x21 w c true [opD w] ∧ w.toNat / 2 ^ 13 % 2 ^ 22 = 0) ∧
  (let n : SpnNo := 9; let w : BitVec 40 := BitVec.ofNat 40 (wI 0); let s : State := wov 0x22 w.toNat idS; let c : Bool := false;
      Issues s n 0x22 w c true [opD w]) ∧
  (let d : Nat := 63; let r : Nat := 0; d ≠ 0 ∧ r ≠ d) := by
  refine ⟨?_, ?_, ?_, ?_, ?_, ?_, ?_⟩ <;> (try simp only [Issues, Fetches]) <;> decide +kernel

theorem witness_LocalMemoryAccesses :
  (let n : SpnNo := 9; let w : BitVec 40 := BitVec.ofNat 40 (3*2^35+6*2^30+3); let s : State := wov 0x30 w.toNat idS; let c : Bool := false;
      let e : Nat := 0; let x := s.spn n; let ea := (x.gr (opA w) + (w.extractLsb' 0 30).signExtend 48).toNat; let k := ea - 0xFFFF0000;
      Issues s n 0x30 w c true [opD w, opA w] ∧ 0xFFFF0000 ≤ ea ∧ ea < 0xFFFF4000 ∧ x.localHeld ea 1 false = false ∧ x.eccScan k 1 = (e, none)) ∧
  (let n : SpnNo := 9; let w : BitVec 40 := BitVec.ofNat 40 (3*2^35+6*2^30+3); let s : State := wov 0x31 w.toNat idS; let c : Bool := false;
      let x := s.spn n; let ea := (x.gr (opA w) + (w.extractLsb' 0 30).signExtend 48).toNat; Issues s n 0x31 w c false [opD w, opA w] ∧
      0xFFFF0000 ≤ ea ∧ ea < 0xFFFF4000 ∧ x.localHeld ea 1 true = false) ∧
  (let n : SpnNo := 9; let w : BitVec 40 := BitVec.ofNat 40 (3*2^35+6*2^30+3); let s : State := wov 0x32 w.toNat idS; let c : Bool := false;
      let e : Nat := 0; let x := s.spn n; let ea := (x.gr (opA w) + (w.extractLsb' 0 30).signExtend 48).toNat; let k := ea - 0xFFFF0000;
      Issues s n 0x32 w c true [opA w] ∧ w.toNat / 2 ^ 39 = 0 ∧ 0xFFFF0000 ≤ ea ∧ ea + 8 ≤ 0xFFFF4000 ∧ x.localHeld ea 8 false = false ∧
      x.eccScan k 8 = (e, none)) ∧
  (let n : SpnNo := 9; let w : BitVec 40 := BitVec.ofNat 40 (3*2^35+6*2^30+3); let s : State := wov 0x33 w.toNat idS; let c : Bool := false;
      let x := s.spn n; let ea := (x.gr (opA w) + (w.extractLsb' 0 30).signExtend 48).toNat; Issues s n 0x33 w c false [opA w] ∧
      w.toNat / 2 ^ 39 = 0 ∧ 0xFFFF0000 ≤ ea ∧ ea + 8 ≤ 0xFFFF4000 ∧ x.localHeld ea 8 true = false) ∧
  (∀ y ∈ [(0x30, true), (0x31, false)], Issues (wov y.1 (wI 3) idS) 9 y.1 (BitVec.ofNat 40 (wI 3)) false y.2 [3, 4] ∧
      ((wov y.1 (wI 3) idS).spn 9).exc = false ∧ ((wov y.1 (wI 3) idS).spn 9).ckpts = []) ∧
  (let w := BitVec.ofNat 40 (6*2^30+0x3FE9); let x := sp0 0; let ea := (x.gr (opA w) + (w.extractLsb' 0 30).signExtend 48).toNat;
      (∀ y ∈ [(0x32, true), (0x33, false)], Issues (wov y.1 w.toNat idS) 9 y.1 w false y.2 [opA w]) ∧ w.toNat / 2 ^ 39 = 0 ∧ ea < 0xFFFF4000 ∧
      0xFFFF4000 < ea + 8) ∧
  (let w := BitVec.ofNat 40 (wI 3); let ea := ((sp0 0).gr (opA w) + (w.extractLsb' 0 30).signExtend 48).toNat; 0xFFFF4000 < ea + 1) := by
  refine ⟨?_, ?_, ?_, ?_, ?_, ?_, ?_⟩ <;> (try simp only [Issues, Fetches]) <;> decide +kernel

theorem witness_BranchesAndJumps :

      (∀ o ∈ [0x50, 0x51, 0x52, 0x53, 0x54, 0x55], ∀ w ∈ [3*2^35+4*2^30+5, 4*2^35+3*2^30+5, 3*2^35+3*2^30+5], Issues (wov o w idS) 9 o (BitVec.ofNat 40 w) false true [opD (BitVec.ofNat 40 w), opA (BitVec.ofNat 40 w)]) ∧
  (let x := sp0 0; x.gr 3 ≠ x.gr 4 ∧ (x.gr 3).toInt < (x.gr 4).toInt ∧ ¬ (x.gr 4).toInt < (x.gr 3).toInt ∧ ¬ (x.gr 4).toInt ≤ (x.gr 3).toInt ∧
      (x.gr 4).toNat < (x.gr 3).toNat ∧ ¬ (x.gr 3).toNat < (x.gr 4).toNat ∧ ¬ (x.gr 3).toNat ≤ (x.gr 4).toNat) ∧
  (let n : SpnNo := 9; let w : BitVec 40 := BitVec.ofNat 40 (3*2^35+0x123); let s : State := wov 0x56 w.toNat idS; let c : Bool := false;
      Issues s n 0x56 w c false [opD w] ∧ w.toNat / 2 ^ 30 % 32 = 0) ∧
  (let n : SpnNo := 9; let w : BitVec 40 := BitVec.ofNat 40 (wI 0); let s : State := wov 0x57 w.toNat idS; let c : Bool := false;
      Issues s n 0x57 w c false [opD w, opA w]) := by
  refine ⟨?_, ?_, ?_, ?_⟩ <;> (try simp only [Issues, Fetches]) <;> decide +kernel

theorem witness_VectorInstructions :
  (let w := BitVec.ofNat 40 (wV 1 2 3 0 0 0);
      (∀ o ∈ [0x60, 0x61, 0x62, 0x63, 0x64, 0x65, 0x66, 0x6A, 0x6B, 0x6C, 0x76, 0x77, 0x78], Issues (wov o w.toNat idS) 9 o w false true []) ∧
      opFN w = 0 ∧ opVC w = 0 ∧ w.toNat % 2 ^ 16 = 0) ∧
  (let n : SpnNo := 9; let w : BitVec 40 := BitVec.ofNat 40 (wI 0); let s : State := wov 0x67 w.toNat idS; let c : Bool := false;
      Issues s n 0x67 w c true [opG w] ∧ zeros w (zV true true false false true 0) = true) ∧
  (let n : SpnNo := 9; let w : BitVec 40 := BitVec.ofNat 40 (wI 0); let s : State := wov 0x68 w.toNat idS; let c : Bool := false;
      Issues s n 0x68 w c true [opG w] ∧ zeros w (zV true true false false true 0) = true) ∧
  (let n : SpnNo := 9; let w : BitVec 40 := BitVec.ofNat 40 (wI 0); let s : State := wov 0x69 w.toNat idS; let c : Bool := false;
      Issues s n 0x69 w c true [] ∧ zeros w (zV true true true false false 0x7F) = true) ∧
  (let n : SpnNo := 9; let w : BitVec 40 := BitVec.ofNat 40 (wI 0); let s : State := wov 0x6E w.toNat idS; let c : Bool := false;
      Issues s n 0x6E w c true [] ∧ zeros w (zV true true false false false 0) = true) ∧
  (let n : SpnNo := 9; let w : BitVec 40 := BitVec.ofNat 40 (wI 0); let s : State := wov 0x6F w.toNat idS; let c : Bool := false;
      Issues s n 0x6F w c true [] ∧ zeros w (zV true true false false false 0) = true) ∧
  (let n : SpnNo := 9; let w : BitVec 40 := BitVec.ofNat 40 0; let s : State := wov 0x70 w.toNat idS; let c : Bool := false;
      Issues s n 0x70 w c true [opG w] ∧ zeros w (zV true false false false true 0) = true) ∧
  (let n : SpnNo := 9; let w : BitVec 40 := BitVec.ofNat 40 0; let s : State := wov 0x72 w.toNat idS; let c : Bool := false;
      Issues s n 0x72 w c true [opG w] ∧ zeros w (zV true false false false true 7) = true) ∧
  (let n : SpnNo := 9; let w : BitVec 40 := BitVec.ofNat 40 (wI 0); let s : State := wov 0x74 w.toNat idS; let c : Bool := false;
      Issues s n 0x74 w c true [] ∧ zeros w (zV true true true false false 0) = true) ∧
  (let n : SpnNo := 9; let w : BitVec 40 := BitVec.ofNat 40 (wI 0); let s : State := wov 0x75 w.toNat idS; let c : Bool := false;
      Issues s n 0x75 w c true [] ∧ zeros w (zV true true true true false 0) = true) ∧
  (let n : SpnNo := 9; let w : BitVec 40 := BitVec.ofNat 40 (wI 0); let s : State := wov 0x79 w.toNat idS; let c : Bool := false;
      Issues s n 0x79 w c true [] ∧ zeros w (zV true true false false false (if natBit (opFN w) 2 then 0xD else 0xF)) = true) ∧
  (let w : BitVec 40 := BitVec.ofNat 40 (wV 1 2 0 0 0 0); let fn := opFN w; fn / 4 % 2 = 0) ∧
  (let w : BitVec 40 := BitVec.ofNat 40 (wV 1 2 0 0 0xD 0); let fn := opFN w; fn / 4 % 2 = 1) ∧
  (let n : SpnNo := 9; let w : BitVec 40 := BitVec.ofNat 40 0; let s : State := wov 0x71 w.toNat idS; let c : Bool := false;
      Issues s n 0x71 w c true [opG w] ∧ zeros w (zV false true false false true 7) = true) ∧
  (let n : SpnNo := 9; let w : BitVec 40 := BitVec.ofNat 40 0; let s : State := wov 0x73 w.toNat idS; let c : Bool := false;
      Issues s n 0x73 w c true [opG w] ∧ zeros w (zV false true false false true 0) = true) ∧
  (let n : SpnNo := 9; let w : BitVec 40 := BitVec.ofNat 40 0; let s : State := wov 0x7A w.toNat idS; let c : Bool := false;
      Issues s n 0x7A w c true [opG w] ∧ zeros w (zV false true false false true 0xF) = true) ∧
  (let n : SpnNo := 9; let w : BitVec 40 := BitVec.ofNat 40 (wI 0); let s : State := wov 0x6D w.toNat idS; let c : Bool := false;
      Issues s n 0x6D w c true [] ∧ zeros w (zV true true true true false 0x3D) = true ∧ opVD w ≠ opVC w) ∧
  (let n : SpnNo := 9; let w : BitVec 40 := BitVec.ofNat 40 0; let s : State := wov 0x6D w.toNat idS; let c : Bool := false;
      Issues s n 0x6D w c true [] ∧ zeros w (zV true true true true false 0x3D) = true ∧ opVD w = opVC w) ∧
  (let n : SpnNo := 9; let w : BitVec 40 := BitVec.ofNat 40 (wI 0); let s : State := wov 0x7B w.toNat idS; let c : Bool := false;
      Issues s n 0x7B w c true [] ∧ zeros w (zV true true true true false 1) = true ∧ opVD w ≠ opVC w) ∧
  (let n : SpnNo := 9; let w : BitVec 40 := BitVec.ofNat 40 0; let s : State := wov 0x7B w.toNat idS; let c : Bool := false;
      Issues s n 0x7B w c true [] ∧ zeros w (zV true true true true false 1) = true ∧ opVD w = opVC w) := by
  refine ⟨?_, ?_, ?_, ?_, ?_, ?_, ?_, ?_, ?_, ?_, ?_, ?_, ?_, ?_, ?_, ?_, ?_, ?_, ?_, ?_⟩ <;> (try simp only [Issues, Fetches]) <;> decide +kernel

theorem witness_TaggedInstructionsIssue :

      (∀ y ∈ [(0x40, wT 3 7 2 5, 0), (0x41, wT 3 7 2 5, 0), (0x42, wT 6 3 2 5, 2 ^ 27 - 2 ^ 10), (0x43, wT 6 7 2 7, 2 ^ 27 - 2 ^ 10), (0x44, wT 0 7 2 0, 31 * 2 ^ 35 + 2 ^ 27 - 1), (0x45, wT 3 7 2 5, 0), (0x46, wT 3 7 2 5, 0), (0x48, wT 1 7 2 0, 15 * 2 ^ 36), (0x49, wT 0 4 2 0, 31 * 2 ^ 35)], let w := BitVec.ofNat 40 y.2.1;
      Issues (wov y.1 w.toNat idS) 9 y.1 w false false [opD w, opA w] ∧ zeros w y.2.2 = true ∧ ((wov y.1 w.toNat idS).spn 9).op (opT w) = none) ∧
  (localOk ((sp0 0).gr 6).toNat 8 = true) ∧
  (let n : SpnNo := 9; let w : BitVec 40 := BitVec.ofNat 40 1; let s : State := wov 0x44 w.toNat idS; let c : Bool := false; let x := s.spn n;
      x.op (opT w) = none ∧ Issues s n 0x44 w c false [opA w] ∧ zeros w (31 * 2 ^ 35 + 2 ^ 27 - 2) = true ∧ low w 1 = 1) ∧
  (let n : SpnNo := 9; let w : BitVec 40 := BitVec.ofNat 40 0; let s : State := wov 0x47 w.toNat idS; let c : Bool := false; let x := s.spn n;
      x.op (opT w) = none ∧ Issues s n 0x47 w c false [opD w] ∧ zeros w (31 * 2 ^ 30 + 2 ^ 27 - 1) = true) ∧
  (let n : SpnNo := 9; let w : BitVec 40 := BitVec.ofNat 40 (3*2^35+6*2^30+3); let s : State := wov 0x4A w.toNat idS; let c : Bool := false;
      let x := s.spn n; x.op (opT w) = none ∧ Issues s n 0x4A w c false [opD w, opA w] ∧ localOk (x.gr (opA w)).toNat (low w 27) = true) ∧
  (let n : SpnNo := 9; let w : BitVec 40 := BitVec.ofNat 40 (6*2^30+3); let s : State := wov 0x4B w.toNat idS; let c : Bool := false;
      let x := s.spn n; let ea := (x.gr (opA w) + (w.extractLsb' 0 27).signExtend 48).toNat; let fl := fld (x.dm (ea - 0xFFFF0000 + 1)) 35 22;
      let fw := if 64 ≤ fl ∧ fl ≤ 9216 then 2 + (fl + 5) / 6 else 2; x.op (opT w) = none ∧ Issues s n 0x4B w c false [opA w] ∧
      zeros w (31 * 2 ^ 35) = true ∧ localOk ea fw = true ∧ (x.eccScan (ea - 0xFFFF0000) 2).2 = none) ∧
  (let n : SpnNo := 9; let w : BitVec 40 := BitVec.ofNat 40 (6*2^30+3); let s : State := wov 0x4B w.toNat (fun x => { x with eccD := [(19, 2)] });
      let c : Bool := false; let x := s.spn n; let ea := (x.gr (opA w) + (w.extractLsb' 0 27).signExtend 48).toNat;
      x.op (opT w) = none ∧ Issues s n 0x4B w c false [opA w] ∧ zeros w (31 * 2 ^ 35) = true ∧ localOk ea 1538 = true) ∧
  (let n : SpnNo := 9; let w : BitVec 40 := BitVec.ofNat 40 (wI 0); let s : State := wov 0x42 w.toNat idS; let c : Bool := false; let x := s.spn n;
      let outside := fun (a m : Nat) => a < 0xFFFF0000 ∨ 0xFFFF4000 < a + m; let d := (x.gr (opD w)).toNat; let a := (x.gr (opA w)).toNat;
      x.exc = false ∧ x.ckpts = [] ∧ Issues s n 0x42 w c false [opD w, opA w] ∧ zeros w (2 ^ 27 - 2 ^ 10) = true ∧ gthSkein a = false ∧
      outside d (low w 10 + 1)) ∧
  (let n : SpnNo := 9; let w : BitVec 40 := BitVec.ofNat 40 (wI 0); let s : State := wov 0x43 w.toNat idS; let c : Bool := false; let x := s.spn n;
      let outside := fun (a m : Nat) => a < 0xFFFF0000 ∨ 0xFFFF4000 < a + m; let d := (x.gr (opD w)).toNat; x.exc = false ∧ x.ckpts = [] ∧
      Issues s n 0x43 w c false [opD w, opA w] ∧ zeros w (2 ^ 27 - 2 ^ 10) = true ∧ outside d (low w 10 + 1)) ∧
  (let n : SpnNo := 9; let w : BitVec 40 := BitVec.ofNat 40 (wI 0); let s : State := wov 0x4A w.toNat idS; let c : Bool := false; let x := s.spn n;
      let outside := fun (a m : Nat) => a < 0xFFFF0000 ∨ 0xFFFF4000 < a + m; let a := (x.gr (opA w)).toNat; x.exc = false ∧ x.ckpts = [] ∧
      Issues s n 0x4A w c false [opD w, opA w] ∧ outside a (low w 27)) ∧
  (let n : SpnNo := 9; let w : BitVec 40 := BitVec.ofNat 40 0; let s : State := wov 0x4B w.toNat idS; let c : Bool := false; let x := s.spn n;
      let outside := fun (a m : Nat) => a < 0xFFFF0000 ∨ 0xFFFF4000 < a + m; let ea := (x.gr (opA w) + (w.extractLsb' 0 27).signExtend 48).toNat;
      x.exc = false ∧ x.ckpts = [] ∧ Issues s n 0x4B w c false [opA w] ∧ zeros w (31 * 2 ^ 35) = true ∧ outside ea 2) := by
  refine ⟨?_, ?_, ?_, ?_, ?_, ?_, ?_, ?_, ?_, ?_, ?_⟩ <;> (try simp only [Issues, Fetches]) <;> decide +kernel

theorem witness_TagsCompleteAndGathersStore :
  (let n : SpnNo := 9; let tag : Fin 8 := 2; let s : State := op2 up 9 2 { kind := .ldb, ea := 5, done := some 0, dst := some 3 };
      let o : TagOp := { kind := .ldb, ea := 5, done := some 0, dst := some 3 }; let x := s.spn n; let st : Nat := 0; s.domOn (30 + n / 8) = true ∧
      s.rootUp = true ∧ x.op tag = some o ∧ o.done = some st) ∧
  (let n : SpnNo := 9; let tag : Fin 8 := 2;
      let s : State := op2 (J up 9 (fun x => {x with mbox := [5,1]})) 9 2 { kind := .mbr, ea := 0, dst := some 3 };
      let o : TagOp := { kind := .mbr, ea := 0, dst := some 3 }; let x := s.spn n; let m : Word := 5; let rest : List Word := [1];
      s.domOn (30 + n / 8) = true ∧ s.rootUp = true ∧ x.op tag = some o ∧ o.done = none ∧ o.kind = .mbr ∧ x.mbox = m :: rest) ∧
  (let start : Nat := 2 ^ 32 - 1; start < 2 ^ 32) ∧
  (let s : State := op2 (wov 0 0 idS) 9 2 gT; let n : SpnNo := 9; let tag : Fin 8 := 2; let o : TagOp := gT; let x := s.spn n; let p := gthPort o.ea; let src := gthSrc o.ea;
      s.domOn (30 + n / 8) = true ∧ s.rootUp = true ∧ x.replay = false ∧ x.op tag = some o ∧ o.kind = .gsw ∧ o.done = none ∧ gthSkein o.ea = false ∧
      o.val.toNat = o.len ∧ 0xFFFF0000 ≤ o.loc ∧ o.loc + o.len ≤ 0xFFFF4000 ∧ s.gthAnswers p src = false) ∧
  (let s : State := X gs (fun x => { x with ring := rg 0 3 5 7, w0 := 8 }); let n : SpnNo := 9; let tag : Fin 8 := 2; let o : TagOp := gT; let x := s.spn n; let p := gthPort o.ea; let src := gthSrc o.ea; let from_ := startWord (o.ea % 2 ^ 32) (s.srcCount p src);
      s.domOn (30 + n / 8) = true ∧ s.rootUp = true ∧ x.replay = false ∧ x.op tag = some o ∧ o.kind = .gsw ∧ o.done = none ∧ gthSkein o.ea = false ∧
      o.val.toNat = o.len ∧ 0xFFFF0000 ≤ o.loc ∧ o.loc + o.len ≤ 0xFFFF4000 ∧ s.gthAnswers p src = true ∧ s.window p src from_ o.len = .full [7, 7, 7, 7, 7]) ∧
  (let s : State := X gs (fun x => { x with ring := rg 0 3 2 7, w0 := 5 }); let n : SpnNo := 9; let tag : Fin 8 := 2; let o : TagOp := gT; let x := s.spn n; let p := gthPort o.ea; let src := gthSrc o.ea; let from_ := startWord (o.ea % 2 ^ 32) (s.srcCount p src);
      s.domOn (30 + n / 8) = true ∧ s.rootUp = true ∧ x.replay = false ∧ x.op tag = some o ∧ o.kind = .gsw ∧ o.done = none ∧ gthSkein o.ea = false ∧
      o.val.toNat = o.len ∧ 0xFFFF0000 ≤ o.loc ∧ o.loc + o.len ≤ 0xFFFF4000 ∧ s.gthAnswers p src = true ∧ s.window p src from_ o.len = .open) ∧
  (let s : State := X gs (fun x => { x with w0 := 8 }); let n : SpnNo := 9; let tag : Fin 8 := 2; let o : TagOp := gT; let x := s.spn n; let p := gthPort o.ea; let src := gthSrc o.ea; let from_ := startWord (o.ea % 2 ^ 32) (s.srcCount p src);
      s.domOn (30 + n / 8) = true ∧ s.rootUp = true ∧ x.replay = false ∧ x.op tag = some o ∧ o.kind = .gsw ∧ o.done = none ∧ gthSkein o.ea = false ∧
      o.val.toNat = o.len ∧ 0xFFFF0000 ≤ o.loc ∧ o.loc + o.len ≤ 0xFFFF4000 ∧ s.gthAnswers p src = true ∧ s.window p src from_ o.len = .lost) := by
  refine ⟨?_, ?_, ?_, ?_, ?_, ?_, ?_⟩ <;> decide +kernel

theorem witness_KnotGoesToOldestWaiter :
  let k : Fin 64 := 7; let s : State := kg; let m : Nat := 9; let u : Nat := 2; let rest : List (Nat × Nat) := [(9,4)];
      let o : TagOp := { kind := .lck, ea := 5, accepted := true }; s.knotHeld k = false ∧ s.waiters k = (m, u) :: rest ∧ m < 48 ∧
      s.epochOf m < 256 ∧ (s.spn m).op u = some o := by
  decide +kernel

theorem witness_BranchResolution :
  (let n : SpnNo := 9; let s : State := bs false 0x50; let c : Ckpt := ck 0x50 false; let rest : List Ckpt := [{ c with at_ := 9 }];
      let x := s.spn n; let taken := branchTaken c.opc (({ x with g := c.g } : Spindle).gr c.ra) (({ x with g := c.g } : Spindle).gr c.rb);
      x.ckpts = c :: rest ∧ x.resolvable c = true ∧ taken = c.pred) ∧
  (let n : SpnNo := 9; let s : State := bs true 0x50; let c : Ckpt := ck 0x50 true; let rest : List Ckpt := [{ c with at_ := 9 }]; let x := s.spn n;
      let taken := branchTaken c.opc (({ x with g := c.g } : Spindle).gr c.ra) (({ x with g := c.g } : Spindle).gr c.rb); x.ckpts = c :: rest ∧
      x.resolvable c = true ∧ taken ≠ c.pred) := by
  refine ⟨?_, ?_⟩ <;> decide +kernel

theorem witness_SystemAndSpecialRegisterInstructions :
  (let n : SpnNo := 9; let w : BitVec 40 := BitVec.ofNat 40 0; let s : State := wov 0x80 w.toNat idS; let c : Bool := false; let x := s.spn n;
      Issues s n 0x80 w c false [] ∧ zeros w (zS false false true 0) = true ∧ x.op (opT w) = none) ∧
  (let n : SpnNo := 9; let w : BitVec 40 := BitVec.ofNat 40 0; let s : State := wov 0x81 w.toNat idS; let c : Bool := false; let x := s.spn n;
      Issues s n 0x81 w c false [] ∧ zeros w (zS false false false 0) = true ∧ (∀ u, u < 8 → x.op u = none)) ∧
  (let n : SpnNo := 9; let w : BitVec 40 := BitVec.ofNat 40 0; let s : State := wov 0x82 w.toNat idS; let c : Bool := false; let x := s.spn n;
      Issues s n 0x82 w c false [] ∧ zeros w (zS false false false 0) = true ∧ (∀ u, u < 8 → ∀ o ∈ (x.op u).toList, o.writes = false)) ∧
  (let n : SpnNo := 9; let w : BitVec 40 := BitVec.ofNat 40 0; let s : State := wov 0x84 w.toNat (fun x => {x with exc := true, epc := 0x123});
      let c : Bool := false; let x := s.spn n; Issues s n 0x84 w c false [] ∧ zeros w (zS false false false 0) = true ∧ x.exc = true) ∧
  (let n : SpnNo := 9; let w : BitVec 40 := BitVec.ofNat 40 0; let s : State := wov 0x85 w.toNat idS; let c : Bool := false;
      Issues s n 0x85 w c false [] ∧ zeros w (zS false false false 0) = true) ∧
  (let n : SpnNo := 9; let w : BitVec 40 := BitVec.ofNat 40 2; let s : State := wov 0x87 w.toNat idS; let c : Bool := false;
      Issues s n 0x87 w c false [opA w] ∧ zeros w (zS false true false 15) = true ∧ low w 4 = 2) ∧
  (let n : SpnNo := 9; let w : BitVec 40 := BitVec.ofNat 40 (6*2^30+3); let s : State := wov 0x87 w.toNat idS; let c : Bool := false;
      Issues s n 0x87 w c false [opA w] ∧ zeros w (zS false true false 15) = true ∧ low w 4 = 3) ∧
  (let n : SpnNo := 9; let w : BitVec 40 := BitVec.ofNat 40 (4*2^30+4); let s : State := wov 0x87 w.toNat idS; let c : Bool := false;
      Issues s n 0x87 w c false [opA w] ∧ zeros w (zS false true false 15) = true ∧ low w 4 = 4) ∧
  (let n : SpnNo := 9; let w : BitVec 40 := BitVec.ofNat 40 1; let s : State := wov 0x88 w.toNat idS; let c : Bool := false; let x := s.spn n;
      let k : Nat := 0; Issues s n 0x88 w c false [opD w] ∧ zeros w (zS true false false 255) = true ∧ k < 8 ∧ natBit (low w 8) k = true ∧
      x.op k = none ∧ (∀ j, j < k → natBit (low w 8) j = true → x.op j ≠ none)) ∧
  (let n : SpnNo := 9; let w : BitVec 40 := BitVec.ofNat 40 0; let s : State := wov 0x86 w.toNat idS; let c : Bool := false;
      Issues s n 0x86 w c false [opD w] ∧ zeros w (zS true false false 15) = true ∧ low w 4 = 0) ∧
  (let n : SpnNo := 9; let w : BitVec 40 := BitVec.ofNat 40 1; let s : State := wov 0x86 w.toNat idS; let c : Bool := false;
      Issues s n 0x86 w c false [opD w] ∧ zeros w (zS true false false 15) = true ∧ low w 4 = 1) ∧
  (let n : SpnNo := 9; let w : BitVec 40 := BitVec.ofNat 40 2; let s : State := wov 0x86 w.toNat idS; let c : Bool := false;
      Issues s n 0x86 w c false [opD w] ∧ zeros w (zS true false false 15) = true ∧ low w 4 = 2) ∧
  (let n : SpnNo := 9; let w : BitVec 40 := BitVec.ofNat 40 (3*2^35+3); let s : State := wov 0x86 w.toNat idS; let c : Bool := false;
      Issues s n 0x86 w c false [opD w] ∧ zeros w (zS true false false 15) = true ∧ low w 4 = 3) ∧
  (let n : SpnNo := 9; let w : BitVec 40 := BitVec.ofNat 40 (3*2^35+4); let s : State := wov 0x86 w.toNat idS; let c : Bool := false;
      Issues s n 0x86 w c false [opD w] ∧ zeros w (zS true false false 15) = true ∧ low w 4 = 4) ∧
  (let n : SpnNo := 9; let w : BitVec 40 := BitVec.ofNat 40 (3*2^35+5); let s : State := wov 0x86 w.toNat idS; let c : Bool := false;
      Issues s n 0x86 w c false [opD w] ∧ zeros w (zS true false false 15) = true ∧ low w 4 = 5) ∧
  (let n : SpnNo := 9; let w : BitVec 40 := BitVec.ofNat 40 (3*2^35+7); let s : State := wov 0x86 w.toNat idS; let c : Bool := false;
      Issues s n 0x86 w c false [opD w] ∧ zeros w (zS true false false 15) = true ∧ low w 4 = 7) ∧
  (let n : SpnNo := 9; let w : BitVec 40 := BitVec.ofNat 40 (3*2^35+6); let s : State := wov 0x86 w.toNat idS; let c : Bool := false;
      let x := s.spn n; Issues s n 0x86 w c false [opD w] ∧ zeros w (zS true false false 15) = true ∧ low w 4 = 6 ∧ x.replay = false) ∧
  (let n : SpnNo := 9; let w : BitVec 40 := BitVec.ofNat 40 (3*2^35+8); let s : State := wov 0x86 w.toNat idS; let c : Bool := false;
      let x := s.spn n; Issues s n 0x86 w c false [opD w] ∧ zeros w (zS true false false 15) = true ∧ 7 < low w 4 ∧ x.exc = false ∧ x.ckpts = []) ∧
  (let n : SpnNo := 9; let w : BitVec 40 := BitVec.ofNat 40 (3*2^35+6);
      let s : State := { wov 0x86 w.toNat (fun x => {x with replay := true}) with lgs := [(2, { replay := { st := 1, spn := 9 } })] }; let c : Bool := false;
      let x := s.spn n; Issues s n 0x86 w c false [opD w] ∧ zeros w (zS true false false 15) = true ∧ low w 4 = 6 ∧ x.replay = true ∧ s.replayOf n = some 2) := by
  refine ⟨?_, ?_, ?_, ?_, ?_, ?_, ?_, ?_, ?_, ?_, ?_, ?_, ?_, ?_, ?_, ?_, ?_, ?_, ?_⟩ <;> (try simp only [Issues, Fetches]) <;> decide +kernel

theorem witness_ExceptionsEnterTheHandler :
  (let n : SpnNo := 9; let w : BitVec 40 := BitVec.ofNat 40 0; let s : State := wov 0x83 w.toNat idS; let c : Bool := false;
      Issues s n 0x83 w c false [] ∧ zeros w (zS false false false (2 ^ 27 - 1)) = true ∧ (s.spn n).exc = false ∧ (s.spn n).ckpts = []) ∧

      (∀ y ∈ [(0x00, 1, 2 ^ 25 - 1), (0x0E, 2 ^ 29, 2 ^ 30 - 1), (0x21, 2 ^ 20, 2 ^ 35 - 2 ^ 13), (0x56, 2 ^ 33, 2 ^ 35 - 2 ^ 30), (0x42, 2 ^ 12, 2 ^ 27 - 2 ^ 10), (0x47, 1, 31 * 2 ^ 30 + 2 ^ 27 - 1), (0x49, 2 ^ 36, 31 * 2 ^ 35), (0x60, 1, zV true true true false false 0), (0x72, 2 ^ 22, zV true false false false true 7), (0x81, 1, zS false false false 0), (0x83, 2 ^ 33, zS false false false (2 ^ 27 - 1)), (0x86, 2 ^ 5, zS true false false 15)], let w := BitVec.ofNat 40 y.2.1;
      Fetches (wov y.1 w.toNat idS) 9 y.1 w false ∧ Fetches (wov y.1 w.toNat (fun x => {x with exc := true})) 9 y.1 w false ∧ zeros w y.2.2 = false) ∧
  ((sp0 0).ckpts = [] ∧ (sp0 0).exc = false) := by
  refine ⟨?_, ?_, ?_⟩ <;> (try simp only [Issues, Fetches]) <;> decide +kernel

theorem witness_RingTransfers :
  (let s : State := ring; let ix := s.rf Reg.MB_CMDRD 15 0; let base := s.rf Reg.MB_CMDBASE 31 0; let k := 4 * (ix % 2 ^ s.rf Reg.MB_CMDSIZE 3 0);
      s.supUp = true ∧ s.cmdRingOn = true ∧ s.rf Reg.MB_DOORBELL 15 0 = (ix + 1) % 65536 ∧ s.rt.cmds.length < 256 ∧
      (∀ d ∈ entryDoms (base + k) 4, s.domOn d = true)) ∧
  (let s : State := ring; let ix := s.rf Reg.MB_CMDRD 15 0; let base := s.rf Reg.MB_CMDBASE 31 0; let k := 4 * (ix % 2 ^ s.rf Reg.MB_CMDSIZE 3 0);
      s.supUp = true ∧ s.cmdRingOn = true ∧ s.rf Reg.MB_DOORBELL 15 0 = (ix + 1) % 65536 ∧ s.rt.cmds.length < 256 ∧
      (∀ d ∈ entryDoms (base + k) 4, s.domOn d = true) ∧ s.ringAbsent false = false) ∧
  (let s : State := fin ring; let wr := s.rf Reg.MB_CPLWR 15 0; let cbase := s.rf Reg.MB_CPLBASE 31 0 + 2 * (wr % 2 ^ s.rf Reg.MB_CPLSIZE 3 0);
      let id : BitVec 16 := 5; let i : Nat := 0; let st : Nat := 3; let gen : Nat := 9; let res : Word := 0x123456; s.supUp = true ∧
      s.finishedAt (fun c => decide (c.id = id.toNat)) = some i ∧ (cmdOf s i).st = .finished st res gen ∧ (cmdOf s i).id = id.toNat ∧
      s.mayPost i = true ∧ s.cplRoom = true ∧ (∀ d ∈ entryDoms cbase 2, s.domOn d = true) ∧ isBobbin cbase = true ∧ isBobbin (cbase + 1) = true) ∧
  (let s : State := fin (iso ring 36); let cpl : Bool := false; s.supUp = true ∧ s.ringWants cpl = true ∧ s.ringAbsent cpl = true ∧
      s.flt.queue.length < 64 ∧ s.codeLocked 0x32 = false) := by
  refine ⟨?_, ?_, ?_, ?_⟩ <;> decide +kernel

theorem witness_DeviceCommandsAndQuanta :
  (let id : BitVec 16 := 5; let i : Nat := 0;
      let s : State := { C u7 (cm 1 0 0 255 0 0 false) with rt := { cmds := [cm 1 0 0 255 0 0 false], apiA := [0x10, 0x20, 0x21] } };
      let c := cmdOf s i; let v : Nat := 0x21; TakesUp s 0x01 id.toNat i ∧ s.rt.cmds.length ≤ 1 ∧ c.arg0 < 256 ∧ v ∈ s.apiNow ∧ v ≤ c.arg0 ∧ v ≠ 0 ∧
      (∀ u ∈ s.apiNow, u ≤ c.arg0 → u ≤ v)) ∧
  (let id : BitVec 16 := 5; let i : Nat := 0;
      let s : State := { C u7 (cm 1 0 0 5 0 0 false) with rt := { cmds := [cm 1 0 0 5 0 0 false], apiA := [0x10, 0x20, 0x21] } }; let c := cmdOf s i;
      TakesUp s 0x01 id.toNat i ∧ s.rt.cmds.length ≤ 1 ∧ c.arg0 < 256 ∧ (∀ u ∈ s.apiNow, c.arg0 < u)) ∧
  (let id : BitVec 16 := 5; let i : Nat := 0; let s : State := C u7 (cm 2 0 0 0 0 0 false); TakesUp s 0x02 id.toNat i) ∧
  (let id : BitVec 16 := 5; let i : Nat := 0; let s : State := C u7 (cm 3 0 0 16 0 0 false); let c := cmdOf s i; TakesUp s 0x03 id.toNat i ∧
      c.arg0 ≤ 16 ∧ (s.poolModes c.arg0).any (fun x => decide (x.2 = 1 ∧ (s.spn x.1).mode = 2) && !s.isHalted x.1) = false) ∧
  (let id : BitVec 16 := 5; let i : Nat := 0; let s : State := C u7 (cm 3 0 0 17 0 0 false); let c := cmdOf s i; TakesUp s 0x03 id.toNat i ∧
      16 < c.arg0) ∧
  (let id : BitVec 16 := 5; let i : Nat := 0; let s : State := C uU (cm 4 3 9 7 5 6 false); let c := cmdOf s i; let n := c.tindex;
      TakesUp s 0x04 id.toNat i ∧ SupWrites s ∧ s.domOn (30 + n / 8) = true ∧ c.arg0 < 8 ∧ c.arg2 < 2 ^ 32 ∧ c.arg1 ≤ c.arg2 ∧
      (c.arg2 < 0x10 ∨ 0x13 < c.arg1)) ∧
  (let id : BitVec 16 := 5; let i : Nat := 0; let s : State := C uU (cm 4 3 9 15 5 6 false); let c := cmdOf s i; let n := c.tindex;
      TakesUp s 0x04 id.toNat i ∧ SupWrites s ∧ s.domOn (30 + n / 8) = true ∧ 8 ≤ c.arg0 ∧ c.arg0 < 16) ∧
  (let id : BitVec 16 := 5; let i : Nat := 0; let s : State := C uU (cm 5 3 9 0 5 6 false); let c := cmdOf s i; let n := c.tindex;
      TakesUp s 0x05 id.toNat i ∧ SupWrites s ∧ s.domOn (30 + n / 8) = true ∧ c.arg0 = 0 ∧ c.opt = false) ∧
  (let id : BitVec 16 := 5; let i : Nat := 0; let s : State := C uU (cm 5 3 9 1 5 0 false); let c := cmdOf s i; let n := c.tindex;
      TakesUp s 0x05 id.toNat i ∧ SupWrites s ∧ s.domOn (30 + n / 8) = true ∧ c.arg0 = 1 ∧ c.opt = false ∧ c.arg2 = 0) ∧
  (let id : BitVec 16 := 5; let i : Nat := 0; let s : State := C (inBob img3 u7) (cm 0x30 0 0 0 0x1000100 2051 false); let c := cmdOf s i;
      let w := fun k => if k < c.arg2 then s.bob (c.arg1 - 0x1000000 + k) else 0; let ver := s.rf Reg.MB_VERSION 7 0; TakesUp s 0x30 id.toNat i ∧
      0x1000000 ≤ c.arg1 ∧ c.arg1 + c.arg2 ≤ 0x1800000 ∧ c.arg2 ≠ 0 ∧ s.oldCount = 0 ∧ (∀ d ∈ entryDoms c.arg1 c.arg2, s.domOn d = true) ∧
      imgCheck w s.fuses.count s.lcTest = 0 ∧ c.arg2 = 2048 + imgBodyLen w ∧ bitOf (w 0) 18 = true ∧ fld (w 6) 31 0 ≤ 3840 ∧ fld (w 6) 47 40 ≤ ver ∧
      ver ≤ fld (w 6) 39 32) ∧
  (let id : BitVec 16 := 5; let i : Nat := 0; let s : State := C u7 (cm 0x20 2 47 0 0x87000000000F 0 false); let c := cmdOf s i; let n := c.tindex;
      TakesUp s 0x20 id.toNat i ∧ SupWrites s ∧ s.domOn (24 + n / 8) = true ∧ n < 48 ∧ s.skeinRefusal (n / 8) (n % 8) c.w2 = 0) ∧
  (let id : BitVec 16 := 5; let i : Nat := 0; let s : State := C u7 (cm 0x20 2 47 0 0x800000000001 0 false); let c := cmdOf s i; let n := c.tindex;
      TakesUp s 0x20 id.toNat i ∧ SupWrites s ∧ s.domOn (24 + n / 8) = true ∧ n < 48 ∧ s.skeinRefusal (n / 8) (n % 8) c.w2 ≠ 0) ∧
  (let n : SpnNo := 9; let s : State := J up 9 (fun x => {x with mode := 1}); let x := s.spn n; s.spnInService n = true ∧ x.mode = 1 ∧
      x.run = .running ∧ x.ckpts = [] ∧ (∀ u, u < 8 → x.op u = none) ∧ (s.poolModes s.rt.u).contains (n.val, 2) = false ∧ s.bist.cur = none) ∧
  (let n : SpnNo := 47; let s : State := J { up with rt := { up.rt with u := 1 } } 47 (fun x => {x with mode := 1, run := .running});
      let x := s.spn n; s.spnInService n = true ∧ x.mode = 1 ∧ x.run = .running ∧ x.ckpts = [] ∧ (∀ u, u < 8 → x.op u = none) ∧
      (s.poolModes s.rt.u).contains (n.val, 2) = true) ∧
  (let n : SpnNo := 9; let s : State := J up 9 (fun x => {x with oldSlot := true}); let x := s.spn n; s.spnInService n = true ∧ x.oldSlot = true ∧
      x.run = .running ∧ s.flt.queue.length < 64 ∧ s.codeLocked 0x11 = false) := by
  refine ⟨?_, ?_, ?_, ?_, ?_, ?_, ?_, ?_, ?_, ?_, ?_, ?_, ?_, ?_, ?_⟩ <;> (try simp only [TakesUp, SupWrites]) <;> decide +kernel

theorem witness_PortStateCommands :
  (let id : BitVec 16 := 5; let i : Nat := 0; let s : State := C (S u7 95 0) (cm 0x10 1 95 0 0 0 false); let c := cmdOf s i; let p := c.tindex;
      TakesUp s 0x10 id.toNat i ∧ s.pst p = 0 ∧ s.quadOn p = true) ∧
  (let id : BitVec 16 := 5; let i : Nat := 0; let s : State := C (S u7 3 1) (cm 0x10 1 3 0 0 0 false); let c := cmdOf s i; let p := c.tindex;
      TakesUp s 0x10 id.toNat i ∧ s.pst p ≠ 0) ∧
  (let id : BitVec 16 := 5; let i : Nat := 0; let s : State := C (S u7 3 3) (cm 0x11 1 3 0 0 0 false); let c := cmdOf s i; let p := c.tindex;
      TakesUp s 0x11 id.toNat i ∧ s.pst p ≠ 0) ∧
  (let id : BitVec 16 := 5; let i : Nat := 0; let s : State := C (S u7 3 3) (cm 0x12 1 3 0 5 0x103 false); let c := cmdOf s i; let p := c.tindex;
      TakesUp s 0x12 id.toNat i ∧ SupWrites s ∧ s.quadOn p = true ∧ c.arg2 / 512 = 0 ∧ c.arg2 / 8 % 32 = 0 ∧ c.opt = false) ∧
  (let id : BitVec 16 := 5; let i : Nat := 0; let s : State := C (S u7 3 3) (cm 0x12 1 3 0 5 0x103 true); let c := cmdOf s i; let p := c.tindex;
      TakesUp s 0x12 id.toNat i ∧ SupWrites s ∧ s.quadOn p = true ∧ c.arg2 / 512 = 0 ∧ c.arg2 / 8 % 32 = 0 ∧ c.opt = true ∧ s.restartable p = true) ∧
  (let id : BitVec 16 := 5; let i : Nat := 0; let s : State := C (S u7 3 0) (cm 0x12 1 3 0 5 0x103 true); let c := cmdOf s i; let p := c.tindex;
      TakesUp s 0x12 id.toNat i ∧ SupWrites s ∧ s.quadOn p = true ∧ c.arg2 / 512 = 0 ∧ c.arg2 / 8 % 32 = 0 ∧ c.opt = true ∧ s.restartable p = false ∧ s.pst p ≠ 1) ∧
  (let id : BitVec 16 := 5; let i : Nat := 0; let s : State := C (S u7 3 3) (cm 0x13 1 3 0 0 0 false); let c := cmdOf s i; let p := c.tindex;
      TakesUp s 0x13 id.toNat i ∧ s.restartable p = true) ∧
  (let id : BitVec 16 := 5; let i : Nat := 0; let s : State := C (S u7 3 1) (cm 0x13 1 3 0 0 0 false); let c := cmdOf s i; let p := c.tindex;
      TakesUp s 0x13 id.toNat i ∧ s.pst p = 1) ∧
  (let id : BitVec 16 := 5; let i : Nat := 0; let s : State := C (S u7 3 0) (cm 0x13 1 3 0 0 0 false); let c := cmdOf s i; let p := c.tindex;
      TakesUp s 0x13 id.toNat i ∧ s.pst p = 0) ∧
  (let id : BitVec 16 := 5; let i : Nat := 0; let s : State := C (M (S u7 3 3) 3 5) (cm 0x14 1 3 0 0 0 false); let c := cmdOf s i; let p := c.tindex;
      TakesUp s 0x14 id.toNat i ∧ s.pst p = 3 ∧ s.framesBarSleep p = false ∧ hasTc10 (s.pmode p) = false) ∧
  (let id : BitVec 16 := 5; let i : Nat := 0; let s : State := C (M (S u7 3 3) 3 2) (cm 0x14 1 3 0 0 0 false); let c := cmdOf s i; let p := c.tindex;
      TakesUp s 0x14 id.toNat i ∧ s.pst p = 3 ∧ s.framesBarSleep p = false ∧ hasTc10 (s.pmode p) = true ∧ (s.port p).sleepHs = 0) ∧
  (let id : BitVec 16 := 5; let i : Nat := 0; let s : State := C (S u7 3 6) (cm 0x15 1 3 0 0 0 false); let c := cmdOf s i; let p := c.tindex;
      TakesUp s 0x15 id.toNat i ∧ s.asleep p = true) ∧
  (let id : BitVec 16 := 5; let i : Nat := 0; let s : State := C (S u7 3 1) (cm 0x16 1 3 0 0 0 false); let c := cmdOf s i; let p := c.tindex;
      TakesUp s 0x16 id.toNat i ∧ s.quadOn p = true ∧ (s.pst p = 0 ∨ s.pst p = 1 ∨ s.pst p = 3)) ∧
  (let id : BitVec 16 := 5; let i : Nat := 0; let s : State := C (S u7 3 4) (cm 0x16 1 3 0 0 0 false); let c := cmdOf s i; let p := c.tindex;
      TakesUp s 0x16 id.toNat i ∧ s.quadOn p = true ∧ s.pst p = 4) := by
  refine ⟨?_, ?_, ?_, ?_, ?_, ?_, ?_, ?_, ?_, ?_, ?_, ?_, ?_, ?_⟩ <;> (try simp only [TakesUp, SupWrites]) <;> decide +kernel

theorem witness_PortDataCommands :
  (let id : BitVec 16 := 5; let i : Nat := 0; let s : State := C (F (M (S u7 3 3) 3 5) [(Reg.MB_RTBASE,31,0,0x1000000)]) (cm 0x17 1 3 0 0 0 false);
      let c := cmdOf s i; let p := c.tindex; TakesUp s 0x17 id.toNat i ∧ s.pst p = 3) ∧
  (let id : BitVec 16 := 5; let i : Nat := 0;
      let s : State := C (F (M (S u7 3 3) 3 5) [(Reg.MB_RTBASE,31,0,0x1000000)]) { cm 0x17 1 3 0 0 0 false with st := .running }; let c := cmdOf s i;
      let p := c.tindex; s.supUp = true ∧ s.cmdAt 0x17 id.toNat = some i ∧ c.st = .running ∧ s.pst p = 3 ∧ s.userPort p = false ∧ (∀ d ∈ s.rtDoms, s.domOn d = true) ∧
      s.cswRefusal p = 0 ∧ (s.port p).fpCount < 15) ∧
  (let id : BitVec 16 := 5; let i : Nat := 0;
      let s : State := P (C (F (M (S u7 3 3) 3 5) [(Reg.MB_RTBASE,31,0,0x1000000)]) { cm 0x17 1 3 0 0 0 false with st := .running }) 3 (fun x => {x with fpCount := 15}); let c := cmdOf s i;
      let p := c.tindex; s.supUp = true ∧ s.cmdAt 0x17 id.toNat = some i ∧ c.st = .running ∧ s.pst p = 3 ∧ s.userPort p = false ∧ (∀ d ∈ s.rtDoms, s.domOn d = true) ∧
      s.cswRefusal p = 0 ∧ 15 ≤ (s.port p).fpCount) ∧
  (let id : BitVec 16 := 5; let i : Nat := 0; let s : State := C (F u7 [(Reg.PORT_FPSTAT 3,47,47,1)]) (cm 0x18 1 3 0 0x1000000 0 false);
      let c := cmdOf s i; let p := c.tindex; inBobbin c.arg1 580 = true ∧ s.quadOn p = true ∧ (∀ d ∈ s.rtDoms, s.domOn d = true) ∧
      (∀ d ∈ entryDoms c.arg1 580, s.domOn d = true) ∧ TakesUp s 0x18 id.toNat i ∧ s.rb (Reg.PORT_FPSTAT p) 47 = true) ∧
  (let id : BitVec 16 := 5; let i : Nat := 0;
      let s : State := C ((F u7 [(Reg.PORT_CAP 3,7,2,63)]).setBob 0 0x20000000000#48) (cm 0x19 1 3 0 0x1000000 0 false); let c := cmdOf s i;
      let p := c.tindex; let at_ := c.arg1 - 0x1000000; inBobbin c.arg1 580 = true ∧ s.quadOn p = true ∧ (∀ d ∈ s.rtDoms, s.domOn d = true) ∧
      (∀ d ∈ entryDoms c.arg1 580, s.domOn d = true) ∧ TakesUp s 0x19 id.toNat i ∧ s.fpHeaderOk p (s.bob at_) (s.bob (at_ + 1)) = true) ∧
  (let id : BitVec 16 := 5; let i : Nat := 0; let s : State := C u7 (cm 0x1A 1 3 0 0x1000000 (1024*595) false); let c := cmdOf s i;
      let p := c.tindex; let off := c.arg2 % 1024; let n := c.arg2 / 1024 + 1; TakesUp s 0x1A id.toNat i ∧ c.arg2 < 2 ^ 20 ∧ off + n ≤ 0x254 ∧
      inBobbin c.arg1 n = true ∧ s.userPort p = false ∧ s.portHeld p = false ∧ s.quadOn p = true ∧ (∀ d ∈ entryDoms c.arg1 n, s.domOn d = true) ∧ s.coefBusy p = 0 ∧
      s.rb (Reg.PORT_COEFSTAT p) 4 = false ∧ c.opt = false) ∧
  (let id : BitVec 16 := 5; let i : Nat := 0; let s : State := C u7 (cm 0x1A 1 3 0 0x1000000 (1024*595) true); let c := cmdOf s i;
      let p := c.tindex; let off := c.arg2 % 1024; let n := c.arg2 / 1024 + 1; TakesUp s 0x1A id.toNat i ∧ c.arg2 < 2 ^ 20 ∧ off + n ≤ 0x254 ∧
      inBobbin c.arg1 n = true ∧ s.userPort p = false ∧ s.portHeld p = false ∧ s.quadOn p = true ∧ (∀ d ∈ entryDoms c.arg1 n, s.domOn d = true) ∧ s.coefBusy p = 0 ∧
      s.rb (Reg.PORT_COEFSTAT p) 4 = false ∧ c.opt = true) ∧
  (let id : BitVec 16 := 5; let i : Nat := 0;
      let s : State := P (C (M (S u7 3 3) 3 1) (cm 0x1B 1 3 0 0x800020905 0 false)) 3 (fun x => {x with applPlca := 0x800020905});
      let c := cmdOf s i; let p := c.tindex; let w := clampPort 8 0 (c.w2 &&& 0xFFFFFFFFF#48); let cur := (s.port p).applPlca;
      TakesUp s 0x1B id.toNat i ∧ s.pst p = 3 ∧ s.pmode p = 1 ∧ fld w 4 0 = fld cur 4 0 ∧ fld w 11 11 = fld cur 11 11) ∧
  (let id : BitVec 16 := 5; let i : Nat := 0; let s : State := C (M (S u7 3 3) 3 1) (cm 0x1B 1 3 0 5 0 false); let c := cmdOf s i; let p := c.tindex;
      let w := clampPort 8 0 (c.w2 &&& 0xFFFFFFFFF#48); let cur := (s.port p).applPlca; TakesUp s 0x1B id.toNat i ∧ s.pst p = 3 ∧ s.pmode p = 1 ∧
      fld w 4 0 ≠ fld cur 4 0) := by
  refine ⟨?_, ?_, ?_, ?_, ?_, ?_, ?_, ?_, ?_⟩ <;> (try simp only [TakesUp]) <;> decide +kernel

theorem witness_PortTransitions :
  (let p : PortNo := 3; let s : State := S up 3 2; s.pst p = 2) ∧
  (let p : PortNo := 3; let s : State := S up 3 2; let x := s.port p; s.pst p = 2 ∧ x.fromRov = false ∧ x.falseDue = false) ∧
  (let p : PortNo := 3; let s : State := P (S up 3 2) 3 (fun x => {x with fromRov := true}); let x := s.port p; s.pst p = 2 ∧ x.fromRov = true) ∧
  (let p : PortNo := 3; let s : State := S up 3 3; s.pst p = 3 ∧ s.pmode p ≠ 1) ∧
  (let p : PortNo := 3; let s : State := P (S up 3 1) 3 (fun x => {x with attempt := true, applMode := 0x867E, resRole := 2, resMode := 5});
      let x := s.port p; s.pst p = 1 ∧ x.attempt = true ∧ bitOf x.applMode 12 = false ∧ x.resRole = 2 ∧ x.resMode ≠ 0) ∧
  (let p : PortNo := 3; let s : State := P (S up 3 3) 3 (fun x => {x with sleepHs := 2}); let x := s.port p; s.pst p = 3 ∧ x.sleepHs ≠ 0) ∧
  (let p : PortNo := 3; let s : State := P (S up 3 1) 3 (fun x => {x with wakeKind := 1}); let x := s.port p; s.pst p = 1 ∧ x.wakeKind ≠ 0 ∧
      x.wakeLocal = false) ∧
  (let p : PortNo := 3; let s : State := P (S up 3 6) 3 (fun x => {x with detArmed := true, detLevel := true}); let x := s.port p;
      s.asleep p = true ∧ x.detArmed = true ∧ x.detLevel = true ∧ x.wakeKind ≠ 1 ∧ s.quadOn p = true) ∧
  (let p : PortNo := 3; let s : State := { S up 3 6 with rt := { cmds := [{ cm 0x15 1 3 0 0 0 false with st := .running }] } }; s.asleep p = true ∧
      s.localWakeDue p = true ∧ s.quadOn p = true) ∧
  (let p : PortNo := 3; let s : State := { P (S up 3 1) 3 (fun x => {x with upD1 := true, lossCause := 1, lossAt := 5}) with now := 10 ^ 10 }; let x := s.port p; s.pst p = 1 ∧
      x.upD1 = true ∧ x.lossCause = 1 ∧ s.rf (Reg.PORT_LINKCFG p) 27 16 ≠ 0 ∧
      x.lossAt + s.rf (Reg.PORT_LINKCFG p) 27 16 * 10 ^ 6 ≤ s.now) := by
  refine ⟨?_, ?_, ?_, ?_, ?_, ?_, ?_, ?_, ?_, ?_⟩ <;> decide +kernel

theorem witness_NegotiationAndRoles :
  (let p : PortNo := 3; let s : State := P (S up 3 1) 3 (fun x => {x with wantAdmit := true, applMode := 0x1000}); let x := s.port p;
      s.waiting p = true ∧ s.firstWaiting p = true ∧ s.admitted < 3 * s.runSpindles.length ∧ bitOf x.applMode 12 = true) ∧
  (let p : PortNo := 3; let s : State := P (S up 3 1) 3 (fun x => {x with wantAdmit := true, applMode := 0x827E}); let x := s.port p;
      s.waiting p = true ∧ s.firstWaiting p = true ∧ s.admitted < 3 * s.runSpindles.length ∧ bitOf x.applMode 12 = false ∧
      s.forceMode p x.applMode = 2 ∧ fld x.applMode 14 13 % 2 = 0) ∧
  (let p : PortNo := 3; let s : State := P (S up 3 1) 3 (fun x => {x with attempt := true, applMode := 0x967E}); let x := s.port p;
      let pg : AnPage := { page := 1, last := true, common := 0x7E, role := 1 }; let r : Nat := 1;
      let m := highestMode (pg.common.toNat &&& fld x.applMode 7 0); s.pst p = 1 ∧ x.attempt = true ∧ x.backoff = false ∧
      bitOf x.applMode 12 = true ∧ pg.last = true ∧ 2 ≤ m ∧ resolveRole (s.roleSetting p) pg.role.toNat pg.seed = some r) ∧
  (let p : PortNo := 3; let s : State := P (S up 3 1) 3 (fun x => {x with attempt := true, applMode := 0x867E, resRole := 2, resMode := 5});
      let x := s.port p; s.pst p = 1 ∧ x.attempt = true) ∧
  (let p : PortNo := 3; let s : State := P (S up 3 1) 3 (fun x => {x with backoff := true}); let x := s.port p; s.pst p = 1 ∧ x.backoff = true) ∧
  (let p : PortNo := 3; let s : State := P (S up 3 2) 3 (fun x => {x with warm := true, resMode := 5, resRole := 2, resDial := 5, resPre := true});
      let x := s.port p; s.pst p = 2 ∧ x.warm = true) ∧
  (let own : Fin 4 := 2; let far : Fin 4 := 0; own = 2 ∧ far ≠ 2) ∧
  (let own : Fin 4 := 0; let far : Fin 4 := 2; far = 2 ∧ own ≠ 2) ∧
  (let own : Fin 4 := 3; let far : Fin 4 := 0; own = 3 ∧ far ≠ 3) ∧
  (let own : Fin 4 := 0; let far : Fin 4 := 3; far = 3 ∧ own ≠ 3) ∧
  (let own : Fin 4 := 0; let far : Fin 4 := 1; own = 0 ∧ far = 1) ∧
  (let own : Fin 4 := 1; let far : Fin 4 := 0; own = 1 ∧ far = 0) ∧
  (let own : Fin 4 := 0; let far : Fin 4 := 0; own = far ∧ own.val < 2) ∧
  (let own : Fin 4 := 0; let far : Fin 4 := 0; let seed : Bool := false; let r : Nat := 2; resolveRole own far seed = some r) := by
  refine ⟨?_, ?_, ?_, ?_, ?_, ?_, ?_, ?_, ?_, ?_, ?_, ?_, ?_, ?_⟩ <;> decide +kernel

theorem witness_PlcaAndDecodingCounts :
  (let p : PortNo := 3; let s : State := M (S up 3 3) 3 1; s.plcaOn p = true ∧ s.plcaId p = 0 ∧ s.plcaConflict p = false) ∧
  (let p : PortNo := 3; let s : State := { F (M (S up 3 3) 3 1) [(Reg.PORT_PLCASTAT 3,0,0,1)] with now := 10 ^ 6 }; let x := s.port p; s.plcaCycle p = true ∧
      s.cur p = none ∧ x.plcaAt + s.plcaWait p ≤ s.now) ∧
  (let p : PortNo := 3; let s : State := P (M (S up 3 3) 3 1) 3 (fun x => {x with applPlca := 0x800020905}); s.plcaOn p = true ∧ s.plcaId p ≠ 0 ∧ s.plcaConflict p = false) ∧
  (let p : PortNo := 3; let w : Word := 5; let s : State := P (M (S up 3 3) 3 1) 3 (fun x => {x with applPlca := 0x800020905, plcaNext := some w});
      s.plcaOn p = true ∧ s.plcaId p ≠ 0 ∧ s.plcaConflict p = false ∧ (s.port p).plcaNext = some w) ∧
  (let p : PortNo := 3; let first : Nat := 0; let b : Nat := 0; let e : Nat := 1; let s : State := M (S up 3 3) 3 3; let f := s.rsErased p first; let wrong := e + min b f; let par := rsParity (s.pmode p); let use := bitOf (s.port p).applFec 0 = true ∧ f ≤ par;
      let good := (use ∧ 2 * e + f ≤ par) ∨ (¬ use ∧ 2 * wrong ≤ par); s.pst p = 3 ∧ hasOam (s.pmode p) = true ∧ use ∧ good ∧ wrong ≠ 0) ∧
  (let p : PortNo := 3; let first : Nat := 0; let b : Nat := 0; let e : Nat := 1; let s : State := P (M (S up 3 3) 3 3) 3 (fun x => {x with applFec := 0}); let f := s.rsErased p first; let wrong := e + min b f; let par := rsParity (s.pmode p); let use := bitOf (s.port p).applFec 0 = true ∧ f ≤ par;
      let good := (use ∧ 2 * e + f ≤ par) ∨ (¬ use ∧ 2 * wrong ≤ par); s.pst p = 3 ∧ hasOam (s.pmode p) = true ∧ ¬ use ∧ good) ∧
  (let p : PortNo := 3; let first : Nat := 0; let b : Nat := 0; let e : Nat := 300; let s : State := X (M (S up 3 3) 3 3) (fun x => { x with wins := [(0, 5000)] }); let f := s.rsErased p first; let wrong := e + min b f; let par := rsParity (s.pmode p); let use := bitOf (s.port p).applFec 0 = true ∧ f ≤ par;
      let good := (use ∧ 2 * e + f ≤ par) ∨ (¬ use ∧ 2 * wrong ≤ par); s.pst p = 3 ∧ hasOam (s.pmode p) = true ∧ ¬ good ∧ bitOf (s.port p).applFec 0 = true ∧ par < f) ∧
  (let p : PortNo := 3; let s : State := P (F up [(Reg.PORT_TESTMODE 3,3,0,9),(Reg.PORT_MODE 3,11,8,1),(Reg.PORT_CAP 3,7,1,127)]) 3 (fun x => {x with prbsSync := true, prbsBad := 32});
      s.testMode p = 9 ∧ (s.port p).prbsSync = true ∧ 32 ≤ (s.port p).prbsBad) := by
  refine ⟨?_, ?_, ?_, ?_, ?_, ?_, ?_, ?_⟩ <;> decide +kernel

theorem witness_SleepAndWakeCommands :
  (let p : PortNo := 3; let s : State := M (S up 3 3) 3 3; let x := s.port p; s.pst p = 3 ∧ hasTc10 (s.pmode p) = true ∧ x.sleepHs = 0 ∧
      s.rb (Reg.PORT_SLEEPCFG p) 47 = true ∧ s.framesBarSleep p = false) ∧
  (let p : PortNo := 3; let s : State := P (S up 3 3) 3 (fun x => {x with sleepHs := 2}); let x := s.port p; s.pst p = 3 ∧ x.sleepHs = 2) ∧
  (let p : PortNo := 3; let s : State := P (S up 3 3) 3 (fun x => {x with sleepHs := 1}); let x := s.port p; s.pst p = 3 ∧ x.sleepHs = 1 ∧ x.sleepCmd = false) ∧
  (let p : PortNo := 3; let s : State := P (S up 3 3) 3 (fun x => {x with sleepHs := 1, sleepCmd := true}); let x := s.port p; s.pst p = 3 ∧ x.sleepHs = 1 ∧
      x.sleepCmd = true ∧ s.framesBarSleep p = false) ∧
  (let p : PortNo := 3; let s : State := let u := P (F (S up 3 3) [(Reg.PORT_SLEEPCFG 3,46,46,1)]) 3 (fun x => {x with sleepHs := 1, sleepCmd := true});
      { u with tm := { u.tm with queues := [(26, [{ fid := 5, at_ := 0 }])], frames := [(5, fr1)] } }; let x := s.port p; s.pst p = 3 ∧ x.sleepHs = 1 ∧
      x.sleepCmd = true ∧ s.framesBarSleep p = true) ∧
  (let p : PortNo := 3; let s : State := S up 3 6; s.asleep p = true ∧ s.rb (Reg.PORT_SLEEPCFG p) 45 = true) ∧
  (let p : PortNo := 3;
      let s : State := P (F (S (S up 3 1) 7 6) [(Reg.PORT_SLEEPCFG 3,39,39,1),(Reg.PORT_SLEEPCFG 7,39,39,1)]) 3 (fun x => {x with wakeKind := 1});
      let x := s.port p; x.wakeKind = 1 ∧ s.rb (Reg.PORT_SLEEPCFG p) 39 = true) ∧
  (let s : State := up; s.flt.queue.length < 64 ∧ s.codeLocked 0x04 = false) := by
  refine ⟨?_, ?_, ?_, ?_, ?_, ?_, ?_, ?_⟩ <;> decide +kernel

theorem witness_EqualiserEvents :
  (let p : PortNo := 3; let s : State := F up [(Reg.PORT_AFE 3,24,24,1),(Reg.PORT_AFE 96,24,24,0)]; let a := Reg.PORT_AFE p; s.rb a 24 = true) ∧
  (let p : PortNo := 3; let s : State := S up 3 3; s.pst p = 3) ∧
  (let p : PortNo := 3;
      let s : State := F (P (S up 3 3) 3 (fun x => {x with fpRefused := 9, driftCnt := 4, driftSum := [5,6,7]})) [(Reg.PORT_COEFSTAT 3,6,6,1)];
      let c := Reg.PORT_COEFSTAT p; s.rb c 6 = true) ∧
  (let p : PortNo := 3; let s : State := F (P (S up 3 3) 3 (fun x => {x with fpRefused := 4})) [(Reg.PORT_COEFSTAT 3,7,7,1)];
      let c := Reg.PORT_COEFSTAT p; s.rb c 7 = true) ∧
  (let p : PortNo := 3; let s : State := X (S up 3 3) (fun x => { x with hits := [10, 9, 8, 7] }); let x := s.port p; let w := x.applSlub; let first : Nat := 7;
      let last : Nat := 10; let rest : List Nat := [9, 8, 7]; bitOf w 47 = true ∧ x.slub.active = false ∧ x.rx.hits = last :: rest ∧
      firstOfHits (fld w 13 10) x.rx.hits = some first) ∧
  (let p : PortNo := 3; let s : State := P (S up 3 3) 3 (fun x => {x with slub := {x.slub with active := true, start := 5, last := 9}, rx := {x.rx with decN := 1000}});
      let x := s.port p; x.slub.active = true ∧ x.slubLast < x.rx.decN) ∧
  (let p : PortNo := 3; let s : State := P (S up 3 3) 3 (fun x => {x with slub := {x.slub with active := true, start := 5, last := 400}, rx := {x.rx with decN := 1000}});
      let x := s.port p; let w := x.applSlub; let len := x.slubLast + 1 - x.slub.start; let cap := 4 * fld w 41 32; x.slub.active = true ∧
      x.slubLast < x.rx.decN ∧ cap ≤ len) := by
  refine ⟨?_, ?_, ?_, ?_, ?_, ?_, ?_⟩ <;> decide +kernel

theorem witness_EstimatesAndLowPower :
  (let p : PortNo := 3; let n : Nat := 16384; let q : Nat := 0; let s : State := X (S up 3 3) (fun x => { x with snrLast := some (n, q) }); let x := s.port p;
      s.pst p = 3 ∧ x.rx.snrLast = some (n, q) ∧ 16384 ≤ n ∧ q = 0) ∧
  (let p : PortNo := 3; let n : Nat := 16383; let q : Nat := 7; let s : State := X (S up 3 3) (fun x => { x with snrLast := some (n, q) }); let x := s.port p;
      s.pst p = 3 ∧ x.rx.snrLast = some (n, q) ∧ n < 16384) ∧
  (let p : PortNo := 3; let s : State := F (P (S up 3 3) 3 (fun x => {x with sqiFirst := true})) [(Reg.PORT_SNR 3,47,47,1)]; let x := s.port p;
      s.pst p = 3 ∧ s.rb (Reg.PORT_SNR p) 47 = true ∧ x.sqiFirst = true) ∧
  (let p : PortNo := 3; let s : State := F (P (S up 3 3) 3 (fun x => {x with sqiFirst := false})) [(Reg.PORT_SNR 3,47,47,1)]; let x := s.port p;
      s.pst p = 3 ∧ s.rb (Reg.PORT_SNR p) 47 = true ∧ x.sqiFirst = false) ∧
  (let p : PortNo := 3; let s : State := let u := F (S up 3 3) [(Reg.PORT_PCSSTAT 3,3,3,1)];
      { u with tm := { u.tm with queues := [(26, [{ fid := 5, at_ := 0 }])], frames := [(5, fr1)] } }; let q : Nat := 2; s.pst p = 3 ∧ q < 8 ∧
      s.queue p q ≠ [] ∧ (s.rb (Reg.PORT_LPICFG p) 16 = false ∨ s.gateOpen p q s.ns = true ∨ s.shClass p q = 0 ∨
        ∃ d, s.nextOpen p q s.ns = some d ∧ d ≤ Config.lpiWakeNs (s.pmode p) + 2000) ∧ s.rb (Reg.PORT_PCSSTAT p) 3 = true) ∧
  (let p : PortNo := 3; let s : State := F (S up 3 3) [(Reg.PORT_PCSSTAT 3,3,3,1)]; s.pst p = 3 ∧ ∀ q : Nat, q < 8 → s.queue p q = []) ∧
  (let p : PortNo := 3; let s : State := P (M (S up 3 3) 3 5) 3 (fun x => {x with resEee := true}); let x := s.port p; s.pst p = 3 ∧
      x.resEee = true ∧ hasOam (s.pmode p) = true) := by
  refine ⟨?_, ?_, ?_, ?_, ?_, ?_, ?_⟩ <;> decide +kernel

theorem witness_SqiLevelsAreOrdered :
  (let m : Nat := 5; let snr : Nat := 3000; let extra : Nat := 0; let l := sqiLevel m snr extra; 0 < l) ∧
  (let m : Nat := 5; let snr : Nat := 0; let extra : Nat := 0; let l := sqiLevel m snr extra; l < 7) ∧
  (let snr : Nat := 0; let snr' : Nat := 30000; snr ≤ snr') := by
  refine ⟨?_, ?_, ?_⟩ <;> decide +kernel

theorem witness_SkeinsAndOam :
  (let g : LgNo := 2; let n : Fin 8 := 3; let s : State := sk; (s.lg g).pend.getLsbD n = true) ∧
  (let g : LgNo := 2; let s : State := sk; let i : Fin 16 := 3; s.skEligible g i = false ∧ s.serves (16 * g + i) = true) ∧
  (let g : LgNo := 2; let n : Fin 8 := 3; let s : State := sk0; let v : Fin 16 := 3; s.skMembers g n ≠ 0 ∧ s.userSkein (8 * g + n) = false ∧
      s.domOn (24 + g) = true ∧ s.skBusy g n = 0 ∧ natBit (s.skMembers g n) v = true) ∧
  (let p : PortNo := 3; let s : State := F (P (M (S up 3 3) 3 5) 3 (fun x => {x with d3Left := 4})) [(Reg.PORT_STATE 3,19,19,1)]; let x := s.port p;
      s.pst p = 3 ∧ hasOam (s.pmode p) = true ∧ 0 < x.d3Left ∧ s.rb (Reg.PORT_STATE p) 19 = true) ∧
  (let p : PortNo := 3; let s : State := F (M (S up 3 3) 3 5) [(Reg.PORT_STATE 3,18,18,1)]; let x := s.port p; s.pst p = 3 ∧
      hasOam (s.pmode p) = true ∧ x.d3Left = 0 ∧ s.rb (Reg.PORT_STATE p) 18 = true ∧ x.rx.report = none) ∧
  (let p : PortNo := 3; let r : Word := 0xD12380000000; let s : State := X (F (M (S up 3 3) 3 5) [(Reg.PORT_STATE 3,18,18,1)]) (fun x => { x with report := some r }); let x := s.port p; s.pst p = 3 ∧
      hasOam (s.pmode p) = true ∧ x.d3Left = 0 ∧ s.rb (Reg.PORT_STATE p) 18 = true ∧ x.rx.report = some r) ∧
  (let p : PortNo := 3; let s : State := F (M (S up 3 3) 3 5) [(Reg.PORT_STATE 3,18,18,1)]; s.pst p = 3 ∧ s.rb (Reg.PORT_STATE p) 18 = true) := by
  refine ⟨?_, ?_, ?_, ?_, ?_, ?_, ?_⟩ <;> decide +kernel

theorem witness_RovingLink :
  (let p : PortNo := 3; let s : State := rv 3 2; let frame : List Byte := [0xA5#8, 0#8, 64#8, 0x55#8]; rovParse frame = .bad ∧ s.pst p = 4) ∧
  (let p : PortNo := 3; let s : State := rv 2 2; let frame := (ctlF 1).1; let fs := (ctlF 1).2; rovParse frame = .ctl 1 fs ∧ s.rovSlave p = true) ∧
  (let p : PortNo := 3; let s : State := rv 1 1; let frame := (ctlF 2).1; let fs := (ctlF 2).2; rovParse frame = .ctl 2 fs ∧ s.rovMaster p = true ∧ s.rlink p = 1) ∧
  (let p : PortNo := 3; let s : State := F (rv 3 2) [(Reg.PORT_ROVSTAT 3,44,40,3)]; let frame := (ctlF 3).1; let fs := (ctlF 3).2; rovParse frame = .ctl 3 fs ∧ s.rovSlave p = true ∧ s.rlink p = 3 ∧ rovFld fs 0 1 ≤ 20) ∧
  (let p : PortNo := 3; let s : State := P (rv 3 1) 3 (fun x => {x with rov := {next := some (5,160), acked := true}}); let frame := (ctlF 4).1; let fs := (ctlF 4).2; let x := s.port p; rovParse frame = .ctl 4 fs ∧ s.rovMaster p = true ∧ s.rlink p = 3 ∧
      x.rov.next = some (rovFld fs 0 1, rovFld fs 1 4) ∧ s.rfn p < rovFld fs 1 4) ∧
  (let p : PortNo := 3; let s : State := rv 3 1; let frame := (ctlF 5).1; let fs := (ctlF 5).2; rovParse frame = .ctl 5 fs ∧ s.pst p = 4 ∧ s.rlink p = 3) ∧
  (let p : PortNo := 3; let s : State := F (P (rv 3 1) 3 (fun x => {x with rov := {next := some (5,160), acked := true}})) [(Reg.PORT_ROVFN 3,31,0,160)]; let x := s.port p;
      let i : Nat := 5; let f : Nat := 160; let linked := s.pst p = 4 ∧ s.rlink p = 3; x.rov.next = some (i, f) ∧ linked ∧ f ≤ s.rfn p) ∧
  (let p : PortNo := 3; let s : State := P (rv 3 1) 3 (fun x => {x with rov := {next := some (5,160), acked := true}}); let linked := s.pst p = 4 ∧ s.rlink p = 3; linked) ∧
  (let p : PortNo := 3; let s : State := P (rv 3 1) 3 (fun x => {x with rov := {next := some (5,160), acked := true}}); let a : BitVec 16 := 0x8000;
      let linked := s.pst p = 4 ∧ s.rlink p = 3; linked ∧ signed 16 a.toNat < 1200 - 300 * (ladK (s.rset p) : Int)) ∧
  (let p : PortNo := 3; let s : State := F (P (rv 3 1) 3 (fun x => {x with rov := {next := some (5,160), acked := true}})) [(Reg.PORT_ROVFN 3,31,0,160)]; let linked := s.pst p = 4 ∧ s.rlink p = 3; linked ∧ s.rfn p % 16 = 0) ∧
  (let p : PortNo := 3; let s : State := P (rv 3 1) 3 (fun x => {x with rov := {next := some (5,160), acked := true}}); let linked := s.pst p = 4 ∧ s.rlink p = 3; linked ∧ s.rset p = 0) ∧
  (let p : PortNo := 3; let s : State := F (rv 1 1) [(Reg.PORT_ROVFN 3,31,0,16)]; s.rovMaster p = true ∧ s.rlink p = 1 ∧ 15 < s.rfn p) ∧
  (let p : PortNo := 3; let s : State := F (P (rv 3 1) 3 (fun x => {x with rov := { x.rov with retry := 1000, rwin := 200 }})) [(Reg.PORT_ROVFN 3,31,0,250)];
      let x := s.port p; s.pst p = 4 ∧ s.rphase p = 3 ∧ x.rov.window = false ∧ 0 < s.rfn p ∧ 0 < x.rov.retry / 4 ∧ s.rfn p % (x.rov.retry / 4) = 0 ∧
      bitOf x.applMode 12 = true ∧ s.admitted < 3 * s.runSpindles.length) ∧
  (let p : PortNo := 3; let s : State := rv 1 1; let x := s.port p; s.pst p = 4 ∧ (s.rphase p = 1 ∨ s.rphase p = 2) ∧ x.rov.window = false ∧
      bitOf x.applMode 12 = true ∧ s.admitted < 3 * s.runSpindles.length) ∧
  (let p : PortNo := 3; let s : State := F (P (rv 4 1) 3 (fun x => {x with rov := { x.rov with window := true, retry := 1000, rwin := 200 }})) [(Reg.PORT_ROVFN 3,31,0,300)];
      let x := s.port p; s.pst p = 4 ∧ x.rov.window = true ∧ s.rphase p = 4 ∧ inWindow x.rov.retry x.rov.rwin (s.rfn p) = false) := by
  refine ⟨?_, ?_, ?_, ?_, ?_, ?_, ?_, ?_, ?_, ?_, ?_, ?_, ?_, ?_, ?_⟩ <;> decide +kernel

theorem witness_CardingCommands :
  (let p : PortNo := 3; let s : State := S up 3 5; let x := s.port p; s.pst p = 5 ∧ x.cardFrom = 0) ∧
  (let p : PortNo := 3; let s : State := P (S up 3 3) 3 (fun x => {x with fpRefused := 4}); let x := s.port p; 0 < x.fpRefused ∧ s.fpRuns p = true ∧ s.userPort p = false ∧ s.cswRefusal p = 0) ∧
  (let p : PortNo := 3;
      let s : State := F (P (S up 3 3) 3 (fun x => {x with fpRefused := 9, driftCnt := 4, driftSum := [5,6,7]})) [(Reg.PORT_COEFSTAT 3,6,6,1)];
      let x := s.port p; s.fpRuns p = true ∧ s.userPort p = false ∧ s.cswRefusal p ≠ 0 ∧ 0 < x.fpRefused ∧ 9 ≤ x.fpRefused) ∧
  (let p : PortNo := 3;
      let s : State := F (P (S up 3 3) 3 (fun x => {x with fpRefused := 4, driftCnt := 4, driftSum := [5,6,7]})) [(Reg.PORT_COEFSTAT 3,6,6,1)];
      let x := s.port p; s.fpRuns p = true ∧ s.userPort p = false ∧ s.cswRefusal p ≠ 0 ∧ 0 < x.fpRefused ∧ x.fpRefused < 9) ∧
  (let p : PortNo := 3;
      let s : State := F (P (S up 3 3) 3 (fun x => {x with fpRefused := 9, driftCnt := 4, driftSum := [5,6,7]})) [(Reg.PORT_COEFSTAT 3,6,6,1)];
      let x := s.port p; 0 < x.driftCnt) := by
  refine ⟨?_, ?_, ?_, ?_, ?_⟩ <;> decide +kernel

theorem witness_FramesEnterThePipeline :
  (let f : InFrame := { ident := 3, bytes := frm 96 }; let s : State := S up 3 3; let src := f.ident; let look := s.lookup src (f.bytes.take 9216);
      s.tmOn = true ∧ src < 96 ∧ s.pst src = 3 ∧ (s.pmode src = 1 → s.cur src = none) ∧ look = none) ∧
  (let f : InFrame := { ident := 101, bytes := frm 96 }; let s : State := F tm0 [(Reg.HL_STAT 5,47,44,5)]; let src := f.ident;
      let run := (96 ≤ src ∧ src < 112 ∧ s.rf (Reg.HL_STAT (src - 96)) 47 44 = 5) ∨ src = 114; let look := s.lookup src (f.bytes.take 9216); s.tmOn = true ∧ run ∧
      look = none) ∧
  (let f : InFrame := { ident := 100, bytes := 0#8 :: frm 96 }; let s : State := tm0; let src := f.ident;
      let run := (96 ≤ src ∧ src < 112 ∧ s.rf (Reg.HL_STAT (src - 96)) 47 44 = 5) ∨ src = 114; let good := f.bytes.length ≤ 9216 ∧ fcsGood f.bytes = true;
      let look := s.lookup src (f.bytes.take 9216); let st : Nat := 5; let act := s.reg (Reg.TM_SACT2 st); s.tmOn = true ∧ st < 4096 ∧
      look = some st ∧ run ∧ (¬ good) ∧ bitOf act 45 = false) ∧
  (let f : InFrame := { ident := 100, bytes := frm 96 }; let s : State := F tm0 [(Reg.TM_SACT 5 0,3,3,0)]; let src := f.ident;
      let run := (96 ≤ src ∧ src < 112 ∧ s.rf (Reg.HL_STAT (src - 96)) 47 44 = 5) ∨ src = 114; let good := f.bytes.length ≤ 9216 ∧ fcsGood f.bytes = true;
      let look := s.lookup src (f.bytes.take 9216); let st : Nat := 5; let act := s.reg (Reg.TM_SACT2 st); s.tmOn = true ∧ st < 4096 ∧
      look = some st ∧ run ∧ good ∧ fld act 22 17 = 0 ∧ s.rb (Reg.TM_SPOL0 st) 47 = false ∧ bitOf act 33 = false ∧ bitOf act 44 = false ∧
      s.actionEgresses st src false = []) ∧
  (let f : InFrame := { ident := 100, bytes := frm 96 }; let s : State := tm0; let src := f.ident;
      let run := (96 ≤ src ∧ src < 112 ∧ s.rf (Reg.HL_STAT (src - 96)) 47 44 = 5) ∨ src = 114; let good := f.bytes.length ≤ 9216 ∧ fcsGood f.bytes = true;
      let look := s.lookup src (f.bytes.take 9216); let st : Nat := 5; let act := s.reg (Reg.TM_SACT2 st); let e : Nat := 3; s.tmOn = true ∧
      st < 4096 ∧ look = some st ∧ run ∧ good ∧ fld act 22 17 = 0 ∧ s.rb (Reg.TM_SPOL0 st) 47 = false ∧ bitOf act 33 = false ∧ bitOf act 44 = false ∧
      s.actionEgresses st src false = [e] ∧ s.egressState e = 0 ∧ s.rb (Reg.TM_QCFG e (s.actionQueue st f.bytes)) 46 = false ∧
      s.depth e (s.actionQueue st f.bytes) + cellsOf f.bytes.length ≤ s.qLimit e (s.actionQueue st f.bytes) 3 ∧
      cellsOf f.bytes.length + s.poolRes 3 ≤ s.tmFree) ∧
  (let f : InFrame := { ident := 114, bytes := frm 96 }; let s : State := up; let look := s.lookup f.ident (f.bytes.take 9216); s.tmOn = true ∧ f.ident = 114 ∧
      look = none) ∧
  (let bs : List Byte := frm 96; 64 ≤ bs.length ∧ bs.length ≤ 2048) ∧
  (let p : PortNo := 3; let bs : List Byte := frm 96; let f := rovFrame 0 bs; let s : State := S up 3 4; s.pst p = 4 ∧ rovParse f = .data bs ∧ s.tmOn = true ∧
      fcsGood bs = true ∧ s.lookup p bs = none) ∧
  (let p : PortNo := 3; let f : List Byte := [0xA5#8, 0#8, 64#8, 0x55#8]; let s : State := S up 3 4; s.pst p = 4 ∧ rovParse f = .bad) := by
  refine ⟨?_, ?_, ?_, ?_, ?_, ?_, ?_, ?_, ?_⟩ <;> decide +kernel

theorem witness_BadFrames :
  let f : InFrame := { ident := 100, bytes := 0#8 :: frm 96 }; let s : State := tm0; let st : Nat := 5; s.tmOn = true ∧ st < 4096 ∧ ((f.ident < 96 ∧
      s.pst f.ident = 3) ∨ (96 ≤ f.ident ∧ f.ident < 112 ∧ s.rf (Reg.HL_STAT (f.ident - 96)) 47 44 = 5) ∨ f.ident = 114) ∧
      (f.ident < 96 → s.pmode f.ident = 1 → s.cur f.ident = none) ∧ (9216 < f.bytes.length ∨ fcsGood f.bytes = false) ∧ s.lookup f.ident (f.bytes.take 9216) = some st := by
  decide +kernel

theorem witness_SelectionAndTransmission :
  (let e : EgrNo := 3; let s : State := { tm0 with tm := { tm0.tm with queues := [(26, [{ fid := 5, at_ := 0 }])], frames := [(5, fr1)] } };
      let q : Nat := 2; let x : QEntry := { fid := 5, at_ := 0 }; let rest : List QEntry := []; e.val < 96 ∧ s.pst e ≠ 4 ∧ s.txReady e = true ∧
      (∀ q, q < 8 → s.tm.held.get (fun _ => 0) (8 * e.val + q) = 0) ∧ q < 8 ∧ s.queue e q = x :: rest ∧ s.gateTest e q = .start ∧ s.shClass e q = 2 ∧
      (∀ k, k < 8 → q < k → s.queue e k = []) ∧ s.linkFails x.fid = false ∧ s.dequeueDrop e q x.fid = [] ∧ s.bankToWake x.fid = none) ∧
  (let e : EgrNo := 3; let s : State := { tm0 with tm := { tm0.tm with cur := [(3, some { q := 2, fid := 5 })], frames := [(5, fr1)] } };
      let c : Sending := { q := 2, fid := 5 }; s.cur e = some c ∧ c.mgmt = false) ∧
  (let e : EgrNo := 96; let c : Sending := { q := 0, fid := 0, mgmt := true }; let s : State := { tm0 with tm := { tm0.tm with cur := [(96, some c)] } };
      s.cur e = some c ∧ c.mgmt = true ∧ 96 ≤ e.val) := by
  refine ⟨?_, ?_, ?_⟩ <;> decide +kernel

theorem witness_GateListsAndSamples :
  (let i : Fin 64 := 40; i.val ≠ 0) ∧
  (let s : State := up; let e : EgrNo := 3; s.glPending e = false) ∧
  (let s : State := { up with tm := { up.tm with held := [(8*3+2, 1)] } }; let e : EgrNo := 3; let q : Nat := 2;
      let h := s.tm.held.get (fun _ => 0) (8 * e.val + q); q < 8 ∧ (∀ k, k < 8 → k ≠ q → s.tm.held.get (fun _ => 0) (8 * e.val + k) = 0) ∧ h ≠ 0 ∧
      h ≤ s.ns + 1) ∧
  (let s : State := up; let e : EgrNo := 3; let q : Nat := 2; let h := s.tm.held.get (fun _ => 0) (8 * e.val + q); q < 8 ∧
      (∀ k, k < 8 → k ≠ q → s.tm.held.get (fun _ => 0) (8 * e.val + k) = 0) ∧ (h = 0 ∨ s.ns + 1 < h)) ∧
  (let e : EgrNo := 3; let q : Fin 8 := 3; let s : State := up; s.tmOn = true ∧ s.depth e q < 2 ^ 18) ∧
  (let p : PortNo := 3; let s : State := P (M (S up 3 3) 3 5) 3 (fun x => {x with resEee := true}); s.pst p = 3 ∧ (s.port p).resEee = true ∧
      hasOam (s.pmode p) = true ∧ s.rb (Reg.PORT_PCSSTAT p) 3 = false ∧ (s.port p).txWaking = false ∧ s.cur p = none ∧
      (∀ q, q < 8 → s.queueIdle p q = true)) := by
  refine ⟨?_, ?_, ?_, ?_, ?_, ?_⟩ <;> decide +kernel

theorem witness_GateEntriesTileTheCycle :
  (let es : List (Nat × Nat × Nat) := [(0,0,10),(3,5,10)]; let cycle : Nat := 9; let pos : Nat := 8; es ≠ [] ∧ pos < cycle ∧ ¬ (∀ e ∈ es, e.2.1 = 0)) ∧
  (let es : List (Nat × Nat × Nat) := [(0,0,10),(3,0,10)]; let cycle : Nat := 9; let pos : Nat := 0; es ≠ [] ∧ pos < cycle ∧ ∀ e ∈ es, e.2.1 = 0) := by
  refine ⟨?_, ?_⟩ <;> decide +kernel

theorem witness_PolicerBoundsTraffic :
  let st : Nat := 0; let t0 : Nat := 0; let t1 : Nat := 9; let fs : List (Nat × Nat × Nat) := [(64,5,0)]; st < 4096 ∧
      fs.Pairwise (fun a b => a.2.1 ≤ b.2.1) ∧ (∀ f ∈ fs, t0 ≤ f.2.1 ∧ f.2.1 ≤ t1) := by
  decide +kernel

theorem witness_HostAndManagementFrames :
  (let n : LaneNo := 3; let f : LaneFrame := lf 99 (frm 96) 96 3; let s0 : State := ln 3 5 up; f.pre = [] ∧ s0.laneOn n = true ∧ s0.lst n ≠ 0 ∧
      s0.rb (Reg.HL_STAT n) 38 = false ∧ s0.aligned n = true) ∧
  (let n : LaneNo := 3; let f : LaneFrame := lf 99 (frm 96) 96 3; let s : State := up.groupsIn n f.pre; s.laneHears n = false) ∧
  (let n : LaneNo := 3; let f : LaneFrame := { w0 := 0, w1 := 0, bytes := frm 96, good := false }; let s : State := (ln 3 5 up).groupsIn n f.pre; s.laneHears n = true ∧
      (f.good = false ∨ f.codeErr = true ∨ 9216 < f.bytes.length)) ∧
  (let n : LaneNo := 3; let f : LaneFrame := lf 99 (frm 96) 96 3; let s : State := (F (ln 3 5 up) [(Reg.HL_STAT 3,35,32,2)]).groupsIn n f.pre;
      let ver := s.rf (Reg.HL_STAT n) 35 32; let sound := s.laneHears n = true ∧ f.good = true ∧ f.codeErr = false ∧ f.bytes.length ≤ 9216; sound ∧
      (fld f.w1 7 0 ≠ hcrc f.w0 f.w1 ∨ fld f.w1 15 8 ≠ ver)) ∧
  (let n : LaneNo := 3; let f : LaneFrame := lf 5 (frm 96) 100 3; let s : State := (ln 3 5 up).groupsIn n f.pre; let port := fld f.w0 47 41;
      let ver := s.rf (Reg.HL_STAT n) 35 32; let sound := s.laneHears n = true ∧ f.good = true ∧ f.codeErr = false ∧ f.bytes.length ≤ 9216;
      let tagged := sound ∧ fld f.w1 7 0 = hcrc f.w0 f.w1 ∧ fld f.w1 15 8 = ver; tagged ∧ port ≠ 112 ∧ port ≠ 96 + n.val ∧ (port ≠ 114 ∨ ver ≠ 3)) ∧
  (let n : LaneNo := 3; let f : LaneFrame := lf 99 (frm 96) 100 3; let s : State := (ln 3 5 up).groupsIn n f.pre; let port := fld f.w0 47 41;
      let ver := s.rf (Reg.HL_STAT n) 35 32; let sound := s.laneHears n = true ∧ f.good = true ∧ f.codeErr = false ∧ f.bytes.length ≤ 9216;
      let tagged := sound ∧ fld f.w1 7 0 = hcrc f.w0 f.w1 ∧ fld f.w1 15 8 = ver; tagged ∧ port = 96 + n.val ∧
      (f.bytes.length < 64 ∨ fld f.w1 35 22 ≠ f.bytes.length)) ∧
  (let n : LaneNo := 3; let f : LaneFrame := lf 99 (frm 96) 96 3; let s : State := (ln 3 5 up).groupsIn n f.pre; let port := fld f.w0 47 41;
      let ver := s.rf (Reg.HL_STAT n) 35 32; let sound := s.laneHears n = true ∧ f.good = true ∧ f.codeErr = false ∧ f.bytes.length ≤ 9216;
      let tagged := sound ∧ fld f.w1 7 0 = hcrc f.w0 f.w1 ∧ fld f.w1 15 8 = ver; tagged ∧ port = 96 + n.val ∧ 64 ≤ f.bytes.length ∧
      fld f.w1 35 22 = f.bytes.length ∧ fcsGood f.bytes = true) ∧
  (let n : LaneNo := 3; let f : LaneFrame := lf 114 (frm 96) 96 3; let s : State := (ln 3 5 up).groupsIn n f.pre; let port := fld f.w0 47 41;
      let ver := s.rf (Reg.HL_STAT n) 35 32; let sound := s.laneHears n = true ∧ f.good = true ∧ f.codeErr = false ∧ f.bytes.length ≤ 9216;
      let tagged := sound ∧ fld f.w1 7 0 = hcrc f.w0 f.w1 ∧ fld f.w1 15 8 = ver; tagged ∧ port = 114 ∧ ver = 3 ∧ 64 ≤ f.bytes.length ∧
      fld f.w1 35 22 = f.bytes.length ∧ fcsGood f.bytes = true ∧ s.spnTakes (fld f.w1 41 36) = true) ∧
  (let n : LaneNo := 3; let f : LaneFrame := lf 114 (List.replicate 96 0#8) 96 3; let s : State := (ln 3 5 up).groupsIn n f.pre; let port := fld f.w0 47 41;
      let ver := s.rf (Reg.HL_STAT n) 35 32; let sound := s.laneHears n = true ∧ f.good = true ∧ f.codeErr = false ∧ f.bytes.length ≤ 9216;
      let tagged := sound ∧ fld f.w1 7 0 = hcrc f.w0 f.w1 ∧ fld f.w1 15 8 = ver; tagged ∧ port = 114 ∧ ver = 3 ∧ 64 ≤ f.bytes.length ∧
      fld f.w1 35 22 = f.bytes.length ∧ fcsGood f.bytes = false) ∧
  (let n : LaneNo := 3; let f : LaneFrame := lf 114 (frm 96) 96 3; let s : State := (iso (ln 3 5 up) 30).groupsIn n f.pre; let port := fld f.w0 47 41;
      let ver := s.rf (Reg.HL_STAT n) 35 32; let sound := s.laneHears n = true ∧ f.good = true ∧ f.codeErr = false ∧ f.bytes.length ≤ 9216;
      let tagged := sound ∧ fld f.w1 7 0 = hcrc f.w0 f.w1 ∧ fld f.w1 15 8 = ver; tagged ∧ port = 114 ∧ ver = 3 ∧ 64 ≤ f.bytes.length ∧
      fld f.w1 35 22 = f.bytes.length ∧ fcsGood f.bytes = true ∧ s.spnTakes (fld f.w1 41 36) = false) ∧
  (let f : LaneFrame := lf 112 (mg 0x2A01000005) 64 3; let s : State := (ln 0 5 up).groupsIn 0 f.pre;
      let ok := s.laneHears 0 = true ∧ f.good = true ∧ f.codeErr = false ∧ f.bytes.length ≤ 9216 ∧ fld f.w1 7 0 = hcrc f.w0 f.w1 ∧ fld f.w1 15 8 = s.rf (Reg.HL_STAT 0) 35 32 ∧ fld f.w0 47 41 = 112;
      ok ∧ s.rb Reg.ID_MGMTPATH 0 = false) ∧
  (let f : LaneFrame := lf 112 (mg 0x2A01000005) 64 3; let s : State := ((F (ln 0 5 up) [(Reg.ID_MGMTPATH,0,0,1)]).setBob 5 0x123456#48).groupsIn 0 f.pre;
      let ok := s.laneHears 0 = true ∧ f.good = true ∧ f.codeErr = false ∧ f.bytes.length ≤ 9216 ∧ fld f.w1 7 0 = hcrc f.w0 f.w1 ∧ fld f.w1 15 8 = s.rf (Reg.HL_STAT 0) 35 32 ∧ fld f.w0 47 41 = 112;
      let w : Word := 0x2A01000005; ok ∧ s.rb Reg.ID_MGMTPATH 0 = true ∧ 64 ≤ f.bytes.length ∧ fld f.w1 35 22 = f.bytes.length ∧
      fcsGood f.bytes = true ∧ bytesVal ((f.bytes.drop 12).take 2) = 0x88B5 ∧ bytesVal ((f.bytes.drop 14).take 2) = 6 ∧
      wordOfBytes ((f.bytes.drop 16).take 6) = w ∧ fld w 47 46 = 0 ∧ 0x1000000 ≤ fld w 31 0 ∧ fld w 31 0 < 0x1800000 ∧
      CanReach s .host (fld w 31 0) ∧ s.inband = []) ∧
  (let f : LaneFrame := lf 112 (mg0) 64 3; let s : State := ((F (ln 0 5 up) [(Reg.ID_MGMTPATH,0,0,1)]).setBob 5 0x123456#48).groupsIn 0 f.pre;
      let ok := s.laneHears 0 = true ∧ f.good = true ∧ f.codeErr = false ∧ f.bytes.length ≤ 9216 ∧ fld f.w1 7 0 = hcrc f.w0 f.w1 ∧ fld f.w1 15 8 = s.rf (Reg.HL_STAT 0) 35 32 ∧ fld f.w0 47 41 = 112;
      ok ∧ s.rb Reg.ID_MGMTPATH 0 = true ∧ 64 ≤ f.bytes.length ∧ fld f.w1 35 22 = f.bytes.length ∧ fcsGood f.bytes = true ∧
      bytesVal ((f.bytes.drop 12).take 2) = 0x88B5 ∧ bytesVal ((f.bytes.drop 14).take 2) = 0 ∧ s.inband = []) := by
  refine ⟨?_, ?_, ?_, ?_, ?_, ?_, ?_, ?_, ?_, ?_, ?_, ?_, ?_⟩ <;> (try simp only [reach_iff]) <;> decide +kernel

theorem witness_Csp1Frames :
  (let s : State := F up [(Reg.PIN_FUNC 4,1,0,0)]; s.csp1Up = false ∨ s.csp1Pin = false) ∧
  (let f : CspFrame := { words := [] }; let s : State := F (cs1 []) [(Reg.PIN_FUNC 4,1,0,2),(Reg.ID_MGMTPATH,0,0,1)]; s.csp1Up = true ∧ s.csp1Pin = true ∧
      s.rb Reg.CSP1_CFG 47 = false ∧ s.rb Reg.ID_MGMTPATH 0 = true ∧ pathBurst f = false ∧ s.csp1.replies = []) ∧
  (let f : CspFrame := { words := [0x2A01000005] }; let s : State := F up [(Reg.PIN_FUNC 4,1,0,2)]; let cmd : Word := 0x2A01000005;
      s.csp1Up = true ∧ s.csp1Pin = true ∧ s.rb Reg.CSP1_CFG 47 = false ∧ s.rb Reg.ID_MGMTPATH 0 = false ∧ f.words = [cmd] ∧ fld cmd 47 46 = 0 ∧ s.csp1.replies = [] ∧
      0x1000000 ≤ fld cmd 31 0 ∧ fld cmd 31 0 < 0x1800000 ∧ CanReach s .host (fld cmd 31 0)) ∧
  (let f : CspFrame := { words := [0x2A01000005] }; let s : State := F (cs1 [b0, b0, b0, b0]) [(Reg.PIN_FUNC 4,1,0,2)]; let cmd : Word := 0x2A01000005; s.csp1Up = true ∧ s.csp1Pin = true ∧
      s.rb Reg.CSP1_CFG 47 = false ∧ s.rb Reg.ID_MGMTPATH 0 = false ∧ f.words = [cmd] ∧ fld cmd 47 46 = 0 ∧ 4 ≤ s.csp1.replies.length ∧
      f.devWords = 0 ∧ f.devCut = false) ∧
  (let f : CspFrame := { words := [0x2A01000005] }; let s : State := F (cs1 []) [(Reg.PIN_FUNC 4,1,0,2),(Reg.ID_MGMTPATH,0,0,1)]; s.csp1Up = true ∧ s.csp1Pin = true ∧
      s.rb Reg.CSP1_CFG 47 = false ∧ s.rb Reg.ID_MGMTPATH 0 = true ∧ pathBurst f = false ∧ s.csp1.replies = []) ∧
  (let s : State := F (cs1 []) [(Reg.PIN_FUNC 4,1,0,2),(Reg.CSP1_CFG,47,47,1)]; s.csp1Up = true ∧ s.csp1Pin = true ∧ s.rb Reg.CSP1_CFG 47 = true) ∧
  (let s : State := F up [(Reg.PIN_FUNC 4,1,0,2)]; s.csp1Up = true ∧ s.csp1Pin = true ∧ s.rb Reg.CSP1_CFG 47 = false) := by
  refine ⟨?_, ?_, ?_, ?_, ?_, ?_, ?_⟩ <;> (try simp only [reach_iff]) <;> decide +kernel

theorem witness_OrderedSets :
  (let n : LaneNo := 3; let bs : List Byte := frm 96; let s : State := ln 3 5 up; s.lst n ≠ 0 ∧ s.rb (Reg.HL_STAT n) 38 = false ∧
      setGood 7 bs = false) ∧
  (let n : LaneNo := 3; let bs : List Byte := capS 3 2 1; let s : State := ln 3 2 up; let ver := agreeVer (s.ownVers n) (setByte bs 2); s.lst n ≠ 0 ∧
      s.rb (Reg.HL_STAT n) 38 = false ∧ setGood 7 bs = true ∧ setByte bs 1 = 1 ∧ s.lst n = 2 ∧ gateBit (setByte bs 4) 0 = true ∧
      gateBit (setByte bs 4) 1 = false ∧ ver ≠ 0) ∧
  (let n : LaneNo := 3; let bs : List Byte := capS 0 2 1; let s : State := ln 3 2 up; let ver := agreeVer (s.ownVers n) (setByte bs 2); s.lst n ≠ 0 ∧
      s.rb (Reg.HL_STAT n) 38 = false ∧ setGood 7 bs = true ∧ setByte bs 1 = 1 ∧ s.lst n = 2 ∧ gateBit (setByte bs 4) 0 = true ∧
      gateBit (setByte bs 4) 1 = false ∧ ver = 0 ∧ gateBit (setByte bs 4) 2 = false) ∧
  (let n : LaneNo := 3; let bs : List Byte := capS 3 2 5; let s : State := { ln 3 5 up with flt := { up.flt with queue := [{ src := 0x073, code := 0x0D, info := 1, at_ := 77, seq := 4 }] } };
      s.lst n ≠ 0 ∧ s.rb (Reg.HL_STAT n) 38 = false ∧ setGood 7 bs = true ∧ setByte bs 1 = 1 ∧ gateBit (setByte bs 4) 2 = true ∧ s.lst n = 5) ∧
  (let n : LaneNo := 3; let bs : List Byte := capS 3 2 0; let s : State := ln 3 5 up; s.lst n ≠ 0 ∧ s.rb (Reg.HL_STAT n) 38 = false ∧
      setGood 7 bs = true ∧ 2 ≤ s.rf (Reg.HL_STAT n) 35 32 ∧ setByte bs 1 % 8 ≠ setByte bs 4 % 8 ∧ (s.lane n).credWas = []) ∧
  (let n : LaneNo := 3; let bs : List Byte := frm 96; let s : State := ln 3 5 up; s.lst n ≠ 0 ∧ s.rb (Reg.HL_STAT n) 38 = false ∧
      (setGood 7 bs = false ∨ s.rf (Reg.HL_STAT n) 35 32 < 2)) ∧
  (let n : LaneNo := 3; let s : State := ln 3 5 up; let x := s.lane n; s.laneSends n = true ∧ s.cur (96 + n.val) = none ∧ x.txSets ≠ 1 ∧ x.rxSets ≠ 1) ∧
  (let n : LaneNo := 3; let s : State := LJ (ln 3 5 up) 3 (fun x => {x with txSets := 1, sleepTx := true, rxSets := 1}); let x := s.lane n;
      s.laneSends n = true ∧ s.cur (96 + n.val) = none ∧ x.txSets = 1 ∧ x.rxSets = 1) ∧
  (let n : LaneNo := 3; let s : State := LJ (ln 3 5 up) 3 (fun x => {x with txSets := 1, sleepTx := true, rxSets := 5}); let x := s.lane n;
      s.laneSends n = true ∧ s.cur (96 + n.val) = none ∧ x.txSets = 1 ∧ x.rxSets ≠ 0 ∧ x.rxSets ≠ 1) ∧
  (let n : LaneNo := 3; let s : State := ln 3 5 up; s.laneSends n = true ∧ s.lst n = 5 ∧ s.rf (Reg.HL_STAT n) 35 32 = 3 ∧
      s.rb (Reg.HL_CFG n) 45 = true ∧ s.cur (96 + n.val) = none) := by
  refine ⟨?_, ?_, ?_, ?_, ?_, ?_, ?_, ?_, ?_, ?_⟩ <;> decide +kernel

theorem witness_LaneBringUpAndLoss :
  (let n : LaneNo := 3; let s : State := ln 3 1 up; let x := s.lane n; let st := Reg.HL_STAT n; s.rb st 38 = false ∧ (x.off = 0 ∨ s.supSearch n = true) ∧
      s.lst n = 1) ∧
  (let n : LaneNo := 3; let s : State := LJ (F (ln 3 1 up) [(Reg.HL_CFG 3,47,47,1)]) 3 (fun x => {x with off := 7}); let x := s.lane n; let st := Reg.HL_STAT n;
      s.rb st 38 = false ∧ x.off ≠ 0 ∧ s.supSearch n = true ∧ s.lst n = 1) ∧
  (let n : LaneNo := 3; let s : State := LJ (F (ln 3 1 up) [(Reg.HL_CFG 3,47,47,0)]) 3 (fun x => {x with off := 7}); let x := s.lane n;
      x.off ≠ 0 ∧ s.supSearch n = false) ∧
  (let n : LaneNo := 3; let s : State := ln 3 7 up; let x := s.lane n; let st := Reg.HL_STAT n; s.rb st 38 = false ∧ (x.off = 0 ∨ s.supSearch n = true) ∧
      s.lst n = 7 ∧ s.rb st 41 = false ∧ s.rb st 40 = false ∧ x.clkWait = false ∧ s.rb Reg.CLK_ACTIVE 8 = true) ∧
  (let n : LaneNo := 3; let s : State := ln 3 5 up; s.aligned n = true ∧ s.lst n = 5) ∧
  (let n : LaneNo := 3; let s : State := ln 3 2 up; s.aligned n = true ∧ s.lst n = 2) ∧
  (let n : LaneNo := 3; let s : State := ln 3 5 up; s.aligned n = true) ∧
  (let n : LaneNo := 3; let s : State := LJ (ln 3 2 up) 3 (fun x => {x with ver := 3, goSent := 16, goSeen := true, rate := 0}); let x := s.lane n;
      s.lst n = 2 ∧ x.ver ≠ 0 ∧ 16 ≤ x.goSent ∧ x.goSeen = true ∧ x.rate = 0) ∧
  (let n : LaneNo := 3; let s : State := LJ (ln 3 2 up) 3 (fun x => {x with ver := 3, goSent := 16, goSeen := true, rate := 7}); let x := s.lane n;
      s.lst n = 2 ∧ x.ver ≠ 0 ∧ 16 ≤ x.goSent ∧ x.goSeen = true ∧ x.rate ≠ 0 ∧ x.rate < 8) ∧
  (let n : LaneNo := 3; let s : State := ln 3 3 up; s.lst n = 3) ∧
  (let n : LaneNo := 3; let s : State := F (ln 3 4 up) [(Reg.HL_STAT 3,42,42,1)]; let st := Reg.HL_STAT n; let x := s.lane n; s.lst n = 4 ∧ s.aligned n = true ∧
      s.rb st 42 = true ∧ s.rf (Reg.HL_PARTNER n) 31 28 = s.rf st 30 28 ∧ x.clkWait = false ∧ s.rb Reg.CLK_ACTIVE 8 = true) ∧
  (let n : LaneNo := 3; let s : State := ln 3 5 up; let st := Reg.HL_STAT n; s.lst n = 5 ∧ s.rxSleeps n = false ∧ s.rb st 41 = false) ∧
  (let n : LaneNo := 3; let s : State := ln 3 5 up; let st := Reg.HL_STAT n; s.lst n = 5 ∧ s.rxSleeps n = false ∧ s.rb st 40 = false) ∧
  (let n : LaneNo := 3; let s : State := ln 3 7 up; let x := s.lane n; s.lst n = 7 ∧ x.clkWait = false) ∧
  (let n : LaneNo := 3; let s : State := { ln 3 5 up with tm := { up.tm with cur := [(99, some { q := 2, fid := 5 })], sent := [(99, some { w0 := 5, w1 := 6, bytes := [1, 2, 3] })] } };
      let c : Sending := { q := 2, fid := 5 }; s.cur (96 + n.val) = some c ∧ (s.lastSent (96 + n.val)).isSome = true) := by
  refine ⟨?_, ?_, ?_, ?_, ?_, ?_, ?_, ?_, ?_, ?_, ?_, ?_, ?_, ?_, ?_⟩ <;> decide +kernel

theorem witness_DistaffEvents :
  (let s : State := ds 2; s.dstState = 2 ∧ s.postOver = true ∧ s.dst.taking = []) ∧
  (let s : State := let u := dstS 2; { u with dst := { u.dst with left := [0, 5, 0, 0] } }; s.dstState = 2 ∧ s.postOver = false) ∧
  (let s : State := dstS 1; let c : Fin 4 := 1; s.dst.taking.find? (fun k => decide (k.ch = c.val)) = none) ∧
  (let s : State := let u := dstS 1; { u with dst := { u.dst with taking := [{ ch := 1, word := 5, at_ := 77, body := [] }] } }; let c : Fin 4 := 1; let k : Ckp := { ch := 1, word := 5, at_ := 77, body := [] };
      s.dst.taking.find? (fun x => decide (x.ch = c.val)) = some k ∧ (s.dst.ckpts.filter (fun x => decide (x.ch = c.val))).length ≤ 4) ∧
  (let s : State := rp; let g : LgNo := 2; (s.lg g).replay.st = 1) ∧
  (let s : State := up; let g : LgNo := 2; (s.lg g).replay.st ≠ 1) ∧
  (let s : State := P (dstS 1) 3 (fun x => {x with d3Seen := some 7}); let p : PortNo := 3; let w : Word := 0xE00000070003; s.pst p = 3 ∧
      s.rb (Reg.PORT_STATE p) 19 = true ∧ fld w 47 44 = 0xE ∧ (s.port p).d3Seen = some (fld w 31 16)) ∧
  (let s : State := dstS 1; let p : PortNo := 3; let w : Word := 0xE00000070003; s.pst p = 3 ∧ s.rb (Reg.PORT_STATE p) 19 = true ∧
      fld w 47 44 = 0xE ∧ (s.port p).d3Seen ≠ some (fld w 31 16) ∧ s.recorded p = true ∧ s.dstState = 1 ∧ s.rb Reg.DST_TRIGCFG 45 = true) := by
  refine ⟨?_, ?_, ?_, ?_, ?_, ?_, ?_, ?_⟩ <;> decide +kernel

theorem witness_ClockSourcesAndReturn :
  (let s : State := up; let k : Fin 18 := 0; let dev : BitVec 32 := 400000; let ppm : BitVec 16 := 0;
      let good := if k = 0 ∧ s.ready 1 = true then ppm.toInt.natAbs ≤ 2000 else dev.toInt.natAbs ≤ (if k.val < 2 then 400000 else 2000);
      (k = 17 → s.loopRefReady 0 = true) ∧ (isLoop k = true → s.loopEn (k.val - 2) = true ∧ (s.src k).locked = true ∧
      s.loopRefReady (k.val - 2) = true) ∧ good ∧ s.ready k = false ∧ (s.src k).good < 2) ∧
  (let s : State := up.updSrc 0 (fun x => { x with good := 2 }); let k : Fin 18 := 0; let dev : BitVec 32 := 400000; let ppm : BitVec 16 := 0;
      let good := if k = 0 ∧ s.ready 1 = true then ppm.toInt.natAbs ≤ 2000 else dev.toInt.natAbs ≤ (if k.val < 2 then 400000 else 2000);
      (k = 17 → s.loopRefReady 0 = true) ∧ (isLoop k = true → s.loopEn (k.val - 2) = true ∧
      (s.src k).locked = true ∧ s.loopRefReady (k.val - 2) = true) ∧ good ∧ s.ready k = false ∧ (s.src k).good = 2) ∧
  (let s : State := F up [(Reg.CLK_READY,5,0,35)]; let k : Fin 18 := 0; let dev : BitVec 32 := 0; let ppm : BitVec 16 := 2001;
      let good := if k = 0 ∧ s.ready 1 = true then ppm.toInt.natAbs ≤ 2000 else dev.toInt.natAbs ≤ (if k.val < 2 then 400000 else 2000);
      (k = 17 → s.loopRefReady 0 = true) ∧ (isLoop k = true → s.loopEn (k.val - 2) = true ∧ (s.src k).locked = true ∧
      s.loopRefReady (k.val - 2) = true) ∧ ¬good ∧ s.ready k = true) ∧
  (let s : State := F up [(Reg.CLK_PLLCTL 0,47,47,1),(Reg.CLK_READY,5,0,3)]; let k : Fin 18 := 17; let dev : BitVec 32 := 2000; let ppm : BitVec 16 := 0;
      let good := if k = 0 ∧ s.ready 1 = true then ppm.toInt.natAbs ≤ 2000 else dev.toInt.natAbs ≤ (if k.val < 2 then 400000 else 2000);
      (k = 17 → s.loopRefReady 0 = true) ∧ (isLoop k = true → s.loopEn (k.val - 2) = true ∧ (s.src k).locked = true ∧
      s.loopRefReady (k.val - 2) = true) ∧ good ∧ s.ready k = false ∧ (s.src k).good < 2) ∧
  (let s : State := F up [(Reg.CLK_READY,5,0,33)]; let k : Fin 15 := 3; s.ready (loopSrc k) = true) ∧
  (let s : State := F up [(Reg.CLK_READY,5,0,33)]; let k : Fin 18 := 5; s.ready k = true) ∧
  (let s : State := F (rdy 0) [(Reg.CLK_PLLCTL 3,47,47,1)]; let k : Fin 15 := 3; s.loopEn k = true ∧ s.loopRefReady k = true ∧
      (s.src (loopSrc k)).locked = false) ∧
  (let s : State := lk 5; let k : Fin 15 := 3; (s.src (loopSrc k)).locked = true ∧ s.boot.coreDue = false ∧ s.boot.hlDue = false) ∧
  (let s : State := ln 3 2 up; let n : LaneNo := 3; s.laneOn n = true ∧ s.lst n ≠ 0) ∧
  (let s : State := up; s.rb Reg.CLK_CFG 0 = true ∧ 2 ≤ s.boot.phase ∧ s.rootUp = true) ∧
  (let s : State := up.updDom 36 (fun x => {x with flushing := true}); let d : Fin 50 := 36; (s.dom d).st = 0 ∧ (s.dom d).chg = 0 ∧ (s.dom d).isolated = false) ∧
  (let s : State := up; s.rootUp = true) ∧
  (let s : State := F up [(Reg.TIME_PPSCFG,47,47,1)]; s.rootUp = true ∧ s.rb Reg.TIME_PPSCFG 47 = true) := by
  refine ⟨?_, ?_, ?_, ?_, ?_, ?_, ?_, ?_, ?_, ?_, ?_, ?_, ?_⟩ <;> decide +kernel

theorem witness_DomainTransitions :
  (let d : Fin 50 := 36; let s : State := dm 36 (fun x => {x with chg := 1, delayed := true}); let x := s.dom d; (x.chg = 1 ∨ x.chg = 2) ∧
      x.delayed = true ∧ x.st < 3 ∧ (x.next = none ∨ x.next = some x.st)) ∧
  (let d : Fin 50 := 36; let s : State := dm 36 (fun x => {x with chg := 1, delayed := true}); let x := s.dom d; (x.chg = 1 ∨ x.chg = 2) ∧
      x.delayed = true ∧ x.st < 3 ∧ (x.next = none ∨ x.next = some x.st) ∧ s.entryReason d true (decide (x.chg = 1) && s.retMem d 0) = none) ∧
  (let d : Fin 50 := 36; let s : State := dm 36 (fun x => {x with chg := 1}); let x := s.dom d; (x.chg = 1 ∨ x.chg = 2) ∧ x.delayed = false ∧
      x.next = none) ∧
  (let d : Fin 50 := 36; let s : State := dm 36 (fun x => {x with chg := 3, st := 1}); let x := s.dom d; x.chg = 3 ∧ x.next = none ∧
      (∀ l, lgOfDom d = some l → (s.dom l).st = 0 ∧ (s.dom l).chg = 0) ∧ s.waitQ = [] ∧ s.flt.late = []) ∧
  (let d : Fin 50 := 36;
      let s : State := { dm 36 (fun x => {x with chg := 3, st := 1}) with waitQ := [{ req := 48, write := false, addr := 0x1000005, data := 0, sink := .bare }] };
      let r : Requester := .host; let h : Waiting := { req := 48, write := false, addr := 0x1000005, data := 0, sink := .bare }; s.waitQ = [h] ∧
      h.req = reqNo r ∧ h.sink = .bare ∧ domainOf h.addr = some d.val ∧ s.gate d = .stall) := by
  refine ⟨?_, ?_, ?_, ?_, ?_⟩ <;> (try simp only [some_iff]) <;> decide +kernel

theorem witness_ParkRailsAndHoldUp :
  (let s : State := up; s.pwr.core = true ∧ s.rb Reg.PWR_HOLDSTAT 46 = false) ∧
  (let s : State := pw up (fun x => {x with park := 1}); s.pwr.park = 1) ∧
  (let s : State := F up [(Reg.PWR_WAKECFG,16,16,1)]; s.rb Reg.PWR_WAKECFG 16 = true) ∧
  (let s : State := up; s.rb Reg.PWR_WAKECFG 16 = false) ∧
  (let s : State := { pw up (fun x => {x with park := 1}) with now := 8001 }; s.wakeSampled = false) ∧
  (let s : State := pw (F up [(Reg.PWR_WAKECFG,16,16,1)]) (fun x => {x with park := 1, core := false, wakeIn := true});
      let src : WakeSource := .wakeIn;
      let on := (match src with | .line p => (s.port p).detArmed | .wakeIn => s.rb Reg.PWR_WAKECFG 16 && s.pwr.wakeIn);
      s.wakeSampled = true ∧ on = true) ∧
  (let s : State := pw up (fun x => {x with park := 1}); let src : WakeSource := .wakeIn;
      let on := (match src with | .line p => (s.port p).detArmed | .wakeIn => s.rb Reg.PWR_WAKECFG 16 && s.pwr.wakeIn);
      s.wakeSampled = true ∧ on = false) ∧
  (let s : State := pw up (fun x => {x with park := 1}); s.rb Reg.PWR_HOLDSTAT 45 = false ∧ s.pwr.park ≠ 0) ∧
  (let s : State := F up [(Reg.PWR_HOLDSTAT,45,45,1)]; s.rb Reg.PWR_HOLDSTAT 45 = true) ∧
  (let s : State := up; s.rootUp = true) ∧
  (let s : State := F up [(Reg.PWR_HOLDSTAT,45,45,1)]; s.rootUp = true ∧ s.rb Reg.PWR_HOLDSTAT 45 = true) ∧
  (let s : State := up; s.rootUp = true ∧ s.rb Reg.PWR_HOLDSTAT 45 = false) ∧
  (let s : State := up; s.rootUp = true ∧ s.rb Reg.PWR_HOLDSTAT 46 = false) ∧
  (let s : State := pw (F up [(Reg.PWR_AONSTAT,47,47,1)]) (fun x => {x with park := 2, core := false}); s.rb Reg.PWR_AONSTAT 47 = true ∧
      s.rootUp = false) ∧
  (let s : State := pw up (fun x => {x with park := 2, core := false}); s.pwr.park ≠ 0 ∧ s.rootUp = false) ∧
  (let s : State := cs (cmt 3 2) (F up [(Reg.PWR_HOLDSTAT,47,46,3)]); s.rb Reg.PWR_HOLDSTAT 46 = true ∧ s.rb Reg.PWR_HOLDSTAT 45 = false) ∧
  (let s : State := up; s.boot.commit = none) ∧
  (let s : State := cs (cmt 3 2) (F up [(Reg.PWR_HOLDSTAT,47,46,3)]); let c : Commit := cmt 3 2; s.boot.commit = some c ∧ c.step < 6 ∧
      s.rb Reg.PWR_HOLDSTAT 45 = false ∧ s.gauge = 0) ∧
  (let s : State := pw (cs (cmt 3 2) (F up [(Reg.PWR_HOLDSTAT,47,45,7)])) (fun x => {x with bootIn := some {}}); let c : Commit := cmt 3 2; let b : BootInputs := {};
      s.boot.commit = some c ∧ s.rb Reg.PWR_HOLDSTAT 45 = true ∧ s.pwr.io = true ∧ s.pwr.core = true ∧ s.pwr.bootIn = some b) ∧
  (let s : State := pw (cs (cmt 3 2) (F up [(Reg.PWR_HOLDSTAT,47,45,7)])) (fun x => {x with core := false}); let c : Commit := cmt 3 2;
      s.boot.commit = some c ∧ s.rb Reg.PWR_HOLDSTAT 45 = true ∧ s.pwr.io = true ∧ s.pwr.core = false) ∧
  (let s : State := cs (cmt 3 2) (F up [(Reg.PWR_HOLDSTAT,47,46,3)]); let c : Commit := cmt 3 2; s.boot.commit = some c ∧ c.step < 6 ∧
      s.rb Reg.PWR_HOLDSTAT 47 = true) := by
  refine ⟨?_, ?_, ?_, ?_, ?_, ?_, ?_, ?_, ?_, ?_, ?_, ?_, ?_, ?_, ?_, ?_, ?_, ?_, ?_, ?_, ?_⟩ <;> decide +kernel

theorem witness_FaultServiceOrder :
  let s : State := fe 1 5 1 3 1 up; let x : Ev := { src := 3, code := 5, info := 1, at_ := 77, seq := 4 }; s.nextEvent = some x ∧ x ∈ s.waitingEvents := by
  decide +kernel

theorem witness_FaultService :
  (let s : State := fe 0 5 1 3 1 up; let e : Ev := { src := 3, code := 5, info := 1, at_ := 77, seq := 4 }; s.rootUp = true ∧ s.flt.queue = [e] ∧
      s.flt.latch = [] ∧ s.bist.cur = none ∧ s.codeEn e.code = false) ∧
  (let s : State := (fe 1 5 1 3 1 up).setFsrc 3 { seen := [(5, 0)] }; let e : Ev := { src := 3, code := 5, info := 1, at_ := 77, seq := 4 }; s.rootUp = true ∧
      s.flt.queue = [e] ∧ s.flt.latch = [] ∧ s.bist.cur = none ∧ s.codeEn e.code = true ∧ s.isRepeat e = true) ∧
  (let s : State := fe 1 5 1 3 1 up; let e : Ev := { src := 3, code := 5, info := 1, at_ := 77, seq := 4 }; s.rootUp = true ∧ s.flt.queue = [e] ∧
      s.flt.latch = [] ∧ s.bist.cur = none ∧ s.codeEn e.code = true ∧ s.fsrc e.src = {} ∧ s.flt.hist.length < 16) ∧
  (let s : State := F (up.setFsrc 0xF2 { st := 1 }) [(Reg.FLT_RECCFG,33,28,0)]; let src : BitVec 12 := 0xF2; let k := src.toNat; let x := s.fsrc k;
      x.st = 1 ∧ s.rf Reg.FLT_RECCFG 33 28 ≤ (s.recWin k).length) ∧
  (let s : State := up.setFsrc 0xF2 { st := 1 }; let src : BitVec 12 := 0xF2; let k := src.toNat; let x := s.fsrc k; x.st = 1 ∧
      (s.recWin k).length < s.rf Reg.FLT_RECCFG 33 28) ∧
  (let s : State := fe 0 1 5 3 1 up; let src : BitVec 12 := 0xF2; let k := src.toNat; let x := s.fsrc k; x.st ≠ 1) ∧
  (let s : State := { up with flt := { up.flt with pulse := true } }; s.flt.pulse = true) ∧
  (let s : State := fe 0 1 5 3 1 up; s.rootUp = true ∧ s.badpar = []) ∧
  (let s : State := { up with badpar := [(0x15004, true)] }; let a : Nat := 0x15004; s.rootUp = true ∧ s.badpar = [(a, true)] ∧ s.scrubs a = true) := by
  refine ⟨?_, ?_, ?_, ?_, ?_, ?_, ?_, ?_, ?_⟩ <;> decide +kernel

theorem witness_SelfTests :
  (let s : State := { up with bist := { up.bist with cls := 1, unit := 3 } }; let c := s.bist.cls; let u := s.bist.unit;
      s.rb Reg.BIST_CFG 47 = true ∧ 2 ≤ s.boot.phase ∧ s.rootUp = true ∧ s.bist.cur = none ∧ s.testTaken s.bist.cls s.bist.unit = true ∧
      s.skipReason c u ≠ 0) ∧
  (let s : State := F { up with bist := { up.bist with cls := 2, unit := 3 } } [(Reg.BIST_CFG,47,47,1)]; let c := s.bist.cls; let u := s.bist.unit;
      s.rb Reg.BIST_CFG 47 = true ∧ 2 ≤ s.boot.phase ∧ s.rootUp = true ∧ s.bist.cur = none ∧ s.testTaken s.bist.cls s.bist.unit = true ∧
      s.skipReason c u = 0) ∧
  (let s : State := bt 1 9 true false; let x : Test := { cls := 1, unit := 9, seq := 3, since := 0, waiting := true, ext := false };
      s.bist.cur = some x ∧ x.waiting = true) ∧
  (let s : State := bt 1 9 false false; let x : Test := { cls := 1, unit := 9, seq := 3, since := 0, waiting := false, ext := false };
      s.bist.cur = some x ∧ x.waiting = false ∧ x.ext = false ∧ 1 ≤ x.cls ∧ x.cls ≤ 6 ∧ x.unit < testUnits x.cls) ∧
  (let s : State := (bt 1 9 false false).updDom 31 (fun x => {x with st := 2});
      let x : Test := { cls := 1, unit := 9, seq := 3, since := 0, waiting := false, ext := false }; s.bist.cur = some x ∧ x.waiting = false ∧
      x.ext = false ∧ 1 ≤ x.cls ∧ x.cls ≤ 6 ∧ x.unit < testUnits x.cls ∧ (s.dom (testDomain x.cls x.unit)).st = 2) := by
  refine ⟨?_, ?_, ?_, ?_, ?_⟩ <;> decide +kernel

theorem witness_StartUpAndConfiguration :
  (let s : State := { up.updDom 30 (fun x => {x with st := 2}) with boot := { up.boot with phase := 1 } }; let n : Nat := 0; s.boot.phase = 1 ∧ s.rootUp = true ∧
      s.supPick = some n ∧ s.domOn (30 + n / 8) = false) ∧
  (let s : State := { up with boot := { up.boot with phase := 1 } }; let n : Nat := 0; s.boot.phase = 1 ∧ s.rootUp = true ∧ s.supPick = some n ∧ s.domOn (30 + n / 8) = true) ∧
  (let s : State := J (F up [(Reg.MB_SUPLOC,5,0,9)]) 9 (fun x => {x with mode := 0, run := .doubleHalt}); let n : Nat := 16; 2 ≤ s.boot.phase ∧
      s.rootUp = true ∧ s.supFailed = true ∧ s.supNext = some n) ∧
  (let s : State := cfg 5; let k : Nat := 1; let i := s.boot.cfgIx; s.boot.win = some k ∧ s.boot.phase = 2 ∧ s.supUp = true ∧
      s.boot.cfgWait = false ∧ fld (s.slotImg k 4) 31 0 ≤ i) ∧
  (let s : State := cfg 1; let k : Nat := 1; let i := s.boot.cfgIx; let a := bodyAt + fld (s.slotImg k 3) 31 0 + 2 * i; let w := s.slotImg k a;
      s.boot.win = some k ∧ s.boot.phase = 2 ∧ s.supUp = true ∧ s.boot.cfgWait = false ∧ i < fld (s.slotImg k 4) 31 0 ∧ fld w 47 46 = 2) ∧
  (let s : State := cfg 2; let k : Nat := 1; let i := s.boot.cfgIx; let a := bodyAt + fld (s.slotImg k 3) 31 0 + 2 * i; let w := s.slotImg k a;
      s.boot.win = some k ∧ s.boot.phase = 2 ∧ s.supUp = true ∧ s.boot.cfgWait = false ∧ i < fld (s.slotImg k 4) 31 0 ∧ fld w 47 46 < 2 ∧
      fld w 31 0 = Reg.LC_STATE) ∧
  (let s : State := cfg 0; let k : Nat := 1; let i := s.boot.cfgIx; let a := bodyAt + fld (s.slotImg k 3) 31 0 + 2 * i; let w := s.slotImg k a;
      s.boot.win = some k ∧ s.boot.phase = 2 ∧ s.supUp = true ∧ s.boot.cfgWait = false ∧ i < fld (s.slotImg k 4) 31 0 ∧ fld w 47 46 = 0 ∧
      0x1000000 ≤ fld w 31 0 ∧ fld w 31 0 < 0x1800000 ∧ (∀ d, domainOf (fld w 31 0) = some d → s.domOn d = true) ∧ (s.spn s.supSpn).mode = 0) ∧
  (let s : State := cfg 5; let k : Nat := 1; s.boot.win = some k) ∧
  (let s : State := cfgD 3; let k : Nat := 1; s.boot.win = some k ∧ s.boot.phase = 3 ∧ s.rootUp = true ∧ s.rf Reg.CSP0_BOOTSTAT 35 16 = 0xFFFFF ∧
      s.fuses.count < 64 ∧ bitOf (s.slotImg k 0) 17 = true ∧ s.fuses.count < fld (s.slotImg k 2) 47 40) ∧
  (let s : State := cfgD 5; let k : Nat := 1; s.boot.win = some k ∧ s.boot.phase = 3 ∧ s.rootUp = true ∧ s.rf Reg.CSP0_BOOTSTAT 35 16 = 0xFFFFF ∧
      s.fuses.count < 64 ∧ fld (s.slotImg k 2) 47 40 ≤ s.fuses.count) := by
  refine ⟨?_, ?_, ?_, ?_, ?_, ?_, ?_, ?_, ?_, ?_⟩ <;> (try simp only [some_iff]) <;> decide +kernel

theorem witness_SlotSelectionIsSound :
  (let s : State := { inFl img2 1 1 st1 with boot := { st1.boot with phase := 1 } };
      let full := fun (k : Nat) => imgCheck (s.slotImg k) s.fuses.count s.lcTest; let seq := fun (k : Nat) => fld (s.slotImg k 30) 15 0;
      let first := if serialNewer 16 (seq 1) (seq 0) then 1 else 0; full first = 0) ∧
  (let s : State := { inFl img2 1 1 (inFl imgB 1 0 st1) with boot := { st1.boot with phase := 1 } };
      let full := fun (k : Nat) => imgCheck (s.slotImg k) s.fuses.count s.lcTest; let seq := fun (k : Nat) => fld (s.slotImg k 30) 15 0;
      let first := if serialNewer 16 (seq 1) (seq 0) then 1 else 0; full first ≠ 0 ∧ full (1 - first) = 0) ∧
  (let s : State := up; let full := fun (k : Nat) => imgCheck (s.slotImg k) s.fuses.count s.lcTest;
      let seq := fun (k : Nat) => fld (s.slotImg k 30) 15 0; let first := if serialNewer 16 (seq 1) (seq 0) then 1 else 0; full first ≠ 0 ∧
      full (1 - first) ≠ 0) ∧
  (let s : State := { inFl img2 1 1 st1 with boot := { st1.boot with phase := 1 } }; let win := s.selectSlot.2.2; let k : Nat := 1; win = some k) ∧
  (let s : State := { inFl img2 1 1 st1 with boot := { st1.boot with phase := 1 } }; let n : Nat := 0; s.boot.phase = 1 ∧ s.rootUp = true ∧
      s.supPick = some n ∧ s.domOn (30 + n / 8) = true ∧ s.rb Reg.CSP0_BOOTSTAT 37 = false ∧ s.rb Reg.CSP0_CFG 47 = false) := by
  refine ⟨?_, ?_, ?_, ?_, ?_⟩ <;> decide +kernel

theorem witness_FlashAndCommits :
  (let s : State := cs (cmt 3 2) up; let r : Requester := .host; let w : Word := 1; CanPair s r Reg.CSP0_COMMIT ∧ bitOf w 0 = true ∧
      s.boot.commit.isSome = true) ∧
  (let s : State := F (inBob img3 up) [(Reg.CSP0_CMTSRC,31,0,0x1000100),(Reg.CSP0_CMTLEN,17,0,2051),(Reg.PWR_HOLDSTAT,47,47,1)];
      let r : Requester := .host; let w : Word := 1; let src := s.rf Reg.CSP0_CMTSRC 31 0; let len := s.rf Reg.CSP0_CMTLEN 17 0;
      CanPair s r Reg.CSP0_COMMIT ∧ bitOf w 0 = true ∧ s.boot.commit = none ∧ (∀ b ∈ banksOf src (max len 2048), s.gate (36 + b) = .go) ∧
      len = 2048 + imgBodyLen s.staged ∧ len ≤ 262144 ∧ imgCheck s.staged s.fuses.count s.lcTest = 0 ∧ s.rb Reg.PWR_HOLDSTAT 47 = true ∧
      s.rf Reg.PWR_HOLDNEED 23 0 ≤ s.gauge) ∧
  (let s : State := up; let r : Requester := .host; CanPair s r Reg.CSP0_BOOTCTL ∧ s.boot.bare = false) ∧
  (let s : State := { up with boot := { up.boot with phase := 2, bare := true } }; let r : Requester := .host; let w : Word := 0; CanPair s r Reg.CSP0_BOOTCTL ∧
      s.boot.phase = 2 ∧ s.boot.bare = true ∧ bitOf w 0 = false) ∧
  (let s : State := { up with boot := { up.boot with phase := 2, bare := true } }; let r : Requester := .spn 0; let w : Word := 1; let n : Nat := 0;
      CanPair s r Reg.CSP0_BOOTCTL ∧ s.boot.phase = 2 ∧ s.boot.bare = true ∧ bitOf w 0 = true ∧ s.supPick = some n ∧ s.domOn (30 + n / 8) = true) ∧
  (let s : State := cs (cmt 3 2) up; let c : Commit := cmt 3 2; s.boot.commit = some c ∧ s.rb Reg.PWR_HOLDSTAT 45 = false ∧ c.step < 6 ∧
      s.rb Reg.CSP0_CFG 47 = false ∧ 1 < c.left) ∧
  (let s : State := cs (cmt 3 1) up; let c : Commit := cmt 3 1; s.boot.commit = some c ∧ s.rb Reg.PWR_HOLDSTAT 45 = false ∧ c.step < 6 ∧ s.rb Reg.CSP0_CFG 47 = false ∧ c.left ≤ 1 ∧
      c.step < 5) ∧
  (let s : State := cs (cmt 5 1) up; let c : Commit := cmt 5 1; s.boot.commit = some c ∧ s.rb Reg.PWR_HOLDSTAT 45 = false ∧ c.step < 6 ∧ s.rb Reg.CSP0_CFG 47 = false ∧ c.left ≤ 1 ∧
      c.step = 5) ∧
  (let s : State := cs (cmt 3 2) up; let c : Commit := cmt 3 2; s.boot.commit = some c ∧ s.rb Reg.PWR_HOLDSTAT 45 = false ∧ c.step < 6) ∧
  (let s : State := F (cs (cmt 3 2) up) [(Reg.CSP0_CFG,47,47,1)]; let c : Commit := cmt 3 2; s.boot.commit = some c ∧ s.rb Reg.PWR_HOLDSTAT 45 = false ∧
      c.step < 6 ∧ s.rb Reg.CSP0_CFG 47 = true) ∧
  (let s : State := up; s.boot.commit = none ∧ ∀ x ∈ s.boot.lines, x.1 ≠ (7#32).toNat) ∧
  (let s : State := { cs (cmt 3 2) up with waitQ := [{ req := 48, write := false, addr := 0x4000100, data := 0, sink := .bare }] };
      let r : Requester := .host; let h : Waiting := { req := 48, write := false, addr := 0x4000100, data := 0, sink := .bare };
      s.boot.commit.isSome = true ∧ s.waitQ = [h] ∧ h.req = reqNo r ∧ h.sink = .bare ∧ 0x4000000 ≤ h.addr) := by
  refine ⟨?_, ?_, ?_, ?_, ?_, ?_, ?_, ?_, ?_, ?_, ?_, ?_⟩ <;> (try simp only [CanPair, write_iff]) <;> decide +kernel

theorem witness_StepsThatGoOn : fusesLegal up.fuses = true ∧ Tab.wf (fun _ => 0#48) up.bobbin = true ∧ Tab.wf (fun _ => 0xFF#8) up.flash = true ∧
    (∃ t, step up = .next t) ∧ ∃ t, exec .commandCopy up = .next t :=
  ⟨by decide, by decide, by decide, ⟨_, rfl⟩, ⟨_, rfl⟩⟩

/-! ## The window of a matched-filter-bound estimate -/

theorem get_range' {α : Type} (d : Nat → α) (f : Nat → α) (n : Nat) : ∀ lo j, lo ≤ j → j < lo + n →
    Tab.get d ((List.range' lo n).map (fun k => (k, f k))) j = f j := by
  induction n with
  | zero => omega
  | succ n ih =>
    intro lo j h1 h2
    rw [List.range'_succ, List.map_cons]
    by_cases h : j = lo
    · subst h; simp [Tab.get]
    · have := ih (lo + 1) j (by omega) (by omega)
      simp [Tab.get, this, Ne.symm h]

/-- Both sub-rings full: stream 0 holds the word a, stream 1 the word b. -/
def ring2 (a b : Word) : Tab (Option (Nat × Word)) := (List.range' 0 16384).map (fun k => (k, some (k % 8192, if k < 8192 then a else b)))

theorem tapWords_ring2 (a b : Word) (x : Rx) (hx : x.ring = ring2 a b) (st : Fin 2) : ∀ n k, k + n ≤ 8192 →
    x.tapWords st k n = some (List.replicate n (if st.val = 0 then a else b)) := by
  intro n
  induction n with
  | zero => simp [Rx.tapWords]
  | succ n ih =>
    intro k hk
    have hw : x.tapWord st k = some (if st.val = 0 then a else b) := by
      rw [Rx.tapWord, hx, ring2, get_range' _ (fun k => some (k % 8192, if k < 8192 then a else b)) _ _ _ (by omega) (by omega)]
      fin_cases st <;> simp <;> omega
    rw [Rx.tapWords, hw, Option.bind_some, ih (k + 1) (by omega), Option.map_some, List.replicate_succ]

theorem sumTo_zero (n : Nat) (f : Nat → Int) (h : ∀ i, f i = 0) : sumTo n f = 0 := by
  have go : ∀ l : List Nat, l.foldl (fun a i => a + f i) 0 = 0 := by
    intro l; induction l with
    | nil => rfl
    | cons i l ih => simp [h]
  exact go _

/-- With zero coefficients every symbol is equalised to 0. -/
theorem equalise_zero (s : State) (p : Nat) (h : ∀ a j, s.tap p a j = 0) (x : List Int) : ∀ k n pre,
    s.equalise p x k n pre = List.replicate k (slice (s.pmode p) 0, slicerErr 0 (slice (s.pmode p) 0)) ++ pre := by
  intro k
  induction k with
  | zero => simp [State.equalise]
  | succ k ih =>
    intro n pre
    simp only [State.equalise, h, Int.zero_mul, sumTo_zero _ _ (fun _ => rfl), Int.sub_zero]
    rw [ih, List.replicate_succ', List.append_assoc]
    rfl

/-- A full window: clean words of zero samples beside the word `b` of slicer errors, under zero coefficients. -/
def mfbState (b : Word) : State := X (M (S up 3 3) 3 3) (fun x => { x with ring := ring2 0x20000000000 b })

theorem mfbState_words (b : Word) :
    ((mfbState b).port 3).rx.tapWords 0 0 8192 = some (List.replicate 8192 0x20000000000) ∧
    ((mfbState b).port 3).rx.tapWords 1 0 8192 = some (List.replicate 8192 b) :=
  ⟨tapWords_ring2 _ _ _ rfl 0 _ _ (by decide), tapWords_ring2 _ _ _ rfl 1 _ _ (by decide)⟩

theorem mfbState_equalise (b : Word) (x : List Int) : (mfbState b).equalise 3 x 32704 32 [] = List.replicate 32704 (0, 0) := by
  rw [equalise_zero]
  · have hm : (mfbState b).pmode 3 = 3 := show (M (S up 3 3) 3 3).pmode 3 = 3 by decide +kernel
    rw [hm, List.append_nil]; congr 1
  · intro a j
    have h : ∀ k, (mfbState b).halfWord 3 ((mfbState b).servingHalf 3) k = 0 := fun k => rfl
    rw [State.tap, State.tapOf, h, pairTap]
    split <;> rfl

theorem flatMap_zeros {w : Word} (h : wordSamples w = [0, 0, 0, 0]) (n : Nat) :
    (List.replicate n w).flatMap wordSamples = List.replicate (4 * n) 0 := by
  induction n with
  | zero => rfl
  | succ n ih => rw [List.replicate_succ, List.flatMap_cons, ih, h]; simp [Nat.mul_succ, List.replicate_succ]

theorem witness_EstimatesAndLowPower_window :
    let s : State := mfbState 0x10000000000; let p : PortNo := 3; let x := s.port p
    ∃ xs es, s.pst p = 3 ∧ x.rx.tapWords 0 0 8192 = some xs ∧ x.rx.tapWords 1 0 8192 = some es ∧
      let e := es.flatMap wordSamples
      xs.all (cleanWord 2) = true ∧ es.all (cleanWord 1) = true ∧
        (((s.equalise p (xs.flatMap wordSamples) 32704 32 []).reverse).drop 32).map (·.2) = (e.drop 64).take 32672 := by
  refine ⟨_, _, rfl, (mfbState_words _).1, (mfbState_words _).2, ?_, ?_, ?_⟩
  · exact List.all_eq_true.2 (fun w hw => by rw [List.eq_of_mem_replicate hw]; decide)
  · exact List.all_eq_true.2 (fun w hw => by rw [List.eq_of_mem_replicate hw]; decide)
  · show (((mfbState _).equalise 3 _ 32704 32 []).reverse.drop 32).map (·.2) = _
    rw [mfbState_equalise, flatMap_zeros (by decide)]
    simp only [List.reverse_replicate, List.drop_replicate, List.map_replicate, List.take_replicate]
    congr 1

theorem witness_EstimatesAndLowPower_dropped :
    let s : State := mfbState 0; let p : PortNo := 3; let x := s.port p
    ∃ xs es, s.pst p = 3 ∧ x.rx.tapWords 0 0 8192 = some xs ∧ x.rx.tapWords 1 0 8192 = some es ∧ ¬ es.all (cleanWord 1) = true := by
  refine ⟨_, _, rfl, (mfbState_words _).1, (mfbState_words _).2, ?_⟩
  intro h
  have := List.all_eq_true.1 h 0 (List.mem_replicate.2 ⟨by omega, rfl⟩)
  exact absurd this (by decide)

end Sys2Proof.Tests
end

section
/-! PROOF. Which commands touch the fuses, and how: every operation of the model keeps the fuses and the queue, starts the programming of the next
life-cycle fuse (a commit of LC_STATE), or cuts one short (a loss of VDD_CORE). The steps of the machine follow, and from them O9, O10 and O3. -/

namespace Sys2Proof.Machine

/-! ### The frame: operations that keep the fuses and the queue

One equation for each operation, by those of the operations it calls. The queue stands beside the fuses since the same equations say that a command
leaves it as it was. -/

/-- What only a few commands change: the fuses, and the queue of commands. Not reducible, so that two states are compared by the equations below and
never by unfolding. -/
def State.fixed (s : State) : Fuses × List Instr := (s.fuses, s.pending)

@[simp] theorem fixed_mk (pending now time setPend stepPend free regs perReq guard shadow reply waitQ inband nextReply badpar bobbin bobFree flash
    fuses csp1 boot ports lgs spns lanes rt knots tm dst clk pwr flt bist pins) :
    (State.mk pending now time setPend stepPend free regs perReq guard shadow reply waitQ inband nextReply badpar bobbin bobFree flash
      fuses csp1 boot ports lgs spns lanes rt knots tm dst clk pwr flt bist pins).fixed = (fuses, pending) := by
  rw [State.fixed]

@[simp] theorem fixed_fold (s : State) : (s.fuses, s.pending) = s.fixed := by rw [State.fixed]

@[simp] theorem fixed_fst (s : State) : s.fixed.1 = s.fuses := by rw [State.fixed]

@[simp] theorem fixed_ite (c : Prop) [Decidable c] (a b : State) : (if c then a else b).fixed = if c then a.fixed else b.fixed :=
  apply_ite _ _ _ _

@[simp] theorem fixed_ite_snd {α : Type} (c : Prop) [Decidable c] (a b : α × State) :
    (if c then a else b).2.fixed = if c then a.2.fixed else b.2.fixed := by split <;> rfl

@[simp] theorem forAll_fixed {α : Type} (f : State → α → State) (h : ∀ s a, (f s a).fixed = s.fixed) (l : List α) (s : State) :
    (forAll f l s).fixed = s.fixed := by
  induction l generalizing s with
  | nil => rfl
  | cons a l ih => exact (ih _).trans (h s a)

/-! #### Named operations -/

@[simp] theorem setReg_fixed (s : State) (a : Nat) (v : Word) : (s.setReg a v).fixed = s.fixed := by
  simp [State.setReg]
@[simp] theorem setRf_fixed (s : State) (a hi lo v : Nat) : (s.setRf a hi lo v).fixed = s.fixed := by
  simp [State.setRf]
@[simp] theorem setRb_fixed (s : State) (a i : Nat) (b : Bool) : (s.setRb a i b).fixed = s.fixed := by
  simp [State.setRb]
@[simp] theorem addCnt_fixed (s : State) (a n : Nat) : (s.addCnt a n).fixed = s.fixed := by
  simp [State.addCnt]
@[simp] theorem bump_fixed (s : State) (a : Nat) : (s.bump a).fixed = s.fixed := by
  simp [State.bump]
@[simp] theorem bumpSat_fixed (s : State) (a : Nat) : (s.bumpSat a).fixed = s.fixed := by
  simp [State.bumpSat]
@[simp] theorem setPort_fixed (s : State) (p : Nat) (x : Port) : (s.setPort p x).fixed = s.fixed := by
  simp [State.setPort]
@[simp] theorem updPort_fixed (s : State) (p : Nat) (f : Port → Port) : (s.updPort p f).fixed = s.fixed := by
  simp [State.updPort]
@[simp] theorem setLg_fixed (s : State) (g : Nat) (x : LineGroup) : (s.setLg g x).fixed = s.fixed := by
  simp [State.setLg]
@[simp] theorem updLg_fixed (s : State) (g : Nat) (f : LineGroup → LineGroup) : (s.updLg g f).fixed = s.fixed := by
  simp [State.updLg]
@[simp] theorem setSpn_fixed (s : State) (n : Nat) (x : Spindle) : (s.setSpn n x).fixed = s.fixed := by
  simp [State.setSpn]
@[simp] theorem updSpn_fixed (s : State) (n : Nat) (f : Spindle → Spindle) : (s.updSpn n f).fixed = s.fixed := by
  simp [State.updSpn]
@[simp] theorem setLane_fixed (s : State) (n : Nat) (x : Lane) : (s.setLane n x).fixed = s.fixed := by
  simp [State.setLane]
@[simp] theorem updLane_fixed (s : State) (n : Nat) (f : Lane → Lane) : (s.updLane n f).fixed = s.fixed := by
  simp [State.updLane]
@[simp] theorem setDom_fixed (s : State) (d : Nat) (x : Dom) : (s.setDom d x).fixed = s.fixed := by
  simp [State.setDom]
@[simp] theorem updDom_fixed (s : State) (d : Nat) (f : Dom → Dom) : (s.updDom d f).fixed = s.fixed := by
  simp [State.updDom]
@[simp] theorem setSrc_fixed (s : State) (k : Nat) (x : ClkSrc) : (s.setSrc k x).fixed = s.fixed := by
  simp [State.setSrc]
@[simp] theorem updSrc_fixed (s : State) (k : Nat) (f : ClkSrc → ClkSrc) : (s.updSrc k f).fixed = s.fixed := by
  simp [State.updSrc]
@[simp] theorem setFsrc_fixed (s : State) (k : Nat) (x : FSrc) : (s.setFsrc k x).fixed = s.fixed := by
  simp [State.setFsrc]
@[simp] theorem setBob_fixed (s : State) (k : Nat) (v : Word) : (s.setBob k v).fixed = s.fixed := by
  simp [State.setBob]
@[simp] theorem dropBob_fixed (s : State) (lo n : Nat) : (s.dropBob lo n).fixed = s.fixed := by
  simp [State.dropBob]
@[simp] theorem freshBob_fixed (s : State) (lo n : Nat) : (s.freshBob lo n).fixed = s.fixed := by
  simp [State.freshBob]
@[simp] theorem setFlashByte_fixed (s : State) (k : Nat) (b : Byte) : (s.setFlashByte k b).fixed = s.fixed := by
  simp [State.setFlashByte]
@[simp] theorem flashFill_fixed (s : State) (k : Nat) : (s.flashFill k).fixed = s.fixed := by
  simp [State.flashFill]
@[simp] theorem flashTouch_fixed (s : State) (k : Nat) : (s.flashTouch k).fixed = s.fixed := by
  simp [State.flashTouch]

@[simp] theorem setBobWords_fixed (s : State) (k : Nat) (l : List Word) : (s.setBobWords k l).fixed = s.fixed := by
  induction l generalizing s k with
  | nil => rfl
  | cons w t ih => simp [State.setBobWords, ih]

@[simp] theorem drawFree_fixed (s : State) : s.drawFree.2.fixed = s.fixed := by
  simp [State.drawFree]
@[simp] theorem drawNat_fixed (s : State) (n : Nat) : (s.drawNat n).2.fixed = s.fixed := by
  simp [State.drawNat]
@[simp] theorem applySetStep_fixed (s : State) (t : BitVec 96) : (applySetStep s t).fixed = s.fixed := by
  simp [applySetStep]
@[simp] theorem idleTick_fixed (s : State) : (idleTick s).fixed = s.fixed := by
  simp [idleTick]
@[simp] theorem setFlt_fixed (s : State) (f : Flt) : (s.setFlt f).fixed = s.fixed := by
  simp [State.setFlt]
@[simp] theorem raise_fixed (s : State) (src code info : Nat) : (s.raise src code info).fixed = s.fixed :=
  raise_frame State.fixed setFlt_fixed setReg_fixed s src code info
@[simp] theorem raiseOrOwe_fixed (s : State) (src code info : Nat) : (s.raiseOrOwe src code info).fixed = s.fixed := by
  simp [State.raiseOrOwe]

/-! #### Events of the distaff and the symbol counters -/

@[simp] theorem setSh_fixed (s : State) (a : Nat) (v : BitVec 96) : (s.setSh a v).fixed = s.fixed := by
  simp [State.setSh]
@[simp] theorem restartSym_fixed (s : State) (p : Nat) : (s.restartSym p).fixed = s.fixed := by
  simp [State.restartSym]
@[simp] theorem dstEvent_fixed (s : State) (typ : Nat) (spec : Bool) (unit info : Nat) (cont : List Word) :
    (s.dstEvent typ spec unit info cont).fixed = s.fixed := by
  simp [State.dstEvent]
@[simp] theorem dstPortEvent_fixed (s : State) (typ p sym low : Nat) (cont : List Word) : (s.dstPortEvent typ p sym low cont).fixed = s.fixed := by
  unfold State.dstPortEvent; split <;> simp
@[simp] theorem d3Send_fixed (s : State) (cause : Nat) : (s.d3Send cause).fixed = s.fixed := by
  simp [State.d3Send]
@[simp] theorem dstTrigger_fixed (s : State) (cause unit partner : Nat) : (s.dstTrigger cause unit partner).fixed = s.fixed := by
  simp [State.dstTrigger]

/-! #### Stored frames and egress queues -/

@[simp] theorem setFrame_fixed (s : State) (fid : Nat) (x : Option Stored) : (s.setFrame fid x).fixed = s.fixed := by
  simp [State.setFrame]
@[simp] theorem setQueue_fixed (s : State) (e q : Nat) (l : List QEntry) : (s.setQueue e q l).fixed = s.fixed := by
  simp [State.setQueue]
@[simp] theorem setCur_fixed (s : State) (e : Nat) (x : Option Sending) : (s.setCur e x).fixed = s.fixed := by
  simp [State.setCur]
@[simp] theorem dropCopy_fixed (s : State) (fid : Nat) : (s.dropCopy fid).fixed = s.fixed := by
  unfold State.dropCopy; split <;> simp
@[simp] theorem dropEntries_fixed (s : State) (cnts : List Nat) (l : List QEntry) : (s.dropEntries cnts l).fixed = s.fixed := by
  simp [State.dropEntries]
@[simp] theorem flushQueue_fixed (s : State) (e q : Nat) (cnts : List Nat) : (s.flushQueue e q cnts).fixed = s.fixed := by
  simp [State.flushQueue]
@[simp] theorem flushState_fixed (s : State) (e : Nat) (qs more : List Nat) : (s.flushState e qs more).fixed = s.fixed := by
  simp [State.flushState]
@[simp] theorem setShp_fixed (s : State) (e q : Nat) (x : Option Shaper) : (s.setShp e q x).fixed = s.fixed := by
  simp [State.setShp]
@[simp] theorem txOver_fixed (s : State) (e q : Nat) : (s.txOver e q).fixed = s.fixed := by
  unfold State.txOver; split <;> simp
@[simp] theorem setSent_fixed (s : State) (e : Nat) (f : Option SentFrame) : (s.setSent e f).fixed = s.fixed := by
  simp [State.setSent]
@[simp] theorem endSent_fixed (s : State) (e : Nat) : (s.endSent e).fixed = s.fixed := by
  simp [State.endSent]
@[simp] theorem cutTx_fixed (s : State) (e : Nat) : (s.cutTx e).fixed = s.fixed := by
  unfold State.cutTx; split <;> simp
@[simp] theorem holdTx_fixed (s : State) (e : Nat) : (s.holdTx e).fixed = s.fixed := by
  unfold State.holdTx; split <;> simp

@[simp] theorem linkEvent_fixed (s : State) (fid : Nat) : (s.linkEvent fid).fixed = s.fixed := by
  unfold State.linkEvent
  split
  · split <;> simp
  · rfl

/-! #### Port states and transitions -/

@[simp] theorem setSlotWord_fixed (s : State) (g half victim off : Nat) (w : Word) : (s.setSlotWord g half victim off w).fixed = s.fixed := by
  simp [State.setSlotWord]
@[simp] theorem endOps_fixed (s : State) (pick : TagOp → Bool) (status : Nat) : (s.endOps pick status).fixed = s.fixed := by
  simp [State.endOps]
@[simp] theorem endLive_fixed (s : State) (pick : TagOp → Bool) (status : Nat) : (s.endLive pick status).fixed = s.fixed := by
  simp [State.endLive]
@[simp] theorem endGather_fixed (s : State) (p : Nat) (src : Nat → Bool) : (s.endGather p src).fixed = s.fixed := by
  simp [State.endGather]
@[simp] theorem endSkGather_fixed (s : State) (g n : Nat) : (s.endSkGather g n).fixed = s.fixed := by
  simp [State.endSkGather]
@[simp] theorem skLatch_fixed (s : State) (g n : Nat) : (s.skLatch g n).fixed = s.fixed := by
  unfold State.skLatch; split <;> simp
@[simp] theorem skStop_fixed (s : State) (g i : Nat) : (s.skStop g i).fixed = s.fixed := by
  simp [State.skStop]
@[simp] theorem endCmdsGen_fixed (s : State) (pick : Cmd → Bool) (status : Nat) (gen : Cmd → Nat) :
    (s.endCmdsGen pick status gen).fixed = s.fixed := by
  simp [State.endCmdsGen]
@[simp] theorem endCmds_fixed (s : State) (pick : Cmd → Bool) (status : Nat) : (s.endCmds pick status).fixed = s.fixed := by
  simp [State.endCmds]
@[simp] theorem endRunning_fixed (s : State) (p op status : Nat) : (s.endRunning p op status).fixed = s.fixed := by
  simp [State.endRunning]
@[simp] theorem endRunningRes_fixed (s : State) (p op status : Nat) (result : Word) : (s.endRunningRes p op status result).fixed = s.fixed := by
  simp [State.endRunningRes]
@[simp] theorem endUpCmds_fixed (s : State) (p : Nat) : (s.endUpCmds p).fixed = s.fixed := by
  simp [State.endUpCmds]
@[simp] theorem coefTouch_fixed (s : State) (p h : Nat) : (s.coefTouch p h).fixed = s.fixed := by
  simp [State.coefTouch]
@[simp] theorem setHalfWord_fixed (s : State) (p h k : Nat) (w : Word) : (s.setHalfWord p h k w).fixed = s.fixed := by
  simp [State.setHalfWord]
@[simp] theorem settle_fixed (s : State) (p n : Nat) : (s.settle p n).fixed = s.fixed := by
  simp [State.settle]
@[simp] theorem serveHalf_fixed (s : State) (p h mode : Nat) : (s.serveHalf p h mode).fixed = s.fixed := by
  simp [State.serveHalf]
@[simp] theorem endPortCoef_fixed (s : State) (p : Nat) : (s.endPortCoef p).fixed = s.fixed := by
  simp [State.endPortCoef]
@[simp] theorem endRovCoef_fixed (s : State) (p : Nat) : (s.endRovCoef p).fixed = s.fixed := by
  simp [State.endRovCoef]
@[simp] theorem endSkeinCoef_fixed (s : State) (g n : Nat) : (s.endSkeinCoef g n).fixed = s.fixed := by
  simp [State.endSkeinCoef]
@[simp] theorem setFilt_fixed (s : State) (p f : Nat) : (s.setFilt p f).fixed = s.fixed := by
  simp [State.setFilt]
@[simp] theorem resetShapers_fixed (s : State) (p : Nat) (credit : Bool) : (s.resetShapers p credit).fixed = s.fixed := by
  simp [State.resetShapers]
@[simp] theorem partnerClock_fixed (s : State) (p st : Nat) : (s.partnerClock p st).fixed = s.fixed := by
  simp [State.partnerClock]
@[simp] theorem setMode_fixed (s : State) (p m : Nat) : (s.setMode p m).fixed = s.fixed := by
  simp [State.setMode]
@[simp] theorem leaveUp_fixed (s : State) (p : Nat) : (s.leaveUp p).fixed = s.fixed := by
  simp [State.leaveUp]
@[simp] theorem stateFields_fixed (s : State) (p st : Nat) : (s.stateFields p st).fixed = s.fixed := by
  simp [State.stateFields]
@[simp] theorem egressEntry_fixed (s : State) (p st : Nat) : (s.egressEntry p st).fixed = s.fixed := by
  simp [State.egressEntry]
@[simp] theorem applyConfig_fixed (s : State) (p : Nat) : (s.applyConfig p).fixed = s.fixed := by
  simp [State.applyConfig]
@[simp] theorem dstPortState_fixed (s : State) (p st : Nat) : (s.dstPortState p st).fixed = s.fixed := by
  simp [State.dstPortState]
@[simp] theorem regainPort_fixed (s : State) (p : Nat) : (s.regainPort p).fixed = s.fixed := by
  simp [State.regainPort]
@[simp] theorem regainSkein_fixed (s : State) (k : Nat) : (s.regainSkein k).fixed = s.fixed := by
  simp [State.regainSkein]
@[simp] theorem withdrawWrite_fixed (s : State) (p : Nat) : (s.withdrawWrite p).fixed = s.fixed := by
  cases h : s.skeinOf (lgOf p) (localOf p) <;> simp [State.withdrawWrite, h]
@[simp] theorem sweepAbort_fixed (s : State) (p : Nat) : (s.sweepAbort p).fixed = s.fixed := by
  simp [State.sweepAbort]
@[simp] theorem testTurn_fixed (s s0 : State) (p : Nat) : (s.testTurn s0 p).fixed = s.fixed := by
  simp [State.testTurn]
@[simp] theorem enter_fixed (s : State) (p st : Nat) : (s.enter p st).fixed = s.fixed := by
  simp [State.enter]
@[simp] theorem cause_fixed (s : State) (p c : Nat) : (s.cause p c).fixed = s.fixed := by
  simp [State.cause]
@[simp] theorem lossMemo_fixed (s : State) (p c : Nat) : (s.lossMemo p c).fixed = s.fixed := by
  simp [State.lossMemo]
@[simp] theorem toListen_fixed (s : State) (p : Nat) : (s.toListen p).fixed = s.fixed := by
  simp [State.toListen]
@[simp] theorem relisten_fixed (s : State) (p : Nat) : (s.relisten p).fixed = s.fixed := by
  simp [State.relisten]
@[simp] theorem toDisabled_fixed (s : State) (p : Nat) : (s.toDisabled p).fixed = s.fixed := by
  simp [State.toDisabled]
@[simp] theorem toSleep_fixed (s : State) (p : Nat) : (s.toSleep p).fixed = s.fixed := by
  simp [State.toSleep]
@[simp] theorem muEcStart_fixed (s : State) (p : Nat) : (s.muEcStart p).fixed = s.fixed := by
  simp [State.muEcStart]
@[simp] theorem coldHalves_fixed (s : State) (p : Nat) : (s.coldHalves p).fixed = s.fixed := by
  simp [State.coldHalves]
@[simp] theorem setThresh_fixed (s : State) (p : Nat) : (s.setThresh p).fixed = s.fixed := by
  simp [State.setThresh]
@[simp] theorem warmHalf_fixed (s : State) (p : Nat) : (s.warmHalf p).fixed = s.fixed := by
  simp [State.warmHalf]
@[simp] theorem toTrain_fixed (s : State) (p : Nat) : (s.toTrain p).fixed = s.fixed := by
  simp [State.toTrain]
@[simp] theorem attemptFail_fixed (s : State) (p c : Nat) : (s.attemptFail p c).fixed = s.fixed := by
  simp [State.attemptFail]
@[simp] theorem armDetector_fixed (s : State) (p : Nat) : (s.armDetector p).fixed = s.fixed := by
  simp [State.armDetector]
@[simp] theorem falseWake_fixed (s : State) (p : Nat) : (s.falseWake p).fixed = s.fixed := by
  simp [State.falseWake]
@[simp] theorem sendPages_fixed (s : State) (p : Nat) (l : List TxPage) : (s.sendPages p l).fixed = s.fixed := by
  simp [State.sendPages]
@[simp] theorem startAttempt_fixed (s : State) (p : Nat) : (s.startAttempt p).fixed = s.fixed := by
  simp [State.startAttempt]
@[simp] theorem portFault_fixed (s : State) (p : Nat) : (s.portFault p).fixed = s.fixed := by
  simp [State.portFault]
@[simp] theorem portQuadOff_fixed (s : State) (p : Nat) : (s.portQuadOff p).fixed = s.fixed := by
  simp [State.portQuadOff]

/-! #### The data path of a port -/

@[simp] theorem updRx_fixed (s : State) (p : Nat) (f : Rx → Rx) : (s.updRx p f).fixed = s.fixed := by
  simp [State.updRx]
@[simp] theorem updSym_fixed (s : State) (p n : Nat) (f : Sym → Sym) : (s.updSym p n f).fixed = s.fixed := by
  simp [State.updSym]
@[simp] theorem slubHit_fixed (s : State) (p n : Nat) : (s.slubHit p n).fixed = s.fixed := by
  simp [State.slubHit]
@[simp] theorem dataSym_fixed (s : State) (p v : Nat) : (s.dataSym p v).2.fixed = s.fixed := by
  simp [State.dataSym]
@[simp] theorem sample_fixed (s : State) (p n : Nat) : (s.sample p n).fixed = s.fixed := by
  simp [State.sample]
@[simp] theorem send_fixed (s : State) (p n : Nat) : (s.send p n).fixed = s.fixed := by
  simp [State.send]
@[simp] theorem cancel_fixed (s : State) (p n : Nat) : (s.cancel p n).fixed = s.fixed := by
  simp [State.cancel]
@[simp] theorem tentative_fixed (s : State) (p n : Nat) : (s.tentative p n).fixed = s.fixed := by
  simp [State.tentative]
@[simp] theorem prbsBit_fixed (s : State) (p b : Nat) : (s.prbsBit p b).fixed = s.fixed := by
  simp [State.prbsBit]
@[simp] theorem conclude_fixed (s : State) (p n : Nat) : (s.conclude p n).fixed = s.fixed := by
  simp [State.conclude]
@[simp] theorem adaptWord_fixed (s : State) (p k mu : Nat) (e x0 x1 : Int) : (s.adaptWord p k mu e x0 x1).fixed = s.fixed := by
  simp [State.adaptWord]
@[simp] theorem adapt_fixed (s : State) (p n : Nat) : (s.adapt p n).fixed = s.fixed := by
  simp [State.adapt]
@[simp] theorem timing_fixed (s : State) (p : Nat) (skip : Bool) : (s.timing p skip).fixed = s.fixed := by
  simp [State.timing]
@[simp] theorem snrAdd_fixed (s : State) (p n : Nat) (skip : Bool) : (s.snrAdd p n skip).fixed = s.fixed := by
  simp [State.snrAdd]
@[simp] theorem d2Take_fixed (s : State) (p n : Nat) : (s.d2Take p n).fixed = s.fixed := by
  simp [State.d2Take]
@[simp] theorem useGroup_fixed (s : State) (p j : Nat) : (s.useGroup p j).fixed = s.fixed := by
  simp [State.useGroup]
@[simp] theorem wordBody_fixed (s : State) (p kind a : Nat) : (s.wordBody p kind a).2.fixed = s.fixed := by
  simp [State.wordBody]
@[simp] theorem putCkp_fixed (s : State) (k : Ckp) : (s.putCkp k).fixed = s.fixed := by
  simp [State.putCkp]
@[simp] theorem takeCkp_fixed (s : State) (c : Nat) : (s.takeCkp c).fixed = s.fixed := by
  simp [State.takeCkp]
@[simp] theorem holdCkp_fixed (s : State) (c : Nat) : (s.holdCkp c).fixed = s.fixed := by
  simp [State.holdCkp]
@[simp] theorem dstRecord_fixed (s0 : State) (c p kind j n flags : Nat) (w : Word) : (s0.dstRecord c p kind j n flags w).fixed = s0.fixed := by
  simp [State.dstRecord]
@[simp] theorem emit_fixed (s : State) (p stream : Nat) : (s.emit p stream).fixed = s.fixed := by
  simp [State.emit]

@[simp] theorem runFrom_fixed (f : State → Nat → State) (h : ∀ s n, (f s n).fixed = s.fixed) (a n : Nat) (s : State) :
    (runFrom f a n s).fixed = s.fixed := by
  induction n generalizing a s with
  | zero => rfl
  | succ n ih => exact (ih _ _).trans (h s a)

@[simp] theorem rxSkip_fixed (s : State) (p : Nat) : (s.rxSkip p).fixed = s.fixed := by
  simp [State.rxSkip]
@[simp] theorem tentDue_fixed (s : State) (p : Nat) : (s.tentDue p).fixed = s.fixed := by
  simp [State.tentDue]
@[simp] theorem concludeDue_fixed (s : State) (p : Nat) : (s.concludeDue p).fixed = s.fixed := by
  simp [State.concludeDue]
@[simp] theorem wordsLoops_fixed (s : State) (p : Nat) : (s.wordsLoops p).fixed = s.fixed := by
  simp [State.wordsLoops]
@[simp] theorem symbolRound_fixed (s : State) (due : List (Nat × Nat × Nat)) (i : Nat) : (s.symbolRound due i).fixed = s.fixed := by
  simp [State.symbolRound]
@[simp] theorem datapath_fixed (s0 : State) : s0.datapath.fixed = s0.fixed := by
  simp [State.datapath]

/-! #### Domain entries and wakes -/

@[simp] theorem startWake_fixed (s : State) (d : Nat) : (s.startWake d).fixed = s.fixed := by
  simp [State.startWake]
@[simp] theorem wakeDom_fixed (s : State) (d : Nat) : (s.wakeDom d).fixed = s.fixed := by
  unfold State.wakeDom; split <;> simp
@[simp] theorem wakeOnDemand_fixed (s : State) (d : Nat) : (s.wakeOnDemand d).fixed = s.fixed := by
  simp [State.wakeOnDemand]
@[simp] theorem crossDrop_fixed (s : State) (d writer : Nat) : (s.crossDrop d writer).fixed = s.fixed := by
  simp [State.crossDrop]
@[simp] theorem refuseEntryAt_fixed (s : State) (d unit : Nat) : (s.refuseEntryAt d unit).fixed = s.fixed := by
  simp [State.refuseEntryAt]
@[simp] theorem saveRuntime_fixed (s : State) : s.saveRuntime.fixed = s.fixed := by
  simp [State.saveRuntime]
@[simp] theorem refuseEntry_fixed (s : State) (d : Nat) : (s.refuseEntry d).fixed = s.fixed := by
  simp [State.refuseEntry]

/-! #### Training and link life -/

@[simp] theorem attemptEnd_fixed (s : State) (p c : Nat) : (s.attemptEnd p c).fixed = s.fixed := by
  simp [State.attemptEnd]

@[simp] theorem resolve_fixed (s : State) (p : Nat) (pg : AnPage) : (s.resolve p pg).fixed = s.fixed := by
  unfold State.resolve
  extract_lets
  split
  · simp
  · split <;> simp

@[simp] theorem takePage_fixed (s : State) (p : Nat) (pg : AnPage) : (s.takePage p pg).fixed = s.fixed := by
  simp [State.takePage]
@[simp] theorem skeinSlave_fixed (s : State) (p : Nat) : (s.skeinSlave p).fixed = s.fixed := by
  unfold State.skeinSlave; split <;> simp
@[simp] theorem muEcEnd_fixed (s : State) (p : Nat) : (s.muEcEnd p).fixed = s.fixed := by
  simp [State.muEcEnd]
@[simp] theorem toUp_fixed (s : State) (p : Nat) : (s.toUp p).fixed = s.fixed := by
  simp [State.toUp]
@[simp] theorem linkLoss_fixed (s : State) (p : Nat) : (s.linkLoss p).fixed = s.fixed := by
  simp [State.linkLoss]
@[simp] theorem enterRoving_fixed (s : State) (p : Nat) : (s.enterRoving p).fixed = s.fixed := by
  simp [State.enterRoving]
@[simp] theorem plcaMove_fixed (s : State) (p : Nat) : (s.plcaMove p).fixed = s.fixed := by
  simp [State.plcaMove]
@[simp] theorem plcaSent_fixed (s : State) (p : Nat) : (s.plcaSent p).fixed = s.fixed := by
  simp [State.plcaSent]
@[simp] theorem hiSer_fixed (s : State) (p : Nat) : (s.hiSer p).fixed = s.fixed := by
  simp [State.hiSer]
@[simp] theorem lpiBits_fixed (s : State) (p : Nat) (tx rx : Bool) : (s.lpiBits p tx rx).fixed = s.fixed := by
  simp [State.lpiBits]
@[simp] theorem leaveLpi_fixed (s : State) (p : Nat) : (s.leaveLpi p).fixed = s.fixed := by
  simp [State.leaveLpi]
@[simp] theorem sleepNow_fixed (s : State) (p : Nat) : (s.sleepNow p).fixed = s.fixed := by
  simp [State.sleepNow]

theorem askSleep_fixed {s t : State} {p : Nat} (h : s.askSleep p = some t) : t.fixed = s.fixed := by
  simp only [State.askSleep, Option.ite_none_left_eq_some, Option.some.injEq] at h
  simp [← h.2]

@[simp] theorem wakeEnter_fixed (s : State) (p : Nat) : (s.wakeEnter p).fixed = s.fixed := by
  simp [State.wakeEnter]
@[simp] theorem wakePort_fixed (s : State) (p k : Nat) (loc : Bool) : (s.wakePort p k loc).fixed = s.fixed := by
  simp [State.wakePort]
@[simp] theorem localWake_fixed (s : State) (p : Nat) : (s.localWake p).fixed = s.fixed := by
  simp [State.localWake]

/-! #### Recalibration and the receive path -/

@[simp] theorem setGain_fixed (s : State) (p g : Nat) : (s.setGain p g).fixed = s.fixed := by
  simp [State.setGain]
@[simp] theorem adcRecal_fixed (s : State) (p seq : Nat) : (s.adcRecal p seq).fixed = s.fixed := by
  simp [State.adcRecal]
@[simp] theorem refuseCsw_fixed (s : State) (p reason : Nat) : (s.refuseCsw p reason).fixed = s.fixed := by
  simp [State.refuseCsw]
@[simp] theorem copyHalf_fixed (s : State) (p : Nat) : (s.copyHalf p).fixed = s.fixed := by
  simp [State.copyHalf]
@[simp] theorem endPortCsw_fixed (s : State) (p : Nat) (k : OpKind) : (s.endPortCsw p k).fixed = s.fixed := by
  simp [State.endPortCsw]
@[simp] theorem slubTrigger_fixed (s : State) (p len : Nat) : (s.slubTrigger p len).fixed = s.fixed := by
  simp [State.slubTrigger]

@[simp] theorem slubStart_fixed (s : State) (p : Nat) : (s.slubStart p).fixed = s.fixed := by
  simp only [State.slubStart]
  split
  · rfl
  · split <;> simp

@[simp] theorem slubEnd_fixed (s : State) (p : Nat) : (s.slubEnd p).fixed = s.fixed := by
  simp [State.slubEnd]
@[simp] theorem snrOf_fixed (s : State) (p count sumSq : Nat) : (s.snrOf p count sumSq).2.fixed = s.fixed := by
  unfold State.snrOf; split <;> simp
@[simp] theorem sqiAlarm_fixed (s : State) (p old new : Nat) : (s.sqiAlarm p old new).fixed = s.fixed := by
  simp [State.sqiAlarm]

/-! #### Skeins -/

@[simp] theorem skeinWrite_fixed (s : State) (g n : Nat) (v : Word) : (s.skeinWrite g n v).2.fixed = s.fixed := by
  simp [State.skeinWrite]
@[simp] theorem skJoin_fixed (s : State) (g n i : Nat) : (s.skJoin g n i).fixed = s.fixed := by
  simp [State.skJoin]
@[simp] theorem refuseSk_fixed (s : State) (g reason : Nat) : (s.refuseSk g reason).fixed = s.fixed := by
  simp [State.refuseSk]
@[simp] theorem refuseSkSwap_fixed (s : State) (g reason : Nat) : (s.refuseSkSwap g reason).fixed = s.fixed := by
  simp [State.refuseSkSwap]
@[simp] theorem sealSlot_fixed (s : State) (g n h i : Nat) : (s.sealSlot g n h i).fixed = s.fixed := by
  simp [State.sealSlot]

/-! #### Roving and carding -/

@[simp] theorem setFn_fixed (s : State) (p v : Nat) : (s.setFn p v).fixed = s.fixed := by
  simp [State.setFn]
@[simp] theorem setOwnSnr_fixed (s : State) (p : Nat) (v : BitVec 16) : (s.setOwnSnr p v).fixed = s.fixed := by
  simp [State.setOwnSnr]
@[simp] theorem setFarSnr_fixed (s : State) (p : Nat) (v : BitVec 16) : (s.setFarSnr p v).fixed = s.fixed := by
  simp [State.setFarSnr]
@[simp] theorem updRov_fixed (s : State) (p : Nat) (f : Roving → Roving) : (s.updRov p f).fixed = s.fixed := by
  simp [State.updRov]
@[simp] theorem setPhase_fixed (s : State) (p v : Nat) : (s.setPhase p v).fixed = s.fixed := by
  simp [State.setPhase]
@[simp] theorem setGrid_fixed (s : State) (p t fn : Nat) : (s.setGrid p t fn).fixed = s.fixed := by
  simp [State.setGrid]
@[simp] theorem regrid_fixed (s : State) (p : Nat) : (s.regrid p).fixed = s.fixed := by
  unfold State.regrid; split <;> simp

@[simp] theorem rovTakes_fixed (s : State) (p code : Nat) (frame : List Byte) (act : List Byte → State) (h : ∀ fs, (act fs).fixed = s.fixed) :
    (s.rovTakes p code frame act).fixed = s.fixed := by
  unfold State.rovTakes
  split
  · split <;> simp [h]
  · rfl

@[simp] theorem rovSend_fixed (s : State) (p code : Nat) (fields : List (Nat × Nat)) : (s.rovSend p code fields).fixed = s.fixed := by
  simp [State.rovSend]

@[simp] theorem rovRefill_fixed (s : State) (p : Nat) : (s.rovRefill p).fixed = s.fixed := by
  simp only [State.rovRefill]
  split
  · rfl
  · split
    · simp
    · split
      · split
        · rfl
        · split <;> simp
      · rfl

@[simp] theorem rovBytes_fixed (s : State) (p n : Nat) : (s.rovBytes p n).2.fixed = s.fixed := by
  induction n generalizing s with
  | zero => rfl
  | succ n ih => simp [State.rovBytes, ih]

@[simp] theorem rovBlock_fixed (s : State) (p : Nat) (bytes : List Byte) : (s.rovBlock p bytes).fixed = s.fixed := by
  simp [State.rovBlock]

@[simp] theorem rovFill_fixed (s : State) (p n : Nat) : (s.rovFill p n).fixed = s.fixed := by
  induction n generalizing s with
  | zero => rfl
  | succ n ih => simp [State.rovFill, ih]

@[simp] theorem rovDrain_fixed (s : State) (p t : Nat) : (s.rovDrain p t).fixed = s.fixed := by
  simp [State.rovDrain]
@[simp] theorem rovHear_fixed (s : State) (p o t : Nat) : (s.rovHear p o t).fixed = s.fixed := by
  simp [State.rovHear]
@[simp] theorem rovLinkNow_fixed (s : State) (p : Nat) : (s.rovLinkNow p).fixed = s.fixed := by
  unfold State.rovLinkNow; split <;> simp
@[simp] theorem rovPreamble_fixed (s : State) (p o : Nat) : (s.rovPreamble p o).fixed = s.fixed := by
  simp [State.rovPreamble]
@[simp] theorem rovTick_fixed (s0 : State) (p : Nat) : (s0.rovTick p).fixed = s0.fixed := by
  cases h : ((s0.rovLinkNow p).port p).rov.org <;> simp [State.rovTick, h]
@[simp] theorem acquire_fixed (s : State) (p : Nat) : (s.acquire p).fixed = s.fixed := by
  simp [State.acquire]
@[simp] theorem toRoving_fixed (s : State) (p : Nat) : (s.toRoving p).fixed = s.fixed := by
  simp [State.toRoving]
@[simp] theorem rechoose_fixed (s : State) (p : Nat) : (s.rechoose p).fixed = s.fixed := by
  simp only [State.rechoose]; split <;> simp
@[simp] theorem rovSwitch_fixed (s : State) (p i : Nat) : (s.rovSwitch p i).fixed = s.fixed := by
  simp [State.rovSwitch]
@[simp] theorem sendSnrrep_fixed (s : State) (p : Nat) (own : BitVec 16) : (s.sendSnrrep p own).fixed = s.fixed := by
  simp [State.sendSnrrep]
@[simp] theorem rovAttempt_fixed (s : State) (p : Nat) : (s.rovAttempt p).fixed = s.fixed := by
  simp [State.rovAttempt]
@[simp] theorem windowClose_fixed (s : State) (p : Nat) : (s.windowClose p).fixed = s.fixed := by
  simp [State.windowClose]

@[simp] theorem writeCardEvents_fixed (s : State) (p vf : Nat) (l : List CardPeak) (k : Nat) :
    (s.writeCardEvents p vf l k).fixed = s.fixed := by
  induction l generalizing s k with
  | nil => simp [State.writeCardEvents]
  | cons x t ih => simp [State.writeCardEvents, ih]

@[simp] theorem sweepEnd_fixed (s : State) (p : Nat) : (s.sweepEnd p).fixed = s.fixed := by
  simp [State.sweepEnd]
@[simp] theorem sweepStart_fixed (s : State) (p : Nat) : (s.sweepStart p).fixed = s.fixed := by
  simp [State.sweepStart]
@[simp] theorem fpRise_fixed (s : State) (p old new extra : Nat) : (s.fpRise p old new extra).fixed = s.fixed := by
  simp [State.fpRise]
@[simp] theorem fpTrends_fixed (s : State) (p : Nat) : (s.fpTrends p).fixed = s.fixed := by
  simp [State.fpTrends]
@[simp] theorem fpCompare_fixed (s : State) (p : Nat) : (s.fpCompare p).fixed = s.fixed := by
  simp [State.fpCompare]
@[simp] theorem fpRefuse_fixed (s : State) (p : Nat) : (s.fpRefuse p).fixed = s.fixed := by
  simp [State.fpRefuse]
@[simp] theorem snapshot_fixed (s : State) (p : Nat) : (s.snapshot p).fixed = s.fixed := by
  simp [State.snapshot]

/-! #### Gate lists -/

@[simp] theorem setGcl_fixed (s : State) (l : Nat) (x : Gcl) : (s.setGcl l x).fixed = s.fixed := by
  simp [State.setGcl]
@[simp] theorem glCtlWrite_fixed (s : State) (l : Nat) (v : Word) : (s.glCtlWrite l v).2.fixed = s.fixed := by
  simp [State.glCtlWrite]
@[simp] theorem glAdminWrite_fixed (s : State) (l a : Nat) (v : Word) : (s.glAdminWrite l a v).2.fixed = s.fixed := by
  simp [State.glAdminWrite]
@[simp] theorem glDoSwap_fixed (s : State) (l : Nat) : (s.glDoSwap l).fixed = s.fixed := by
  simp [State.glDoSwap]

/-! #### Admission, policers and shapers -/

@[simp] theorem setPol_fixed (s : State) (st : Nat) (b : Option Bucket) : (s.setPol st b).fixed = s.fixed := by
  simp [State.setPol]
@[simp] theorem setMet_fixed (s : State) (m k : Nat) (b : Option Bucket) : (s.setMet m k b).fixed = s.fixed := by
  simp [State.setMet]
@[simp] theorem police_fixed (s : State) (st inc l t : Nat) : (s.police st inc l t).2.fixed = s.fixed := by
  simp [State.police]
@[simp] theorem meter_fixed (s : State) (m inc l t : Nat) : (s.meter m inc l t).2.fixed = s.fixed := by
  simp [State.meter]
@[simp] theorem colourOf_fixed (s : State) (st ident tag : Nat) (bs : List Byte) : (s.colourOf st ident tag bs).2.fixed = s.fixed := by
  simp [State.colourOf]
@[simp] theorem shSync_fixed (s : State) (e q : Nat) : (s.shSync e q).fixed = s.fixed := by
  simp [State.shSync]
@[simp] theorem shGates_fixed (s : State) (e : Nat) : (s.shGates e).fixed = s.fixed := by
  simp [State.shGates]
@[simp] theorem shStart_fixed (s : State) (e q : Nat) : (s.shStart e q).fixed = s.fixed := by
  simp [State.shStart]
@[simp] theorem shDebit_fixed (s : State) (e q len : Nat) : (s.shDebit e q len).fixed = s.fixed := by
  simp [State.shDebit]
@[simp] theorem enqueue_fixed (s : State) (e q fid : Nat) : (s.enqueue e q fid).fixed = s.fixed := by
  simp [State.enqueue]
@[simp] theorem admitCopy_fixed (s : State) (e q c fid need free : Nat) : (s.admitCopy e q c fid need free).2.fixed = s.fixed := by
  simp [State.admitCopy]

@[simp] theorem admitAll_fixed (s : State) (q c fid need free : Nat) (l : List Nat) :
    (s.admitAll q c fid need free l).2.fixed = s.fixed := by
  induction l generalizing s with
  | nil => rfl
  | cons e t ih => simp [State.admitAll, ih]

@[simp] theorem toSpn_fixed (s : State) (n : Nat) (d : Desc) (pri : Nat) (bs : List Byte) (fid : Nat) : (s.toSpn n d pri bs fid).fixed = s.fixed := by
  simp [State.toSpn]
@[simp] theorem store_fixed (s : State) (d : Desc) (bs : List Byte) (copies : Nat) : (s.store d bs copies).fixed = s.fixed := by
  simp [State.store]
@[simp] theorem wakeTaken_fixed (s : State) (l : List Nat) : (s.wakeTaken l).fixed = s.fixed := by
  simp [State.wakeTaken]
@[simp] theorem forward_fixed (s : State) (d : Desc) (bs : List Byte) (laneOnly : Bool) : (s.forward d bs laneOnly).2.fixed = s.fixed := by
  simp [State.forward]
@[simp] theorem xdrop_fixed (s : State) (src : Nat) : (s.xdrop src).fixed = s.fixed := by
  simp [State.xdrop]

@[simp] theorem pipeline_fixed (s : State) (d0 : Desc) (tag first : Nat) (bs : List Byte) :
    (s.pipeline d0 tag first bs).2.fixed = s.fixed := by
  cases h : s.lookup d0.src bs <;> simp [State.pipeline, h]

/-! #### Frames through the traffic manager -/

@[simp] theorem portFrame_fixed (s : State) (p : Nat) (bs : List Byte) (first : BitVec 96) (roving : Bool) :
    (s.portFrame p bs first roving).fixed = s.fixed := by
  simp [State.portFrame]
@[simp] theorem csmaFree_fixed (s : State) (p : Nat) : (s.csmaFree p).fixed = s.fixed := by
  simp [State.csmaFree]
@[simp] theorem csmaCollide_fixed (s : State) (p : Nat) : (s.csmaCollide p).fixed = s.fixed := by
  simp [State.csmaCollide]
@[simp] theorem segmentFrame_fixed (s : State) (p : Nat) (commit : Bool) : (s.segmentFrame p commit).fixed = s.fixed := by
  simp [State.segmentFrame]
@[simp] theorem closeHeld_fixed (s : State) (e : Nat) : (s.closeHeld e).fixed = s.fixed := by
  simp [State.closeHeld]

@[simp] theorem markHeld_fixed (s : State) (e : Nat) : (s.markHeld e).fixed = s.fixed := by
  refine forAll_fixed _ (fun t q => ?_) _ _
  split <;> simp

@[simp] theorem markCredit_fixed (s : State) (e : Nat) : (s.markCredit e).fixed = s.fixed := by
  unfold State.markCredit
  split
  · rfl
  · refine forAll_fixed _ (fun t q => ?_) _ _
    split <;> simp

@[simp] theorem startTx_fixed (s : State) (e q fid : Nat) : (s.startTx e q fid).fixed = s.fixed := by
  simp [State.startTx]

@[simp] theorem select_fixed (s : State) (e n : Nat) : (s.select e n).fixed = s.fixed := by
  induction n generalizing s with
  | zero => rfl
  | succ n ih =>
    simp only [State.select, fixed_ite]
    split
    · rfl
    · split
      · rfl
      · split
        · simp [ih]
        · split
          · split <;> simp
          · simp [ih]

@[simp] theorem sendMgmt_fixed (s : State) (bs : List Byte) (rest : List (List Byte)) : (s.sendMgmt bs rest).fixed = s.fixed := by
  simp [State.sendMgmt]
@[simp] theorem laneSent_fixed (s : State) (n : Nat) : (s.laneSent n).fixed = s.fixed := by
  unfold State.laneSent; split <;> simp

/-! #### Host lanes -/

@[simp] theorem setLst_fixed (s : State) (n v : Nat) : (s.setLst n v).fixed = s.fixed := by
  simp [State.setLst]
@[simp] theorem setAligned_fixed (s : State) (n : Nat) (b : Bool) : (s.setAligned n b).fixed = s.fixed := by
  simp [State.setAligned]
@[simp] theorem stopTx_fixed (s : State) (n : Nat) : (s.stopTx n).fixed = s.fixed := by
  simp [State.stopTx]
@[simp] theorem abortTx_fixed (s : State) (n : Nat) : (s.abortTx n).fixed = s.fixed := by
  unfold State.abortTx; split <;> simp
@[simp] theorem bringUp_fixed (s : State) (n : Nat) : (s.bringUp n).fixed = s.fixed := by
  simp [State.bringUp]
@[simp] theorem restartBu_fixed (s : State) (n : Nat) : (s.restartBu n).fixed = s.fixed := by
  simp [State.restartBu]
@[simp] theorem laneOff_fixed (s : State) (n : Nat) : (s.laneOff n).fixed = s.fixed := by
  simp [State.laneOff]
@[simp] theorem unalign_fixed (s : State) (n : Nat) : (s.unalign n).fixed = s.fixed := by
  simp [State.unalign]
@[simp] theorem laneLoss_fixed (s : State) (n bit cnt info : Nat) : (s.laneLoss n bit cnt info).fixed = s.fixed := by
  simp [State.laneLoss]
@[simp] theorem laneNover_fixed (s : State) (n : Nat) : (s.laneNover n).fixed = s.fixed := by
  simp [State.laneNover]
@[simp] theorem sleptNotLost_fixed (s : State) (n : Nat) : (s.sleptNotLost n).fixed = s.fixed := by
  simp [State.sleptNotLost]
@[simp] theorem capNotices_fixed (s0 : State) (n : Nat) (bytes : List Byte) : (s0.capNotices n bytes).fixed = s0.fixed := by
  simp [State.capNotices]
@[simp] theorem sendSet_fixed (s : State) (n : Nat) (bs : List Byte) : (s.sendSet n bs).fixed = s.fixed := by
  simp [State.sendSet]
@[simp] theorem rxPowerDown_fixed (s : State) (n : Nat) : (s.rxPowerDown n).fixed = s.fixed := by
  simp [State.rxPowerDown]
@[simp] theorem noticeSent_fixed (s : State) (n : Nat) : (s.noticeSent n).fixed = s.fixed := by
  simp [State.noticeSent]
@[simp] theorem grant_fixed (s : State) (n q v : Nat) : (s.grant n q v).fixed = s.fixed := by
  simp [State.grant]
@[simp] theorem slipBy_fixed (s : State) (n k : Nat) : (s.slipBy n k).fixed = s.fixed := by
  simp [State.slipBy]
@[simp] theorem enterRun_fixed (s : State) (n : Nat) : (s.enterRun n).fixed = s.fixed := by
  simp [State.enterRun]
@[simp] theorem alignUp_fixed (s : State) (n : Nat) : (s.alignUp n).fixed = s.fixed := by
  simp [State.alignUp]
@[simp] theorem lanesClockFail_fixed (s : State) : s.lanesClockFail.fixed = s.fixed := by
  simp [State.lanesClockFail]
@[simp] theorem groupsIn_fixed (s : State) (n : Nat) (gs : List (BitVec 10)) : (s.groupsIn n gs).fixed = s.fixed := by
  simp [State.groupsIn]
@[simp] theorem laneTxSleep_fixed (s : State) (n : Nat) (on : Bool) : (s.laneTxSleep n on).fixed = s.fixed := by
  simp [State.laneTxSleep]
@[simp] theorem laneRxSleep_fixed (s : State) (n : Nat) (on : Bool) : (s.laneRxSleep n on).fixed = s.fixed := by
  simp [State.laneRxSleep]
@[simp] theorem hlCtlWrite_fixed (s : State) (n : Nat) (v : Word) : (s.hlCtlWrite n v).2.fixed = s.fixed := by
  simp [State.hlCtlWrite]

/-! #### Replay -/

@[simp] theorem updReplay_fixed (s : State) (g : Nat) (f : Replay → Replay) : (s.updReplay g f).fixed = s.fixed := by
  simp [State.updReplay]
@[simp] theorem repKeep_fixed (s t : State) (g : Nat) : (s.repKeep t g).fixed = s.fixed := by
  simp [State.repKeep]
@[simp] theorem repDiff_fixed (s : State) (g n : Nat) (first : Nat × Nat) : (s.repDiff g n first).fixed = s.fixed := by
  simp [State.repDiff]
@[simp] theorem repDo_fixed (s : State) (g : Nat) (f : State → State) : (s.repDo g f).fixed = s.fixed := by
  simp [State.repDo]
@[simp] theorem repLoad_fixed (s : State) (g : Nat) : (s.repLoad g).fixed = s.fixed := by
  simp [State.repLoad]
@[simp] theorem repTick_fixed (s : State) (g : Nat) : (s.repTick g).fixed = s.fixed := by
  simp [State.repTick]
@[simp] theorem repEnd_fixed (s : State) (g : Nat) : (s.repEnd g).fixed = s.fixed := by
  simp [State.repEnd]
@[simp] theorem repSwap_fixed (s : State) (g v : Nat) : (s.repSwap g v).2.fixed = s.fixed := by
  simp [State.repSwap]

/-! #### Knots -/

@[simp] theorem bumpEpoch_fixed (s : State) (c : Nat) : (s.bumpEpoch c).fixed = s.fixed := by
  simp [State.bumpEpoch]
@[simp] theorem bumpHostEpoch_fixed (s : State) : s.bumpHostEpoch.fixed = s.fixed := by
  simp [State.bumpHostEpoch]
@[simp] theorem setWaiters_fixed (s : State) (k : Nat) (l : List (Nat × Nat)) : (s.setWaiters k l).fixed = s.fixed := by
  simp [State.setWaiters]
@[simp] theorem setLeaseEnd_fixed (s : State) (k t : Nat) : (s.setLeaseEnd k t).fixed = s.fixed := by
  simp [State.setLeaseEnd]
@[simp] theorem takeKnot_fixed (s : State) (k owner : Nat) : (s.takeKnot k owner).fixed = s.fixed := by
  simp [State.takeKnot]
@[simp] theorem freeKnot_fixed (s : State) (k : Nat) : (s.freeKnot k).fixed = s.fixed := by
  simp [State.freeKnot]
@[simp] theorem breakKnot_fixed (s : State) (k : Nat) : (s.breakKnot k).fixed = s.fixed := by
  simp [State.breakKnot]
@[simp] theorem breakKnots_fixed (s : State) (owner : Nat) : (s.breakKnots owner).fixed = s.fixed := by
  simp [State.breakKnots]
@[simp] theorem dropWaiter_fixed (s : State) (n : Nat) : (s.dropWaiter n).fixed = s.fixed := by
  simp [State.dropWaiter]

/-! #### Operands -/

@[simp] theorem dmRead_fixed (s : State) (n k : Nat) : (s.dmRead n k).2.fixed = s.fixed := by
  simp [State.dmRead]
@[simp] theorem imRead_fixed (s : State) (n k : Nat) : (s.imRead n k).2.fixed = s.fixed := by
  simp [State.imRead]

@[simp] theorem dmsRead_fixed (s : State) (n k m : Nat) : (s.dmsRead n k m).2.fixed = s.fixed := by
  induction m generalizing s k with
  | zero => rfl
  | succ m ih => simp [State.dmsRead, ih]

/-! #### Spindles -/

@[simp] theorem haltSpn_fixed (s : State) (n : Nat) : (s.haltSpn n).fixed = s.fixed := by
  simp [State.haltSpn]
@[simp] theorem except_fixed (s : State) (n code info : Nat) : (s.except n code info).fixed = s.fixed := by
  simp [State.except]
@[simp] theorem fetched_fixed (s : State) (pc : Nat) : (s.fetched pc).fixed = s.fixed := by
  simp [State.fetched]

/-- What an instruction does to the spindle leaves the fuses and the queue `x`. -/
def Act.Fixed (x : Fuses × List Instr) : Act → Prop
  | .retire t | .jump t _ => t.fixed = x
  | _ => True

@[simp] theorem Act.fixed_retire (x : Fuses × List Instr) (t : State) : (Act.retire t).Fixed x ↔ t.fixed = x := Iff.rfl
@[simp] theorem Act.fixed_jump (x : Fuses × List Instr) (t : State) (pc : Nat) : (Act.jump t pc).Fixed x ↔ t.fixed = x := Iff.rfl
@[simp] theorem Act.fixed_raise (x : Fuses × List Instr) (code info : Nat) : (Act.raise code info).Fixed x := trivial
@[simp] theorem Act.fixed_stall (x : Fuses × List Instr) : Act.stall.Fixed x := trivial
@[simp] theorem Act.fixed_hold (x : Fuses × List Instr) : Act.hold.Fixed x := trivial

@[simp] theorem Act.fixed_ite (x : Fuses × List Instr) (c : Prop) [Decidable c] (a b : Act) :
    (if c then a else b).Fixed x ↔ if c then a.Fixed x else b.Fixed x := by split <;> rfl

@[simp] theorem apply_fixed (s : State) (n : Nat) (a : Act) (h : a.Fixed s.fixed) : (s.apply n a).fixed = s.fixed := by
  cases a with
  | retire t => simpa [State.apply] using h
  | jump t pc => simpa [State.apply] using h
  | raise code info => simp [State.apply]
  | stall => simp [State.apply]
  | hold => rfl

@[simp] theorem issue_fixed (s : State) (n opc : Nat) (w : BitVec 40) (ok : Bool) (regs : List Nat) (ahead : Bool) (act : State → Act)
    (h : ∀ t, (act t).Fixed t.fixed) : (s.issue n opc w ok regs ahead act).fixed = s.fixed := by
  have hs : ∀ c : Bool, ((if c then s.bump (Reg.SPN_ECCCOR n) else s).apply n
      (act (if c then s.bump (Reg.SPN_ECCCOR n) else s))).fixed = s.fixed := by
    intro c
    rw [apply_fixed _ _ _ (h _)]
    simp
  simp only [State.issue]
  split
  · rfl
  · split <;> simp [hs]

@[simp] theorem specCan_fixed (s : State) (n : Nat) (l : List Nat) : (s.specCan n l).fixed = s.fixed := by
  simp [State.specCan]
@[simp] theorem pathCounts_fixed (s : State) (n : Nat) (c : Ckpt) : (s.pathCounts n c).fixed = s.fixed := by
  simp [State.pathCounts]
@[simp] theorem resolveBranch_fixed (s : State) (n : Nat) : (s.resolveBranch n).fixed = s.fixed := by
  simp only [State.resolveBranch]; split <;> simp
@[simp] theorem finishTag_fixed (s : State) (n t status : Nat) (data : Word) : (s.finishTag n t status data).fixed = s.fixed := by
  simp only [State.finishTag]; split <;> simp

/-! #### Scalar instructions -/

@[simp] theorem retGr_fixed (s : State) (n d : Nat) (v : Word) : (s.retGr n d v).Fixed s.fixed := by
  simp [State.retGr]

@[simp] theorem issueRR_fixed (s : State) (n opc : Nat) (w : BitVec 40) (f : Word → Word → Word) : (s.issueRR n opc w f).fixed = s.fixed :=
  issue_fixed _ _ _ _ _ _ _ _ (fun t => by simp)
@[simp] theorem issueRI_fixed (s : State) (n opc : Nat) (w : BitVec 40) (f : Word → Word → Word) : (s.issueRI n opc w f).fixed = s.fixed :=
  issue_fixed _ _ _ _ _ _ _ _ (fun t => by simp)

@[simp] theorem localAct_fixed (s : State) (n ea m : Nat) (store : Bool) (f : Nat → Spindle → Spindle) :
    (s.localAct n ea m store f).Fixed s.fixed := by
  rcases h : (s.spn n).eccScan (ea - dmemBase) m with ⟨c, _ | j⟩ <;> simp [State.localAct, h]

@[simp] theorem predict_fixed (s : State) (n opc ra rb : Nat) (off : Word) : (s.predict n opc ra rb off).Fixed s.fixed := by
  simp only [State.predict]
  split <;> simp

@[simp] theorem issueB_fixed (s : State) (n opc : Nat) (w : BitVec 40) : (s.issueB n opc w).fixed = s.fixed := by
  refine issue_fixed _ _ _ _ _ _ _ _ (fun t => ?_)
  dsimp only
  split
  · simp
  · split <;> simp

/-! #### Tagged operations -/

@[simp] theorem setTag_fixed (s : State) (n t : Nat) (o : TagOp) : (s.setTag n t o).fixed = s.fixed := by
  simp [State.setTag]
@[simp] theorem specLoad_fixed (s : State) (n ea : Nat) : (s.specLoad n ea).fixed = s.fixed := by
  simp [State.specLoad]

@[simp] theorem reach_fixed (s : State) (n t d : Nat) : (s.reach n t d).fixed = s.fixed := by
  unfold State.reach
  split
  · rfl
  · split
    · rfl
    · split <;> simp

@[simp] theorem acceptCsw_fixed (s : State) (n t : Nat) : (s.acceptCsw n t).fixed = s.fixed := by
  unfold State.acceptCsw
  split
  · rfl
  · split
    · rfl
    · split
      · split
        · simp
        · split <;> simp
      · simp

@[simp] theorem acceptAll_fixed (s : State) (n : Nat) : (s.acceptAll n).fixed = s.fixed := by
  refine forAll_fixed _ (fun u t => ?_) _ _
  split <;> simp

@[simp] theorem lckReach_fixed (s : State) (n t k : Nat) (try_ : Bool) : (s.lckReach n t k try_).fixed = s.fixed := by
  unfold State.lckReach; split <;> simp

@[simp] theorem launch_fixed (x : Fuses × List Instr) (s : State) (n t : Nat) (o : TagOp) (post : State → State) (hs : s.fixed = x)
    (h : ∀ u, (post u).fixed = u.fixed) : (s.launch n t o post).Fixed x := by
  unfold State.launch
  split <;> simp [h, hs]

@[simp] theorem issueCsw_fixed (s : State) (n : Nat) (w : BitVec 40) (k : OpKind) : (s.issueCsw n w k).fixed = s.fixed :=
  issue_fixed _ _ _ _ _ _ _ _ (fun t => by simp)

/-! #### Clocks and time -/

@[simp] theorem relQuiet_fixed (s : State) (p : Nat) : (s.relQuiet p).fixed = s.fixed := by
  simp [State.relQuiet]
@[simp] theorem loopBack_fixed (s : State) (g : Nat) (low : Bool) : (s.loopBack g low).fixed = s.fixed := by
  simp [State.loopBack]
@[simp] theorem afterSwitch_fixed (s : State) (old : Word) : (s.afterSwitch old).fixed = s.fixed := by
  simp [State.afterSwitch]
@[simp] theorem ackReady_fixed (s : State) : s.ackReady.fixed = s.fixed := by
  simp [State.ackReady]
@[simp] theorem activate_fixed (s : State) (bits : Word) : (s.activate bits).fixed = s.fixed := by
  simp [State.activate]
@[simp] theorem moveTo_fixed (s : State) (bits : Word) : (s.moveTo bits).fixed = s.fixed := by
  simp [State.moveTo]
@[simp] theorem bootMove_fixed (s : State) : s.bootMove.fixed = s.fixed := by
  simp [State.bootMove]
@[simp] theorem lgClockFaults_fixed (s : State) (src : Nat) : (s.lgClockFaults src).fixed = s.fixed := by
  simp [State.lgClockFaults]
@[simp] theorem unready_fixed (s : State) (src : Nat) : (s.unready src).fixed = s.fixed := by
  simp [State.unready]
@[simp] theorem failOne_fixed (s : State) (src why : Nat) : (s.failOne src why).fixed = s.fixed := by
  simp [State.failOne]
@[simp] theorem refLost_fixed (s : State) (x k : Nat) : (s.refLost x k).fixed = s.fixed := by
  simp [State.refLost]
@[simp] theorem sourceFail_fixed (s : State) (src why : Nat) : (s.sourceFail src why).fixed = s.fixed := by
  simp [State.sourceFail]
@[simp] theorem srcselWrite_fixed (s : State) (w : Word) : (s.srcselWrite w).2.fixed = s.fixed := by
  unfold State.srcselWrite; split <;> simp
@[simp] theorem loopStop_fixed (s : State) (k : Nat) : (s.loopStop k).fixed = s.fixed := by
  simp [State.loopStop]
@[simp] theorem pllctlWrite_fixed (s : State) (k : Nat) (w : Word) : (s.pllctlWrite k w).2.fixed = s.fixed := by
  simp [State.pllctlWrite]
@[simp] theorem timeCtlWrite_fixed (s : State) (v : Word) : (s.timeCtlWrite v).fixed = s.fixed := by
  simp [State.timeCtlWrite]
@[simp] theorem ppscfgWrite_fixed (s : State) (v : Word) : (s.ppscfgWrite v).fixed = s.fixed := by
  simp [State.ppscfgWrite]

/-! #### The distaff -/

@[simp] theorem dstArmNow_fixed (s : State) : s.dstArmNow.fixed = s.fixed := by
  simp only [State.dstArmNow, forAll_fixed, takeCkp_fixed, implies_true, fixed_mk, fixed_fold]
  simp

@[simp] theorem dstStop_fixed (s : State) (c : Nat) : (s.dstStop c).fixed = s.fixed := by
  simp [State.dstStop]

@[simp] theorem exportFrom_fixed (s : State) (e q n off : Nat) (l : List Word) : (s.exportFrom e q n off l).fixed = s.fixed := by
  induction n generalizing s off l with
  | zero => rfl
  | succ n ih => simp [State.exportFrom, ih]

@[simp] theorem dstExportNow_fixed (s : State) : s.dstExportNow.fixed = s.fixed := by
  simp [State.dstExportNow]
@[simp] theorem dstCtlWrite_fixed (s : State) (r0 : Nat) (v : Word) : (s.dstCtlWrite r0 v).2.fixed = s.fixed := by
  simp [State.dstCtlWrite]
@[simp] theorem repCtlWrite_fixed (s : State) (g : Nat) (v : Word) : (s.repCtlWrite g v).fixed = s.fixed := by
  simp [State.repCtlWrite]

/-! #### Replies -/

@[simp] theorem setReply_fixed (s : State) (r status addr : Nat) (data : Word) : (s.setReply r status addr data).fixed = s.fixed := by
  simp [State.setReply]
@[simp] theorem sendInband_fixed (s : State) : s.sendInband.fixed = s.fixed := by
  simp [State.sendInband]
@[simp] theorem deliver_fixed (s : State) (r : Nat) (k : Sink) (status addr : Nat) (data : Word) (read : Bool) :
    (s.deliver r k status addr data read).fixed = s.fixed := by
  simp only [State.deliver]; split <;> simp
@[simp] theorem firstAbsent_fixed (s : State) (r : Nat) : (s.firstAbsent r).fixed = s.fixed := by
  unfold State.firstAbsent; split <;> simp

/-! #### Spindle control -/

@[simp] theorem startSpn_fixed (s : State) (n : Nat) : (s.startSpn n).fixed = s.fixed := by
  simp [State.startSpn]
@[simp] theorem spnCtlWrite_fixed (s : State) (n : Nat) (v : Word) : (s.spnCtlWrite n v).2.fixed = s.fixed := by
  simp [State.spnCtlWrite]
@[simp] theorem setPreq_fixed (s : State) (r a : Nat) (v : Word) : (s.setPreq r a v).fixed = s.fixed := by
  simp [State.setPreq]
@[simp] theorem imAccess_fixed (s : State) (r n : Nat) (write : Option Word) : (s.imAccess r n write).2.fixed = s.fixed := by
  unfold State.imAccess; split <;> simp
@[simp] theorem dmAccess_fixed (s : State) (r n : Nat) (write : Option Word) : (s.dmAccess r n write).2.fixed = s.fixed := by
  unfold State.dmAccess; split <;> simp

/-! #### Power -/

@[simp] theorem cmdsAbsent_fixed (s : State) (d : Nat) : (s.cmdsAbsent d).fixed = s.fixed := by
  simp [State.cmdsAbsent]
@[simp] theorem requestsAbsent_fixed (s : State) (d : Nat) : (s.requestsAbsent d).fixed = s.fixed := by
  simp [State.requestsAbsent]
@[simp] theorem dropRegs_fixed (s : State) (d : Nat) (ret : Bool) : (s.dropRegs d ret).fixed = s.fixed := by
  simp [State.dropRegs]
@[simp] theorem quadLeave_fixed (s : State) (d : Nat) (ret : Bool) : (s.quadLeave d ret).fixed = s.fixed := by
  simp [State.quadLeave]
@[simp] theorem groupLeave_fixed (s : State) (d : Nat) (ret : Bool) : (s.groupLeave d ret).fixed = s.fixed := by
  simp [State.groupLeave]
@[simp] theorem clusterLeave_fixed (s : State) (d : Nat) (ret : Bool) : (s.clusterLeave d ret).fixed = s.fixed := by
  simp [State.clusterLeave]
@[simp] theorem cellLoss_fixed (s : State) (b : Nat) : (s.cellLoss b).fixed = s.fixed := by
  simp [State.cellLoss]
@[simp] theorem stateLoss_fixed (s0 : State) : s0.stateLoss.fixed = s0.fixed := by
  simp [State.stateLoss]
@[simp] theorem bankLoss_fixed (s : State) (b : Nat) : (s.bankLoss b).fixed = s.fixed := by
  simp [State.bankLoss]
@[simp] theorem hostQuadLeave_fixed (s : State) (d : Nat) (ret : Bool) : (s.hostQuadLeave d ret).fixed = s.fixed := by
  simp [State.hostQuadLeave]
@[simp] theorem tmLeave_fixed (s : State) (d : Nat) (ret : Bool) : (s.tmLeave d ret).fixed = s.fixed := by
  simp [State.tmLeave]
@[simp] theorem distaffLeave_fixed (s : State) (d : Nat) (ret : Bool) : (s.distaffLeave d ret).fixed = s.fixed := by
  simp [State.distaffLeave]
@[simp] theorem domLeave_fixed (s : State) (d : Nat) (ret : Bool) : (s.domLeave d ret).fixed = s.fixed := by
  simp [State.domLeave]
@[simp] theorem marchFill_fixed (s : State) (cls unit : Nat) : (s.marchFill cls unit).fixed = s.fixed := by
  simp [State.marchFill]
@[simp] theorem marchLeft_fixed (s : State) (t : Test) : (s.marchLeft t).fixed = s.fixed := by
  simp [State.marchLeft]
@[simp] theorem putWords_fixed (s : State) (cls unit : Nat) (ws : List Word) : (s.putWords cls unit ws).fixed = s.fixed := by
  simp [State.putWords]
@[simp] theorem loadScratch_fixed (s : State) (cls unit : Nat) : (s.loadScratch cls unit).fixed = s.fixed := by
  unfold State.loadScratch; split <;> simp
@[simp] theorem testRestore_fixed (s0 : State) (t : Test) : (s0.testRestore t).fixed = s0.fixed := by
  simp [State.testRestore]
@[simp] theorem testLast_fixed (s : State) (t : Test) (result word : Nat) : (s.testLast t result word).fixed = s.fixed := by
  simp [State.testLast]
@[simp] theorem testAbort_fixed (s : State) : s.testAbort.fixed = s.fixed := by
  unfold State.testAbort; split <;> simp
@[simp] theorem setTarget_fixed (s : State) (d v : Nat) : (s.setTarget d v).fixed = s.fixed := by
  simp [State.setTarget]
@[simp] theorem refuseTarget_fixed (s : State) (d : Nat) (r : Nat × Nat) : (s.refuseTarget d r).fixed = s.fixed := by
  simp [State.refuseTarget]
@[simp] theorem applyTarget_fixed (s : State) (d v : Nat) (delay : Bool) : (s.applyTarget d v delay).fixed = s.fixed := by
  cases h : s.entryReason d (decide ((s.dom d).st = 0)) (decide (v = 1) && s.retMem d 0) <;> simp [State.applyTarget, h]
@[simp] theorem writeTarget_fixed (s : State) (d v : Nat) (delay : Bool) : (s.writeTarget d v delay).fixed = s.fixed := by
  simp [State.writeTarget]
@[simp] theorem settleNext_fixed (s : State) (d : Nat) : (s.settleNext d).fixed = s.fixed := by
  unfold State.settleNext; split <;> simp
@[simp] theorem domctlWrite_fixed (s : State) (d : Nat) (v : Word) (delay : Bool) : (s.domctlWrite d v delay).fixed = s.fixed := by
  simp [State.domctlWrite]
@[simp] theorem entryDone_fixed (s : State) (d : Nat) : (s.entryDone d).fixed = s.fixed := by
  cases h : (s.dom d).next <;> simp [State.entryDone, h]
@[simp] theorem forceOne_fixed (s : State) (d : Nat) : (s.forceOne d).fixed = s.fixed := by
  simp [State.forceOne]
@[simp] theorem forceOff_fixed (s : State) (d : Nat) : (s.forceOff d).fixed = s.fixed := by
  simp [State.forceOff]
@[simp] theorem isolateDom_fixed (s : State) (d : Nat) : (s.isolateDom d).fixed = s.fixed := by
  simp [State.isolateDom]
@[simp] theorem cycleUnits_fixed (s : State) (d : Nat) : (s.cycleUnits d).fixed = s.fixed := by
  simp [State.cycleUnits]
@[simp] theorem wakePorts_fixed (s : State) (d : Nat) : (s.wakePorts d).fixed = s.fixed := by
  simp [State.wakePorts]
@[simp] theorem wakeDone_fixed (s : State) (d : Nat) : (s.wakeDone d).fixed = s.fixed := by
  cases h : (s.dom d).next <;> simp [State.wakeDone, h]

/-! #### The fault collector -/

@[simp] theorem isolate_fixed (s : State) (src : Nat) : (s.isolate src).fixed = s.fixed := by
  simp [State.isolate]
@[simp] theorem safeQuietAll_fixed (s : State) (src : Nat) : (s.safeQuietAll src).fixed = s.fixed := by
  simp [State.safeQuietAll]
@[simp] theorem react_fixed (s : State) (src sev code : Nat) : (s.react src sev code).fixed = s.fixed := by
  simp [State.react]
@[simp] theorem reactDue_fixed (s : State) (src sev code : Nat) : (s.reactDue src sev code).fixed = s.fixed := by
  simp [State.reactDue]
@[simp] theorem reactLate_fixed (s : State) (d : Nat) : (s.reactLate d).fixed = s.fixed := by
  simp [State.reactLate]
@[simp] theorem record_fixed (s : State) (r : Rec) : (s.record r).fixed = s.fixed := by
  simp [State.record]
@[simp] theorem histRead_fixed (s : State) (host : Bool) : (s.histRead host).2.2.fixed = s.fixed := by
  unfold State.histRead; split <;> simp
@[simp] theorem takeEvent_fixed (s : State) (e : Ev) : (s.takeEvent e).fixed = s.fixed := by
  simp [State.takeEvent]
@[simp] theorem faultTrigger_fixed (s : State) (src sev : Nat) : (s.faultTrigger src sev).fixed = s.fixed := by
  cases h : (List.range 16).find? (fun i => s.triggers (16 * (src - 0x60) + i)) <;> simp [State.faultTrigger, h]
@[simp] theorem serve_fixed (s : State) (e : Ev) : (s.serve e).fixed = s.fixed := by
  simp [State.serve]
@[simp] theorem unitReturn_fixed (s : State) (src : Nat) : (s.unitReturn src).fixed = s.fixed := by
  simp [State.unitReturn]
@[simp] theorem sourceReturn_fixed (s : State) (src : Nat) (recs : List Nat) : (s.sourceReturn src recs).fixed = s.fixed := by
  simp [State.sourceReturn]
@[simp] theorem releaseWrite_fixed (s : State) (v : Word) : (s.releaseWrite v).2.fixed = s.fixed := by
  simp [State.releaseWrite]
@[simp] theorem reccfgWrite_fixed (s : State) (v : Word) : (s.reccfgWrite v).fixed = s.fixed := by
  simp [State.reccfgWrite]
@[simp] theorem codecfgWrite_fixed (s : State) (c : Nat) (v : Word) : (s.codecfgWrite c v).2.fixed = s.fixed := by
  unfold State.codecfgWrite; split <;> simp
@[simp] theorem fltPinWrite_fixed (s : State) (v : Word) : (s.fltPinWrite v).fixed = s.fixed := by
  simp [State.fltPinWrite]

/-! #### Self-test -/

@[simp] theorem saveScratch_fixed (s : State) (cls unit : Nat) : (s.saveScratch cls unit).fixed = s.fixed := by
  unfold State.saveScratch; split <;> simp
@[simp] theorem testPoll_fixed (s : State) (boundary : Option Nat) : (s.testPoll boundary).fixed = s.fixed := by
  unfold State.testPoll; split <;> simp
@[simp] theorem testAdvance_fixed (s : State) : s.testAdvance.fixed = s.fixed := by
  simp [State.testAdvance]
@[simp] theorem testSkip_fixed (s : State) (reason : Nat) : (s.testSkip reason).fixed = s.fixed := by
  simp [State.testSkip]

@[simp] theorem testSeek_fixed (n : Nat) (s : State) : (State.testSeek n s).fixed = s.fixed := by
  induction n generalizing s with
  | zero => rfl
  | succ n ih => simp [State.testSeek, ih]

@[simp] theorem withdraw_fixed (s : State) (cls unit : Nat) : (s.withdraw cls unit).fixed = s.fixed := by
  simp [State.withdraw]
@[simp] theorem readmit_fixed (s : State) (cls unit : Nat) : (s.readmit cls unit).fixed = s.fixed := by
  simp [State.readmit]
@[simp] theorem bistCtlWrite_fixed (s : State) (v : Word) : (s.bistCtlWrite v).2.fixed = s.fixed := by
  simp [State.bistCtlWrite]

/-! #### Images and records -/

@[simp] theorem cmtState_fixed (s : State) (st step : Nat) : (s.cmtState st step).fixed = s.fixed := by
  simp [State.cmtState]
@[simp] theorem cmtRefuse_fixed (s : State) (reason chk : Nat) : (s.cmtRefuse reason chk).fixed = s.fixed := by
  simp [State.cmtRefuse]
@[simp] theorem banksAnswer_fixed (s : State) (a n : Nat) : (s.banksAnswer a n).2.fixed = s.fixed := by
  simp [State.banksAnswer]
@[simp] theorem setGauge_fixed (s : State) (v : Nat) : (s.setGauge v).fixed = s.fixed := by
  simp [State.setGauge]
@[simp] theorem vokRise_fixed (s : State) : s.vokRise.fixed = s.fixed := by
  simp [State.vokRise]
@[simp] theorem commitWrite_fixed (s : State) (v : Word) : (s.commitWrite v).2.fixed = s.fixed := by
  simp [State.commitWrite]

@[simp] theorem program_fixed (s : State) (at_ : Nat) (l : List Byte) : (s.program at_ l).fixed = s.fixed := by
  induction l generalizing s at_ with
  | nil => rfl
  | cons b t ih => simp [State.program, ih]

@[simp] theorem flashOp_fixed (s : State) (c : Commit) : (s.flashOp c).fixed = s.fixed := by
  simp [State.flashOp]
@[simp] theorem commitOver_fixed (s : State) (c : Commit) (outcome : Nat) : (s.commitOver c outcome).fixed = s.fixed := by
  simp [State.commitOver]

/-! #### Start-up -/

@[simp] theorem placeDoms_fixed (s : State) (st : Nat → Nat) : (s.placeDoms st).fixed = s.fixed := by
  simp [State.placeDoms]
@[simp] theorem oweCoreLow_fixed (s : State) : s.oweCoreLow.fixed = s.fixed := by
  simp [State.oweCoreLow]

@[simp] theorem aonWake_fixed (s : State) (source port : Nat) : (s.aonWake source port).fixed = s.fixed := by
  simp only [State.aonWake, fixed_mk, fixed_fold]
  simp

@[simp] theorem postEvent_fixed (s : State) (src code : Nat) (info : Nat → Nat) : (s.postEvent src code info).fixed = s.fixed := by
  simp [State.postEvent]
@[simp] theorem applyPost_fixed (s : State) (r : PostResult) : (s.applyPost r).fixed = s.fixed := by
  simp [State.applyPost]
@[simp] theorem readySources_fixed (s : State) (r : BitVec 18) : (s.readySources r).fixed = s.fixed := by
  simp [State.readySources]
@[simp] theorem bootStart_fixed (s : State) (b : BootInputs) : (s.bootStart b).fixed = s.fixed := by
  simp [State.bootStart]
@[simp] theorem loseOne_fixed (s : State) (d : Nat) : (s.loseOne d).fixed = s.fixed := by
  simp [State.loseOne]
@[simp] theorem loseDomains_fixed (s : State) : s.loseDomains.fixed = s.fixed := by
  simp [State.loseDomains]
@[simp] theorem loseRet_fixed (s : State) : s.loseRet.fixed = s.fixed := by
  simp [State.loseRet]
@[simp] theorem holdup_fixed (s : State) : s.holdup.fixed = s.fixed := by
  simp [State.holdup]
@[simp] theorem holdFault_fixed (s : State) (src code info : Nat) : (s.holdFault src code info).fixed = s.fixed := by
  simp [State.holdFault]
@[simp] theorem setSpnMode_fixed (s : State) (n m : Nat) : (s.setSpnMode n m).fixed = s.fixed := by
  simp [State.setSpnMode]
@[simp] theorem assignModes_fixed (s : State) (u : Nat) : (s.assignModes u).fixed = s.fixed := by
  simp [State.assignModes]
@[simp] theorem startSup_fixed (s : State) (n : Nat) (pc : Option Nat) : (s.startSup n pc).fixed = s.fixed := by
  unfold State.startSup; split <;> simp
@[simp] theorem grantRun_fixed (s : State) (n : Nat) : (s.grantRun n).fixed = s.fixed := by
  simp [State.grantRun]

@[simp] theorem supervisorGo_fixed (s : State) : s.supervisorGo.fixed = s.fixed := by
  unfold State.supervisorGo
  extract_lets bad sel s1 s2 src s3
  have hs2 : s2.fixed = s.fixed := by
    simp only [s2]
    split <;> simp [s1]
  split
  · rfl
  · split
    · simp
    · simp [s3, hs2]

@[simp] theorem rebootWrite_fixed (s : State) (v : Word) : (s.rebootWrite v).2.fixed = s.fixed := by
  simp [State.rebootWrite]

/-! #### Pins -/

@[simp] theorem keepLevels_fixed (s : State) (pins : List Nat) : (s.keepLevels pins).fixed = s.fixed := by
  simp [State.keepLevels]
@[simp] theorem pinOeWrite_fixed (s : State) (v : Word) : (s.pinOeWrite v).fixed = s.fixed := by
  simp [State.pinOeWrite]
@[simp] theorem pinFuncWrite_fixed (s : State) (pin : Nat) (v : Word) : (s.pinFuncWrite pin v).2.fixed = s.fixed := by
  simp [State.pinFuncWrite]

/-! #### Mailboxes and rings -/

@[simp] theorem mailboxPut_fixed (s : State) (n : Nat) (v : Word) : (s.mailboxPut n v).2.fixed = s.fixed := by
  simp [State.mailboxPut]
@[simp] theorem hostboxPut_fixed (s : State) (v : Word) : (s.hostboxPut v).2.fixed = s.fixed := by
  simp [State.hostboxPut]
@[simp] theorem ringWrite_fixed (s : State) (a : Nat) (v : Word) : (s.ringWrite a v).2.fixed = s.fixed := by
  simp [State.ringWrite]
@[simp] theorem doorbellWrite_fixed (s : State) (v : Nat) : (s.doorbellWrite v).fixed = s.fixed := by
  simp [State.doorbellWrite]
@[simp] theorem knotHostWrite_fixed (s : State) (k : Nat) (v : Word) : (s.knotHostWrite k v).2.fixed = s.fixed := by
  simp [State.knotHostWrite]

/-! #### Register reads -/

@[simp] theorem setShadow_fixed (s : State) (r : Nat) (w : Word) : (s.setShadow r w).fixed = s.fixed := by
  simp [State.setShadow]
@[simp] theorem shRead_fixed (s : State) (r : Nat) (l : RegLoc) (a : Nat) : (s.shRead r l a).2.fixed = s.fixed := by
  simp [State.shRead]
@[simp] theorem rddataRead_fixed (s : State) (r : Nat) : (s.rddataRead r).2.fixed = s.fixed := by
  simp [State.rddataRead]
@[simp] theorem hostrxRead_fixed (s : State) : s.hostrxRead.2.fixed = s.fixed := by
  unfold State.hostrxRead; split <;> simp
@[simp] theorem readAt_fixed (s : State) (r : Nat) (l : RegLoc) (row : RegRow) (second : Bool) (a : Nat) :
    (s.readAt r l row second a).2.fixed = s.fixed := by
  simp [State.readAt]

/-! #### Register writes -/

@[simp] theorem portWrite_fixed (s : State) (r p o a : Nat) (w : Word) : (s.portWrite r p o a w).fixed = s.fixed := by
  simp [State.portWrite]
@[simp] theorem queueWrite_fixed (s : State) (e q o a : Nat) (w : Word) : (s.queueWrite e q o a w).fixed = s.fixed := by
  simp [State.queueWrite]
@[simp] theorem gateListWrite_fixed (s : State) (l a : Nat) (w : Word) : (s.gateListWrite l a w).2.fixed = s.fixed := by
  simp [State.gateListWrite]
@[simp] theorem cspWrite_fixed (s : State) (one : Bool) (w : Word) : (s.cspWrite one w).2.fixed = s.fixed := by
  simp [State.cspWrite]
@[simp] theorem kmWrite_fixed (s : State) (o a : Nat) (w : Word) : (s.kmWrite o a w).2.fixed = s.fixed := by
  simp [State.kmWrite]
@[simp] theorem spnRegWrite_fixed (s : State) (r n o a : Nat) (w : Word) : (s.spnRegWrite r n o a w).2.fixed = s.fixed := by
  simp [State.spnRegWrite]
@[simp] theorem tmWrite_fixed (s : State) (o a : Nat) (w : Word) : (s.tmWrite o a w).fixed = s.fixed := by
  simp [State.tmWrite]
@[simp] theorem storeAt_fixed (s : State) (r : Nat) (l : RegLoc) (a : Nat) (w : Word) : (s.storeAt r l a w).2.fixed = s.fixed := by
  simp only [State.storeAt]; split <;> simp
@[simp] theorem regwr_fixed (s : State) (l : RegLoc) (a : Nat) (v : Word) : (s.regwr l a v).fixed = s.fixed := by
  unfold State.regwr; split <;> simp
@[simp] theorem goodParity_fixed (s : State) (a : Nat) : (s.goodParity a).fixed = s.fixed := by
  simp [State.goodParity]
@[simp] theorem runtimeWrite_fixed (s : State) (p o a : Nat) (v : Word) : (s.runtimeWrite p o a v).fixed = s.fixed := by
  simp [State.runtimeWrite]
@[simp] theorem writeAt_fixed (s : State) (r : Nat) (l : RegLoc) (row : RegRow) (a : Nat) (v : Word) : (s.writeAt r l row a v).2.fixed = s.fixed := by
  simp [State.writeAt]

/-! #### Guard windows -/

@[simp] theorem pathWrite_fixed (s : State) (v : Word) : (s.pathWrite v).2.fixed = s.fixed := by
  simp [State.pathWrite]
@[simp] theorem forceoffWrite_fixed (s : State) (v : Word) : (s.forceoffWrite v).2.fixed = s.fixed := by
  simp [State.forceoffWrite]
@[simp] theorem rtslotWrite_fixed (s : State) (v : Word) : (s.rtslotWrite v).2.fixed = s.fixed := by
  simp [State.rtslotWrite]
@[simp] theorem setGuard_fixed (s : State) (r : Nat) (g : Option Guard) : (s.setGuard r g).fixed = s.fixed := by
  simp [State.setGuard]
@[simp] theorem guardFault_fixed (s : State) (a : Nat) : (s.guardFault a).fixed = s.fixed := by
  simp [State.guardFault]
@[simp] theorem guardAge_fixed (s : State) (r : Nat) : (s.guardAge r).fixed = s.fixed := by
  unfold State.guardAge; split <;> simp
@[simp] theorem guardA_fixed (s0 : State) (r a : Nat) (v : Word) : (s0.guardA r a v).2.fixed = s0.fixed := by
  simp only [State.guardA]; split <;> simp

/-! #### Requests on the fabric -/

@[simp] theorem readWord_fixed (s : State) (r a : Nat) : (s.readWord r a).2.2.fixed = s.fixed := by
  unfold State.readWord
  split
  · rfl
  · split
    · split <;> simp
    · split <;> simp

@[simp] theorem delayEntry_fixed (s : State) (a chg : Nat) : (s.delayEntry a chg).fixed = s.fixed := by
  simp [State.delayEntry]

/-! #### The line runtime -/

@[simp] theorem putCmd_fixed (s : State) (i : Nat) (c : Cmd) : (s.putCmd i c).fixed = s.fixed := by
  simp [State.putCmd]

@[simp] theorem runCmd_fixed (s : State) (op id : Nat) (f : Cmd → Bool → State → Prog × State) (h : ∀ c b, (f c b s).2.fixed = s.fixed) :
    (s.runCmd op id f).fixed = s.fixed := by
  simp only [State.runCmd]
  split
  · rfl
  · split
    · rfl
    · split
      · split <;> simp [h]
      · split
        · rfl
        · split
          · simp
          · split <;> simp [h]

@[simp] theorem needDoms_fixed (s : State) (ds : List Nat) (k : State → Prog × State) (h : ∀ t, (k t).2.fixed = t.fixed) :
    (s.needDoms ds k).2.fixed = s.fixed := by
  simp [State.needDoms, h]

@[simp] theorem putRingWord_fixed (s : State) (base k : Nat) (v : Word) : (s.putRingWord base k v).fixed = s.fixed := by
  unfold State.putRingWord; split <;> simp
@[simp] theorem dstCommand_fixed (s : State) (c : Cmd) : (s.dstCommand c).fixed = s.fixed := by
  simp [State.dstCommand]

@[simp] theorem copyEntries_fixed (n : Nat) (s : State) : (State.copyEntries n s).fixed = s.fixed := by
  induction n generalizing s with
  | zero => rfl
  | succ n ih => simp [State.copyEntries, ih]

@[simp] theorem writeCompletion_fixed (s : State) (i : Nat) : (s.writeCompletion i).fixed = s.fixed := by
  simp only [State.writeCompletion]; split <;> simp
@[simp] theorem grantLines_fixed (s : State) (n : Nat) : (s.grantLines n).fixed = s.fixed := by
  simp [State.grantLines]
@[simp] theorem regrant_fixed (s : State) : s.regrant.fixed = s.fixed := by
  simp [State.regrant]
@[simp] theorem clearDeleg_fixed (s : State) (n : Nat) : (s.clearDeleg n).fixed = s.fixed := by
  simp [State.clearDeleg]
@[simp] theorem becomeRun_fixed (s : State) (n : Nat) : (s.becomeRun n).fixed = s.fixed := by
  cases h : s.runSpindles.head? <;> simp [State.becomeRun, h]
@[simp] theorem becomeUser_fixed (s : State) (n : Nat) : (s.becomeUser n).fixed = s.fixed := by
  simp [State.becomeUser]
@[simp] theorem movePool_fixed (s : State) : s.movePool.fixed = s.fixed := by
  simp [State.movePool]
@[simp] theorem partitionPoll_fixed (s : State) : s.partitionPoll.fixed = s.fixed := by
  simp [State.partitionPoll]
@[simp] theorem loadRuntime_fixed (s : State) (slot : Nat) (ws : List Word) (ver : Nat) (api : List Nat) :
    (s.loadRuntime slot ws ver api).fixed = s.fixed := by
  simp [State.loadRuntime]

/-! #### Register rows -/

@[simp] theorem parityFault_fixed (s : State) (a : Nat) : (s.parityFault a).fixed = s.fixed := by
  simp [State.parityFault]

/-! #### Tagged operations, performed -/

@[simp] theorem complete_fixed (s : State) (n t status : Nat) (data : Word) : (s.complete n t status data).fixed = s.fixed := by
  simp [State.complete]

@[simp] theorem setHalfWords_fixed (s : State) (p h k : Nat) (l : List Word) : (s.setHalfWords p h k l).fixed = s.fixed := by
  induction l generalizing s k with
  | nil => rfl
  | cons w t ih => simp [State.setHalfWords, ih]

@[simp] theorem coefWrite_fixed (s : State) (p off : Nat) (ws : List Word) : (s.coefWrite p off ws).2.fixed = s.fixed := by
  simp [State.coefWrite]

@[simp] theorem setSlotWords_fixed (s : State) (g half victim off : Nat) (l : List Word) :
    (s.setSlotWords g half victim off l).fixed = s.fixed := by
  induction l generalizing s off with
  | nil => rfl
  | cons w t ih => simp [State.setSlotWords, ih]

@[simp] theorem slotWrite_fixed (s : State) (g k victim off : Nat) (ws : List Word) : (s.slotWrite g k victim off ws).2.fixed = s.fixed := by
  simp [State.slotWrite]
@[simp] theorem rovWrite_fixed (s : State) (n t : Nat) (o : TagOp) : (s.rovWrite n t o).fixed = s.fixed := by
  simp [State.rovWrite]

@[simp] theorem cwrTag_fixed (s : State) (n t : Nat) (o : TagOp) : (s.cwrTag n t o).fixed = s.fixed := by
  unfold State.cwrTag
  split
  · split <;> simp
  · split <;> simp

@[simp] theorem ldfTag_fixed (s : State) (n t : Nat) (o : TagOp) : (s.ldfTag n t o).fixed = s.fixed := by
  simp [State.ldfTag]
@[simp] theorem mbsTag_fixed (s : State) (n t : Nat) (o : TagOp) : (s.mbsTag n t o).fixed = s.fixed := by
  simp [State.mbsTag]
@[simp] theorem mbrTag_fixed (s : State) (n t : Nat) : (s.mbrTag n t).fixed = s.fixed := by
  unfold State.mbrTag; split <;> simp
@[simp] theorem ulkTag_fixed (s : State) (n t : Nat) (o : TagOp) : (s.ulkTag n t o).fixed = s.fixed := by
  simp [State.ulkTag]
@[simp] theorem frxTag_fixed (s : State) (n t : Nat) (o : TagOp) : (s.frxTag n t o).fixed = s.fixed := by
  unfold State.frxTag; split <;> simp
@[simp] theorem ftxTag_fixed (s : State) (n t : Nat) (o : TagOp) : (s.ftxTag n t o).fixed = s.fixed := by
  unfold State.ftxTag; split <;> simp
@[simp] theorem gthLost_fixed (s : State) (n : Nat) (o : TagOp) (ps : List Nat) : (s.gthLost n o ps).fixed = s.fixed := by
  simp [State.gthLost]
@[simp] theorem gthStored_fixed (s : State) (n t : Nat) (o : TagOp) (bad : Bool) (ws : List Word) : (s.gthStored n t o bad ws).fixed = s.fixed := by
  simp [State.gthStored]

@[simp] theorem gthLive_fixed (s : State) (n t : Nat) (o : TagOp) : (s.gthLive n t o).fixed = s.fixed := by
  simp only [State.gthLive]
  split
  · simp
  · split
    · simp
    · split <;> simp

@[simp] theorem gthReplay_fixed (s : State) (n t : Nat) (o : TagOp) : (s.gthReplay n t o).fixed = s.fixed := by
  unfold State.gthReplay
  split
  · simp
  · split <;> simp

/-! #### Runtime commands -/

@[simp] theorem pdone_fixed (st : Nat) (s : State) : (pdone st s).2.fixed = s.fixed := by
  simp [pdone]
@[simp] theorem cmdRestart_fixed (s : State) (p : Nat) : (s.cmdRestart p).fixed = s.fixed := by
  simp [State.cmdRestart]
@[simp] theorem newAttempt_fixed (s : State) (p : Nat) : (s.newAttempt p).fixed = s.fixed := by
  simp [State.newAttempt]
@[simp] theorem abortSweep_fixed (s : State) (p : Nat) : (s.abortSweep p).fixed = s.fixed := by
  simp [State.abortSweep]
@[simp] theorem cancelEarlier_fixed (s : State) (p i : Nat) : (s.cancelEarlier p i).fixed = s.fixed := by
  simp [State.cancelEarlier]
@[simp] theorem setFp_fixed (s : State) (p : Nat) (ws : List Word) : (s.setFp p ws).fixed = s.fixed := by
  simp [State.setFp]
@[simp] theorem fpTake_fixed (s : State) (p : Nat) : (s.fpTake p).fixed = s.fixed := by
  simp [State.fpTake]

/-! #### Configuration records -/

@[simp] theorem recordFails_fixed (s : State) : s.recordFails.fixed = s.fixed := by
  simp [State.recordFails]
@[simp] theorem nextRecord_fixed (s : State) : s.nextRecord.fixed = s.fixed := by
  simp [State.nextRecord]
@[simp] theorem configEnd_fixed (s : State) (k : Nat) : (s.configEnd k).fixed = s.fixed := by
  simp [State.configEnd]

/-! #### CSP1 and host frames -/

@[simp] theorem guardLapse_fixed (s : State) : s.guardLapse.fixed = s.fixed := by
  unfold State.guardLapse; split <;> simp
@[simp] theorem csp1Cut_fixed (s : State) : s.csp1Cut.fixed = s.fixed := by
  simp [State.csp1Cut]
@[simp] theorem csp1Device_fixed (s : State) (before n : Nat) (cut : Bool) : (s.csp1Device before n cut).fixed = s.fixed := by
  simp [State.csp1Device]

/-! #### Domain rows -/

@[simp] theorem wakeLate_fixed (s : State) (d : Nat) : (s.wakeLate d).fixed = s.fixed := by
  simp [State.wakeLate]

/-! #### Vector instructions -/

@[simp] theorem retPair_fixed (s : State) (n d c : Nat) (f g : Nat → Word) : (s.retPair n d c f g).Fixed s.fixed := by
  simp [State.retPair]

@[simp] theorem issueV_fixed (s : State) (n opc : Nat) (w : BitVec 40) (z : Nat) (regs : List Nat) (f : Spindle → Spindle) :
    (s.issueV n opc w z regs f).fixed = s.fixed :=
  issue_fixed _ _ _ _ _ _ _ _ (fun t => by simp)

@[simp] theorem issueVab_fixed (s : State) (n opc : Nat) (w : BitVec 40) (fn : Nat) (f : Word → Word → Word) :
    (s.issueVab n opc w fn f).fixed = s.fixed := by
  simp [State.issueVab]

/-! ### Programming a life-cycle fuse (R6, R55) -/

/-- `y` is `x`, or `x` with the fuse of the next life-cycle state being programmed. -/
def Starts (x y : Fuses × List Instr) : Prop :=
  y = x ∨ x.1.prog = none ∧ ∃ n, nextLc x.1.lc = some n ∧ y = ({ x.1 with prog := some n }, x.2)

@[simp] theorem Starts.refl (x : Fuses × List Instr) : Starts x x := .inl rfl

theorem Starts.trans {x y z : Fuses × List Instr} (h : Starts x y) (h' : Starts y z) : Starts x z := by
  rcases h with rfl | ⟨hp, n, hn, rfl⟩
  · exact h'
  · rcases h' with rfl | ⟨hp', _⟩
    · exact .inr ⟨hp, n, hn, rfl⟩
    · cases hp'

theorem Starts.ite {x y z : Fuses × List Instr} {c : Prop} [Decidable c] (hy : Starts x y) (hz : Starts x z) :
    Starts x (if c then y else z) := by split <;> assumption

theorem forAll_starts {α : Type} (f : State → α → State) (h : ∀ s a, Starts s.fixed (f s a).fixed) (l : List α) (s : State) :
    Starts s.fixed (forAll f l s).fixed := by
  induction l generalizing s with
  | nil => exact .refl _
  | cons a l ih => exact (h s a).trans (ih _)

theorem lcWrite_starts (s : State) (v : Word) : Starts s.fixed (s.lcWrite v).2.fixed := by
  simp only [State.lcWrite]
  split
  · simp
  · rename_i hn
    split
    · simp
    · rename_i hp
      exact .inr ⟨by simpa using hp, _, not_not.mp hn, rfl⟩

theorem commitAt_starts (s : State) (l : RegLoc) (v : Word) : Starts s.fixed (s.commitAt l v).2.fixed := by
  unfold State.commitAt
  split
  · split
    · exact lcWrite_starts s v
    · simp
  all_goals simp

theorem guardB_starts (s : State) (r : Nat) (l : RegLoc) (a : Nat) (v : Word) : Starts s.fixed (s.guardB r l a v).2.fixed := by
  simp only [State.guardB]
  split
  · simp
  · split
    · simp
    · split
      · simpa using commitAt_starts (((s.guardAge r).setGuard r none)) l _
      · simp

theorem writeWord_starts (s : State) (r a : Nat) (v : Word) : Starts s.fixed (s.writeWord r a v).2.fixed := by
  unfold State.writeWord
  split
  · simp
  · split
    · simp
    · split
      · split
        · exact guardB_starts _ _ _ _ _
        · simp
      · simp

theorem perform_starts (s : State) (w : Waiting) : Starts s.fixed (s.perform w).2.2.fixed := by
  unfold State.perform
  split
  · simpa using writeWord_starts s w.req w.addr w.data
  · simp

theorem attempt_starts (s : State) (w : Waiting) : Starts s.fixed (s.attempt w).2.fixed := by
  simp only [State.attempt]
  split
  · simp
  · split
    · simp
    · split
      · split
        · simp
        · split
          · simp
          · exact perform_starts s w
      · split
        · simp
        · simp
        · simpa using perform_starts (s.refuseEntryAt _ (unitIn _ w.addr)) w

theorem access_starts (s : State) (w : Waiting) : Starts s.fixed (s.access w).fixed := by
  simp only [State.access]
  split
  · simp
  · split
    · simp
    · have h := attempt_starts s { w with may := s.mayWrite w.req w.addr }
      split <;> simp_all

theorem pumpFrom_starts (l : List Waiting) (blocked : List Nat) (s : State) : Starts s.fixed (pumpFrom l blocked s).fixed := by
  induction l generalizing blocked s with
  | nil => exact .refl _
  | cons w rest ih =>
    unfold pumpFrom
    split
    · exact ih _ _
    · split
      · have h := attempt_starts { s with waitQ := dropFirst w.req s.waitQ } w
        refine Starts.trans ?_ (ih _ _)
        simpa using h
      · rename_i t ht
        have h := attempt_starts s w
        rw [ht] at h
        exact h.trans (ih _ _)

theorem pump_starts (s : State) : Starts s.fixed s.pump.fixed := pumpFrom_starts _ _ _

theorem idle_starts (s : State) : Starts s.fixed s.idle.fixed := by
  simp only [State.idle]
  refine Starts.trans ?_ (pump_starts _)
  simp

theorem readReg_starts (s : State) (r : Requester) (a : Nat) : Starts s.fixed (s.readReg r a).fixed := access_starts _ _
theorem writeReg_starts (s : State) (r : Requester) (a : Nat) (v : Word) : Starts s.fixed (s.writeReg r a v).fixed := access_starts _ _
theorem writeFld_starts (s : State) (r : Requester) (a hi lo v : Nat) : Starts s.fixed (s.writeFld r a hi lo v).fixed := access_starts _ _
theorem writePair_starts (s : State) (r : Requester) (a : Nat) (v : Word) : Starts s.fixed (s.writePair r a v).fixed :=
  (writeReg_starts _ _ _ _).trans (writeReg_starts _ _ _ _)
theorem targetWrite_starts (s : State) (r : Requester) (d v : Nat) (delay : Bool) : Starts s.fixed (s.targetWrite r d v delay).fixed :=
  access_starts _ _

theorem supWrite_starts (s : State) (a : Nat) (v : Word) : Starts s.fixed (s.supWrite a v).2.fixed := by
  have h := attempt_starts s { req := s.supSpn, write := true, addr := a, data := v, sink := .bare }
  unfold State.supWrite
  split <;> simp_all

theorem memTag_starts (s : State) (n t : Nat) (o : TagOp) (write : Bool) : Starts s.fixed (s.memTag n t o write).fixed := by
  have h := attempt_starts s { req := n, write := write, addr := o.ea, data := o.val, sink := .bare }
  rcases ha : s.attempt { req := n, write := write, addr := o.ea, data := o.val, sink := .bare } with ⟨_ | ⟨st, d⟩, u⟩ <;> rw [ha] at h
  · simpa [State.memTag, ha] using Starts.ite (.refl _) h
  · simpa [State.memTag, ha] using Starts.ite (.refl _) h

theorem tagGo_starts (s : State) (n t : Nat) : Starts s.fixed (s.tagGo n t).fixed := by
  unfold State.tagGo
  split
  · simp
  · split
    · simp
    · split
      · simp
      · split
        · exact memTag_starts _ _ _ _ _
        · exact memTag_starts _ _ _ _ _
        all_goals simp

theorem runCmd_starts (s : State) (op id : Nat) (f : Cmd → Bool → State → Prog × State) (h : ∀ c b, Starts s.fixed (f c b s).2.fixed) :
    Starts s.fixed (s.runCmd op id f).fixed := by
  simp only [State.runCmd]
  split
  · simp
  · split
    · simp
    · split
      · split <;> simp [h]
      · split
        · simp
        · split
          · simp
          · split <;> simp [h]

theorem needDoms_starts (s : State) (ds : List Nat) (k : State → Prog × State) (h : ∀ t, Starts t.fixed (k t).2.fixed) :
    Starts s.fixed (s.needDoms ds k).2.fixed := by
  unfold State.needDoms
  split
  · simp
  · split
    · simp
    · simpa using h (forAll State.refuseEntry ds s)

theorem recordWrite_starts {s t : State} {pair : Bool} {a : Nat} {v : Word} {st : Option Nat} (ht : s.recordWrite pair a v = (st, t)) :
    Starts s.fixed t.fixed := by
  have h := attempt_starts s { req := s.supSpn, write := true, addr := a, data := v, sink := .bare }
  simp only [State.recordWrite] at ht
  split at ht
  · simp_all
  · rename_i u hu
    rw [hu] at h
    split at ht
    · have h' := attempt_starts u { req := s.supSpn, write := true, addr := a + 1, data := ~~~v, sink := .bare }
      split at ht <;> exact h.trans (by simp_all)
    · simp_all

theorem mgmtWords_starts (s : State) (slow : Bool) (c : MgmtCmd) (k : Sink) (data : List Word) :
    Starts s.fixed (s.mgmtWords slow c k data).fixed := by
  have go : ∀ (t : State) (w : Waiting), Starts t.fixed ((if slow then t.guardLapse else t).access w).fixed := by
    intro t w
    simpa using access_starts (if slow then t.guardLapse else t) w
  simp only [State.mgmtWords]
  split
  · exact forAll_starts _ (fun t x => go t _) _ _
  · exact forAll_starts _ (fun t x => go t _) _ _

theorem csp1Host_starts (s : State) (slow : Bool) (cmd : Word) (data : List Word) : Starts s.fixed (s.csp1Host slow cmd data).fixed := by
  simp only [State.csp1Host]
  split
  · simp
  · refine Starts.trans ?_ (mgmtWords_starts _ _ _ _ _)
    simp

theorem inbandRequest_starts (s : State) (bs : List Byte) : Starts s.fixed (s.inbandRequest bs).fixed := by
  simp only [State.inbandRequest]
  split
  · simp
  · split
    · simp
    · split
      · simp
      · rw [sendInband_fixed]
        refine Starts.trans ?_ (forAll_starts _ (fun t y => mgmtWords_starts _ _ _ _ _) _ _)
        simp

theorem laneReceive_starts (s : State) (n : Nat) (f : LaneFrame) : Starts s.fixed (s.laneReceive n f).fixed := by
  have h := inbandRequest_starts (if fcsGood f.bytes then s.bump (Reg.HL_RXFRM n) else s.bump (Reg.HL_RXFCS n)) f.bytes
  simp only [fixed_ite, bump_fixed, ite_self] at h
  simp only [State.laneReceive, fixed_ite]
  iterate 8 refine .ite (by simp) ?_
  exact .ite h (.ite (by simp) (by simp))

/-! ### A programming that is cut (R55) -/

/-- `y` is `x`, or `x` with its programming cut: the fuses read as the old state or as the new one. -/
def Torn (x y : Fuses × List Instr) : Prop :=
  y = x ∨ ∃ n lc, x.1.prog = some n ∧ (lc = x.1.lc ∨ lc = n) ∧ y = ({ x.1 with lc := lc, prog := none }, x.2)

@[simp] theorem Torn.refl (x : Fuses × List Instr) : Torn x x := .inl rfl

theorem Torn.trans {x y z : Fuses × List Instr} (h : Torn x y) (h' : Torn y z) : Torn x z := by
  rcases h with rfl | ⟨n, lc, hp, hl, rfl⟩
  · exact h'
  · rcases h' with rfl | ⟨_, _, hp', _⟩
    · exact .inr ⟨n, lc, hp, hl, rfl⟩
    · cases hp'

theorem tornFuse_torn (s : State) : Torn s.fixed s.tornFuse.fixed := by
  unfold State.tornFuse
  split
  · simp
  · rename_i v hv
    refine .inr ⟨v, _, hv, ?_, rfl⟩
    split
    · exact .inl rfl
    · exact .inr rfl

theorem bare_torn (s : State) : Torn s.fixed s.bare.fixed := by
  have h : s.bare.fixed = s.tornFuse.fixed := by
    unfold State.bare State.tornFuse
    split <;> rfl
  exact h ▸ tornFuse_torn s

theorem coreLost_torn (s : State) : Torn s.fixed s.coreLost.fixed := by
  simpa [State.coreLost] using bare_torn s

theorem parkStart_torn (s : State) : Torn s.fixed s.parkStart.fixed := by
  simpa [State.parkStart] using coreLost_torn s

theorem reboot_torn (s : State) (b : BootInputs) : Torn s.fixed (s.reboot b).fixed := by
  simp only [State.reboot, bootStart_fixed, fixed_ite, placeDoms_fixed, setRb_fixed]
  split
  · refine Torn.trans ?_ (coreLost_torn _)
    simp
  · simp

theorem holdupEnd_torn (s : State) : Torn s.fixed s.holdupEnd.fixed := by
  have hc : Torn s.fixed (s.coreLost.setReg Reg.PWR_WAKELAST 0).fixed := by simpa using coreLost_torn s
  simp only [State.holdupEnd]
  split
  · simp
  · split
    · simpa using bare_torn s
    · split
      · split
        · exact hc.trans (reboot_torn _ _)
        · simpa using hc
      · exact parkStart_torn s

theorem commitEnd_torn (s : State) (c : Commit) (outcome : Nat) : Torn s.fixed (s.commitEnd c outcome).fixed := by
  simpa [State.commitEnd] using holdupEnd_torn (s.commitOver c outcome)

theorem coreLoss_torn (s : State) : Torn s.fixed s.coreLoss.fixed := by
  simp only [State.coreLoss]
  split
  · simp
  · split
    · simp
    · refine Torn.trans ?_ (parkStart_torn _)
      simp

theorem flashFails_torn (s : State) (c : Commit) : Torn s.fixed (s.flashFails c).fixed := by
  simpa [State.flashFails] using commitEnd_torn ((s.cmtState 5 c.step).setRf Reg.CSP0_CMTSTAT 39 36 8) c 2

/-! ### Commands that keep fuses and queue -/

/-- The next state, where there is one, has the fuses and the queue of `s`. -/
def Keeps (o : Out) (s : State) : Prop := ∀ t, o = .next t → t.fixed = s.fixed

@[simp] theorem keeps_next (s t : State) : Keeps (.next t) s ↔ t.fixed = s.fixed := by simp [Keeps]

@[simp] theorem keeps_ite (c : Prop) [Decidable c] (a b : Out) (s : State) :
    Keeps (if c then a else b) s ↔ if c then Keeps a s else Keeps b s := by split <;> rfl

theorem execTrainAdmit_keeps (p : PortNo) (s : State) : Keeps (execTrainAdmit p s) s := by
  simp [execTrainAdmit]

theorem execAnPageReceive_keeps (p : PortNo) (pg : AnPage) (s : State) : Keeps (execAnPageReceive p pg s) s := by
  simp [execAnPageReceive]

theorem execAnAbandon_keeps (p : PortNo) (s : State) : Keeps (execAnAbandon p s) s := by
  simp [execAnAbandon]

theorem execTrainingSignalDetect_keeps (p : PortNo) (s : State) : Keeps (execTrainingSignalDetect p s) s := by
  simp [execTrainingSignalDetect]

theorem execWarmCheck_keeps (p : PortNo) (mismatch : Bool) (s : State) : Keeps (execWarmCheck p mismatch s) s := by
  simp [execWarmCheck]

theorem execLinkUp_keeps (p : PortNo) (s : State) : Keeps (execLinkUp p s) s := by
  simp [execLinkUp]

theorem execTrainFail_keeps (p : PortNo) (s : State) : Keeps (execTrainFail p s) s := by
  simp [execTrainFail]

theorem execLinkLoss_keeps (p : PortNo) (s : State) : Keeps (execLinkLoss p s) s := by
  simp [execLinkLoss]

theorem execBackoffExpire_keeps (p : PortNo) (s : State) : Keeps (execBackoffExpire p s) s := by
  simp [execBackoffExpire]

theorem execPlcaBeacon_keeps (p : PortNo) (s : State) : Keeps (execPlcaBeacon p s) s := by
  cases h : (s.port p).plcaNext <;> simp [execPlcaBeacon, h]

theorem execPlcaBeaconConflict_keeps (p : PortNo) (s : State) : Keeps (execPlcaBeaconConflict p s) s := by
  simp [execPlcaBeaconConflict]

theorem execPlcaBeaconTimeout_keeps (p : PortNo) (s : State) : Keeps (execPlcaBeaconTimeout p s) s := by
  simp [execPlcaBeaconTimeout]

theorem execPlcaBeaconReturn_keeps (p : PortNo) (s : State) : Keeps (execPlcaBeaconReturn p s) s := by
  simp [execPlcaBeaconReturn]

theorem execPlcaToExpire_keeps (p : PortNo) (s : State) : Keeps (execPlcaToExpire p s) s := by
  simp [execPlcaToExpire]

theorem execRsDecode_keeps (p : PortNo) (first errs erasedBad frames : Nat) (s0 : State) :
    Keeps (execRsDecode p first errs erasedBad frames s0) s0 := by
  simp [execRsDecode]

theorem execPrbsResync_keeps (p : PortNo) (u u' : Unit) (s : State) : Keeps (execPrbsResync p u u' s) s := by
  simp [execPrbsResync]

theorem execSleepRequestReceive_keeps (p : PortNo) (s : State) : Keeps (execSleepRequestReceive p s) s := by
  simp [execSleepRequestReceive]

theorem execSleepHandshakeDone_keeps (p : PortNo) (s : State) : Keeps (execSleepHandshakeDone p s) s := by
  simp [execSleepHandshakeDone]

theorem execPartnerSleepReject_keeps (p : PortNo) (s : State) : Keeps (execPartnerSleepReject p s) s := by
  cases h : s.askSleep p with
  | none => simp [execPartnerSleepReject, h]
  | some u => simp [execPartnerSleepReject, h, askSleep_fixed h]

theorem execDetectorArm_keeps (p : PortNo) (s : State) : Keeps (execDetectorArm p s) s := by
  simp [execDetectorArm]

theorem execLineEnergyDetect_keeps (d : DetLevel) (s : State) : Keeps (execLineEnergyDetect d s) s := by
  simp [execLineEnergyDetect]

theorem execRemoteWake_keeps (p : PortNo) (s : State) : Keeps (execRemoteWake p s) s := by
  simp [execRemoteWake]

theorem execWakeForward_keeps (p : PortNo) (s : State) : Keeps (execWakeForward p s) s := by
  simp [execWakeForward]

theorem execLocalWake_keeps (p : PortNo) (s : State) : Keeps (execLocalWake p s) s := by
  simp [execLocalWake]

theorem execFalseWakeTimeout_keeps (p : PortNo) (s : State) : Keeps (execFalseWakeTimeout p s) s := by
  simp [execFalseWakeTimeout]

theorem execAdcRecalDone_keeps (p : PortNo) (s : State) : Keeps (execAdcRecalDone p s) s := by
  cases h : (s.port p).calHeld <;> simp [execAdcRecalDone, h]

theorem execRecalInterval_keeps (p : PortNo) (s : State) : Keeps (execRecalInterval p s) s := by
  simp [execRecalInterval]

theorem execSwapEffect_keeps (p : PortNo) (s : State) : Keeps (execSwapEffect p s) s := by
  simp [execSwapEffect]

theorem execMirrorDone_keeps (p : PortNo) (s : State) : Keeps (execMirrorDone p s) s := by
  simp [execMirrorDone]

theorem execSlubWindowEnd_keeps (p : PortNo) (u : Unit) (s : State) : Keeps (execSlubWindowEnd p u s) s := by
  simp [execSlubWindowEnd]

theorem execSlubCap_keeps (p : PortNo) (s : State) : Keeps (execSlubCap p s) s := by
  simp [execSlubCap]

theorem execSnrBlockEnd_keeps (p : PortNo) (u u' : Unit) (s : State) : Keeps (execSnrBlockEnd p u u' s) s := by
  unfold execSnrBlockEnd; split <;> simp

theorem execMfbEstimate_keeps (p : PortNo) (start : Nat) (u : Unit) (s : State) : Keeps (execMfbEstimate p start u s) s := by
  unfold execMfbEstimate
  split
  · simp only [keeps_ite, keeps_next, setRb_fixed, setRf_fixed, snrOf_fixed, ite_self]
  · simp

theorem execSqiUpdate_keeps (p : PortNo) (s : State) : Keeps (execSqiUpdate p s) s := by
  simp [execSqiUpdate]

theorem execLpiWakeDone_keeps (p : PortNo) (s : State) : Keeps (execLpiWakeDone p s) s := by
  simp [execLpiWakeDone]

theorem execLpiRxChange_keeps (p : PortNo) (enter : Bool) (s : State) : Keeps (execLpiRxChange p enter s) s := by
  simp [execLpiRxChange]

theorem execSkeinSwapEffect_keeps (g : LgNo) (n : Fin 8) (s : State) : Keeps (execSkeinSwapEffect g n s) s := by
  simp [execSkeinSwapEffect]

theorem execSkeinMemberLeave_keeps (g : LgNo) (i : Fin 16) (s : State) : Keeps (execSkeinMemberLeave g i s) s := by
  simp [execSkeinMemberLeave]

theorem execSkeinRefresh_keeps (g : LgNo) (n : Fin 8) (ws : List (Fin 16 × Fin 339 × Word)) (s : State) : Keeps (execSkeinRefresh g n ws s) s := by
  simp [execSkeinRefresh]

theorem execOamMessageSend_keeps (p : PortNo) (u u' : Unit) (s : State) : Keeps (execOamMessageSend p u u' s) s := by
  simp [execOamMessageSend]

theorem execD2ReportReceive_keeps (p : PortNo) (w : Word) (s : State) : Keeps (execD2ReportReceive p w s) s := by
  simp [execD2ReportReceive]

theorem execRovdlyExpire_keeps (p : PortNo) (s : State) : Keeps (execRovdlyExpire p s) s := by
  simp [execRovdlyExpire]

theorem execRovingHelloReceive_keeps (p : PortNo) (frame : List Byte) (snr : BitVec 16) (u u' u'' : Unit) (s : State) :
    Keeps (execRovingHelloReceive p frame snr u u' u'' s) s := by
  simp [execRovingHelloReceive]

theorem execRovingAckReceive_keeps (p : PortNo) (frame : List Byte) (snr : BitVec 16) (u u' : Unit) (s : State) :
    Keeps (execRovingAckReceive p frame snr u u' s) s := by
  simp [execRovingAckReceive]

theorem execRovingSetreqReceive_keeps (p : PortNo) (frame : List Byte) (u : Unit) (s : State) : Keeps (execRovingSetreqReceive p frame u s) s := by
  simp [execRovingSetreqReceive]

theorem execRovingSetackReceive_keeps (p : PortNo) (frame : List Byte) (u : Unit) (s : State) : Keeps (execRovingSetackReceive p frame u s) s := by
  simp [execRovingSetackReceive]

theorem execRovingSettingSwitch_keeps (p : PortNo) (s : State) : Keeps (execRovingSettingSwitch p s) s := by
  unfold execRovingSettingSwitch; split <;> simp

theorem execRovingSnrrepReceive_keeps (p : PortNo) (frame : List Byte) (snr : BitVec 16) (u : Unit) (s : State) :
    Keeps (execRovingSnrrepReceive p frame snr u s) s := by
  simp [execRovingSnrrepReceive]

theorem execRovingSnrrepSend_keeps (p : PortNo) (snr : BitVec 16) (s : State) : Keeps (execRovingSnrrepSend p snr s) s := by
  simp [execRovingSnrrepSend]

theorem execRovingSnrLow_keeps (p : PortNo) (snr : BitVec 16) (s : State) : Keeps (execRovingSnrLow p snr s) s := by
  simp [execRovingSnrLow]

theorem execRovingFallback_keeps (p : PortNo) (u : Unit) (s : State) : Keeps (execRovingFallback p u s) s := by
  simp [execRovingFallback]

theorem execRovingLoss_keeps (p : PortNo) (s : State) : Keeps (execRovingLoss p s) s := by
  simp [execRovingLoss]

theorem execRovingAcqTimeout_keeps (p : PortNo) (s : State) : Keeps (execRovingAcqTimeout p s) s := by
  simp [execRovingAcqTimeout]

theorem execRovingRestartWindow_keeps (p : PortNo) (u : Unit) (s : State) : Keeps (execRovingRestartWindow p u s) s := by
  simp [execRovingRestartWindow]

theorem execRovingRetry_keeps (p : PortNo) (s : State) : Keeps (execRovingRetry p s) s := by
  simp [execRovingRetry]

theorem execRovingWindowEnd_keeps (p : PortNo) (u : Unit) (s : State) : Keeps (execRovingWindowEnd p u s) s := by
  simp [execRovingWindowEnd]

theorem execCardingDone_keeps (p : PortNo) (discard : BitVec 7) (peaks : List CardPeak) (s : State) :
    Keeps (execCardingDone p discard peaks s) s := by
  simp [execCardingDone]

theorem execFpSnapshot_keeps (p : PortNo) (u : Unit) (s : State) : Keeps (execFpSnapshot p u s) s := by
  simp [execFpSnapshot]

theorem execFpSnapshotRetry_keeps (p : PortNo) (s : State) : Keeps (execFpSnapshotRetry p s) s := by
  simp [execFpSnapshotRetry]

theorem execFpTrendPoint_keeps (p : PortNo) (s : State) : Keeps (execFpTrendPoint p s) s := by
  simp [execFpTrendPoint]

theorem execFrameIngress_keeps (f : InFrame) (s : State) : Keeps (execFrameIngress f s) s := by
  simp [execFrameIngress]

theorem execRovingDataReceive_keeps (p : PortNo) (frame : List Byte) (first : BitVec 96) (u : Unit) (s : State) :
    Keeps (execRovingDataReceive p frame first u s) s := by
  cases h : rovParse frame <;> simp [execRovingDataReceive, h]

theorem execTxSelect_keeps (e : EgrNo) (s : State) : Keeps (execTxSelect e s) s := by
  unfold execTxSelect
  dsimp only
  split
  · simp only [keeps_ite, keeps_next, sendMgmt_fixed, select_fixed, markCredit_fixed, markHeld_fixed, closeHeld_fixed, ite_self]
  · simp only [keeps_ite, keeps_next, select_fixed, markCredit_fixed, markHeld_fixed, closeHeld_fixed, ite_self]

theorem execFrameTxDone_keeps (e : EgrNo) (s : State) : Keeps (execFrameTxDone e s) s := by
  unfold execFrameTxDone; split <;> simp

theorem execGclSwap_keeps (e : EgrNo) (s : State) : Keeps (execGclSwap e s) s := by
  simp [execGclSwap]

theorem execSgSwap_keeps (i : Fin 64) (s : State) : Keeps (execSgSwap i s) s := by
  simp [execSgSwap]

theorem execQueueSample_keeps (e : EgrNo) (q : Fin 8) (s : State) : Keeps (execQueueSample e q s) s := by
  simp only [execQueueSample, keeps_ite, keeps_next, fixed_mk, fixed_fold]
  simp

theorem execLpiTxRequest_keeps (p : PortNo) (s : State) : Keeps (execLpiTxRequest p s) s := by
  simp [execLpiTxRequest]

theorem execLpiTxWake_keeps (p : PortNo) (s : State) : Keeps (execLpiTxWake p s) s := by
  simp [execLpiTxWake]

theorem execCapabilitySetReceive_keeps (n : LaneNo) (bytes : List Byte) (s : State) : Keeps (execCapabilitySetReceive n bytes s) s := by
  simp [execCapabilitySetReceive]

theorem execCapabilitySetSend_keeps (n : LaneNo) (s : State) : Keeps (execCapabilitySetSend n s) s := by
  simp [execCapabilitySetSend]

theorem execCreditSetReceive_keeps (n : LaneNo) (bytes : List Byte) (s : State) : Keeps (execCreditSetReceive n bytes s) s := by
  simp [execCreditSetReceive]

theorem execTimeOrderedSetSend_keeps (n : LaneNo) (s : State) : Keeps (execTimeOrderedSetSend n s) s := by
  simp [execTimeOrderedSetSend]

theorem execHlAlign_keeps (n : LaneNo) (s : State) : Keeps (execHlAlign n s) s := by
  simp [execHlAlign]

theorem execHlAlignLoss_keeps (n : LaneNo) (s : State) : Keeps (execHlAlignLoss n s) s := by
  simp [execHlAlignLoss]

theorem execHlStep_keeps (n : LaneNo) (s : State) : Keeps (execHlStep n s) s := by
  simp [execHlStep]

theorem execHlRxLock_keeps (n : LaneNo) (s : State) : Keeps (execHlRxLock n s) s := by
  simp [execHlRxLock]

theorem execHlRun_keeps (n : LaneNo) (s : State) : Keeps (execHlRun n s) s := by
  simp [execHlRun]

theorem execHlRebuExpire_keeps (n : LaneNo) (s : State) : Keeps (execHlRebuExpire n s) s := by
  simp [execHlRebuExpire]

theorem execClz_keeps (n : SpnNo) (w : BitVec 40) (s : State) : Keeps (execClz n w s) s := by
  simp [execClz]

theorem execLi_keeps (n : SpnNo) (w : BitVec 40) (s : State) : Keeps (execLi n w s) s := by
  simp [execLi]

theorem execLih_keeps (n : SpnNo) (w : BitVec 40) (s : State) : Keeps (execLih n w s) s := by
  simp [execLih]

theorem execLpc_keeps (n : SpnNo) (w : BitVec 40) (s : State) : Keeps (execLpc n w s) s := by
  simp [execLpc]

theorem execLdl_keeps (n : SpnNo) (w : BitVec 40) (s : State) : Keeps (execLdl n w s) s := by
  simp [execLdl]

theorem execStl_keeps (n : SpnNo) (w : BitVec 40) (s : State) : Keeps (execStl n w s) s := by
  simp [execStl]

theorem execLdv_keeps (n : SpnNo) (w : BitVec 40) (s : State) : Keeps (execLdv n w s) s := by
  simp [execLdv]

theorem execStv_keeps (n : SpnNo) (w : BitVec 40) (s : State) : Keeps (execStv n w s) s := by
  simp [execStv]

theorem execJal_keeps (n : SpnNo) (w : BitVec 40) (s : State) : Keeps (execJal n w s) s := by
  simp [execJal]

theorem execJalr_keeps (n : SpnNo) (w : BitVec 40) (s : State) : Keeps (execJalr n w s) s := by
  simp [execJalr]

theorem execWait_keeps (n : SpnNo) (w : BitVec 40) (s : State) : Keeps (execWait n w s) s := by
  simp [execWait]

theorem execFence_keeps (n : SpnNo) (w : BitVec 40) (s : State) : Keeps (execFence n w s) s := by
  simp [execFence]

theorem execFenceW_keeps (n : SpnNo) (w : BitVec 40) (s : State) : Keeps (execFenceW n w s) s := by
  simp [execFenceW]

theorem execTrap_keeps (n : SpnNo) (w : BitVec 40) (s : State) : Keeps (execTrap n w s) s := by
  simp [execTrap]

theorem execEret_keeps (n : SpnNo) (w : BitVec 40) (s : State) : Keeps (execEret n w s) s := by
  simp [execEret]

theorem execSleep_keeps (n : SpnNo) (w : BitVec 40) (s : State) : Keeps (execSleep n w s) s := by
  simp [execSleep]

theorem execMfs_keeps (n : SpnNo) (w : BitVec 40) (s : State) : Keeps (execMfs n w s) s := by
  rw [execMfs, keeps_next]
  refine issue_fixed _ _ _ _ _ _ _ _ (fun t => ?_)
  cases h : t.replayOf n <;> simp

theorem execMts_keeps (n : SpnNo) (w : BitVec 40) (s : State) : Keeps (execMts n w s) s := by
  simp [execMts]

theorem execWaita_keeps (n : SpnNo) (w : BitVec 40) (s : State) : Keeps (execWaita n w s) s := by
  rw [execWaita, keeps_next]
  refine issue_fixed _ _ _ _ _ _ _ _ (fun t => ?_)
  split <;> simp

theorem execLdb_keeps (n : SpnNo) (w : BitVec 40) (s : State) : Keeps (execLdb n w s) s := by
  simp [execLdb]

theorem execStb_keeps (n : SpnNo) (w : BitVec 40) (s : State) : Keeps (execStb n w s) s := by
  simp [execStb]

theorem execGsw_keeps (n : SpnNo) (w : BitVec 40) (s : State) : Keeps (execGsw n w s) s := by
  simp [execGsw]

theorem execCwr_keeps (n : SpnNo) (w : BitVec 40) (s : State) : Keeps (execCwr n w s) s := by
  simp [execCwr]

theorem execCswSwap_keeps (n : SpnNo) (w : BitVec 40) (s : State) : Keeps (execCswSwap n w s) s := by
  simp [execCswSwap]

theorem execCswMirror_keeps (n : SpnNo) (w : BitVec 40) (s : State) : Keeps (execCswMirror n w s) s := by
  simp [execCswMirror]

theorem execLdf_keeps (n : SpnNo) (w : BitVec 40) (s : State) : Keeps (execLdf n w s) s := by
  simp [execLdf]

theorem execMbs_keeps (n : SpnNo) (w : BitVec 40) (s : State) : Keeps (execMbs n w s) s := by
  simp [execMbs]

theorem execMbr_keeps (n : SpnNo) (w : BitVec 40) (s : State) : Keeps (execMbr n w s) s := by
  simp [execMbr]

theorem execLck_keeps (n : SpnNo) (w : BitVec 40) (s : State) : Keeps (execLck n w s) s := by
  simp [execLck]

theorem execUlk_keeps (n : SpnNo) (w : BitVec 40) (s : State) : Keeps (execUlk n w s) s := by
  simp [execUlk]

theorem execFrx_keeps (n : SpnNo) (w : BitVec 40) (s : State) : Keeps (execFrx n w s) s := by
  simp [execFrx]

theorem execFtx_keeps (n : SpnNo) (w : BitVec 40) (s : State) : Keeps (execFtx n w s) s := by
  simp [execFtx]

theorem execKnotGrant_keeps (k : Fin 64) (s : State) : Keeps (execKnotGrant k s) s := by
  unfold execKnotGrant
  split
  · simp
  · split
    · simp
    · dsimp only
      split <;> simp

theorem execClkMonitorWindow_keeps (src : Fin 18) (dev : BitVec 32) (ppm : BitVec 16) (s : State) : Keeps (execClkMonitorWindow src dev ppm s) s := by
  simp [execClkMonitorWindow]

theorem execPllLockDrop_keeps (k : Fin 15) (s : State) : Keeps (execPllLockDrop k s) s := by
  simp [execPllLockDrop]

theorem execPllLock_keeps (k : Fin 15) (s : State) : Keeps (execPllLock k s) s := by
  simp [execPllLock]

theorem execPllUnblock_keeps (k : Fin 15) (s : State) : Keeps (execPllUnblock k s) s := by
  simp [execPllUnblock]

theorem execAsyncSafeState_keeps (c : WatchedClock) (s : State) : Keeps (execAsyncSafeState c s) s := by
  unfold execAsyncSafeState; split <;> simp

theorem execClkAutoreturn_keeps (s : State) : Keeps (execClkAutoreturn s) s := by
  simp [execClkAutoreturn]

theorem execXqueueResume_keeps (d : Fin 50) (s : State) : Keeps (execXqueueResume d s) s := by
  simp [execXqueueResume]

theorem execPpsInEdge_keeps (s : State) : Keeps (execPpsInEdge s) s := by
  simp [execPpsInEdge]

theorem execPpsOutPulse_keeps (s : State) : Keeps (execPpsOutPulse s) s := by
  simp [execPpsOutPulse]

theorem execPpsOutEnd_keeps (s : State) : Keeps (execPpsOutEnd s) s := by
  simp [execPpsOutEnd]

theorem execDstPostDone_keeps (u : Unit) (s : State) : Keeps (execDstPostDone u s) s := by
  simp [execDstPostDone]

theorem execDstCheckpoint_keeps (c : Fin 4) (u : Unit) (s : State) : Keeps (execDstCheckpoint c u s) s := by
  unfold execDstCheckpoint; split <;> simp

theorem execReplayDone_keeps (g : LgNo) (u u' u'' : Unit) (s : State) : Keeps (execReplayDone g u u' u'' s) s := by
  simp [execReplayDone]

theorem execD3TriggerReceive_keeps (p : PortNo) (w : Word) (s : State) : Keeps (execD3TriggerReceive p w s) s := by
  simp [execD3TriggerReceive]

theorem execSpnHaltDone_keeps (n : SpnNo) (s : State) : Keeps (execSpnHaltDone n s) s := by
  simp [execSpnHaltDone]

theorem execFaultEvent_keeps (s : State) : Keeps (execFaultEvent s) s := by
  cases h : s.nextEvent <;> simp [execFaultEvent, h]

theorem execFaultQuietExpire_keeps (src : BitVec 12) (s : State) : Keeps (execFaultQuietExpire src s) s := by
  simp [execFaultQuietExpire]

theorem execFaultNWidthExpire_keeps (s : State) : Keeps (execFaultNWidthExpire s) s := by
  simp [execFaultNWidthExpire]

theorem execBistInterval_keeps (s : State) : Keeps (execBistInterval s) s := by
  simp [execBistInterval]

theorem execBistConditionTimeout_keeps (s : State) : Keeps (execBistConditionTimeout s) s := by
  unfold execBistConditionTimeout; split <;> simp

theorem execBistDone_keeps (fail : Option (BitVec 24)) (s : State) : Keeps (execBistDone fail s) s := by
  cases h : s.bist.cur with
  | none => simp [execBistDone, h]
  | some t => cases fail <;> simp [execBistDone, h]

theorem execBistAbort_keeps (s : State) : Keeps (execBistAbort s) s := by
  unfold execBistAbort; split <;> simp

theorem execFlashLineFill_keeps (line : BitVec 32) (s : State) : Keeps (execFlashLineFill line s) s := by
  simp [execFlashLineFill]

theorem execFlashReadTimeout_keeps (s : State) : Keeps (execFlashReadTimeout s) s := by
  simp [execFlashReadTimeout]

theorem execParkEntryDone_keeps (s : State) : Keeps (execParkEntryDone s) s := by
  simp [execParkEntryDone]

theorem execWakeInAssert_keeps (s : State) : Keeps (execWakeInAssert s) s := by
  simp [execWakeInAssert]

theorem execParkWake_keeps (src : WakeSource) (s : State) : Keeps (execParkWake src s) s := by
  cases src <;> simp [execParkWake]

theorem execAonBrownout_keeps (s : State) : Keeps (execAonBrownout s) s := by
  simp [execAonBrownout]

theorem execAonRestart_keeps (s : State) : Keeps (execAonRestart s) s := by
  simp [execAonRestart]

theorem execHoldGaugeEmpty_keeps (holdMv : BitVec 16) (s : State) : Keeps (execHoldGaugeEmpty holdMv s) s := by
  unfold execHoldGaugeEmpty; split <;> simp

theorem execSupervisorStart_keeps (s : State) : Keeps (execSupervisorStart s) s := by
  simp [execSupervisorStart]

theorem execSupervisorMove_keeps (s : State) : Keeps (execSupervisorMove s) s := by
  cases h : s.supNext <;> simp [execSupervisorMove, h]

theorem execKnotLeaseExpire_keeps (k : Fin 64) (s : State) : Keeps (execKnotLeaseExpire k s) s := by
  simp [execKnotLeaseExpire]

theorem execCommandCopy_keeps (s : State) : Keeps (execCommandCopy s) s := by
  simp [execCommandCopy]

theorem execCompletionWrite_keeps (id : BitVec 16) (s : State) : Keeps (execCompletionWrite id s) s := by
  cases h : s.finishedAt (fun c => decide (c.id = id.toNat)) <;> simp [execCompletionWrite, h]

theorem execRingRetry_keeps (cpl : Bool) (raise : Bool) (s : State) : Keeps (execRingRetry cpl raise s) s := by
  cases h : s.finishedAt (fun _ => true) <;> simp [execRingRetry, h]

theorem execHello_keeps (id : BitVec 16) (s : State) : Keeps (execHello id s) s := by
  simp [execHello]

theorem execNop_keeps (id : BitVec 16) (s : State) : Keeps (execNop id s) s := by
  simp [execNop]

theorem execPartition_keeps (id : BitVec 16) (s : State) : Keeps (execPartition id s) s := by
  simp [execPartition]

theorem execQuantumBoundary_keeps (n : SpnNo) (s : State) : Keeps (execQuantumBoundary n s) s := by
  simp [execQuantumBoundary]

theorem execQuantumTimeout_keeps (n : SpnNo) (s : State) : Keeps (execQuantumTimeout n s) s := by
  simp [execQuantumTimeout]

theorem execRtStage_keeps (id : BitVec 16) (s : State) : Keeps (execRtStage id s) s := by
  simp [execRtStage]

theorem execGuardWindowExpire_keeps (r : Requester) (s : State) : Keeps (execGuardWindowExpire r s) s := by
  unfold execGuardWindowExpire; split <;> simp

theorem execScrubPass_keeps (s : State) : Keeps (execScrubPass s) s := by
  simp [execScrubPass]

theorem execGatherComplete_keeps (n : SpnNo) (t : Fin 8) (u : Unit) (s : State) : Keeps (execGatherComplete n t u s) s := by
  unfold execGatherComplete; split <;> simp

theorem execPortEnable_keeps (id : BitVec 16) (s : State) : Keeps (execPortEnable id s) s := by
  simp [execPortEnable]

theorem execPortDisable_keeps (id : BitVec 16) (s : State) : Keeps (execPortDisable id s) s := by
  simp [execPortDisable]

theorem execPortRestart_keeps (id : BitVec 16) (s : State) : Keeps (execPortRestart id s) s := by
  simp [execPortRestart]

theorem execPortSleep_keeps (id : BitVec 16) (s : State) : Keeps (execPortSleep id s) s := by
  rw [execPortSleep, keeps_next]
  refine runCmd_fixed _ _ _ _ (fun c going => ?_)
  cases h : s.askSleep c.tindex with
  | none => simp [h]
  | some u => simp [h, askSleep_fixed h]

theorem execPortWake_keeps (id : BitVec 16) (s : State) : Keeps (execPortWake id s) s := by
  simp [execPortWake]

theorem execPortCard_keeps (id : BitVec 16) (s : State) : Keeps (execPortCard id s) s := by
  simp [execPortCard]

theorem execPortFpcapture_keeps (id : BitVec 16) (s : State) : Keeps (execPortFpcapture id s) s := by
  simp [execPortFpcapture]

theorem execPortFpread_keeps (id : BitVec 16) (s : State) : Keeps (execPortFpread id s) s := by
  simp [execPortFpread]

theorem execPortFprestore_keeps (id : BitVec 16) (s : State) : Keeps (execPortFprestore id s) s := by
  simp [execPortFprestore]

theorem execPortCoefload_keeps (id : BitVec 16) (s : State) : Keeps (execPortCoefload id s) s := by
  simp [execPortCoefload]

theorem execPortPlca_keeps (id : BitVec 16) (s : State) : Keeps (execPortPlca id s) s := by
  simp [execPortPlca]

theorem execConfigWaitExpire_keeps (s : State) : Keeps (execConfigWaitExpire s) s := by
  simp [execConfigWaitExpire]

theorem execCsp1SelectTimeout_keeps (s : State) : Keeps (execCsp1SelectTimeout s) s := by
  simp [execCsp1SelectTimeout]

theorem execHandshakeDelayExpire_keeps (d : Fin 50) (again : Bool) (s : State) : Keeps (execHandshakeDelayExpire d again s) s := by
  cases h : s.entryReason d true (decide ((s.dom d).chg = 1) && s.retMem d 0) <;> simp [execHandshakeDelayExpire, h]

theorem execDomainEntryDone_keeps (d : Fin 50) (s : State) : Keeps (execDomainEntryDone d s) s := by
  simp [execDomainEntryDone]

theorem execVaddh_keeps (n : SpnNo) (w : BitVec 40) (s : State) : Keeps (execVaddh n w s) s := by
  simp [execVaddh]

theorem execVsubh_keeps (n : SpnNo) (w : BitVec 40) (s : State) : Keeps (execVsubh n w s) s := by
  simp [execVsubh]

theorem execVsll_keeps (n : SpnNo) (w : BitVec 40) (s : State) : Keeps (execVsll n w s) s := by
  simp [execVsll]

theorem execVsra_keeps (n : SpnNo) (w : BitVec 40) (s : State) : Keeps (execVsra n w s) s := by
  simp [execVsra]

theorem execVmac_keeps (n : SpnNo) (w : BitVec 40) (s : State) : Keeps (execVmac n w s) s := by
  simp [execVmac]

theorem execVmul_keeps (n : SpnNo) (w : BitVec 40) (s : State) : Keeps (execVmul n w s) s := by
  simp [execVmul]

theorem execVrnd_keeps (n : SpnNo) (w : BitVec 40) (s : State) : Keeps (execVrnd n w s) s := by
  simp [execVrnd]

theorem execVcmul_keeps (n : SpnNo) (w : BitVec 40) (s : State) : Keeps (execVcmul n w s) s := by
  simp [execVcmul]

theorem execVcmac_keeps (n : SpnNo) (w : BitVec 40) (s : State) : Keeps (execVcmac n w s) s := by
  simp [execVcmac]

theorem execVabsh_keeps (n : SpnNo) (w : BitVec 40) (s : State) : Keeps (execVabsh n w s) s := by
  simp [execVabsh]

theorem execVnegh_keeps (n : SpnNo) (w : BitVec 40) (s : State) : Keeps (execVnegh n w s) s := by
  simp [execVnegh]

theorem execVbcst_keeps (n : SpnNo) (w : BitVec 40) (s : State) : Keeps (execVbcst n w s) s := by
  simp [execVbcst]

theorem execVext_keeps (n : SpnNo) (w : BitVec 40) (s : State) : Keeps (execVext n w s) s := by
  simp [execVext]

theorem execVins_keeps (n : SpnNo) (w : BitVec 40) (s : State) : Keeps (execVins n w s) s := by
  simp [execVins]

theorem execVred_keeps (n : SpnNo) (w : BitVec 40) (s : State) : Keeps (execVred n w s) s := by
  simp [execVred]

theorem execVperm_keeps (n : SpnNo) (w : BitVec 40) (s : State) : Keeps (execVperm n w s) s := by
  simp [execVperm]

theorem execVsel_keeps (n : SpnNo) (w : BitVec 40) (s : State) : Keeps (execVsel n w s) s := by
  simp [execVsel]

theorem execVcmp_keeps (n : SpnNo) (w : BitVec 40) (s : State) : Keeps (execVcmp n w s) s := by
  simp [execVcmp]

theorem execVmax_keeps (n : SpnNo) (w : BitVec 40) (s : State) : Keeps (execVmax n w s) s := by
  simp [execVmax]

theorem execVmin_keeps (n : SpnNo) (w : BitVec 40) (s : State) : Keeps (execVmin n w s) s := by
  simp [execVmin]

theorem execVunpk_keeps (n : SpnNo) (w : BitVec 40) (s : State) : Keeps (execVunpk n w s) s := by
  simp [execVunpk]

theorem execVflag_keeps (n : SpnNo) (w : BitVec 40) (s : State) : Keeps (execVflag n w s) s := by
  simp [execVflag]

theorem execVbfly_keeps (n : SpnNo) (w : BitVec 40) (s : State) : Keeps (execVbfly n w s) s := by
  simp [execVbfly]

/-! ### A guarded pair (R45) -/

theorem guardA_first {s : State} {r : Nat} (a : Nat) (v : Word) (h : s.guardSlot r = none) :
    s.guardA r a v = (stPENDING, s.setGuard r (some { addr := a, val := v, since := s.now })) := by
  simp [State.guardA, State.guardAge, h]

theorem guardB_matching {s : State} {r a : Nat} {v : Word} (l : RegLoc) (h : s.guardSlot r = some { addr := a, val := v, since := s.now }) :
    s.guardB r l a (~~~v) =
      (((s.setGuard r none).commitAt l v).1,
        if ((s.setGuard r none).commitAt l v).1 = stOK then ((s.setGuard r none).commitAt l v).2.goodParity a
        else ((s.setGuard r none).commitAt l v).2) := by
  simp [State.guardB, State.guardAge, h]

theorem guardSlot_setGuard_same (s : State) (r : Nat) (g : Option Guard) : (s.setGuard r g).guardSlot r = g := Tab.get_set_same _ _ _ _

/-- The state in which the second write of a pair commits: the first one's reply stands, and the guard slot is empty again. -/
def State.paired (s : State) (r a : Nat) (v : Word) : State :=
  ((s.setGuard r (some { addr := a, val := v, since := s.now })).setReply r stPENDING a 0).setGuard r none

/-- A complete pair on a register that no domain serves: its commit, and the commit's status as the second reply. -/
theorem writePair_eq {s : State} {r : Requester} {a : Nat} {l l' : RegLoc} {row row' : RegRow} (v : Word) (h : CanPair s r a)
    (ha : a + 1 < 0x1000000) (hm : RegMap.at a = some (l, row, false)) (hm' : RegMap.at (a + 1) = some (l', row', true))
    (hr : row.acc = .grd) (hr' : row'.acc = .grd) (hd : domainOf (a + 1) = none) (hg : s.guardSlot (reqNo r) = none) :
    s.writePair r a v =
      let x := (s.paired (reqNo r) a v).commitAt { l' with off := l'.off - 1 } v
      (if x.1 = stOK then x.2.goodParity a else x.2).setReply (reqNo r) x.1 (a + 1) 0 := by
  obtain ⟨⟨⟨hp, hf, hdom⟩, hw⟩, hw'⟩ := h
  have hb : ∀ b, b < 0x1000000 → isBobbin b = false := fun b hb => by simp [isBobbin]; omega
  have h1 : s.writeReg r a v = (s.setGuard (reqNo r) (some { addr := a, val := v, since := s.now })).setReply (reqNo r) stPENDING a 0 := by
    rw [writeReg_eq v ⟨⟨hp, hf, hdom⟩, hw⟩ (by omega) (by simp [hm])]
    simp [State.writeWord, hb a (by omega), hm, hr, guardA_first a v hg]
  have h2 : CanWrite (s.writeReg r a v) r (a + 1) := by
    rw [h1]
    exact ⟨⟨hp, hf, fun d e => by rw [hd] at e; cases e⟩, hw'⟩
  have h3 : (s.writeReg r a v).guardSlot (reqNo r) = some { addr := a, val := v, since := (s.writeReg r a v).now } := by
    rw [h1]
    exact guardSlot_setGuard_same s (reqNo r) (some ⟨a, v, s.now⟩)
  rw [State.writePair, writeReg_eq _ h2 ha (by simp [hm'])]
  simp only [State.writeWord, hb (a + 1) ha, hm', hr', Bool.false_eq_true, if_false, if_true, Nat.add_sub_cancel, guardB_matching _ h3]
  rw [h1]
  rfl

theorem lcStateWrite_eq {s : State} (w : Word) (h : CanPair s .host Reg.LC_STATE) (hg : s.guardSlot (reqNo .host) = none) :
    s.writePair .host Reg.LC_STATE w =
      let x := (s.paired reqHost Reg.LC_STATE w).lcWrite w
      (if x.1 = stOK then x.2.goodParity Reg.LC_STATE else x.2).setReply reqHost x.1 (Reg.LC_STATE + 1) 0 := by
  exact writePair_eq (l := { blk := .id, inst := 0, sub := 0, off := 0x10 }) (l' := { blk := .id, inst := 0, sub := 0, off := 0x11 })
    (row := ⟨0x10, 1, 1, .grd, 0x0, 0xF⟩) (row' := ⟨0x10, 1, 1, .grd, 0x0, 0xF⟩) w h
    (by decide) (by decide) (by decide) rfl rfl (by decide) hg

/-! ### What any command leaves of the fuses -/

/-- What one command can do to the fuses: nothing, start the programming of the next life-cycle state, end or cut one, blow an anti-rollback fuse. -/
inductive FuseStep (f : Fuses) : Fuses → Prop
  | same : FuseStep f f
  | start (n : BitVec 4) (hp : f.prog = none) (hn : nextLc f.lc = some n) : FuseStep f { f with prog := some n }
  | stop (n lc : BitVec 4) (hp : f.prog = some n) (hl : lc = f.lc ∨ lc = n) : FuseStep f { f with lc := lc, prog := none }
  | blow (hc : f.count < 64) : FuseStep f { f with count := f.count + 1 }

theorem fusesLegal_iff (f : Fuses) :
    fusesLegal f = true ↔ lcLegal f.lc = true ∧ (∀ n, f.prog = some n → nextLc f.lc = some n) ∧ f.count ≤ 64 := by
  cases h : f.prog <;> simp [fusesLegal, h, and_assoc]

theorem lcLegal_of_nextLc {lc n : BitVec 4} (h : nextLc lc = some n) : lcLegal n = true := by
  revert lc n
  decide

theorem FuseStep.lc {f g : Fuses} (h : FuseStep f g) (hf : fusesLegal f = true) : g.lc = f.lc ∨ nextLc f.lc = some g.lc := by
  obtain ⟨-, hprog, -⟩ := (fusesLegal_iff f).mp hf
  cases h with
  | same => exact .inl rfl
  | start n hp hn => exact .inl rfl
  | stop n lc hp hl =>
    rcases hl with rfl | rfl
    · exact .inl rfl
    · exact .inr (hprog _ hp)
  | blow hc => exact .inl rfl

theorem FuseStep.forward {f g : Fuses} (h : FuseStep f g) (hf : fusesLegal f = true) : fusesForward f g = true := by
  have hc : f.count ≤ g.count := by cases h <;> simp
  simpa [fusesForward, hc] using h.lc hf

theorem FuseStep.legal {f g : Fuses} (h : FuseStep f g) (hf : fusesLegal f = true) : fusesLegal g = true := by
  obtain ⟨hl, hprog, hc⟩ := (fusesLegal_iff f).mp hf
  have hg : lcLegal g.lc = true := by
    rcases h.lc hf with e | e
    · exact e ▸ hl
    · exact lcLegal_of_nextLc e
  refine (fusesLegal_iff g).mpr ⟨hg, ?_⟩
  cases h with
  | same => exact ⟨hprog, hc⟩
  | start n hp hn => exact ⟨fun m hm => Option.some.inj hm ▸ hn, hc⟩
  | stop n lc hp hl => exact ⟨fun m hm => (Option.some_ne_none m hm.symm).elim, hc⟩
  | blow hc => exact ⟨hprog, hc⟩

/-- The next state, where there is one, has the queue of `s`, and of its fuses what one command can make. -/
def Moves (o : Out) (s : State) : Prop := ∀ t, o = .next t → FuseStep s.fuses t.fuses ∧ t.pending = s.pending

theorem Keeps.moves {o : Out} {s : State} (h : Keeps o s) : Moves o s := by
  intro t ht
  have e : t.fuses = s.fuses := congrArg Prod.fst (h t ht)
  exact ⟨e ▸ .same, congrArg Prod.snd (h t ht)⟩

theorem moves_of_fixed {s t : State} (h : t.fixed = s.fixed) : Moves (.next t) s := Keeps.moves ((keeps_next s t).mpr h)

theorem moves_of_starts {s t : State} (h : Starts s.fixed t.fixed) : Moves (.next t) s := by
  rintro _ ⟨⟩
  rcases h with e | ⟨hp, n, hn, e⟩
  · exact moves_of_fixed e t rfl
  · have ef : t.fuses = { s.fuses with prog := some n } := congrArg Prod.fst e
    exact ⟨ef ▸ .start n hp hn, congrArg Prod.snd e⟩

theorem moves_of_torn {s t : State} (h : Torn s.fixed t.fixed) : Moves (.next t) s := by
  rintro _ ⟨⟩
  rcases h with e | ⟨n, lc, hp, hl, e⟩
  · exact moves_of_fixed e t rfl
  · have ef : t.fuses = { s.fuses with lc := lc, prog := none } := congrArg Prod.fst e
    exact ⟨ef ▸ .stop n lc hp hl, congrArg Prod.snd e⟩

theorem moves_refused (s : State) (r : Refusal) : Moves (.refused r) s := by rintro _ ⟨⟩

/-! ### Commands that write registers -/

theorem execDelegateWin_moves (id : BitVec 16) (s : State) : Moves (execDelegateWin id s) s := by
  refine moves_of_starts (runCmd_starts _ _ _ _ (fun c _ => ?_))
  dsimp only
  split
  · exact .refl _
  · exact needDoms_starts _ _ _ (fun u => (supWrite_starts _ _ _).trans (supWrite_starts _ _ _))

theorem execDelegateLine_moves (id : BitVec 16) (s : State) : Moves (execDelegateLine id s) s := by
  have two : ∀ (u : State) (a b : Nat) (v w : Word), Starts u.fixed ((u.supWrite a v).2.supWrite b w).2.fixed :=
    fun u a b v w => (supWrite_starts _ _ _).trans (supWrite_starts _ _ _)
  refine moves_of_starts (runCmd_starts _ _ _ _ (fun c _ => ?_))
  simp only [fixed_ite_snd]
  refine .ite (.refl _) (.ite (.refl _) (.ite (.refl _) (needDoms_starts _ _ _ (fun u => ?_))))
  simp only [fixed_ite, regrant_fixed, ite_self]
  exact .ite (supWrite_starts _ _ _) (two _ _ _ _ _)

theorem execPortConfig_moves (id : BitVec 16) (s : State) : Moves (execPortConfig id s) s := by
  refine moves_of_starts (runCmd_starts _ _ _ _ (fun c going => ?_))
  simp only [fixed_ite_snd, pdone_fixed]
  refine .ite (.refl _) (.ite (.refl _) (needDoms_starts _ _ _ (fun u => ?_)))
  simp only [fixed_ite_snd, pdone_fixed, cmdRestart_fixed, newAttempt_fixed, ite_self]
  exact ((supWrite_starts _ _ _).trans (supWrite_starts _ _ _)).trans (supWrite_starts _ _ _)

theorem execSkeinSet_moves (id : BitVec 16) (s : State) : Moves (execSkeinSet id s) s := by
  refine moves_of_starts (runCmd_starts _ _ _ _ (fun c _ => needDoms_starts _ _ _ (fun u => ?_)))
  simp only [fixed_ite_snd, pdone_fixed, ite_self]
  exact supWrite_starts _ _ _

theorem execGuardHold_moves (r : Requester) (a : BitVec 32) (v : Word) (s : State) : Moves (execGuardHold r a v s) s := by
  refine moves_of_starts ?_
  rw [fixed_ite]
  exact .ite (writeReg_starts _ _ _ _) (.refl _)

theorem execShRead_moves (r : Requester) (a : BitVec 32) (s : State) : Moves (execShRead r a s) s := by
  refine moves_of_starts ?_
  rw [fixed_ite]
  exact .ite (readReg_starts _ _ _) (.refl _)

theorem execSpnImdataAccess_moves (r : Requester) (n : SpnNo) (write : Bool) (v : Word) (s : State) :
    Moves (execSpnImdataAccess r n write v s) s := by
  refine moves_of_starts ?_
  rw [fixed_ite]
  exact .ite (writeReg_starts _ _ _ _) (readReg_starts _ _ _)

theorem execSpnDmdataAccess_moves (r : Requester) (n : SpnNo) (write : Bool) (v : Word) (s : State) :
    Moves (execSpnDmdataAccess r n write v s) s := by
  refine moves_of_starts ?_
  rw [fixed_ite]
  exact .ite (writeReg_starts _ _ _ _) (readReg_starts _ _ _)

theorem execTagComplete_moves (n : SpnNo) (t : Fin 8) (s : State) : Moves (execTagComplete n t s) s := by
  refine moves_of_starts ?_
  rw [fixed_ite]
  exact .ite (tagGo_starts _ _ _) (.refl _)

theorem execConfigRecord_moves (s : State) : Moves (execConfigRecord s) s := by
  simp only [execConfigRecord]
  split
  · exact moves_of_fixed rfl
  · split
    · exact moves_of_fixed rfl
    · split
      · exact moves_of_fixed (by simp)
      · split
        · exact moves_of_fixed (by simp)
        · split
          · exact moves_of_fixed (by simp)
          · split
            · rename_i ht
              exact moves_of_starts (recordWrite_starts ht)
            · rename_i ht
              exact moves_of_starts (by simpa using recordWrite_starts ht)

theorem execCsp1Frame_moves (f : CspFrame) (s : State) : Moves (execCsp1Frame f s) s := by
  simp only [execCsp1Frame]
  split
  · exact moves_of_fixed rfl
  · split
    · exact moves_refused _ _
    · split
      · exact moves_of_fixed (by simp)
      · split
        · exact moves_of_fixed (by simp)
        · refine moves_of_starts ?_
          simp only [fixed_ite, csp1Device_fixed, ite_self]
          refine Starts.trans ?_ (csp1Host_starts _ _ _ _)
          simp

theorem execHlFrameReceive_moves (n : LaneNo) (f : LaneFrame) (s : State) : Moves (execHlFrameReceive n f s) s :=
  moves_of_starts (by simpa using laneReceive_starts (s.groupsIn n f.pre) n f)

theorem execMgmtRequestFrame_moves (f : LaneFrame) (s : State) : Moves (execMgmtRequestFrame f s) s :=
  moves_of_starts (by simpa using laneReceive_starts (s.groupsIn 0 f.pre) 0 f)

theorem execDomainWakeDone_moves (d : Fin 50) (s : State) : Moves (execDomainWakeDone d s) s := by
  simp only [execDomainWakeDone]
  split
  · refine moves_of_starts ?_
    rw [fixed_ite]
    exact .ite (by simpa using pump_starts ((s.wakeDone d).reactLate d)) (by simp)
  · exact moves_of_fixed rfl

theorem execRequestAbsentTimeout_moves (r : Requester) (s : State) : Moves (execRequestAbsentTimeout r s) s := by
  have late : ∀ (t : State) (d : Nat), t.fixed = s.fixed → Moves (.next (t.wakeLate d).pump) s := fun t d ht =>
    moves_of_starts (by simpa [ht] using pump_starts (t.wakeLate d))
  simp only [execRequestAbsentTimeout]
  split
  · exact late _ _ (by simp)
  · split
    · exact moves_of_fixed rfl
    · split
      · exact late _ _ (by simp)
      · split
        · exact moves_of_fixed rfl
        · split
          · exact late _ _ (by simp)
          · exact moves_of_fixed rfl

/-! ### Commands that cut or end a programming, or blow a fuse -/

theorem execPowerOn_moves (b : BootInputs) (s : State) : Moves (execPowerOn b s) s :=
  moves_of_torn (by simpa using bare_torn s)

theorem execVddCoreLoss_moves (s : State) : Moves (execVddCoreLoss s) s := moves_of_torn (coreLoss_torn s)

theorem execRailUndervoltage_moves (rail : Rail) (s : State) : Moves (execRailUndervoltage rail s) s := by
  cases rail with
  | core => exact moves_of_torn (coreLoss_torn s)
  | ret =>
    simp only [execRailUndervoltage]
    split <;> exact moves_of_fixed (by simp)
  | sram => exact moves_of_fixed (by simp)
  | lineAnalog => exact moves_of_fixed (by simp)
  | hostAnalog => exact moves_of_fixed (by simp)
  | io => exact moves_of_fixed (by simp)

theorem execHoldVokFall_moves (s : State) : Moves (execHoldVokFall s) s := by
  simp only [execHoldVokFall]
  split
  · exact moves_of_fixed (by simp)
  · refine moves_of_torn (Torn.trans ?_ (commitEnd_torn _ _ _))
    simp

theorem execFlashOpDone_moves (s : State) : Moves (execFlashOpDone s) s := by
  simp only [execFlashOpDone]
  split
  · exact moves_of_fixed rfl
  · split
    · exact moves_of_torn (flashFails_torn _ _)
    · split
      · exact moves_of_fixed (by simp)
      · split
        · exact moves_of_fixed (by simp)
        · refine moves_of_torn (Torn.trans ?_ (commitEnd_torn _ _ _))
          simp

theorem execFlashOpTimeout_moves (s : State) : Moves (execFlashOpTimeout s) s := by
  unfold execFlashOpTimeout
  split
  · exact moves_of_fixed rfl
  · exact moves_of_torn (flashFails_torn _ _)

theorem execVddCoreReturn_moves (b : BootInputs) (s : State) : Moves (execVddCoreReturn b s) s := by
  unfold execVddCoreReturn
  split
  · exact moves_of_fixed (by simp)
  · split
    · exact moves_of_fixed rfl
    · exact moves_of_torn (reboot_torn s b)

theorem execLcFuseDone_moves (s : State) : Moves (execLcFuseDone s) s := by
  unfold execLcFuseDone
  split
  · rename_i n hn
    rintro _ ⟨⟩
    exact ⟨.stop n n hn (.inr rfl), rfl⟩
  · exact moves_of_fixed rfl

theorem execRollbackFuseBlow_moves (s : State) : Moves (execRollbackFuseBlow s) s := by
  unfold execRollbackFuseBlow
  split
  · exact moves_of_fixed rfl
  · split
    · rename_i h
      obtain ⟨-, -, -, -, -, hc⟩ := h
      rintro _ ⟨⟩
      exact ⟨.blow hc, rfl⟩
    · exact moves_of_fixed rfl

/-! ### Every command, and every step -/

/-- Every command, by its lemma: only those of the sections above are more than a frame. -/
theorem exec_moves (i : Instr) (s : State) : Moves (exec i s) s := by
  cases i with
  -- start-up, register fabric, management (chapters 00–02, 16)
  | powerOn b => exact execPowerOn_moves b s
  | supervisorStart => exact (execSupervisorStart_keeps s).moves
  | configRecord => exact execConfigRecord_moves s
  | configWaitExpire => exact (execConfigWaitExpire_keeps s).moves
  | rollbackFuseBlow => exact execRollbackFuseBlow_moves s
  | lcStateWrite r w => exact moves_of_starts (writePair_starts ..)
  | lcFuseDone => exact execLcFuseDone_moves s
  | guardHold r a v => exact execGuardHold_moves r a v s
  | guardWindowExpire r => exact (execGuardWindowExpire_keeps r s).moves
  | idMgmtpathWrite r w => exact moves_of_starts (writePair_starts ..)
  | shRead r a => exact execShRead_moves r a s
  | registerWrite r a v => exact moves_of_starts (writeReg_starts ..)
  | scrubPass => exact (execScrubPass_keeps s).moves
  | mgmtRequestFrame f => exact execMgmtRequestFrame_moves f s
  | csp1Frame f => exact execCsp1Frame_moves f s
  | csp1SelectTimeout => exact (execCsp1SelectTimeout_keeps s).moves
  | csp1LinesWrite r lines => exact moves_of_starts (writeFld_starts ..)
  | cspModeWrite r csp1 mode => exact moves_of_starts (writeFld_starts ..)
  -- link life (chapters 03, 06)
  | trainAdmit p => exact (execTrainAdmit_keeps p s).moves
  | anPageReceive p pg => exact (execAnPageReceive_keeps p pg s).moves
  | anAbandon p => exact (execAnAbandon_keeps p s).moves
  | trainingSignalDetect p => exact (execTrainingSignalDetect_keeps p s).moves
  | warmCheck p mismatch => exact (execWarmCheck_keeps p mismatch s).moves
  | linkUp p => exact (execLinkUp_keeps p s).moves
  | trainFail p => exact (execTrainFail_keeps p s).moves
  | linkLoss p => exact (execLinkLoss_keeps p s).moves
  | backoffExpire p => exact (execBackoffExpire_keeps p s).moves
  | rovdlyExpire p => exact (execRovdlyExpire_keeps p s).moves
  | plcaBeacon p => exact (execPlcaBeacon_keeps p s).moves
  | plcaBeaconConflict p => exact (execPlcaBeaconConflict_keeps p s).moves
  | plcaBeaconTimeout p => exact (execPlcaBeaconTimeout_keeps p s).moves
  | plcaToExpire p => exact (execPlcaToExpire_keeps p s).moves
  | plcaSeenExpire p node => exact moves_of_fixed (setRb_fixed ..)
  | rsDecode p first errs erasedBad frames => exact (execRsDecode_keeps p first errs erasedBad frames s).moves
  | portTestmodeWrite r p tm => exact moves_of_starts (writeFld_starts ..)
  | prbsResync p bits errs => exact (execPrbsResync_keeps p bits errs s).moves
  -- receive path (chapter 04)
  | portGainWrite r p gain => exact moves_of_starts (writeFld_starts ..)
  | adcRecalRequest r p seq => exact moves_of_starts (writeFld_starts ..)
  | adcRecalDone p => exact (execAdcRecalDone_keeps p s).moves
  | recalInterval p => exact (execRecalInterval_keeps p s).moves
  | swapEffect p => exact (execSwapEffect_keeps p s).moves
  | mirrorDone p => exact (execMirrorDone_keeps p s).moves
  | gatherComplete n t u => exact (execGatherComplete_keeps n t u s).moves
  | slubStart p u v => exact moves_of_fixed (slubStart_fixed ..)
  | slubWindowEnd p u => exact (execSlubWindowEnd_keeps p u s).moves
  | slubCap p => exact (execSlubCap_keeps p s).moves
  | snrBlockEnd p u v => exact (execSnrBlockEnd_keeps p u v s).moves
  | mfbEstimate p start u => exact (execMfbEstimate_keeps p start u s).moves
  | sqiUpdate p => exact (execSqiUpdate_keeps p s).moves
  -- idle, sleep and wake (chapter 06)
  | lpiTxRequest p => exact (execLpiTxRequest_keeps p s).moves
  | lpiTxWake p => exact (execLpiTxWake_keeps p s).moves
  | lpiWakeDone p => exact (execLpiWakeDone_keeps p s).moves
  | lpiRxChange p enter => exact (execLpiRxChange_keeps p enter s).moves
  | sleepRequestReceive p => exact (execSleepRequestReceive_keeps p s).moves
  | sleepHandshakeDone p => exact (execSleepHandshakeDone_keeps p s).moves
  | detectorArm p => exact (execDetectorArm_keeps p s).moves
  | lineEnergyDetect x => exact (execLineEnergyDetect_keeps x s).moves
  | remoteWake p => exact (execRemoteWake_keeps p s).moves
  | wakeForward p => exact (execWakeForward_keeps p s).moves
  | localWake p => exact (execLocalWake_keeps p s).moves
  | falseWakeTimeout p => exact (execFalseWakeTimeout_keeps p s).moves
  | txOverload p legN => exact moves_of_fixed (raise_fixed ..)
  -- skeins (chapter 05)
  | lgSkeinWrite r g n v => exact moves_of_starts (writeReg_starts ..)
  | skeinSwapEffect g n => exact (execSkeinSwapEffect_keeps g n s).moves
  | skeinMemberLeave g k => exact (execSkeinMemberLeave_keeps g k s).moves
  | skeinRefresh g n ws => exact (execSkeinRefresh_keeps g n ws s).moves
  | oamMessageSend p u v => exact (execOamMessageSend_keeps p u v s).moves
  | d2ReportReceive p w => exact (execD2ReportReceive_keeps p w s).moves
  -- roving and carding (chapter 07)
  | rovingHelloReceive p frame snr u v w => exact (execRovingHelloReceive_keeps p frame snr u v w s).moves
  | rovingAckReceive p frame snr u v => exact (execRovingAckReceive_keeps p frame snr u v s).moves
  | rovingSetreqReceive p frame u => exact (execRovingSetreqReceive_keeps p frame u s).moves
  | rovingSetackReceive p frame u => exact (execRovingSetackReceive_keeps p frame u s).moves
  | rovingSnrrepReceive p frame snr u => exact (execRovingSnrrepReceive_keeps p frame snr u s).moves
  | rovingDataReceive p frame first u => exact (execRovingDataReceive_keeps p frame first u s).moves
  | rovingAcqTimeout p => exact (execRovingAcqTimeout_keeps p s).moves
  | rovingRetry p => exact (execRovingRetry_keeps p s).moves
  | rovingSettingSwitch p => exact (execRovingSettingSwitch_keeps p s).moves
  | rovingSnrrepSend p snr => exact (execRovingSnrrepSend_keeps p snr s).moves
  | rovingSnrLow p snr => exact (execRovingSnrLow_keeps p snr s).moves
  | rovingFallback p u => exact (execRovingFallback_keeps p u s).moves
  | rovingLoss p => exact (execRovingLoss_keeps p s).moves
  | rovingRestartWindow p u => exact (execRovingRestartWindow_keeps p u s).moves
  | rovingWindowEnd p u => exact (execRovingWindowEnd_keeps p u s).moves
  | cardingDone p discard peaks => exact (execCardingDone_keeps p discard peaks s).moves
  | fpSnapshot p u => exact (execFpSnapshot_keeps p u s).moves
  | fpSnapshotRetry p => exact (execFpSnapshotRetry_keeps p s).moves
  | fpTrendPoint p => exact (execFpTrendPoint_keeps p s).moves
  -- Wovin scalar, immediate, local and branch (chapter 08)
  | add n w => exact moves_of_fixed (issueRR_fixed ..)
  | addi n w => exact moves_of_fixed (issueRI_fixed ..)
  | sub n w => exact moves_of_fixed (issueRR_fixed ..)
  | and n w => exact moves_of_fixed (issueRR_fixed ..)
  | andi n w => exact moves_of_fixed (issueRI_fixed ..)
  | or n w => exact moves_of_fixed (issueRR_fixed ..)
  | ori n w => exact moves_of_fixed (issueRI_fixed ..)
  | xor n w => exact moves_of_fixed (issueRR_fixed ..)
  | xori n w => exact moves_of_fixed (issueRI_fixed ..)
  | sll n w => exact moves_of_fixed (issueRR_fixed ..)
  | slli n w => exact moves_of_fixed (issueRI_fixed ..)
  | srl n w => exact moves_of_fixed (issueRR_fixed ..)
  | srli n w => exact moves_of_fixed (issueRI_fixed ..)
  | sra n w => exact moves_of_fixed (issueRR_fixed ..)
  | srai n w => exact moves_of_fixed (issueRI_fixed ..)
  | slt n w => exact moves_of_fixed (issueRR_fixed ..)
  | slti n w => exact moves_of_fixed (issueRI_fixed ..)
  | sltu n w => exact moves_of_fixed (issueRR_fixed ..)
  | sltiu n w => exact moves_of_fixed (issueRI_fixed ..)
  | mul n w => exact moves_of_fixed (issueRR_fixed ..)
  | muli n w => exact moves_of_fixed (issueRI_fixed ..)
  | mulh n w => exact moves_of_fixed (issueRR_fixed ..)
  | min n w => exact moves_of_fixed (issueRR_fixed ..)
  | mini n w => exact moves_of_fixed (issueRI_fixed ..)
  | max n w => exact moves_of_fixed (issueRR_fixed ..)
  | maxi n w => exact moves_of_fixed (issueRI_fixed ..)
  | clz n w => exact (execClz_keeps n w s).moves
  | sat n w => exact moves_of_fixed (issueRR_fixed ..)
  | sati n w => exact moves_of_fixed (issueRI_fixed ..)
  | li n w => exact (execLi_keeps n w s).moves
  | lih n w => exact (execLih_keeps n w s).moves
  | lpc n w => exact (execLpc_keeps n w s).moves
  | ldl n w => exact (execLdl_keeps n w s).moves
  | stl n w => exact (execStl_keeps n w s).moves
  | ldv n w => exact (execLdv_keeps n w s).moves
  | stv n w => exact (execStv_keeps n w s).moves
  | beq n w => exact moves_of_fixed (issueB_fixed ..)
  | bne n w => exact moves_of_fixed (issueB_fixed ..)
  | blt n w => exact moves_of_fixed (issueB_fixed ..)
  | bge n w => exact moves_of_fixed (issueB_fixed ..)
  | bltu n w => exact moves_of_fixed (issueB_fixed ..)
  | bgeu n w => exact moves_of_fixed (issueB_fixed ..)
  | jal n w => exact (execJal_keeps n w s).moves
  | jalr n w => exact (execJalr_keeps n w s).moves
  | branchResolve n => exact moves_of_fixed (resolveBranch_fixed ..)
  -- Wovin vector
  | vadd n w => exact moves_of_fixed (issueVab_fixed ..)
  | vsub n w => exact moves_of_fixed (issueVab_fixed ..)
  | vaddh n w => exact (execVaddh_keeps n w s).moves
  | vsubh n w => exact (execVsubh_keeps n w s).moves
  | vand n w => exact moves_of_fixed (issueVab_fixed ..)
  | vor n w => exact moves_of_fixed (issueVab_fixed ..)
  | vxor n w => exact moves_of_fixed (issueVab_fixed ..)
  | vsll n w => exact (execVsll_keeps n w s).moves
  | vsra n w => exact (execVsra_keeps n w s).moves
  | vmac n w => exact (execVmac_keeps n w s).moves
  | vmul n w => exact (execVmul_keeps n w s).moves
  | vrnd n w => exact (execVrnd_keeps n w s).moves
  | vcmul n w => exact (execVcmul_keeps n w s).moves
  | vcmac n w => exact (execVcmac_keeps n w s).moves
  | vabsh n w => exact (execVabsh_keeps n w s).moves
  | vnegh n w => exact (execVnegh_keeps n w s).moves
  | vbcst n w => exact (execVbcst_keeps n w s).moves
  | vext n w => exact (execVext_keeps n w s).moves
  | vins n w => exact (execVins_keeps n w s).moves
  | vred n w => exact (execVred_keeps n w s).moves
  | vperm n w => exact (execVperm_keeps n w s).moves
  | vsel n w => exact (execVsel_keeps n w s).moves
  | vcmp n w => exact (execVcmp_keeps n w s).moves
  | vmax n w => exact (execVmax_keeps n w s).moves
  | vmin n w => exact (execVmin_keeps n w s).moves
  | vunpk n w => exact (execVunpk_keeps n w s).moves
  | vflag n w => exact (execVflag_keeps n w s).moves
  | vbfly n w => exact (execVbfly_keeps n w s).moves
  -- Wovin tagged operations
  | ldb n w => exact (execLdb_keeps n w s).moves
  | stb n w => exact (execStb_keeps n w s).moves
  | gsw n w => exact (execGsw_keeps n w s).moves
  | cwr n w => exact (execCwr_keeps n w s).moves
  | cswSwap n w => exact (execCswSwap_keeps n w s).moves
  | cswMirror n w => exact (execCswMirror_keeps n w s).moves
  | ldf n w => exact (execLdf_keeps n w s).moves
  | mbs n w => exact (execMbs_keeps n w s).moves
  | mbr n w => exact (execMbr_keeps n w s).moves
  | lck n w => exact (execLck_keeps n w s).moves
  | ulk n w => exact (execUlk_keeps n w s).moves
  | frx n w => exact (execFrx_keeps n w s).moves
  | ftx n w => exact (execFtx_keeps n w s).moves
  | tagComplete n t => exact execTagComplete_moves n t s
  | knotGrant k => exact (execKnotGrant_keeps k s).moves
  -- Wovin system
  | wait n w => exact (execWait_keeps n w s).moves
  | fence n w => exact (execFence_keeps n w s).moves
  | fenceW n w => exact (execFenceW_keeps n w s).moves
  | trap n w => exact (execTrap_keeps n w s).moves
  | eret n w => exact (execEret_keeps n w s).moves
  | sleep n w => exact (execSleep_keeps n w s).moves
  | mfs n w => exact (execMfs_keeps n w s).moves
  | mts n w => exact (execMts_keeps n w s).moves
  | waita n w => exact (execWaita_keeps n w s).moves
  | spnHalt r n => exact moves_of_starts (writeFld_starts ..)
  | spnHaltDone n => exact (execSpnHaltDone_keeps n s).moves
  | spnRelease r n => exact moves_of_starts (writeFld_starts ..)
  | spnCtlModeWrite r n mode replay => exact moves_of_starts (writeReg_starts ..)
  | spnImdataAccess r n write v => exact execSpnImdataAccess_moves r n write v s
  | spnDmdataAccess r n write v => exact execSpnDmdataAccess_moves r n write v s
  -- line runtime, mailboxes and knots (chapter 09)
  | mbDoorbellWrite r index => exact moves_of_starts (writeReg_starts ..)
  | commandCopy => exact (execCommandCopy_keeps s).moves
  | mbRingConfigWrite r reg v => exact moves_of_starts (writeReg_starts ..)
  | completionWrite id => exact (execCompletionWrite_keeps id s).moves
  | mbCplrdWrite r index => exact moves_of_starts (writeReg_starts ..)
  | ringRetry cpl raise => exact (execRingRetry_keeps cpl raise s).moves
  | hello id => exact (execHello_keeps id s).moves
  | nop id => exact (execNop_keeps id s).moves
  | partition id => exact (execPartition_keeps id s).moves
  | delegateWin id => exact execDelegateWin_moves id s
  | delegateLine id => exact execDelegateLine_moves id s
  | portEnable id => exact (execPortEnable_keeps id s).moves
  | portDisable id => exact (execPortDisable_keeps id s).moves
  | portConfig id => exact execPortConfig_moves id s
  | portRestart id => exact (execPortRestart_keeps id s).moves
  | portSleep id => exact (execPortSleep_keeps id s).moves
  | portWake id => exact (execPortWake_keeps id s).moves
  | portCard id => exact (execPortCard_keeps id s).moves
  | portFpcapture id => exact (execPortFpcapture_keeps id s).moves
  | portFpread id => exact (execPortFpread_keeps id s).moves
  | portFprestore id => exact (execPortFprestore_keeps id s).moves
  | portCoefload id => exact (execPortCoefload_keeps id s).moves
  | portPlca id => exact (execPortPlca_keeps id s).moves
  | skeinSet id => exact execSkeinSet_moves id s
  | rtStage id => exact (execRtStage_keeps id s).moves
  | rtSwitch r w => exact moves_of_starts (writePair_starts ..)
  | quantumBoundary n => exact (execQuantumBoundary_keeps n s).moves
  | quantumTimeout n => exact (execQuantumTimeout_keeps n s).moves
  | supervisorMove => exact (execSupervisorMove_keeps s).moves
  | knotHostAcquire k lease => exact moves_of_starts (writeReg_starts ..)
  | knotHostRelease k => exact moves_of_starts (writeReg_starts ..)
  | knotHostRenew k lease => exact moves_of_starts (writeReg_starts ..)
  | knotLeaseExpire k => exact (execKnotLeaseExpire_keeps k s).moves
  | mbTxWrite r n v => exact moves_of_starts (writeReg_starts ..)
  | mbHostrxRead r => exact moves_of_starts (readReg_starts ..)
  -- traffic manager (chapter 10)
  | frameIngress f => exact (execFrameIngress_keeps f s).moves
  | txSelect e => exact (execTxSelect_keeps e s).moves
  | frameTxDone e => exact (execFrameTxDone_keeps e s).moves
  | gateEntryAdvance e => exact moves_of_fixed (closeHeld_fixed ..)
  | gclChange r e seq => exact moves_of_starts (writeFld_starts ..)
  | gclSwap e => exact (execGclSwap_keeps e s).moves
  | sgChange r k seq => exact moves_of_starts (writeFld_starts ..)
  | sgSwap k => exact (execSgSwap_keeps k s).moves
  | queueSample e q => exact (execQueueSample_keeps e q s).moves
  | tmPolicerWrite r st second v => exact moves_of_starts (writeReg_starts ..)
  | tmMeterWrite r m k v => exact moves_of_starts (writeReg_starts ..)
  -- Plylink (chapter 11)
  | hlFrameReceive n f => exact execHlFrameReceive_moves n f s
  | capabilitySetReceive n bytes => exact (execCapabilitySetReceive_keeps n bytes s).moves
  | capabilitySetSend n => exact (execCapabilitySetSend_keeps n s).moves
  | creditSetReceive n bytes => exact (execCreditSetReceive_keeps n bytes s).moves
  | timeOrderedSetSend n => exact (execTimeOrderedSetSend_keeps n s).moves
  | hlEnable r n => exact moves_of_starts (writeFld_starts ..)
  | hlBuseqChange r n seq => exact moves_of_starts (writeFld_starts ..)
  | hlSlip r n seq => exact moves_of_starts (writeFld_starts ..)
  | hlAlign n => exact (execHlAlign_keeps n s).moves
  | hlAlignLoss n => exact (execHlAlignLoss_keeps n s).moves
  | hlStep n => exact (execHlStep_keeps n s).moves
  | hlRxLock n => exact (execHlRxLock_keeps n s).moves
  | hlRun n => exact (execHlRun_keeps n s).moves
  | hlLos n => exact moves_of_fixed (laneLoss_fixed ..)
  | hlLol n => exact moves_of_fixed (laneLoss_fixed ..)
  | hlRebuExpire n => exact (execHlRebuExpire_keeps n s).moves
  | hlTxsleep r n on => exact moves_of_starts (writeFld_starts ..)
  | hlRxsleep r n on => exact moves_of_starts (writeFld_starts ..)
  | hlTxAbort n => exact moves_of_fixed (abortTx_fixed ..)
  -- distaff (chapter 12)
  | dstArm r seq => exact moves_of_starts (writeFld_starts ..)
  | dstTrigseq r seq => exact moves_of_starts (writeFld_starts ..)
  | dstPostDone u => exact (execDstPostDone_keeps u s).moves
  | dstCheckpoint c u => exact (execDstCheckpoint_keeps c u s).moves
  | dstRelease r seq => exact moves_of_starts (writeFld_starts ..)
  | dstExport r seq => exact moves_of_starts (writeFld_starts ..)
  | dstRddataRead r => exact moves_of_starts (readReg_starts ..)
  | replayStart r g v => exact moves_of_starts (writeReg_starts ..)
  | replayDone g u v w => exact (execReplayDone_keeps g u v w s).moves
  | d3TriggerReceive p w => exact (execD3TriggerReceive_keeps p w s).moves
  -- clocks and time (chapter 13)
  | clkMonitorWindow src dev ppm => exact (execClkMonitorWindow_keeps src dev ppm s).moves
  | pllLockDrop k => exact (execPllLockDrop_keeps k s).moves
  | clkEdgeTimeout src => exact moves_of_fixed (sourceFail_fixed ..)
  | asyncSafeState c => exact (execAsyncSafeState_keeps c s).moves
  | pllLock k => exact (execPllLock_keeps k s).moves
  | pllUnblock k => exact (execPllUnblock_keeps k s).moves
  | clkSrcselWrite r w => exact moves_of_starts (writePair_starts ..)
  | clkPllctlWrite r k w => exact moves_of_starts (writePair_starts ..)
  | clkReadyRead r => exact moves_of_starts (readReg_starts ..)
  | clkAutoreturn => exact (execClkAutoreturn_keeps s).moves
  | xqueueResume d => exact (execXqueueResume_keeps d s).moves
  | timeSet r seq => exact moves_of_starts (writeFld_starts ..)
  | timeStep r seq => exact moves_of_starts (writeFld_starts ..)
  | ppsInEdge => exact (execPpsInEdge_keeps s).moves
  | ppsOutPulse => exact (execPpsOutPulse_keeps s).moves
  | ppsOutEnd => exact (execPpsOutEnd_keeps s).moves
  -- power (chapter 14)
  | domainTargetOn r d => exact moves_of_starts (targetWrite_starts ..)
  | domainTargetRet r d delay => exact moves_of_starts (targetWrite_starts ..)
  | domainTargetOff r d delay => exact moves_of_starts (targetWrite_starts ..)
  | handshakeDelayExpire d again => exact (execHandshakeDelayExpire_keeps d again s).moves
  | domainEntryDone d => exact (execDomainEntryDone_keeps d s).moves
  | domainWakeDone d => exact execDomainWakeDone_moves d s
  | requestAbsentTimeout r => exact execRequestAbsentTimeout_moves r s
  | pwrForceoff r w => exact moves_of_starts (writePair_starts ..)
  | vddCoreLoss => exact execVddCoreLoss_moves s
  | parkEntryDone => exact (execParkEntryDone_keeps s).moves
  | wakeInAssert => exact (execWakeInAssert_keeps s).moves
  | parkWake src => exact (execParkWake_keeps src s).moves
  | vddCoreReturn b => exact execVddCoreReturn_moves b s
  | railUndervoltage rail => exact execRailUndervoltage_moves rail s
  | aonBrownout => exact (execAonBrownout_keeps s).moves
  | aonRestart => exact (execAonRestart_keeps s).moves
  | holdupEngage => exact moves_of_fixed (holdup_fixed ..)
  | holdVokFall => exact execHoldVokFall_moves s
  | holdGaugeEmpty holdMv => exact (execHoldGaugeEmpty_keeps holdMv s).moves
  -- faults and self-test (chapter 15)
  | faultEvent => exact (execFaultEvent_keeps s).moves
  | faultQuietExpire src => exact (execFaultQuietExpire_keeps src s).moves
  | fltRelease r seq src => exact moves_of_starts (writeReg_starts ..)
  | fltReccfgWrite r w => exact moves_of_starts (writePair_starts ..)
  | fltCodecfgWrite r c w => exact moves_of_starts (writePair_starts ..)
  | faultNWidthExpire => exact (execFaultNWidthExpire_keeps s).moves
  | fltPinWrite r v => exact moves_of_starts (writeReg_starts ..)
  | fltAckWrite r ack => exact moves_of_starts (writeFld_starts ..)
  | fltHistRead r => exact moves_of_starts (readReg_starts ..)
  | bistInterval => exact (execBistInterval_keeps s).moves
  | bistConditionTimeout => exact (execBistConditionTimeout_keeps s).moves
  | bistDone fail => exact (execBistDone_keeps fail s).moves
  | bistAbort => exact (execBistAbort_keeps s).moves
  | bistExternal r seq cls unit => exact moves_of_starts (writeReg_starts ..)
  -- images, flash, pins (chapters 16, 17)
  | csp0Commit r w => exact moves_of_starts (writePair_starts ..)
  | flashOpDone => exact execFlashOpDone_moves s
  | flashOpTimeout => exact execFlashOpTimeout_moves s
  | flashLineFill line => exact (execFlashLineFill_keeps line s).moves
  | flashReadTimeout => exact (execFlashReadTimeout_keeps s).moves
  | csp0Reboot r w => exact moves_of_starts (writePair_starts ..)
  | pinFuncWrite r pin v => exact moves_of_starts (writeReg_starts ..)
  | pinFuncSwitchDone pin => exact moves_of_fixed (setRb_fixed ..)
  | plcaBeaconReturn p => exact (execPlcaBeaconReturn_keeps p s).moves
  | partnerSleepReject p => exact (execPartnerSleepReject_keeps p s).moves

theorem step_moves {s t : State} (h : step s = .next t) : FuseStep s.fuses t.fuses := by
  unfold step at h
  split at h
  · exact (moves_of_starts (idle_starts s) t h).1
  · exact (exec_moves _ _ t h).1

end Sys2Proof.Machine

namespace Sys2Proof
open Machine

/-- Settles O10: what one step can do to the fuses keeps them legal. -/
theorem fusesStayLegal : Obligations.FusesStayLegal := by
  unfold Obligations.FusesStayLegal
  intro s t hs h
  exact (step_moves h).legal hs

/-- A write of LC_STATE that names the next state, while no fuse is programmed. -/
theorem lcWrite_next {s : State} {v : Word} (hn : nextLc s.fuses.lc = some (v.extractLsb' 0 4)) (hp : s.fuses.prog = none) :
    s.lcWrite v = (stOK, { s with fuses := { s.fuses with prog := some (v.extractLsb' 0 4) } }) := by
  simp [State.lcWrite, hn, hp]

/-- A write of LC_STATE that names another state. -/
theorem lcWrite_other {s : State} {v : Word} (hn : nextLc s.fuses.lc ≠ some (v.extractLsb' 0 4)) :
    s.lcWrite v = (stREFUSED, s.raise 0x0F2 0x34 v.toNat) := by
  simp [State.lcWrite, hn]

theorem completed_setReply (s : State) (r : Requester) (st a : Nat) : Completed (s.setReply (reqNo r) st a 0) r a st 0 := by
  rw [Completed, getReply_setReply, if_pos rfl]

/-- Settles O9: a complete pair on LC_STATE commits by `lcWrite`, whose two outcomes are the first clauses, and what one step can do to the fuses
moves the life cycle, if at all, to the next state. -/
theorem lifeCycleRule : Obligations.LifeCycleRule := by
  unfold Obligations.LifeCycleRule
  refine ⟨fun w s h hg => ⟨fun hn hp => ?_, fun hn => ?_⟩, fun n s h => ?_, fun s t hs h => ?_⟩
  · refine ⟨_, rfl, ?_⟩
    rw [lcStateWrite_eq w h hg, lcWrite_next (s := s.paired reqHost Reg.LC_STATE w) hn hp]
    exact ⟨completed_setReply _ .host _ _, rfl, rfl, rfl⟩
  · refine ⟨_, rfl, ?_⟩
    rw [lcStateWrite_eq w h hg, lcWrite_other (s := s.paired reqHost Reg.LC_STATE w) hn]
    refine ⟨completed_setReply _ .host _ _, ?_, ?_, ?_, fun hq hl => ?_⟩
    · exact raise_frame State.fuses (fun _ _ => rfl) (fun _ _ _ => rfl) _ _ _ _
    · exact raise_frame State.bobbin (fun _ _ => rfl) (fun _ _ _ => rfl) _ _ _ _
    · exact raise_frame State.spns (fun _ _ => rfl) (fun _ _ _ => rfl) _ _ _ _
    · exact congrArg (fun u : State => u.flt.queue) (raise_queued (s.paired reqHost Reg.LC_STATE w) 0x0F2 0x34 w.toNat hq hl)
  · show execLcFuseDone s = _
    simp [execLcFuseDone, h]
  · have hm := step_moves h
    obtain ⟨hl, -⟩ := (fusesLegal_iff _).mp (hm.legal hs)
    exact ⟨hl, hm.forward hs⟩

/-- Settles O3: the reset state, field by field. -/
theorem resetState : Obligations.ResetState := by
  unfold Obligations.ResetState
  refine ⟨rfl, by decide, fun n _ => ⟨rfl, rfl⟩, rfl, rfl, by decide, by decide, rfl, rfl, rfl, rfl, rfl, rfl, rfl, by decide, rfl, rfl⟩
end Sys2Proof
end

section
/-! PROOF. Bobbin and flash (O5): the operations that write neither leave both as they are, one equation each; those that write one keep its canonical
form; the commands follow, and from them every step. -/

namespace Sys2Proof.Machine

/-! ### The frame: operations that keep bobbin and flash

One equation for each operation that writes neither memory, by those of the operations it calls. -/

/-- What O5 speaks of: bobbin and flash. Not reducible, so that two states are compared by the equations below and never by unfolding. -/
def State.memories (s : State) : Tab Word × Tab Byte := (s.bobbin, s.flash)

@[simp] theorem memories_mk (pending now time setPend stepPend free regs perReq guard shadow reply waitQ inband nextReply badpar bobbin bobFree flash
    fuses csp1 boot ports lgs spns lanes rt knots tm dst clk pwr flt bist pins) :
    (State.mk pending now time setPend stepPend free regs perReq guard shadow reply waitQ inband nextReply badpar bobbin bobFree flash
      fuses csp1 boot ports lgs spns lanes rt knots tm dst clk pwr flt bist pins).memories = (bobbin, flash) := by
  rw [State.memories]

@[simp] theorem memories_fold (s : State) : (s.bobbin, s.flash) = s.memories := by rw [State.memories]

@[simp] theorem memories_fst (s : State) : s.memories.1 = s.bobbin := by rw [State.memories]

@[simp] theorem memories_ite (c : Prop) [Decidable c] (a b : State) : (if c then a else b).memories = if c then a.memories else b.memories :=
  apply_ite _ _ _ _

@[simp] theorem memories_ite_snd {α : Type} (c : Prop) [Decidable c] (a b : α × State) :
    (if c then a else b).2.memories = if c then a.2.memories else b.2.memories := by split <;> rfl

@[simp] theorem forAll_memories {α : Type} (f : State → α → State) (h : ∀ s a, (f s a).memories = s.memories) (l : List α) (s : State) :
    (forAll f l s).memories = s.memories := forAll_frame State.memories f h l s

/-! #### Named operations -/

@[simp] theorem setReg_memories (s : State) (a : Nat) (v : Word) : (s.setReg a v).memories = s.memories := by
  simp [State.setReg]
@[simp] theorem setRf_memories (s : State) (a hi lo v : Nat) : (s.setRf a hi lo v).memories = s.memories := by
  simp [State.setRf]
@[simp] theorem setRb_memories (s : State) (a i : Nat) (b : Bool) : (s.setRb a i b).memories = s.memories := by
  simp [State.setRb]
@[simp] theorem addCnt_memories (s : State) (a n : Nat) : (s.addCnt a n).memories = s.memories := by
  simp [State.addCnt]
@[simp] theorem bump_memories (s : State) (a : Nat) : (s.bump a).memories = s.memories := by
  simp [State.bump]
@[simp] theorem bumpSat_memories (s : State) (a : Nat) : (s.bumpSat a).memories = s.memories := by
  simp [State.bumpSat]
@[simp] theorem setPort_memories (s : State) (p : Nat) (x : Port) : (s.setPort p x).memories = s.memories := by
  simp [State.setPort]
@[simp] theorem updPort_memories (s : State) (p : Nat) (f : Port → Port) : (s.updPort p f).memories = s.memories := by
  simp [State.updPort]
@[simp] theorem setLg_memories (s : State) (g : Nat) (x : LineGroup) : (s.setLg g x).memories = s.memories := by
  simp [State.setLg]
@[simp] theorem updLg_memories (s : State) (g : Nat) (f : LineGroup → LineGroup) : (s.updLg g f).memories = s.memories := by
  simp [State.updLg]
@[simp] theorem setSpn_memories (s : State) (n : Nat) (x : Spindle) : (s.setSpn n x).memories = s.memories := by
  simp [State.setSpn]
@[simp] theorem updSpn_memories (s : State) (n : Nat) (f : Spindle → Spindle) : (s.updSpn n f).memories = s.memories := by
  simp [State.updSpn]
@[simp] theorem setLane_memories (s : State) (n : Nat) (x : Lane) : (s.setLane n x).memories = s.memories := by
  simp [State.setLane]
@[simp] theorem updLane_memories (s : State) (n : Nat) (f : Lane → Lane) : (s.updLane n f).memories = s.memories := by
  simp [State.updLane]
@[simp] theorem setDom_memories (s : State) (d : Nat) (x : Dom) : (s.setDom d x).memories = s.memories := by
  simp [State.setDom]
@[simp] theorem updDom_memories (s : State) (d : Nat) (f : Dom → Dom) : (s.updDom d f).memories = s.memories := by
  simp [State.updDom]
@[simp] theorem setSrc_memories (s : State) (k : Nat) (x : ClkSrc) : (s.setSrc k x).memories = s.memories := by
  simp [State.setSrc]
@[simp] theorem updSrc_memories (s : State) (k : Nat) (f : ClkSrc → ClkSrc) : (s.updSrc k f).memories = s.memories := by
  simp [State.updSrc]
@[simp] theorem setFsrc_memories (s : State) (k : Nat) (x : FSrc) : (s.setFsrc k x).memories = s.memories := by
  simp [State.setFsrc]
@[simp] theorem flashFill_memories (s : State) (k : Nat) : (s.flashFill k).memories = s.memories := by
  simp [State.flashFill]
@[simp] theorem flashTouch_memories (s : State) (k : Nat) : (s.flashTouch k).memories = s.memories := by
  simp [State.flashTouch]

@[simp] theorem drawFree_memories (s : State) : s.drawFree.2.memories = s.memories := by
  simp [State.drawFree]
@[simp] theorem drawNat_memories (s : State) (n : Nat) : (s.drawNat n).2.memories = s.memories := by
  simp [State.drawNat]
@[simp] theorem applySetStep_memories (s : State) (t : BitVec 96) : (applySetStep s t).memories = s.memories := by
  simp [applySetStep]
@[simp] theorem idleTick_memories (s : State) : (idleTick s).memories = s.memories := by
  simp [idleTick]
@[simp] theorem setFlt_memories (s : State) (f : Flt) : (s.setFlt f).memories = s.memories := by
  simp [State.setFlt]
@[simp] theorem raise_memories (s : State) (src code info : Nat) : (s.raise src code info).memories = s.memories :=
  raise_frame State.memories setFlt_memories setReg_memories s src code info
@[simp] theorem raiseOrOwe_memories (s : State) (src code info : Nat) : (s.raiseOrOwe src code info).memories = s.memories := by
  simp [State.raiseOrOwe]

/-! #### Events of the distaff and the symbol counters -/

@[simp] theorem setSh_memories (s : State) (a : Nat) (v : BitVec 96) : (s.setSh a v).memories = s.memories := by
  simp [State.setSh]
@[simp] theorem restartSym_memories (s : State) (p : Nat) : (s.restartSym p).memories = s.memories := by
  simp [State.restartSym]
@[simp] theorem dstEvent_memories (s : State) (typ : Nat) (spec : Bool) (unit info : Nat) (cont : List Word) :
    (s.dstEvent typ spec unit info cont).memories = s.memories := by
  simp [State.dstEvent]
@[simp] theorem dstPortEvent_memories (s : State) (typ p sym low : Nat) (cont : List Word) :
    (s.dstPortEvent typ p sym low cont).memories = s.memories := by
  unfold State.dstPortEvent; split <;> simp
@[simp] theorem d3Send_memories (s : State) (cause : Nat) : (s.d3Send cause).memories = s.memories := by
  simp [State.d3Send]
@[simp] theorem dstTrigger_memories (s : State) (cause unit partner : Nat) : (s.dstTrigger cause unit partner).memories = s.memories := by
  simp [State.dstTrigger]

/-! #### Stored frames and egress queues -/

@[simp] theorem setFrame_memories (s : State) (fid : Nat) (x : Option Stored) : (s.setFrame fid x).memories = s.memories := by
  simp [State.setFrame]
@[simp] theorem setQueue_memories (s : State) (e q : Nat) (l : List QEntry) : (s.setQueue e q l).memories = s.memories := by
  simp [State.setQueue]
@[simp] theorem setCur_memories (s : State) (e : Nat) (x : Option Sending) : (s.setCur e x).memories = s.memories := by
  simp [State.setCur]
@[simp] theorem dropCopy_memories (s : State) (fid : Nat) : (s.dropCopy fid).memories = s.memories := by
  unfold State.dropCopy; split <;> simp
@[simp] theorem dropEntries_memories (s : State) (cnts : List Nat) (l : List QEntry) : (s.dropEntries cnts l).memories = s.memories := by
  simp [State.dropEntries]
@[simp] theorem flushQueue_memories (s : State) (e q : Nat) (cnts : List Nat) : (s.flushQueue e q cnts).memories = s.memories := by
  simp [State.flushQueue]
@[simp] theorem flushState_memories (s : State) (e : Nat) (qs more : List Nat) : (s.flushState e qs more).memories = s.memories := by
  simp [State.flushState]
@[simp] theorem setShp_memories (s : State) (e q : Nat) (x : Option Shaper) : (s.setShp e q x).memories = s.memories := by
  simp [State.setShp]
@[simp] theorem txOver_memories (s : State) (e q : Nat) : (s.txOver e q).memories = s.memories := by
  unfold State.txOver; split <;> simp
@[simp] theorem setSent_memories (s : State) (e : Nat) (f : Option SentFrame) : (s.setSent e f).memories = s.memories := by
  simp [State.setSent]
@[simp] theorem endSent_memories (s : State) (e : Nat) : (s.endSent e).memories = s.memories := by
  simp [State.endSent]
@[simp] theorem cutTx_memories (s : State) (e : Nat) : (s.cutTx e).memories = s.memories := by
  unfold State.cutTx; split <;> simp
@[simp] theorem holdTx_memories (s : State) (e : Nat) : (s.holdTx e).memories = s.memories := by
  unfold State.holdTx; split <;> simp

@[simp] theorem linkEvent_memories (s : State) (fid : Nat) : (s.linkEvent fid).memories = s.memories := by
  unfold State.linkEvent
  split
  · split <;> simp
  · rfl

/-! #### Port states and transitions -/

@[simp] theorem setSlotWord_memories (s : State) (g half victim off : Nat) (w : Word) :
    (s.setSlotWord g half victim off w).memories = s.memories := by
  simp [State.setSlotWord]
@[simp] theorem endOps_memories (s : State) (pick : TagOp → Bool) (status : Nat) : (s.endOps pick status).memories = s.memories := by
  simp [State.endOps]
@[simp] theorem endLive_memories (s : State) (pick : TagOp → Bool) (status : Nat) : (s.endLive pick status).memories = s.memories := by
  simp [State.endLive]
@[simp] theorem endGather_memories (s : State) (p : Nat) (src : Nat → Bool) : (s.endGather p src).memories = s.memories := by
  simp [State.endGather]
@[simp] theorem endSkGather_memories (s : State) (g n : Nat) : (s.endSkGather g n).memories = s.memories := by
  simp [State.endSkGather]
@[simp] theorem skLatch_memories (s : State) (g n : Nat) : (s.skLatch g n).memories = s.memories := by
  unfold State.skLatch; split <;> simp
@[simp] theorem skStop_memories (s : State) (g i : Nat) : (s.skStop g i).memories = s.memories := by
  simp [State.skStop]
@[simp] theorem endCmdsGen_memories (s : State) (pick : Cmd → Bool) (status : Nat) (gen : Cmd → Nat) :
    (s.endCmdsGen pick status gen).memories = s.memories := by
  simp [State.endCmdsGen]
@[simp] theorem endCmds_memories (s : State) (pick : Cmd → Bool) (status : Nat) : (s.endCmds pick status).memories = s.memories := by
  simp [State.endCmds]
@[simp] theorem endRunning_memories (s : State) (p op status : Nat) : (s.endRunning p op status).memories = s.memories := by
  simp [State.endRunning]
@[simp] theorem endRunningRes_memories (s : State) (p op status : Nat) (result : Word) :
    (s.endRunningRes p op status result).memories = s.memories := by
  simp [State.endRunningRes]
@[simp] theorem endUpCmds_memories (s : State) (p : Nat) : (s.endUpCmds p).memories = s.memories := by
  simp [State.endUpCmds]
@[simp] theorem coefTouch_memories (s : State) (p h : Nat) : (s.coefTouch p h).memories = s.memories := by
  simp [State.coefTouch]
@[simp] theorem setHalfWord_memories (s : State) (p h k : Nat) (w : Word) : (s.setHalfWord p h k w).memories = s.memories := by
  simp [State.setHalfWord]
@[simp] theorem settle_memories (s : State) (p n : Nat) : (s.settle p n).memories = s.memories := by
  simp [State.settle]
@[simp] theorem serveHalf_memories (s : State) (p h mode : Nat) : (s.serveHalf p h mode).memories = s.memories := by
  simp [State.serveHalf]
@[simp] theorem endPortCoef_memories (s : State) (p : Nat) : (s.endPortCoef p).memories = s.memories := by
  simp [State.endPortCoef]
@[simp] theorem endRovCoef_memories (s : State) (p : Nat) : (s.endRovCoef p).memories = s.memories := by
  simp [State.endRovCoef]
@[simp] theorem endSkeinCoef_memories (s : State) (g n : Nat) : (s.endSkeinCoef g n).memories = s.memories := by
  simp [State.endSkeinCoef]
@[simp] theorem setFilt_memories (s : State) (p f : Nat) : (s.setFilt p f).memories = s.memories := by
  simp [State.setFilt]
@[simp] theorem resetShapers_memories (s : State) (p : Nat) (credit : Bool) : (s.resetShapers p credit).memories = s.memories := by
  simp [State.resetShapers]
@[simp] theorem partnerClock_memories (s : State) (p st : Nat) : (s.partnerClock p st).memories = s.memories := by
  simp [State.partnerClock]
@[simp] theorem setMode_memories (s : State) (p m : Nat) : (s.setMode p m).memories = s.memories := by
  simp [State.setMode]
@[simp] theorem leaveUp_memories (s : State) (p : Nat) : (s.leaveUp p).memories = s.memories := by
  simp [State.leaveUp]
@[simp] theorem stateFields_memories (s : State) (p st : Nat) : (s.stateFields p st).memories = s.memories := by
  simp [State.stateFields]
@[simp] theorem egressEntry_memories (s : State) (p st : Nat) : (s.egressEntry p st).memories = s.memories := by
  simp [State.egressEntry]
@[simp] theorem applyConfig_memories (s : State) (p : Nat) : (s.applyConfig p).memories = s.memories := by
  simp [State.applyConfig]
@[simp] theorem dstPortState_memories (s : State) (p st : Nat) : (s.dstPortState p st).memories = s.memories := by
  simp [State.dstPortState]
@[simp] theorem regainPort_memories (s : State) (p : Nat) : (s.regainPort p).memories = s.memories := by
  simp [State.regainPort]
@[simp] theorem regainSkein_memories (s : State) (k : Nat) : (s.regainSkein k).memories = s.memories := by
  simp [State.regainSkein]
@[simp] theorem withdrawWrite_memories (s : State) (p : Nat) : (s.withdrawWrite p).memories = s.memories := by
  cases h : s.skeinOf (lgOf p) (localOf p) <;> simp [State.withdrawWrite, h]
@[simp] theorem sweepAbort_memories (s : State) (p : Nat) : (s.sweepAbort p).memories = s.memories := by
  simp [State.sweepAbort]
@[simp] theorem testTurn_memories (s s0 : State) (p : Nat) : (s.testTurn s0 p).memories = s.memories := by
  simp [State.testTurn]
@[simp] theorem enter_memories (s : State) (p st : Nat) : (s.enter p st).memories = s.memories := by
  simp [State.enter]
@[simp] theorem cause_memories (s : State) (p c : Nat) : (s.cause p c).memories = s.memories := by
  simp [State.cause]
@[simp] theorem lossMemo_memories (s : State) (p c : Nat) : (s.lossMemo p c).memories = s.memories := by
  simp [State.lossMemo]
@[simp] theorem toListen_memories (s : State) (p : Nat) : (s.toListen p).memories = s.memories := by
  simp [State.toListen]
@[simp] theorem relisten_memories (s : State) (p : Nat) : (s.relisten p).memories = s.memories := by
  simp [State.relisten]
@[simp] theorem toDisabled_memories (s : State) (p : Nat) : (s.toDisabled p).memories = s.memories := by
  simp [State.toDisabled]
@[simp] theorem toSleep_memories (s : State) (p : Nat) : (s.toSleep p).memories = s.memories := by
  simp [State.toSleep]
@[simp] theorem muEcStart_memories (s : State) (p : Nat) : (s.muEcStart p).memories = s.memories := by
  simp [State.muEcStart]
@[simp] theorem coldHalves_memories (s : State) (p : Nat) : (s.coldHalves p).memories = s.memories := by
  simp [State.coldHalves]
@[simp] theorem setThresh_memories (s : State) (p : Nat) : (s.setThresh p).memories = s.memories := by
  simp [State.setThresh]
@[simp] theorem warmHalf_memories (s : State) (p : Nat) : (s.warmHalf p).memories = s.memories := by
  simp [State.warmHalf]
@[simp] theorem toTrain_memories (s : State) (p : Nat) : (s.toTrain p).memories = s.memories := by
  simp [State.toTrain]
@[simp] theorem attemptFail_memories (s : State) (p c : Nat) : (s.attemptFail p c).memories = s.memories := by
  simp [State.attemptFail]
@[simp] theorem armDetector_memories (s : State) (p : Nat) : (s.armDetector p).memories = s.memories := by
  simp [State.armDetector]
@[simp] theorem falseWake_memories (s : State) (p : Nat) : (s.falseWake p).memories = s.memories := by
  simp [State.falseWake]
@[simp] theorem sendPages_memories (s : State) (p : Nat) (l : List TxPage) : (s.sendPages p l).memories = s.memories := by
  simp [State.sendPages]
@[simp] theorem startAttempt_memories (s : State) (p : Nat) : (s.startAttempt p).memories = s.memories := by
  simp [State.startAttempt]
@[simp] theorem portFault_memories (s : State) (p : Nat) : (s.portFault p).memories = s.memories := by
  simp [State.portFault]
@[simp] theorem portQuadOff_memories (s : State) (p : Nat) : (s.portQuadOff p).memories = s.memories := by
  simp [State.portQuadOff]

/-! #### The data path of a port -/

@[simp] theorem updRx_memories (s : State) (p : Nat) (f : Rx → Rx) : (s.updRx p f).memories = s.memories := by
  simp [State.updRx]
@[simp] theorem updSym_memories (s : State) (p n : Nat) (f : Sym → Sym) : (s.updSym p n f).memories = s.memories := by
  simp [State.updSym]
@[simp] theorem slubHit_memories (s : State) (p n : Nat) : (s.slubHit p n).memories = s.memories := by
  simp [State.slubHit]
@[simp] theorem dataSym_memories (s : State) (p v : Nat) : (s.dataSym p v).2.memories = s.memories := by
  simp [State.dataSym]
@[simp] theorem sample_memories (s : State) (p n : Nat) : (s.sample p n).memories = s.memories := by
  simp [State.sample]
@[simp] theorem send_memories (s : State) (p n : Nat) : (s.send p n).memories = s.memories := by
  simp [State.send]
@[simp] theorem cancel_memories (s : State) (p n : Nat) : (s.cancel p n).memories = s.memories := by
  simp [State.cancel]
@[simp] theorem tentative_memories (s : State) (p n : Nat) : (s.tentative p n).memories = s.memories := by
  simp [State.tentative]
@[simp] theorem prbsBit_memories (s : State) (p b : Nat) : (s.prbsBit p b).memories = s.memories := by
  simp [State.prbsBit]
@[simp] theorem conclude_memories (s : State) (p n : Nat) : (s.conclude p n).memories = s.memories := by
  simp [State.conclude]
@[simp] theorem adaptWord_memories (s : State) (p k mu : Nat) (e x0 x1 : Int) : (s.adaptWord p k mu e x0 x1).memories = s.memories := by
  simp [State.adaptWord]
@[simp] theorem adapt_memories (s : State) (p n : Nat) : (s.adapt p n).memories = s.memories := by
  simp [State.adapt]
@[simp] theorem timing_memories (s : State) (p : Nat) (skip : Bool) : (s.timing p skip).memories = s.memories := by
  simp [State.timing]
@[simp] theorem snrAdd_memories (s : State) (p n : Nat) (skip : Bool) : (s.snrAdd p n skip).memories = s.memories := by
  simp [State.snrAdd]
@[simp] theorem d2Take_memories (s : State) (p n : Nat) : (s.d2Take p n).memories = s.memories := by
  simp [State.d2Take]
@[simp] theorem useGroup_memories (s : State) (p j : Nat) : (s.useGroup p j).memories = s.memories := by
  simp [State.useGroup]
@[simp] theorem wordBody_memories (s : State) (p kind a : Nat) : (s.wordBody p kind a).2.memories = s.memories := by
  simp [State.wordBody]
@[simp] theorem putCkp_memories (s : State) (k : Ckp) : (s.putCkp k).memories = s.memories := by
  simp [State.putCkp]
@[simp] theorem takeCkp_memories (s : State) (c : Nat) : (s.takeCkp c).memories = s.memories := by
  simp [State.takeCkp]
@[simp] theorem holdCkp_memories (s : State) (c : Nat) : (s.holdCkp c).memories = s.memories := by
  simp [State.holdCkp]
@[simp] theorem dstRecord_memories (s0 : State) (c p kind j n flags : Nat) (w : Word) :
    (s0.dstRecord c p kind j n flags w).memories = s0.memories := by
  simp [State.dstRecord]
@[simp] theorem emit_memories (s : State) (p stream : Nat) : (s.emit p stream).memories = s.memories := by
  simp [State.emit]

@[simp] theorem runFrom_memories (f : State → Nat → State) (h : ∀ s n, (f s n).memories = s.memories) (a n : Nat) (s : State) :
    (runFrom f a n s).memories = s.memories := by
  induction n generalizing a s with
  | zero => rfl
  | succ n ih => exact (ih _ _).trans (h s a)

@[simp] theorem rxSkip_memories (s : State) (p : Nat) : (s.rxSkip p).memories = s.memories := by
  simp [State.rxSkip]
@[simp] theorem tentDue_memories (s : State) (p : Nat) : (s.tentDue p).memories = s.memories := by
  simp [State.tentDue]
@[simp] theorem concludeDue_memories (s : State) (p : Nat) : (s.concludeDue p).memories = s.memories := by
  simp [State.concludeDue]
@[simp] theorem wordsLoops_memories (s : State) (p : Nat) : (s.wordsLoops p).memories = s.memories := by
  simp [State.wordsLoops]
@[simp] theorem symbolRound_memories (s : State) (due : List (Nat × Nat × Nat)) (i : Nat) : (s.symbolRound due i).memories = s.memories := by
  simp [State.symbolRound]
@[simp] theorem datapath_memories (s0 : State) : s0.datapath.memories = s0.memories := by
  simp [State.datapath]

/-! #### Domain entries and wakes -/

@[simp] theorem startWake_memories (s : State) (d : Nat) : (s.startWake d).memories = s.memories := by
  simp [State.startWake]
@[simp] theorem wakeDom_memories (s : State) (d : Nat) : (s.wakeDom d).memories = s.memories := by
  unfold State.wakeDom; split <;> simp
@[simp] theorem wakeOnDemand_memories (s : State) (d : Nat) : (s.wakeOnDemand d).memories = s.memories := by
  simp [State.wakeOnDemand]
@[simp] theorem crossDrop_memories (s : State) (d writer : Nat) : (s.crossDrop d writer).memories = s.memories := by
  simp [State.crossDrop]
@[simp] theorem refuseEntryAt_memories (s : State) (d unit : Nat) : (s.refuseEntryAt d unit).memories = s.memories := by
  simp [State.refuseEntryAt]
@[simp] theorem refuseEntry_memories (s : State) (d : Nat) : (s.refuseEntry d).memories = s.memories := by
  simp [State.refuseEntry]

/-! #### Training and link life -/

@[simp] theorem attemptEnd_memories (s : State) (p c : Nat) : (s.attemptEnd p c).memories = s.memories := by
  simp [State.attemptEnd]

@[simp] theorem resolve_memories (s : State) (p : Nat) (pg : AnPage) : (s.resolve p pg).memories = s.memories := by
  unfold State.resolve
  extract_lets
  split
  · simp
  · split <;> simp

@[simp] theorem takePage_memories (s : State) (p : Nat) (pg : AnPage) : (s.takePage p pg).memories = s.memories := by
  simp [State.takePage]
@[simp] theorem skeinSlave_memories (s : State) (p : Nat) : (s.skeinSlave p).memories = s.memories := by
  unfold State.skeinSlave; split <;> simp
@[simp] theorem muEcEnd_memories (s : State) (p : Nat) : (s.muEcEnd p).memories = s.memories := by
  simp [State.muEcEnd]
@[simp] theorem toUp_memories (s : State) (p : Nat) : (s.toUp p).memories = s.memories := by
  simp [State.toUp]
@[simp] theorem linkLoss_memories (s : State) (p : Nat) : (s.linkLoss p).memories = s.memories := by
  simp [State.linkLoss]
@[simp] theorem enterRoving_memories (s : State) (p : Nat) : (s.enterRoving p).memories = s.memories := by
  simp [State.enterRoving]
@[simp] theorem plcaMove_memories (s : State) (p : Nat) : (s.plcaMove p).memories = s.memories := by
  simp [State.plcaMove]
@[simp] theorem plcaSent_memories (s : State) (p : Nat) : (s.plcaSent p).memories = s.memories := by
  simp [State.plcaSent]
@[simp] theorem hiSer_memories (s : State) (p : Nat) : (s.hiSer p).memories = s.memories := by
  simp [State.hiSer]
@[simp] theorem lpiBits_memories (s : State) (p : Nat) (tx rx : Bool) : (s.lpiBits p tx rx).memories = s.memories := by
  simp [State.lpiBits]
@[simp] theorem leaveLpi_memories (s : State) (p : Nat) : (s.leaveLpi p).memories = s.memories := by
  simp [State.leaveLpi]
@[simp] theorem sleepNow_memories (s : State) (p : Nat) : (s.sleepNow p).memories = s.memories := by
  simp [State.sleepNow]

theorem askSleep_memories {s t : State} {p : Nat} (h : s.askSleep p = some t) : t.memories = s.memories := by
  simp only [State.askSleep, Option.ite_none_left_eq_some, Option.some.injEq] at h
  simp [← h.2]

@[simp] theorem wakeEnter_memories (s : State) (p : Nat) : (s.wakeEnter p).memories = s.memories := by
  simp [State.wakeEnter]
@[simp] theorem wakePort_memories (s : State) (p k : Nat) (loc : Bool) : (s.wakePort p k loc).memories = s.memories := by
  simp [State.wakePort]
@[simp] theorem localWake_memories (s : State) (p : Nat) : (s.localWake p).memories = s.memories := by
  simp [State.localWake]

/-! #### Recalibration and the receive path -/

@[simp] theorem setGain_memories (s : State) (p g : Nat) : (s.setGain p g).memories = s.memories := by
  simp [State.setGain]
@[simp] theorem adcRecal_memories (s : State) (p seq : Nat) : (s.adcRecal p seq).memories = s.memories := by
  simp [State.adcRecal]
@[simp] theorem refuseCsw_memories (s : State) (p reason : Nat) : (s.refuseCsw p reason).memories = s.memories := by
  simp [State.refuseCsw]
@[simp] theorem copyHalf_memories (s : State) (p : Nat) : (s.copyHalf p).memories = s.memories := by
  simp [State.copyHalf]
@[simp] theorem endPortCsw_memories (s : State) (p : Nat) (k : OpKind) : (s.endPortCsw p k).memories = s.memories := by
  simp [State.endPortCsw]
@[simp] theorem slubTrigger_memories (s : State) (p len : Nat) : (s.slubTrigger p len).memories = s.memories := by
  simp [State.slubTrigger]

@[simp] theorem slubStart_memories (s : State) (p : Nat) : (s.slubStart p).memories = s.memories := by
  simp only [State.slubStart]
  split
  · rfl
  · split <;> simp

@[simp] theorem slubEnd_memories (s : State) (p : Nat) : (s.slubEnd p).memories = s.memories := by
  simp [State.slubEnd]
@[simp] theorem snrOf_memories (s : State) (p count sumSq : Nat) : (s.snrOf p count sumSq).2.memories = s.memories := by
  unfold State.snrOf; split <;> simp
@[simp] theorem sqiAlarm_memories (s : State) (p old new : Nat) : (s.sqiAlarm p old new).memories = s.memories := by
  simp [State.sqiAlarm]

/-! #### Skeins -/

@[simp] theorem skeinWrite_memories (s : State) (g n : Nat) (v : Word) : (s.skeinWrite g n v).2.memories = s.memories := by
  simp [State.skeinWrite]
@[simp] theorem skJoin_memories (s : State) (g n i : Nat) : (s.skJoin g n i).memories = s.memories := by
  simp [State.skJoin]
@[simp] theorem refuseSk_memories (s : State) (g reason : Nat) : (s.refuseSk g reason).memories = s.memories := by
  simp [State.refuseSk]
@[simp] theorem refuseSkSwap_memories (s : State) (g reason : Nat) : (s.refuseSkSwap g reason).memories = s.memories := by
  simp [State.refuseSkSwap]
@[simp] theorem sealSlot_memories (s : State) (g n h i : Nat) : (s.sealSlot g n h i).memories = s.memories := by
  simp [State.sealSlot]

/-! #### Roving and carding -/

@[simp] theorem setFn_memories (s : State) (p v : Nat) : (s.setFn p v).memories = s.memories := by
  simp [State.setFn]
@[simp] theorem setOwnSnr_memories (s : State) (p : Nat) (v : BitVec 16) : (s.setOwnSnr p v).memories = s.memories := by
  simp [State.setOwnSnr]
@[simp] theorem setFarSnr_memories (s : State) (p : Nat) (v : BitVec 16) : (s.setFarSnr p v).memories = s.memories := by
  simp [State.setFarSnr]
@[simp] theorem updRov_memories (s : State) (p : Nat) (f : Roving → Roving) : (s.updRov p f).memories = s.memories := by
  simp [State.updRov]
@[simp] theorem setPhase_memories (s : State) (p v : Nat) : (s.setPhase p v).memories = s.memories := by
  simp [State.setPhase]
@[simp] theorem setGrid_memories (s : State) (p t fn : Nat) : (s.setGrid p t fn).memories = s.memories := by
  simp [State.setGrid]
@[simp] theorem regrid_memories (s : State) (p : Nat) : (s.regrid p).memories = s.memories := by
  unfold State.regrid; split <;> simp

@[simp] theorem rovTakes_memories (s : State) (p code : Nat) (frame : List Byte) (act : List Byte → State) (h : ∀ fs, (act fs).memories = s.memories) :
    (s.rovTakes p code frame act).memories = s.memories := by
  unfold State.rovTakes
  split
  · split <;> simp [h]
  · rfl

@[simp] theorem rovSend_memories (s : State) (p code : Nat) (fields : List (Nat × Nat)) : (s.rovSend p code fields).memories = s.memories := by
  simp [State.rovSend]

@[simp] theorem rovRefill_memories (s : State) (p : Nat) : (s.rovRefill p).memories = s.memories := by
  simp only [State.rovRefill]
  split
  · rfl
  · split
    · simp
    · split
      · split
        · rfl
        · split <;> simp
      · rfl

@[simp] theorem rovBytes_memories (s : State) (p n : Nat) : (s.rovBytes p n).2.memories = s.memories := by
  induction n generalizing s with
  | zero => rfl
  | succ n ih => simp [State.rovBytes, ih]

@[simp] theorem rovBlock_memories (s : State) (p : Nat) (bytes : List Byte) : (s.rovBlock p bytes).memories = s.memories := by
  simp [State.rovBlock]

@[simp] theorem rovFill_memories (s : State) (p n : Nat) : (s.rovFill p n).memories = s.memories := by
  induction n generalizing s with
  | zero => rfl
  | succ n ih => simp [State.rovFill, ih]

@[simp] theorem rovDrain_memories (s : State) (p t : Nat) : (s.rovDrain p t).memories = s.memories := by
  simp [State.rovDrain]
@[simp] theorem rovHear_memories (s : State) (p o t : Nat) : (s.rovHear p o t).memories = s.memories := by
  simp [State.rovHear]
@[simp] theorem rovLinkNow_memories (s : State) (p : Nat) : (s.rovLinkNow p).memories = s.memories := by
  unfold State.rovLinkNow; split <;> simp
@[simp] theorem rovPreamble_memories (s : State) (p o : Nat) : (s.rovPreamble p o).memories = s.memories := by
  simp [State.rovPreamble]
@[simp] theorem rovTick_memories (s0 : State) (p : Nat) : (s0.rovTick p).memories = s0.memories := by
  cases h : ((s0.rovLinkNow p).port p).rov.org <;> simp [State.rovTick, h]
@[simp] theorem acquire_memories (s : State) (p : Nat) : (s.acquire p).memories = s.memories := by
  simp [State.acquire]
@[simp] theorem toRoving_memories (s : State) (p : Nat) : (s.toRoving p).memories = s.memories := by
  simp [State.toRoving]
@[simp] theorem rechoose_memories (s : State) (p : Nat) : (s.rechoose p).memories = s.memories := by
  simp only [State.rechoose]; split <;> simp
@[simp] theorem rovSwitch_memories (s : State) (p i : Nat) : (s.rovSwitch p i).memories = s.memories := by
  simp [State.rovSwitch]
@[simp] theorem sendSnrrep_memories (s : State) (p : Nat) (own : BitVec 16) : (s.sendSnrrep p own).memories = s.memories := by
  simp [State.sendSnrrep]
@[simp] theorem rovAttempt_memories (s : State) (p : Nat) : (s.rovAttempt p).memories = s.memories := by
  simp [State.rovAttempt]
@[simp] theorem windowClose_memories (s : State) (p : Nat) : (s.windowClose p).memories = s.memories := by
  simp [State.windowClose]

@[simp] theorem writeCardEvents_memories (s : State) (p vf : Nat) (l : List CardPeak) (k : Nat) :
    (s.writeCardEvents p vf l k).memories = s.memories := by
  induction l generalizing s k with
  | nil => simp [State.writeCardEvents]
  | cons x t ih => simp [State.writeCardEvents, ih]

@[simp] theorem sweepEnd_memories (s : State) (p : Nat) : (s.sweepEnd p).memories = s.memories := by
  simp [State.sweepEnd]
@[simp] theorem sweepStart_memories (s : State) (p : Nat) : (s.sweepStart p).memories = s.memories := by
  simp [State.sweepStart]
@[simp] theorem fpRise_memories (s : State) (p old new extra : Nat) : (s.fpRise p old new extra).memories = s.memories := by
  simp [State.fpRise]
@[simp] theorem fpTrends_memories (s : State) (p : Nat) : (s.fpTrends p).memories = s.memories := by
  simp [State.fpTrends]
@[simp] theorem fpCompare_memories (s : State) (p : Nat) : (s.fpCompare p).memories = s.memories := by
  simp [State.fpCompare]
@[simp] theorem fpRefuse_memories (s : State) (p : Nat) : (s.fpRefuse p).memories = s.memories := by
  simp [State.fpRefuse]
@[simp] theorem snapshot_memories (s : State) (p : Nat) : (s.snapshot p).memories = s.memories := by
  simp [State.snapshot]

/-! #### Gate lists -/

@[simp] theorem setGcl_memories (s : State) (l : Nat) (x : Gcl) : (s.setGcl l x).memories = s.memories := by
  simp [State.setGcl]
@[simp] theorem glCtlWrite_memories (s : State) (l : Nat) (v : Word) : (s.glCtlWrite l v).2.memories = s.memories := by
  simp [State.glCtlWrite]
@[simp] theorem glAdminWrite_memories (s : State) (l a : Nat) (v : Word) : (s.glAdminWrite l a v).2.memories = s.memories := by
  simp [State.glAdminWrite]
@[simp] theorem glDoSwap_memories (s : State) (l : Nat) : (s.glDoSwap l).memories = s.memories := by
  simp [State.glDoSwap]

/-! #### Admission, policers and shapers -/

@[simp] theorem setPol_memories (s : State) (st : Nat) (b : Option Bucket) : (s.setPol st b).memories = s.memories := by
  simp [State.setPol]
@[simp] theorem setMet_memories (s : State) (m k : Nat) (b : Option Bucket) : (s.setMet m k b).memories = s.memories := by
  simp [State.setMet]
@[simp] theorem police_memories (s : State) (st inc l t : Nat) : (s.police st inc l t).2.memories = s.memories := by
  simp [State.police]
@[simp] theorem meter_memories (s : State) (m inc l t : Nat) : (s.meter m inc l t).2.memories = s.memories := by
  simp [State.meter]
@[simp] theorem colourOf_memories (s : State) (st ident tag : Nat) (bs : List Byte) : (s.colourOf st ident tag bs).2.memories = s.memories := by
  simp [State.colourOf]
@[simp] theorem shSync_memories (s : State) (e q : Nat) : (s.shSync e q).memories = s.memories := by
  simp [State.shSync]
@[simp] theorem shGates_memories (s : State) (e : Nat) : (s.shGates e).memories = s.memories := by
  simp [State.shGates]
@[simp] theorem shStart_memories (s : State) (e q : Nat) : (s.shStart e q).memories = s.memories := by
  simp [State.shStart]
@[simp] theorem shDebit_memories (s : State) (e q len : Nat) : (s.shDebit e q len).memories = s.memories := by
  simp [State.shDebit]
@[simp] theorem enqueue_memories (s : State) (e q fid : Nat) : (s.enqueue e q fid).memories = s.memories := by
  simp [State.enqueue]
@[simp] theorem admitCopy_memories (s : State) (e q c fid need free : Nat) : (s.admitCopy e q c fid need free).2.memories = s.memories := by
  simp [State.admitCopy]

@[simp] theorem admitAll_memories (s : State) (q c fid need free : Nat) (l : List Nat) :
    (s.admitAll q c fid need free l).2.memories = s.memories := by
  induction l generalizing s with
  | nil => rfl
  | cons e t ih => simp [State.admitAll, ih]

@[simp] theorem toSpn_memories (s : State) (n : Nat) (d : Desc) (pri : Nat) (bs : List Byte) (fid : Nat) :
    (s.toSpn n d pri bs fid).memories = s.memories := by
  simp [State.toSpn]
@[simp] theorem wakeTaken_memories (s : State) (l : List Nat) : (s.wakeTaken l).memories = s.memories := by
  simp [State.wakeTaken]
@[simp] theorem xdrop_memories (s : State) (src : Nat) : (s.xdrop src).memories = s.memories := by
  simp [State.xdrop]

/-! #### Frames through the traffic manager -/

@[simp] theorem csmaFree_memories (s : State) (p : Nat) : (s.csmaFree p).memories = s.memories := by
  simp [State.csmaFree]
@[simp] theorem csmaCollide_memories (s : State) (p : Nat) : (s.csmaCollide p).memories = s.memories := by
  simp [State.csmaCollide]
@[simp] theorem segmentFrame_memories (s : State) (p : Nat) (commit : Bool) : (s.segmentFrame p commit).memories = s.memories := by
  simp [State.segmentFrame]
@[simp] theorem closeHeld_memories (s : State) (e : Nat) : (s.closeHeld e).memories = s.memories := by
  simp [State.closeHeld]

@[simp] theorem markHeld_memories (s : State) (e : Nat) : (s.markHeld e).memories = s.memories := by
  refine forAll_memories _ (fun t q => ?_) _ _
  split <;> simp

@[simp] theorem markCredit_memories (s : State) (e : Nat) : (s.markCredit e).memories = s.memories := by
  unfold State.markCredit
  split
  · rfl
  · refine forAll_memories _ (fun t q => ?_) _ _
    split <;> simp

@[simp] theorem startTx_memories (s : State) (e q fid : Nat) : (s.startTx e q fid).memories = s.memories := by
  simp [State.startTx]

@[simp] theorem select_memories (s : State) (e n : Nat) : (s.select e n).memories = s.memories := by
  induction n generalizing s with
  | zero => rfl
  | succ n ih =>
    simp only [State.select, memories_ite]
    split
    · rfl
    · split
      · rfl
      · split
        · simp [ih]
        · split
          · split <;> simp
          · simp [ih]

@[simp] theorem sendMgmt_memories (s : State) (bs : List Byte) (rest : List (List Byte)) : (s.sendMgmt bs rest).memories = s.memories := by
  simp [State.sendMgmt]
@[simp] theorem laneSent_memories (s : State) (n : Nat) : (s.laneSent n).memories = s.memories := by
  unfold State.laneSent; split <;> simp

/-! #### Host lanes -/

@[simp] theorem setLst_memories (s : State) (n v : Nat) : (s.setLst n v).memories = s.memories := by
  simp [State.setLst]
@[simp] theorem setAligned_memories (s : State) (n : Nat) (b : Bool) : (s.setAligned n b).memories = s.memories := by
  simp [State.setAligned]
@[simp] theorem stopTx_memories (s : State) (n : Nat) : (s.stopTx n).memories = s.memories := by
  simp [State.stopTx]
@[simp] theorem abortTx_memories (s : State) (n : Nat) : (s.abortTx n).memories = s.memories := by
  unfold State.abortTx; split <;> simp
@[simp] theorem bringUp_memories (s : State) (n : Nat) : (s.bringUp n).memories = s.memories := by
  simp [State.bringUp]
@[simp] theorem restartBu_memories (s : State) (n : Nat) : (s.restartBu n).memories = s.memories := by
  simp [State.restartBu]
@[simp] theorem laneOff_memories (s : State) (n : Nat) : (s.laneOff n).memories = s.memories := by
  simp [State.laneOff]
@[simp] theorem unalign_memories (s : State) (n : Nat) : (s.unalign n).memories = s.memories := by
  simp [State.unalign]
@[simp] theorem laneLoss_memories (s : State) (n bit cnt info : Nat) : (s.laneLoss n bit cnt info).memories = s.memories := by
  simp [State.laneLoss]
@[simp] theorem laneNover_memories (s : State) (n : Nat) : (s.laneNover n).memories = s.memories := by
  simp [State.laneNover]
@[simp] theorem sleptNotLost_memories (s : State) (n : Nat) : (s.sleptNotLost n).memories = s.memories := by
  simp [State.sleptNotLost]
@[simp] theorem capNotices_memories (s0 : State) (n : Nat) (bytes : List Byte) : (s0.capNotices n bytes).memories = s0.memories := by
  simp [State.capNotices]
@[simp] theorem sendSet_memories (s : State) (n : Nat) (bs : List Byte) : (s.sendSet n bs).memories = s.memories := by
  simp [State.sendSet]
@[simp] theorem rxPowerDown_memories (s : State) (n : Nat) : (s.rxPowerDown n).memories = s.memories := by
  simp [State.rxPowerDown]
@[simp] theorem noticeSent_memories (s : State) (n : Nat) : (s.noticeSent n).memories = s.memories := by
  simp [State.noticeSent]
@[simp] theorem grant_memories (s : State) (n q v : Nat) : (s.grant n q v).memories = s.memories := by
  simp [State.grant]
@[simp] theorem slipBy_memories (s : State) (n k : Nat) : (s.slipBy n k).memories = s.memories := by
  simp [State.slipBy]
@[simp] theorem enterRun_memories (s : State) (n : Nat) : (s.enterRun n).memories = s.memories := by
  simp [State.enterRun]
@[simp] theorem alignUp_memories (s : State) (n : Nat) : (s.alignUp n).memories = s.memories := by
  simp [State.alignUp]
@[simp] theorem lanesClockFail_memories (s : State) : s.lanesClockFail.memories = s.memories := by
  simp [State.lanesClockFail]
@[simp] theorem groupsIn_memories (s : State) (n : Nat) (gs : List (BitVec 10)) : (s.groupsIn n gs).memories = s.memories := by
  simp [State.groupsIn]
@[simp] theorem laneTxSleep_memories (s : State) (n : Nat) (on : Bool) : (s.laneTxSleep n on).memories = s.memories := by
  simp [State.laneTxSleep]
@[simp] theorem laneRxSleep_memories (s : State) (n : Nat) (on : Bool) : (s.laneRxSleep n on).memories = s.memories := by
  simp [State.laneRxSleep]
@[simp] theorem hlCtlWrite_memories (s : State) (n : Nat) (v : Word) : (s.hlCtlWrite n v).2.memories = s.memories := by
  simp [State.hlCtlWrite]

/-! #### Replay -/

@[simp] theorem updReplay_memories (s : State) (g : Nat) (f : Replay → Replay) : (s.updReplay g f).memories = s.memories := by
  simp [State.updReplay]
@[simp] theorem repKeep_memories (s t : State) (g : Nat) : (s.repKeep t g).memories = s.memories := by
  simp [State.repKeep]
@[simp] theorem repDiff_memories (s : State) (g n : Nat) (first : Nat × Nat) : (s.repDiff g n first).memories = s.memories := by
  simp [State.repDiff]
@[simp] theorem repDo_memories (s : State) (g : Nat) (f : State → State) : (s.repDo g f).memories = s.memories := by
  simp [State.repDo]
@[simp] theorem repLoad_memories (s : State) (g : Nat) : (s.repLoad g).memories = s.memories := by
  simp [State.repLoad]
@[simp] theorem repTick_memories (s : State) (g : Nat) : (s.repTick g).memories = s.memories := by
  simp [State.repTick]
@[simp] theorem repEnd_memories (s : State) (g : Nat) : (s.repEnd g).memories = s.memories := by
  simp [State.repEnd]
@[simp] theorem repSwap_memories (s : State) (g v : Nat) : (s.repSwap g v).2.memories = s.memories := by
  simp [State.repSwap]

/-! #### Knots -/

@[simp] theorem bumpEpoch_memories (s : State) (c : Nat) : (s.bumpEpoch c).memories = s.memories := by
  simp [State.bumpEpoch]
@[simp] theorem bumpHostEpoch_memories (s : State) : s.bumpHostEpoch.memories = s.memories := by
  simp [State.bumpHostEpoch]
@[simp] theorem setWaiters_memories (s : State) (k : Nat) (l : List (Nat × Nat)) : (s.setWaiters k l).memories = s.memories := by
  simp [State.setWaiters]
@[simp] theorem setLeaseEnd_memories (s : State) (k t : Nat) : (s.setLeaseEnd k t).memories = s.memories := by
  simp [State.setLeaseEnd]
@[simp] theorem takeKnot_memories (s : State) (k owner : Nat) : (s.takeKnot k owner).memories = s.memories := by
  simp [State.takeKnot]
@[simp] theorem freeKnot_memories (s : State) (k : Nat) : (s.freeKnot k).memories = s.memories := by
  simp [State.freeKnot]
@[simp] theorem breakKnot_memories (s : State) (k : Nat) : (s.breakKnot k).memories = s.memories := by
  simp [State.breakKnot]
@[simp] theorem breakKnots_memories (s : State) (owner : Nat) : (s.breakKnots owner).memories = s.memories := by
  simp [State.breakKnots]
@[simp] theorem dropWaiter_memories (s : State) (n : Nat) : (s.dropWaiter n).memories = s.memories := by
  simp [State.dropWaiter]

/-! #### Operands -/

@[simp] theorem dmRead_memories (s : State) (n k : Nat) : (s.dmRead n k).2.memories = s.memories := by
  simp [State.dmRead]
@[simp] theorem imRead_memories (s : State) (n k : Nat) : (s.imRead n k).2.memories = s.memories := by
  simp [State.imRead]

@[simp] theorem dmsRead_memories (s : State) (n k m : Nat) : (s.dmsRead n k m).2.memories = s.memories := by
  induction m generalizing s k with
  | zero => rfl
  | succ m ih => simp [State.dmsRead, ih]

/-! #### Spindles -/

@[simp] theorem haltSpn_memories (s : State) (n : Nat) : (s.haltSpn n).memories = s.memories := by
  simp [State.haltSpn]
@[simp] theorem except_memories (s : State) (n code info : Nat) : (s.except n code info).memories = s.memories := by
  simp [State.except]
@[simp] theorem fetched_memories (s : State) (pc : Nat) : (s.fetched pc).memories = s.memories := by
  simp [State.fetched]

/-- What an instruction does to the spindle leaves the memories `x`. -/
def Act.Memories (x : Tab Word × Tab Byte) : Act → Prop
  | .retire t | .jump t _ => t.memories = x
  | _ => True

@[simp] theorem Act.memories_retire (x : Tab Word × Tab Byte) (t : State) : (Act.retire t).Memories x ↔ t.memories = x := Iff.rfl
@[simp] theorem Act.memories_jump (x : Tab Word × Tab Byte) (t : State) (pc : Nat) : (Act.jump t pc).Memories x ↔ t.memories = x := Iff.rfl
@[simp] theorem Act.memories_raise (x : Tab Word × Tab Byte) (code info : Nat) : (Act.raise code info).Memories x := trivial
@[simp] theorem Act.memories_stall (x : Tab Word × Tab Byte) : Act.stall.Memories x := trivial
@[simp] theorem Act.memories_hold (x : Tab Word × Tab Byte) : Act.hold.Memories x := trivial

@[simp] theorem Act.memories_ite (x : Tab Word × Tab Byte) (c : Prop) [Decidable c] (a b : Act) :
    (if c then a else b).Memories x ↔ if c then a.Memories x else b.Memories x := by split <;> rfl

@[simp] theorem apply_memories (s : State) (n : Nat) (a : Act) (h : a.Memories s.memories) : (s.apply n a).memories = s.memories := by
  cases a with
  | retire t => simpa [State.apply] using h
  | jump t pc => simpa [State.apply] using h
  | raise code info => simp [State.apply]
  | stall => simp [State.apply]
  | hold => rfl

@[simp] theorem issue_memories (s : State) (n opc : Nat) (w : BitVec 40) (ok : Bool) (regs : List Nat) (ahead : Bool) (act : State → Act)
    (h : ∀ t, (act t).Memories t.memories) : (s.issue n opc w ok regs ahead act).memories = s.memories := by
  have hs : ∀ c : Bool, ((if c then s.bump (Reg.SPN_ECCCOR n) else s).apply n
      (act (if c then s.bump (Reg.SPN_ECCCOR n) else s))).memories = s.memories := by
    intro c
    rw [apply_memories _ _ _ (h _)]
    simp
  simp only [State.issue]
  split
  · rfl
  · split <;> simp [hs]

@[simp] theorem specCan_memories (s : State) (n : Nat) (l : List Nat) : (s.specCan n l).memories = s.memories := by
  simp [State.specCan]
@[simp] theorem pathCounts_memories (s : State) (n : Nat) (c : Ckpt) : (s.pathCounts n c).memories = s.memories := by
  simp [State.pathCounts]
@[simp] theorem resolveBranch_memories (s : State) (n : Nat) : (s.resolveBranch n).memories = s.memories := by
  simp only [State.resolveBranch]; split <;> simp
@[simp] theorem finishTag_memories (s : State) (n t status : Nat) (data : Word) : (s.finishTag n t status data).memories = s.memories := by
  simp only [State.finishTag]; split <;> simp

/-! #### Scalar instructions -/

@[simp] theorem retGr_memories (s : State) (n d : Nat) (v : Word) : (s.retGr n d v).Memories s.memories := by
  simp [State.retGr]

@[simp] theorem issueRR_memories (s : State) (n opc : Nat) (w : BitVec 40) (f : Word → Word → Word) : (s.issueRR n opc w f).memories = s.memories :=
  issue_memories _ _ _ _ _ _ _ _ (fun t => by simp)
@[simp] theorem issueRI_memories (s : State) (n opc : Nat) (w : BitVec 40) (f : Word → Word → Word) : (s.issueRI n opc w f).memories = s.memories :=
  issue_memories _ _ _ _ _ _ _ _ (fun t => by simp)

@[simp] theorem localAct_memories (s : State) (n ea m : Nat) (store : Bool) (f : Nat → Spindle → Spindle) :
    (s.localAct n ea m store f).Memories s.memories := by
  rcases h : (s.spn n).eccScan (ea - dmemBase) m with ⟨c, _ | j⟩ <;> simp [State.localAct, h]

@[simp] theorem predict_memories (s : State) (n opc ra rb : Nat) (off : Word) : (s.predict n opc ra rb off).Memories s.memories := by
  simp only [State.predict]
  split <;> simp

@[simp] theorem issueB_memories (s : State) (n opc : Nat) (w : BitVec 40) : (s.issueB n opc w).memories = s.memories := by
  refine issue_memories _ _ _ _ _ _ _ _ (fun t => ?_)
  dsimp only
  split
  · simp
  · split <;> simp

/-! #### Tagged operations -/

@[simp] theorem setTag_memories (s : State) (n t : Nat) (o : TagOp) : (s.setTag n t o).memories = s.memories := by
  simp [State.setTag]
@[simp] theorem specLoad_memories (s : State) (n ea : Nat) : (s.specLoad n ea).memories = s.memories := by
  simp [State.specLoad]

@[simp] theorem reach_memories (s : State) (n t d : Nat) : (s.reach n t d).memories = s.memories := by
  unfold State.reach
  split
  · rfl
  · split
    · rfl
    · split <;> simp

@[simp] theorem acceptCsw_memories (s : State) (n t : Nat) : (s.acceptCsw n t).memories = s.memories := by
  unfold State.acceptCsw
  split
  · rfl
  · split
    · rfl
    · split
      · split
        · simp
        · split <;> simp
      · simp

@[simp] theorem acceptAll_memories (s : State) (n : Nat) : (s.acceptAll n).memories = s.memories := by
  refine forAll_memories _ (fun u t => ?_) _ _
  split <;> simp

@[simp] theorem lckReach_memories (s : State) (n t k : Nat) (try_ : Bool) : (s.lckReach n t k try_).memories = s.memories := by
  unfold State.lckReach; split <;> simp

@[simp] theorem launch_memories (x : Tab Word × Tab Byte) (s : State) (n t : Nat) (o : TagOp) (post : State → State) (hs : s.memories = x)
    (h : ∀ u, (post u).memories = u.memories) : (s.launch n t o post).Memories x := by
  unfold State.launch
  split <;> simp [h, hs]

@[simp] theorem issueCsw_memories (s : State) (n : Nat) (w : BitVec 40) (k : OpKind) : (s.issueCsw n w k).memories = s.memories :=
  issue_memories _ _ _ _ _ _ _ _ (fun t => by simp)

/-! #### Clocks and time -/

@[simp] theorem relQuiet_memories (s : State) (p : Nat) : (s.relQuiet p).memories = s.memories := by
  simp [State.relQuiet]
@[simp] theorem loopBack_memories (s : State) (g : Nat) (low : Bool) : (s.loopBack g low).memories = s.memories := by
  simp [State.loopBack]
@[simp] theorem afterSwitch_memories (s : State) (old : Word) : (s.afterSwitch old).memories = s.memories := by
  simp [State.afterSwitch]
@[simp] theorem ackReady_memories (s : State) : s.ackReady.memories = s.memories := by
  simp [State.ackReady]
@[simp] theorem activate_memories (s : State) (bits : Word) : (s.activate bits).memories = s.memories := by
  simp [State.activate]
@[simp] theorem moveTo_memories (s : State) (bits : Word) : (s.moveTo bits).memories = s.memories := by
  simp [State.moveTo]
@[simp] theorem bootMove_memories (s : State) : s.bootMove.memories = s.memories := by
  simp [State.bootMove]
@[simp] theorem lgClockFaults_memories (s : State) (src : Nat) : (s.lgClockFaults src).memories = s.memories := by
  simp [State.lgClockFaults]
@[simp] theorem unready_memories (s : State) (src : Nat) : (s.unready src).memories = s.memories := by
  simp [State.unready]
@[simp] theorem failOne_memories (s : State) (src why : Nat) : (s.failOne src why).memories = s.memories := by
  simp [State.failOne]
@[simp] theorem refLost_memories (s : State) (x k : Nat) : (s.refLost x k).memories = s.memories := by
  simp [State.refLost]
@[simp] theorem sourceFail_memories (s : State) (src why : Nat) : (s.sourceFail src why).memories = s.memories := by
  simp [State.sourceFail]
@[simp] theorem srcselWrite_memories (s : State) (w : Word) : (s.srcselWrite w).2.memories = s.memories := by
  unfold State.srcselWrite; split <;> simp
@[simp] theorem loopStop_memories (s : State) (k : Nat) : (s.loopStop k).memories = s.memories := by
  simp [State.loopStop]
@[simp] theorem pllctlWrite_memories (s : State) (k : Nat) (w : Word) : (s.pllctlWrite k w).2.memories = s.memories := by
  simp [State.pllctlWrite]
@[simp] theorem timeCtlWrite_memories (s : State) (v : Word) : (s.timeCtlWrite v).memories = s.memories := by
  simp [State.timeCtlWrite]
@[simp] theorem ppscfgWrite_memories (s : State) (v : Word) : (s.ppscfgWrite v).memories = s.memories := by
  simp [State.ppscfgWrite]

/-! #### The distaff -/

@[simp] theorem dstArmNow_memories (s : State) : s.dstArmNow.memories = s.memories := by
  simp only [State.dstArmNow, forAll_memories, takeCkp_memories, implies_true, memories_mk, memories_fold]
  simp

@[simp] theorem dstStop_memories (s : State) (c : Nat) : (s.dstStop c).memories = s.memories := by
  simp [State.dstStop]

@[simp] theorem repCtlWrite_memories (s : State) (g : Nat) (v : Word) : (s.repCtlWrite g v).memories = s.memories := by
  simp [State.repCtlWrite]

/-! #### Replies -/

@[simp] theorem setReply_memories (s : State) (r status addr : Nat) (data : Word) : (s.setReply r status addr data).memories = s.memories := by
  simp [State.setReply]
@[simp] theorem sendInband_memories (s : State) : s.sendInband.memories = s.memories := by
  simp [State.sendInband]
@[simp] theorem deliver_memories (s : State) (r : Nat) (k : Sink) (status addr : Nat) (data : Word) (read : Bool) :
    (s.deliver r k status addr data read).memories = s.memories := by
  simp only [State.deliver]; split <;> simp
@[simp] theorem firstAbsent_memories (s : State) (r : Nat) : (s.firstAbsent r).memories = s.memories := by
  unfold State.firstAbsent; split <;> simp

/-! #### Spindle control -/

@[simp] theorem startSpn_memories (s : State) (n : Nat) : (s.startSpn n).memories = s.memories := by
  simp [State.startSpn]
@[simp] theorem spnCtlWrite_memories (s : State) (n : Nat) (v : Word) : (s.spnCtlWrite n v).2.memories = s.memories := by
  simp [State.spnCtlWrite]
@[simp] theorem setPreq_memories (s : State) (r a : Nat) (v : Word) : (s.setPreq r a v).memories = s.memories := by
  simp [State.setPreq]
@[simp] theorem imAccess_memories (s : State) (r n : Nat) (write : Option Word) : (s.imAccess r n write).2.memories = s.memories := by
  unfold State.imAccess; split <;> simp
@[simp] theorem dmAccess_memories (s : State) (r n : Nat) (write : Option Word) : (s.dmAccess r n write).2.memories = s.memories := by
  unfold State.dmAccess; split <;> simp

/-! #### Power -/

@[simp] theorem cmdsAbsent_memories (s : State) (d : Nat) : (s.cmdsAbsent d).memories = s.memories := by
  simp [State.cmdsAbsent]
@[simp] theorem requestsAbsent_memories (s : State) (d : Nat) : (s.requestsAbsent d).memories = s.memories := by
  simp [State.requestsAbsent]
@[simp] theorem dropRegs_memories (s : State) (d : Nat) (ret : Bool) : (s.dropRegs d ret).memories = s.memories := by
  simp [State.dropRegs]
@[simp] theorem quadLeave_memories (s : State) (d : Nat) (ret : Bool) : (s.quadLeave d ret).memories = s.memories := by
  simp [State.quadLeave]
@[simp] theorem groupLeave_memories (s : State) (d : Nat) (ret : Bool) : (s.groupLeave d ret).memories = s.memories := by
  simp [State.groupLeave]
@[simp] theorem clusterLeave_memories (s : State) (d : Nat) (ret : Bool) : (s.clusterLeave d ret).memories = s.memories := by
  simp [State.clusterLeave]
@[simp] theorem cellLoss_memories (s : State) (b : Nat) : (s.cellLoss b).memories = s.memories := by
  simp [State.cellLoss]
@[simp] theorem stateLoss_memories (s0 : State) : s0.stateLoss.memories = s0.memories := by
  simp [State.stateLoss]
@[simp] theorem hostQuadLeave_memories (s : State) (d : Nat) (ret : Bool) : (s.hostQuadLeave d ret).memories = s.memories := by
  simp [State.hostQuadLeave]
@[simp] theorem tmLeave_memories (s : State) (d : Nat) (ret : Bool) : (s.tmLeave d ret).memories = s.memories := by
  simp [State.tmLeave]
@[simp] theorem distaffLeave_memories (s : State) (d : Nat) (ret : Bool) : (s.distaffLeave d ret).memories = s.memories := by
  simp [State.distaffLeave]
@[simp] theorem putWords_memories (s : State) (cls unit : Nat) (ws : List Word) : (s.putWords cls unit ws).memories = s.memories := by
  simp [State.putWords]
@[simp] theorem loadScratch_memories (s : State) (cls unit : Nat) : (s.loadScratch cls unit).memories = s.memories := by
  unfold State.loadScratch; split <;> simp
@[simp] theorem testRestore_memories (s0 : State) (t : Test) : (s0.testRestore t).memories = s0.memories := by
  simp [State.testRestore]
@[simp] theorem testLast_memories (s : State) (t : Test) (result word : Nat) : (s.testLast t result word).memories = s.memories := by
  simp [State.testLast]
@[simp] theorem setTarget_memories (s : State) (d v : Nat) : (s.setTarget d v).memories = s.memories := by
  simp [State.setTarget]
@[simp] theorem refuseTarget_memories (s : State) (d : Nat) (r : Nat × Nat) : (s.refuseTarget d r).memories = s.memories := by
  simp [State.refuseTarget]
@[simp] theorem applyTarget_memories (s : State) (d v : Nat) (delay : Bool) : (s.applyTarget d v delay).memories = s.memories := by
  cases h : s.entryReason d (decide ((s.dom d).st = 0)) (decide (v = 1) && s.retMem d 0) <;> simp [State.applyTarget, h]
@[simp] theorem writeTarget_memories (s : State) (d v : Nat) (delay : Bool) : (s.writeTarget d v delay).memories = s.memories := by
  simp [State.writeTarget]
@[simp] theorem settleNext_memories (s : State) (d : Nat) : (s.settleNext d).memories = s.memories := by
  unfold State.settleNext; split <;> simp
@[simp] theorem domctlWrite_memories (s : State) (d : Nat) (v : Word) (delay : Bool) : (s.domctlWrite d v delay).memories = s.memories := by
  simp [State.domctlWrite]
@[simp] theorem isolateDom_memories (s : State) (d : Nat) : (s.isolateDom d).memories = s.memories := by
  simp [State.isolateDom]
@[simp] theorem cycleUnits_memories (s : State) (d : Nat) : (s.cycleUnits d).memories = s.memories := by
  simp [State.cycleUnits]
@[simp] theorem wakePorts_memories (s : State) (d : Nat) : (s.wakePorts d).memories = s.memories := by
  simp [State.wakePorts]
@[simp] theorem wakeDone_memories (s : State) (d : Nat) : (s.wakeDone d).memories = s.memories := by
  cases h : (s.dom d).next <;> simp [State.wakeDone, h]

/-! #### The fault collector -/

@[simp] theorem isolate_memories (s : State) (src : Nat) : (s.isolate src).memories = s.memories := by
  simp [State.isolate]
@[simp] theorem safeQuietAll_memories (s : State) (src : Nat) : (s.safeQuietAll src).memories = s.memories := by
  simp [State.safeQuietAll]
@[simp] theorem react_memories (s : State) (src sev code : Nat) : (s.react src sev code).memories = s.memories := by
  simp [State.react]
@[simp] theorem reactDue_memories (s : State) (src sev code : Nat) : (s.reactDue src sev code).memories = s.memories := by
  simp [State.reactDue]
@[simp] theorem reactLate_memories (s : State) (d : Nat) : (s.reactLate d).memories = s.memories := by
  simp [State.reactLate]
@[simp] theorem record_memories (s : State) (r : Rec) : (s.record r).memories = s.memories := by
  simp [State.record]
@[simp] theorem histRead_memories (s : State) (host : Bool) : (s.histRead host).2.2.memories = s.memories := by
  unfold State.histRead; split <;> simp
@[simp] theorem takeEvent_memories (s : State) (e : Ev) : (s.takeEvent e).memories = s.memories := by
  simp [State.takeEvent]
@[simp] theorem faultTrigger_memories (s : State) (src sev : Nat) : (s.faultTrigger src sev).memories = s.memories := by
  cases h : (List.range 16).find? (fun i => s.triggers (16 * (src - 0x60) + i)) <;> simp [State.faultTrigger, h]
@[simp] theorem serve_memories (s : State) (e : Ev) : (s.serve e).memories = s.memories := by
  simp [State.serve]
@[simp] theorem unitReturn_memories (s : State) (src : Nat) : (s.unitReturn src).memories = s.memories := by
  simp [State.unitReturn]
@[simp] theorem sourceReturn_memories (s : State) (src : Nat) (recs : List Nat) : (s.sourceReturn src recs).memories = s.memories := by
  simp [State.sourceReturn]
@[simp] theorem releaseWrite_memories (s : State) (v : Word) : (s.releaseWrite v).2.memories = s.memories := by
  simp [State.releaseWrite]
@[simp] theorem reccfgWrite_memories (s : State) (v : Word) : (s.reccfgWrite v).memories = s.memories := by
  simp [State.reccfgWrite]
@[simp] theorem codecfgWrite_memories (s : State) (c : Nat) (v : Word) : (s.codecfgWrite c v).2.memories = s.memories := by
  unfold State.codecfgWrite; split <;> simp
@[simp] theorem fltPinWrite_memories (s : State) (v : Word) : (s.fltPinWrite v).memories = s.memories := by
  simp [State.fltPinWrite]

/-! #### Self-test -/

@[simp] theorem testAdvance_memories (s : State) : s.testAdvance.memories = s.memories := by
  simp [State.testAdvance]
@[simp] theorem testSkip_memories (s : State) (reason : Nat) : (s.testSkip reason).memories = s.memories := by
  simp [State.testSkip]

@[simp] theorem testSeek_memories (n : Nat) (s : State) : (State.testSeek n s).memories = s.memories := by
  induction n generalizing s with
  | zero => rfl
  | succ n ih => simp [State.testSeek, ih]

@[simp] theorem withdraw_memories (s : State) (cls unit : Nat) : (s.withdraw cls unit).memories = s.memories := by
  simp [State.withdraw]
@[simp] theorem readmit_memories (s : State) (cls unit : Nat) : (s.readmit cls unit).memories = s.memories := by
  simp [State.readmit]
@[simp] theorem bistCtlWrite_memories (s : State) (v : Word) : (s.bistCtlWrite v).2.memories = s.memories := by
  simp [State.bistCtlWrite]

/-! #### Images and records -/

@[simp] theorem cmtState_memories (s : State) (st step : Nat) : (s.cmtState st step).memories = s.memories := by
  simp [State.cmtState]
@[simp] theorem cmtRefuse_memories (s : State) (reason chk : Nat) : (s.cmtRefuse reason chk).memories = s.memories := by
  simp [State.cmtRefuse]
@[simp] theorem banksAnswer_memories (s : State) (a n : Nat) : (s.banksAnswer a n).2.memories = s.memories := by
  simp [State.banksAnswer]
@[simp] theorem setGauge_memories (s : State) (v : Nat) : (s.setGauge v).memories = s.memories := by
  simp [State.setGauge]
@[simp] theorem vokRise_memories (s : State) : s.vokRise.memories = s.memories := by
  simp [State.vokRise]
@[simp] theorem commitWrite_memories (s : State) (v : Word) : (s.commitWrite v).2.memories = s.memories := by
  simp [State.commitWrite]

@[simp] theorem commitOver_memories (s : State) (c : Commit) (outcome : Nat) : (s.commitOver c outcome).memories = s.memories := by
  simp [State.commitOver]

/-! #### Start-up -/

@[simp] theorem placeDoms_memories (s : State) (st : Nat → Nat) : (s.placeDoms st).memories = s.memories := by
  simp [State.placeDoms]
@[simp] theorem oweCoreLow_memories (s : State) : s.oweCoreLow.memories = s.memories := by
  simp [State.oweCoreLow]

@[simp] theorem aonWake_memories (s : State) (source port : Nat) : (s.aonWake source port).memories = s.memories := by
  simp only [State.aonWake, memories_mk, memories_fold]
  simp

@[simp] theorem postEvent_memories (s : State) (src code : Nat) (info : Nat → Nat) : (s.postEvent src code info).memories = s.memories := by
  simp [State.postEvent]
@[simp] theorem applyPost_memories (s : State) (r : PostResult) : (s.applyPost r).memories = s.memories := by
  simp [State.applyPost]
@[simp] theorem readySources_memories (s : State) (r : BitVec 18) : (s.readySources r).memories = s.memories := by
  simp [State.readySources]
@[simp] theorem bootStart_memories (s : State) (b : BootInputs) : (s.bootStart b).memories = s.memories := by
  simp [State.bootStart]
@[simp] theorem holdFault_memories (s : State) (src code info : Nat) : (s.holdFault src code info).memories = s.memories := by
  simp [State.holdFault]
@[simp] theorem setSpnMode_memories (s : State) (n m : Nat) : (s.setSpnMode n m).memories = s.memories := by
  simp [State.setSpnMode]
@[simp] theorem assignModes_memories (s : State) (u : Nat) : (s.assignModes u).memories = s.memories := by
  simp [State.assignModes]
@[simp] theorem startSup_memories (s : State) (n : Nat) (pc : Option Nat) : (s.startSup n pc).memories = s.memories := by
  unfold State.startSup; split <;> simp
@[simp] theorem grantRun_memories (s : State) (n : Nat) : (s.grantRun n).memories = s.memories := by
  simp [State.grantRun]

@[simp] theorem supervisorGo_memories (s : State) : s.supervisorGo.memories = s.memories := by
  unfold State.supervisorGo
  extract_lets bad sel s1 s2 src s3
  have hs2 : s2.memories = s.memories := by
    simp only [s2]
    split <;> simp [s1]
  split
  · rfl
  · split
    · simp
    · simp [s3, hs2]

@[simp] theorem rebootWrite_memories (s : State) (v : Word) : (s.rebootWrite v).2.memories = s.memories := by
  simp [State.rebootWrite]

/-! #### Pins -/

@[simp] theorem keepLevels_memories (s : State) (pins : List Nat) : (s.keepLevels pins).memories = s.memories := by
  simp [State.keepLevels]
@[simp] theorem pinOeWrite_memories (s : State) (v : Word) : (s.pinOeWrite v).memories = s.memories := by
  simp [State.pinOeWrite]
@[simp] theorem pinFuncWrite_memories (s : State) (pin : Nat) (v : Word) : (s.pinFuncWrite pin v).2.memories = s.memories := by
  simp [State.pinFuncWrite]

/-! #### Mailboxes and rings -/

@[simp] theorem mailboxPut_memories (s : State) (n : Nat) (v : Word) : (s.mailboxPut n v).2.memories = s.memories := by
  simp [State.mailboxPut]
@[simp] theorem hostboxPut_memories (s : State) (v : Word) : (s.hostboxPut v).2.memories = s.memories := by
  simp [State.hostboxPut]
@[simp] theorem ringWrite_memories (s : State) (a : Nat) (v : Word) : (s.ringWrite a v).2.memories = s.memories := by
  simp [State.ringWrite]
@[simp] theorem doorbellWrite_memories (s : State) (v : Nat) : (s.doorbellWrite v).memories = s.memories := by
  simp [State.doorbellWrite]
@[simp] theorem knotHostWrite_memories (s : State) (k : Nat) (v : Word) : (s.knotHostWrite k v).2.memories = s.memories := by
  simp [State.knotHostWrite]

/-! #### Register reads -/

@[simp] theorem setShadow_memories (s : State) (r : Nat) (w : Word) : (s.setShadow r w).memories = s.memories := by
  simp [State.setShadow]
@[simp] theorem shRead_memories (s : State) (r : Nat) (l : RegLoc) (a : Nat) : (s.shRead r l a).2.memories = s.memories := by
  simp [State.shRead]
@[simp] theorem rddataRead_memories (s : State) (r : Nat) : (s.rddataRead r).2.memories = s.memories := by
  simp [State.rddataRead]
@[simp] theorem hostrxRead_memories (s : State) : s.hostrxRead.2.memories = s.memories := by
  unfold State.hostrxRead; split <;> simp
@[simp] theorem readAt_memories (s : State) (r : Nat) (l : RegLoc) (row : RegRow) (second : Bool) (a : Nat) :
    (s.readAt r l row second a).2.memories = s.memories := by
  simp [State.readAt]

/-! #### Register writes -/

@[simp] theorem portWrite_memories (s : State) (r p o a : Nat) (w : Word) : (s.portWrite r p o a w).memories = s.memories := by
  simp [State.portWrite]
@[simp] theorem queueWrite_memories (s : State) (e q o a : Nat) (w : Word) : (s.queueWrite e q o a w).memories = s.memories := by
  simp [State.queueWrite]
@[simp] theorem gateListWrite_memories (s : State) (l a : Nat) (w : Word) : (s.gateListWrite l a w).2.memories = s.memories := by
  simp [State.gateListWrite]
@[simp] theorem cspWrite_memories (s : State) (one : Bool) (w : Word) : (s.cspWrite one w).2.memories = s.memories := by
  simp [State.cspWrite]
@[simp] theorem kmWrite_memories (s : State) (o a : Nat) (w : Word) : (s.kmWrite o a w).2.memories = s.memories := by
  simp [State.kmWrite]
@[simp] theorem spnRegWrite_memories (s : State) (r n o a : Nat) (w : Word) : (s.spnRegWrite r n o a w).2.memories = s.memories := by
  simp [State.spnRegWrite]
@[simp] theorem tmWrite_memories (s : State) (o a : Nat) (w : Word) : (s.tmWrite o a w).memories = s.memories := by
  simp [State.tmWrite]
@[simp] theorem regwr_memories (s : State) (l : RegLoc) (a : Nat) (v : Word) : (s.regwr l a v).memories = s.memories := by
  unfold State.regwr; split <;> simp
@[simp] theorem goodParity_memories (s : State) (a : Nat) : (s.goodParity a).memories = s.memories := by
  simp [State.goodParity]
@[simp] theorem runtimeWrite_memories (s : State) (p o a : Nat) (v : Word) : (s.runtimeWrite p o a v).memories = s.memories := by
  simp [State.runtimeWrite]

/-! #### Guard windows -/

@[simp] theorem pathWrite_memories (s : State) (v : Word) : (s.pathWrite v).2.memories = s.memories := by
  simp [State.pathWrite]
@[simp] theorem rtslotWrite_memories (s : State) (v : Word) : (s.rtslotWrite v).2.memories = s.memories := by
  simp [State.rtslotWrite]
@[simp] theorem setGuard_memories (s : State) (r : Nat) (g : Option Guard) : (s.setGuard r g).memories = s.memories := by
  simp [State.setGuard]
@[simp] theorem guardFault_memories (s : State) (a : Nat) : (s.guardFault a).memories = s.memories := by
  simp [State.guardFault]
@[simp] theorem guardAge_memories (s : State) (r : Nat) : (s.guardAge r).memories = s.memories := by
  unfold State.guardAge; split <;> simp
@[simp] theorem guardA_memories (s0 : State) (r a : Nat) (v : Word) : (s0.guardA r a v).2.memories = s0.memories := by
  simp only [State.guardA]; split <;> simp

/-! #### Requests on the fabric -/

@[simp] theorem readWord_memories (s : State) (r a : Nat) : (s.readWord r a).2.2.memories = s.memories := by
  unfold State.readWord
  split
  · rfl
  · split
    · split <;> simp
    · split <;> simp

@[simp] theorem delayEntry_memories (s : State) (a chg : Nat) : (s.delayEntry a chg).memories = s.memories := by
  simp [State.delayEntry]

/-! #### The line runtime -/

@[simp] theorem putCmd_memories (s : State) (i : Nat) (c : Cmd) : (s.putCmd i c).memories = s.memories := by
  simp [State.putCmd]

@[simp] theorem runCmd_memories (s : State) (op id : Nat) (f : Cmd → Bool → State → Prog × State) (h : ∀ c b, (f c b s).2.memories = s.memories) :
    (s.runCmd op id f).memories = s.memories := by
  simp only [State.runCmd]
  split
  · rfl
  · split
    · rfl
    · split
      · split <;> simp [h]
      · split
        · rfl
        · split
          · simp
          · split <;> simp [h]

@[simp] theorem needDoms_memories (s : State) (ds : List Nat) (k : State → Prog × State) (h : ∀ t, (k t).2.memories = t.memories) :
    (s.needDoms ds k).2.memories = s.memories := by
  simp [State.needDoms, h]

@[simp] theorem dstCommand_memories (s : State) (c : Cmd) : (s.dstCommand c).memories = s.memories := by
  simp [State.dstCommand]

@[simp] theorem grantLines_memories (s : State) (n : Nat) : (s.grantLines n).memories = s.memories := by
  simp [State.grantLines]
@[simp] theorem regrant_memories (s : State) : s.regrant.memories = s.memories := by
  simp [State.regrant]
@[simp] theorem clearDeleg_memories (s : State) (n : Nat) : (s.clearDeleg n).memories = s.memories := by
  simp [State.clearDeleg]
@[simp] theorem becomeRun_memories (s : State) (n : Nat) : (s.becomeRun n).memories = s.memories := by
  cases h : s.runSpindles.head? <;> simp [State.becomeRun, h]
@[simp] theorem becomeUser_memories (s : State) (n : Nat) : (s.becomeUser n).memories = s.memories := by
  simp [State.becomeUser]
@[simp] theorem movePool_memories (s : State) : s.movePool.memories = s.memories := by
  simp [State.movePool]
@[simp] theorem partitionPoll_memories (s : State) : s.partitionPoll.memories = s.memories := by
  simp [State.partitionPoll]
@[simp] theorem loadRuntime_memories (s : State) (slot : Nat) (ws : List Word) (ver : Nat) (api : List Nat) :
    (s.loadRuntime slot ws ver api).memories = s.memories := by
  simp [State.loadRuntime]

/-! #### Register rows -/

@[simp] theorem parityFault_memories (s : State) (a : Nat) : (s.parityFault a).memories = s.memories := by
  simp [State.parityFault]

/-! #### Tagged operations, performed -/

@[simp] theorem complete_memories (s : State) (n t status : Nat) (data : Word) : (s.complete n t status data).memories = s.memories := by
  simp [State.complete]

@[simp] theorem setHalfWords_memories (s : State) (p h k : Nat) (l : List Word) : (s.setHalfWords p h k l).memories = s.memories := by
  induction l generalizing s k with
  | nil => rfl
  | cons w t ih => simp [State.setHalfWords, ih]

@[simp] theorem coefWrite_memories (s : State) (p off : Nat) (ws : List Word) : (s.coefWrite p off ws).2.memories = s.memories := by
  simp [State.coefWrite]

@[simp] theorem setSlotWords_memories (s : State) (g half victim off : Nat) (l : List Word) :
    (s.setSlotWords g half victim off l).memories = s.memories := by
  induction l generalizing s off with
  | nil => rfl
  | cons w t ih => simp [State.setSlotWords, ih]

@[simp] theorem slotWrite_memories (s : State) (g k victim off : Nat) (ws : List Word) : (s.slotWrite g k victim off ws).2.memories = s.memories := by
  simp [State.slotWrite]
@[simp] theorem rovWrite_memories (s : State) (n t : Nat) (o : TagOp) : (s.rovWrite n t o).memories = s.memories := by
  simp [State.rovWrite]

@[simp] theorem cwrTag_memories (s : State) (n t : Nat) (o : TagOp) : (s.cwrTag n t o).memories = s.memories := by
  unfold State.cwrTag
  split
  · split <;> simp
  · split <;> simp

@[simp] theorem ldfTag_memories (s : State) (n t : Nat) (o : TagOp) : (s.ldfTag n t o).memories = s.memories := by
  simp [State.ldfTag]
@[simp] theorem mbsTag_memories (s : State) (n t : Nat) (o : TagOp) : (s.mbsTag n t o).memories = s.memories := by
  simp [State.mbsTag]
@[simp] theorem mbrTag_memories (s : State) (n t : Nat) : (s.mbrTag n t).memories = s.memories := by
  unfold State.mbrTag; split <;> simp
@[simp] theorem ulkTag_memories (s : State) (n t : Nat) (o : TagOp) : (s.ulkTag n t o).memories = s.memories := by
  simp [State.ulkTag]
@[simp] theorem frxTag_memories (s : State) (n t : Nat) (o : TagOp) : (s.frxTag n t o).memories = s.memories := by
  unfold State.frxTag; split <;> simp
@[simp] theorem gthLost_memories (s : State) (n : Nat) (o : TagOp) (ps : List Nat) : (s.gthLost n o ps).memories = s.memories := by
  simp [State.gthLost]
@[simp] theorem gthStored_memories (s : State) (n t : Nat) (o : TagOp) (bad : Bool) (ws : List Word) :
    (s.gthStored n t o bad ws).memories = s.memories := by
  simp [State.gthStored]

@[simp] theorem gthLive_memories (s : State) (n t : Nat) (o : TagOp) : (s.gthLive n t o).memories = s.memories := by
  simp only [State.gthLive]
  split
  · simp
  · split
    · simp
    · split <;> simp

@[simp] theorem gthReplay_memories (s : State) (n t : Nat) (o : TagOp) : (s.gthReplay n t o).memories = s.memories := by
  unfold State.gthReplay
  split
  · simp
  · split <;> simp

/-! #### Runtime commands -/

@[simp] theorem pdone_memories (st : Nat) (s : State) : (pdone st s).2.memories = s.memories := by
  simp [pdone]
@[simp] theorem cmdRestart_memories (s : State) (p : Nat) : (s.cmdRestart p).memories = s.memories := by
  simp [State.cmdRestart]
@[simp] theorem newAttempt_memories (s : State) (p : Nat) : (s.newAttempt p).memories = s.memories := by
  simp [State.newAttempt]
@[simp] theorem abortSweep_memories (s : State) (p : Nat) : (s.abortSweep p).memories = s.memories := by
  simp [State.abortSweep]
@[simp] theorem cancelEarlier_memories (s : State) (p i : Nat) : (s.cancelEarlier p i).memories = s.memories := by
  simp [State.cancelEarlier]
@[simp] theorem fpTake_memories (s : State) (p : Nat) : (s.fpTake p).memories = s.memories := by
  simp [State.fpTake]

/-! #### Configuration records -/

@[simp] theorem recordFails_memories (s : State) : s.recordFails.memories = s.memories := by
  simp [State.recordFails]
@[simp] theorem nextRecord_memories (s : State) : s.nextRecord.memories = s.memories := by
  simp [State.nextRecord]
@[simp] theorem configEnd_memories (s : State) (k : Nat) : (s.configEnd k).memories = s.memories := by
  simp [State.configEnd]

/-! #### CSP1 and host frames -/

@[simp] theorem guardLapse_memories (s : State) : s.guardLapse.memories = s.memories := by
  unfold State.guardLapse; split <;> simp
@[simp] theorem csp1Cut_memories (s : State) : s.csp1Cut.memories = s.memories := by
  simp [State.csp1Cut]
@[simp] theorem csp1Device_memories (s : State) (before n : Nat) (cut : Bool) : (s.csp1Device before n cut).memories = s.memories := by
  simp [State.csp1Device]

/-! #### Domain rows -/

@[simp] theorem wakeLate_memories (s : State) (d : Nat) : (s.wakeLate d).memories = s.memories := by
  simp [State.wakeLate]

/-! #### Vector instructions -/

@[simp] theorem retPair_memories (s : State) (n d c : Nat) (f g : Nat → Word) : (s.retPair n d c f g).Memories s.memories := by
  simp [State.retPair]

@[simp] theorem issueV_memories (s : State) (n opc : Nat) (w : BitVec 40) (z : Nat) (regs : List Nat) (f : Spindle → Spindle) :
    (s.issueV n opc w z regs f).memories = s.memories :=
  issue_memories _ _ _ _ _ _ _ _ (fun t => by simp)

@[simp] theorem issueVab_memories (s : State) (n opc : Nat) (w : BitVec 40) (fn : Nat) (f : Word → Word → Word) :
    (s.issueVab n opc w fn f).memories = s.memories := by
  simp [State.issueVab]

/-! ### The canonical form: what the operations that write a memory keep -/

/-- Bobbin and flash are in their canonical form (R32, R389). -/
def Canonical (m : Tab Word × Tab Byte) : Prop := Tab.wf (fun _ => 0#48) m.1 = true ∧ Tab.wf (fun _ => 0xFF#8) m.2 = true

@[simp] theorem canonical_ite (c : Prop) [Decidable c] (m m' : Tab Word × Tab Byte) :
    Canonical (if c then m else m') ↔ if c then Canonical m else Canonical m' := by split <;> rfl

theorem Canonical.ite {c : Prop} [Decidable c] {m m' : Tab Word × Tab Byte} (h : Canonical m) (h' : Canonical m') :
    Canonical (if c then m else m') := by split <;> assumption

theorem forAll_canonical {α : Type} {f : State → α → State} (h : ∀ t a, Canonical t.memories → Canonical (f t a).memories) (l : List α) {s : State}
    (hs : Canonical s.memories) : Canonical (forAll f l s).memories := forAll_keeps (fun t => Canonical t.memories) f h l s hs

/-! #### Writes of words and bytes -/

@[simp] theorem setBob_canonical {s : State} (h : Canonical s.memories) (k : Nat) (v : Word) : Canonical (s.setBob k v).memories :=
  ⟨Tab.wf_set _ _ _ _ h.1, h.2⟩

@[simp] theorem dropBob_canonical {s : State} (h : Canonical s.memories) (lo n : Nat) : Canonical (s.dropBob lo n).memories :=
  ⟨Tab.wf_keep _ _ _ h.1, h.2⟩

@[simp] theorem freshBob_canonical {s : State} (h : Canonical s.memories) (lo n : Nat) : Canonical (s.freshBob lo n).memories := by
  simpa [State.freshBob] using dropBob_canonical h lo n

@[simp] theorem setFlashByte_canonical {s : State} (h : Canonical s.memories) (k : Nat) (b : Byte) : Canonical (s.setFlashByte k b).memories :=
  ⟨h.1, Tab.wf_set _ _ _ _ h.2⟩

@[simp] theorem setBobWords_canonical {s : State} (h : Canonical s.memories) (k : Nat) (l : List Word) :
    Canonical (s.setBobWords k l).memories := by
  induction l generalizing s k with
  | nil => exact h
  | cons w t ih => exact ih (setBob_canonical h k w) (k + 1)

@[simp] theorem program_canonical {s : State} (h : Canonical s.memories) (at_ : Nat) (l : List Byte) :
    Canonical (s.program at_ l).memories := by
  induction l generalizing s at_ with
  | nil => exact h
  | cons b t ih => exact ih (setFlashByte_canonical h at_ b) (at_ + 1)

/-- An erasure drops the block's bytes, the other steps of a commit program bytes. -/
@[simp] theorem flashOp_canonical {s : State} (h : Canonical s.memories) (c : Commit) : Canonical (s.flashOp c).memories := by
  have erased : ∀ p, Canonical ({ s with flash := Tab.keep p s.flash } : State).memories := fun p => ⟨h.1, Tab.wf_keep _ p _ h.2⟩
  simp only [State.flashOp, memories_ite, canonical_ite, program_canonical h, erased, ite_self]

/-! #### The runtime's store, rings and frames in the bobbin -/

@[simp] theorem saveRuntime_canonical {s : State} (h : Canonical s.memories) : Canonical s.saveRuntime.memories :=
  forAll_canonical (fun t b ht => by simp [ht]) _ h

@[simp] theorem setFp_canonical {s : State} (h : Canonical s.memories) (p : Nat) (ws : List Word) : Canonical (s.setFp p ws).memories :=
  saveRuntime_canonical (by simpa using h)

@[simp] theorem putRingWord_canonical {s : State} (h : Canonical s.memories) (base k : Nat) (v : Word) :
    Canonical (s.putRingWord base k v).memories := by
  unfold State.putRingWord; split <;> simp [h]

@[simp] theorem writeCompletion_canonical {s : State} (h : Canonical s.memories) (i : Nat) : Canonical (s.writeCompletion i).memories := by
  unfold State.writeCompletion
  dsimp only
  split
  · have hp : ∀ (t : State) base k w v, t.memories = s.memories → Canonical ((t.putRingWord base (k + 1) v).putRingWord base k w).memories :=
      fun t base k w v ht => putRingWord_canonical (putRingWord_canonical (ht ▸ h) _ _ _) _ _ _
    simp [h, hp]
  · exact h

@[simp] theorem copyEntries_canonical (n : Nat) {s : State} (h : Canonical s.memories) : Canonical (State.copyEntries n s).memories := by
  induction n generalizing s with
  | zero => exact h
  | succ n ih =>
    have step : ∀ t : State, t.memories = s.memories → ∀ v, Canonical (State.copyEntries n (t.saveRuntime.setReg Reg.MB_CMDRD v)).memories :=
      fun t ht v => ih (by simpa using saveRuntime_canonical (ht ▸ h))
    simp [State.copyEntries, h, step]

@[simp] theorem store_canonical {s : State} (h : Canonical s.memories) (d : Desc) (bs : List Byte) (copies : Nat) :
    Canonical (s.store d bs copies).memories := by
  simpa [State.store] using forAll_canonical (fun t c ht => freshBob_canonical ht (32 * c) 32) _ h

@[simp] theorem forward_canonical {s : State} (h : Canonical s.memories) (d : Desc) (bs : List Byte) (laneOnly : Bool) :
    Canonical (s.forward d bs laneOnly).2.memories := by
  simp [State.forward, h]

@[simp] theorem pipeline_canonical {s : State} (h : Canonical s.memories) (d0 : Desc) (tag first : Nat) (bs : List Byte) :
    Canonical (s.pipeline d0 tag first bs).2.memories := by
  cases hl : s.lookup d0.src bs <;> simp [State.pipeline, hl, h]

@[simp] theorem portFrame_canonical {s : State} (h : Canonical s.memories) (p : Nat) (bs : List Byte) (first : BitVec 96) (roving : Bool) :
    Canonical (s.portFrame p bs first roving).memories := by
  simp [State.portFrame, h]

@[simp] theorem ftxTag_canonical {s : State} (h : Canonical s.memories) (n t : Nat) (o : TagOp) : Canonical (s.ftxTag n t o).memories := by
  unfold State.ftxTag; split <;> simp [h]

@[simp] theorem exportFrom_canonical {s : State} (h : Canonical s.memories) (e q n off : Nat) (l : List Word) :
    Canonical (s.exportFrom e q n off l).memories := by
  induction n generalizing s off l with
  | zero => exact h
  | succ n ih =>
    simp only [State.exportFrom]
    split
    · exact h
    · exact ih (by simp [h]) _ _

@[simp] theorem dstExportNow_canonical {s : State} (h : Canonical s.memories) : Canonical s.dstExportNow.memories := by
  simp [State.dstExportNow, h]

@[simp] theorem dstCtlWrite_canonical {s : State} (h : Canonical s.memories) (r0 : Nat) (v : Word) :
    Canonical (s.dstCtlWrite r0 v).2.memories := by
  simp [State.dstCtlWrite, h]

/-! #### Losses of a bank -/

@[simp] theorem bankLoss_canonical {s : State} (h : Canonical s.memories) (b : Nat) : Canonical (s.bankLoss b).memories := by
  simp [State.bankLoss, h]

@[simp] theorem domLeave_canonical {s : State} (h : Canonical s.memories) (d : Nat) (ret : Bool) : Canonical (s.domLeave d ret).memories := by
  simp [State.domLeave, h]

@[simp] theorem entryDone_canonical {s : State} (h : Canonical s.memories) (d : Nat) : Canonical (s.entryDone d).memories := by
  cases hn : (s.dom d).next <;> simp [State.entryDone, hn, h]

@[simp] theorem marchFill_canonical {s : State} (h : Canonical s.memories) (cls unit : Nat) : Canonical (s.marchFill cls unit).memories := by
  simp [State.marchFill, h]

@[simp] theorem marchLeft_canonical {s : State} (h : Canonical s.memories) (t : Test) : Canonical (s.marchLeft t).memories := by
  simp [State.marchLeft, h]

@[simp] theorem saveScratch_canonical {s : State} (h : Canonical s.memories) (cls unit : Nat) : Canonical (s.saveScratch cls unit).memories := by
  unfold State.saveScratch; split <;> simp [h]

@[simp] theorem testPoll_canonical {s : State} (h : Canonical s.memories) (boundary : Option Nat) :
    Canonical (s.testPoll boundary).memories := by
  unfold State.testPoll; split <;> simp [h]

@[simp] theorem testAbort_canonical {s : State} (h : Canonical s.memories) : Canonical s.testAbort.memories := by
  unfold State.testAbort; split <;> simp [h]

@[simp] theorem forceOne_canonical {s : State} (h : Canonical s.memories) (d : Nat) : Canonical (s.forceOne d).memories := by
  simp [State.forceOne, h]

@[simp] theorem forceOff_canonical {s : State} (h : Canonical s.memories) (d : Nat) : Canonical (s.forceOff d).memories := by
  have hq : Canonical (forAll (fun (t : State) i => t.forceOne (4 * (d - 24) + i)) [0, 1, 2, 3] s).memories :=
    forAll_canonical (fun t i ht => forceOne_canonical ht _) _ h
  simp only [State.forceOff, raise_memories]
  split
  · exact forceOne_canonical hq d
  · exact forceOne_canonical h d

@[simp] theorem forceoffWrite_canonical {s : State} (h : Canonical s.memories) (v : Word) : Canonical (s.forceoffWrite v).2.memories := by
  simp [State.forceoffWrite, h]

@[simp] theorem loseOne_canonical {s : State} (h : Canonical s.memories) (d : Nat) : Canonical (s.loseOne d).memories := by
  simp [State.loseOne, h]

@[simp] theorem loseDomains_canonical {s : State} (h : Canonical s.memories) : Canonical s.loseDomains.memories :=
  forAll_canonical (fun t d ht => by simp [ht]) _ (forAll_canonical (fun t d ht => by simp [ht]) _ h)

@[simp] theorem loseRet_canonical {s : State} (h : Canonical s.memories) : Canonical s.loseRet.memories :=
  forAll_canonical (fun t d ht => by simp [ht]) _ (by simpa using h)

@[simp] theorem holdup_canonical {s : State} (h : Canonical s.memories) : Canonical s.holdup.memories := by
  simp [State.holdup, h]

/-! #### Losses of a supply -/

@[simp] theorem bare_canonical {s : State} (h : Canonical s.memories) : Canonical s.bare.memories := ⟨rfl, h.2⟩

@[simp] theorem coreLost_canonical {s : State} (h : Canonical s.memories) : Canonical s.coreLost.memories := by
  rw [State.coreLost, placeDoms_memories]
  exact ⟨Tab.wf_keep _ _ _ h.1, h.2⟩

@[simp] theorem parkStart_canonical {s : State} (h : Canonical s.memories) : Canonical s.parkStart.memories := by
  simp [State.parkStart, h]

@[simp] theorem reboot_canonical {s : State} (h : Canonical s.memories) (b : BootInputs) : Canonical (s.reboot b).memories := by
  simp [State.reboot, h]

@[simp] theorem holdupEnd_canonical {s : State} (h : Canonical s.memories) : Canonical s.holdupEnd.memories := by
  cases hb : s.pwr.bootIn <;> simp [State.holdupEnd, hb, h]

@[simp] theorem commitEnd_canonical {s : State} (h : Canonical s.memories) (c : Commit) (outcome : Nat) :
    Canonical (s.commitEnd c outcome).memories := by
  simp [State.commitEnd, h]

@[simp] theorem coreLoss_canonical {s : State} (h : Canonical s.memories) : Canonical s.coreLoss.memories := by
  simp [State.coreLoss, h]

@[simp] theorem flashFails_canonical {s : State} (h : Canonical s.memories) (c : Commit) : Canonical (s.flashFails c).memories := by
  simp [State.flashFails, h]

/-! #### Writes of registers -/

@[simp] theorem storeAt_canonical {s : State} (h : Canonical s.memories) (r : Nat) (l : RegLoc) (a : Nat) (w : Word) :
    Canonical (s.storeAt r l a w).2.memories := by
  simp only [State.storeAt]; split <;> simp [h]

@[simp] theorem writeAt_canonical {s : State} (h : Canonical s.memories) (r : Nat) (l : RegLoc) (row : RegRow) (a : Nat) (v : Word) :
    Canonical (s.writeAt r l row a v).2.memories := by
  simp [State.writeAt, h]

@[simp] theorem lcWrite_memories (s : State) (v : Word) : (s.lcWrite v).2.memories = s.memories := by
  simp [State.lcWrite]

@[simp] theorem commitAt_canonical {s : State} (h : Canonical s.memories) (l : RegLoc) (v : Word) : Canonical (s.commitAt l v).2.memories := by
  unfold State.commitAt; split <;> simp [h]

@[simp] theorem guardB_canonical {s : State} (h : Canonical s.memories) (r : Nat) (l : RegLoc) (a : Nat) (v : Word) :
    Canonical (s.guardB r l a v).2.memories := by
  simp only [State.guardB]; split <;> simp [h]

/-- R32: a write of a bobbin word stores it; one of a register has its register's effect. -/
@[simp] theorem writeWord_canonical {s : State} (h : Canonical s.memories) (r a : Nat) (v : Word) : Canonical (s.writeWord r a v).2.memories := by
  unfold State.writeWord
  split
  · exact setBob_canonical h _ v
  · split <;> simp [h]

@[simp] theorem perform_canonical {s : State} (h : Canonical s.memories) (w : Waiting) : Canonical (s.perform w).2.2.memories := by
  unfold State.perform; split <;> simp [h]

@[simp] theorem attempt_canonical {s : State} (h : Canonical s.memories) (w : Waiting) : Canonical (s.attempt w).2.memories := by
  simp only [State.attempt, memories_ite_snd]
  split
  · simp [h]
  · split
    · exact h
    · split
      · simp [h]
      · split <;> simp [h]

theorem access_canonical {s : State} (h : Canonical s.memories) (w : Waiting) : Canonical (s.access w).memories := by
  simp only [State.access]
  split
  · exact h
  · split
    · simpa using h
    · have ha := attempt_canonical h { w with may := s.mayWrite w.req w.addr }
      split <;> simp_all

theorem pumpFrom_canonical (l : List Waiting) (blocked : List Nat) {s : State} (h : Canonical s.memories) :
    Canonical (pumpFrom l blocked s).memories := by
  induction l generalizing blocked s with
  | nil => exact h
  | cons w rest ih =>
    unfold pumpFrom
    split
    · exact ih _ h
    · split
      · exact ih _ (by simp [h])
      · rename_i t ht
        exact ih _ (by simpa [ht] using attempt_canonical h w)

@[simp] theorem pump_canonical {s : State} (h : Canonical s.memories) : Canonical s.pump.memories := pumpFrom_canonical _ _ h

theorem idle_canonical {s : State} (h : Canonical s.memories) : Canonical s.idle.memories :=
  pump_canonical (by simpa using h)

@[simp] theorem readReg_canonical {s : State} (h : Canonical s.memories) (r : Requester) (a : Nat) : Canonical (s.readReg r a).memories :=
  access_canonical h _
@[simp] theorem writeReg_canonical {s : State} (h : Canonical s.memories) (r : Requester) (a : Nat) (v : Word) :
    Canonical (s.writeReg r a v).memories := access_canonical h _
@[simp] theorem writeFld_canonical {s : State} (h : Canonical s.memories) (r : Requester) (a hi lo v : Nat) :
    Canonical (s.writeFld r a hi lo v).memories := access_canonical h _
@[simp] theorem writePair_canonical {s : State} (h : Canonical s.memories) (r : Requester) (a : Nat) (v : Word) :
    Canonical (s.writePair r a v).memories := access_canonical (access_canonical h _) _
@[simp] theorem targetWrite_canonical {s : State} (h : Canonical s.memories) (r : Requester) (d v : Nat) (delay : Bool) :
    Canonical (s.targetWrite r d v delay).memories := access_canonical h _

@[simp] theorem supWrite_canonical {s : State} (h : Canonical s.memories) (a : Nat) (v : Word) : Canonical (s.supWrite a v).2.memories := by
  have ha := attempt_canonical h { req := s.supSpn, write := true, addr := a, data := v, sink := .bare }
  unfold State.supWrite
  split <;> simp_all

theorem memTag_canonical {s : State} (h : Canonical s.memories) (n t : Nat) (o : TagOp) (write : Bool) :
    Canonical (s.memTag n t o write).memories := by
  have ha := attempt_canonical h { req := n, write := write, addr := o.ea, data := o.val, sink := .bare }
  rcases hx : s.attempt { req := n, write := write, addr := o.ea, data := o.val, sink := .bare } with ⟨_ | ⟨st, d⟩, u⟩ <;> rw [hx] at ha
  · simpa [State.memTag, hx, h] using fun _ => ha
  · simpa [State.memTag, hx, h] using fun _ => ha

@[simp] theorem tagGo_canonical {s : State} (h : Canonical s.memories) (n t : Nat) : Canonical (s.tagGo n t).memories := by
  unfold State.tagGo
  split
  · exact h
  · split
    · simp [h]
    · split
      · exact h
      · split
        · exact memTag_canonical h _ _ _ _
        · exact memTag_canonical h _ _ _ _
        all_goals simp [h]

theorem recordWrite_canonical {s t : State} {pair : Bool} {a : Nat} {v : Word} {st : Option Nat} (h : Canonical s.memories)
    (ht : s.recordWrite pair a v = (st, t)) : Canonical t.memories := by
  have ha := attempt_canonical h { req := s.supSpn, write := true, addr := a, data := v, sink := .bare }
  simp only [State.recordWrite] at ht
  split at ht
  · simp_all
  · rename_i u hu
    rw [hu] at ha
    split at ht
    · have hb := attempt_canonical ha { req := s.supSpn, write := true, addr := a + 1, data := ~~~v, sink := .bare }
      split at ht <;> simp_all
    · simp_all

/-! #### Commands of the runtime -/

theorem runCmd_canonical {s : State} (h : Canonical s.memories) (op id : Nat) (f : Cmd → Bool → State → Prog × State)
    (hf : ∀ c b, Canonical (f c b s).2.memories) : Canonical (s.runCmd op id f).memories := by
  simp only [State.runCmd]
  split
  · exact h
  · split
    · exact h
    · split
      · split <;> simp [hf]
      · split
        · exact h
        · split
          · simpa using h
          · split <;> simp [hf]

theorem needDoms_canonical {s : State} (h : Canonical s.memories) (ds : List Nat) (k : State → Prog × State)
    (hk : ∀ t, Canonical t.memories → Canonical (k t).2.memories) : Canonical (s.needDoms ds k).2.memories := by
  unfold State.needDoms
  split
  · exact h
  · split
    · simpa using h
    · exact hk _ (by simpa using h)

/-! #### Requests from the host -/

@[simp] theorem mgmtWords_canonical {s : State} (h : Canonical s.memories) (slow : Bool) (c : MgmtCmd) (k : Sink) (data : List Word) :
    Canonical (s.mgmtWords slow c k data).memories := by
  have go : ∀ (t : State) (w : Waiting), Canonical t.memories → Canonical ((if slow then t.guardLapse else t).access w).memories :=
    fun t w ht => access_canonical (by simpa using ht) w
  simp only [State.mgmtWords]
  split
  · exact forAll_canonical (fun t x ht => go t _ ht) _ h
  · exact forAll_canonical (fun t i ht => go t _ ht) _ h

@[simp] theorem csp1Host_canonical {s : State} (h : Canonical s.memories) (slow : Bool) (cmd : Word) (data : List Word) :
    Canonical (s.csp1Host slow cmd data).memories := by
  simp only [State.csp1Host]
  split
  · simp [h]
  · exact mgmtWords_canonical (by simpa using h) _ _ _ _

@[simp] theorem inbandRequest_canonical {s : State} (h : Canonical s.memories) (bs : List Byte) : Canonical (s.inbandRequest bs).memories := by
  simp only [State.inbandRequest]
  split
  · exact h
  · split
    · simpa using h
    · split
      · simpa using h
      · rw [sendInband_memories]
        exact forAll_canonical (fun t y ht => mgmtWords_canonical ht _ _ _ _) _ (by simpa using h)

theorem laneReceive_canonical {s : State} (h : Canonical s.memories) (n : Nat) (f : LaneFrame) : Canonical (s.laneReceive n f).memories := by
  simp [State.laneReceive, h]

/-! ### Commands -/

/-- The next state, where there is one, has its memories in canonical form. -/
def Stays (o : Out) : Prop := ∀ t, o = .next t → Canonical t.memories

@[simp] theorem stays_next (t : State) : Stays (.next t) ↔ Canonical t.memories := by simp [Stays]

@[simp] theorem stays_refused (r : Refusal) : Stays (.refused r) := by rintro _ ⟨⟩

@[simp] theorem stays_ite (c : Prop) [Decidable c] (a b : Out) : Stays (if c then a else b) ↔ if c then Stays a else Stays b := by split <;> rfl

theorem stays_of_memories {s t : State} (hs : Canonical s.memories) (e : t.memories = s.memories) : Stays (.next t) := (stays_next t).mpr (e ▸ hs)

theorem stays_of_canonical {t : State} (ht : Canonical t.memories) : Stays (.next t) := (stays_next t).mpr ht

theorem issue_stays {s : State} (hs : Canonical s.memories) {n opc : Nat} {w : BitVec 40} {ok : Bool} {regs : List Nat} {ahead : Bool}
    {act : State → Act} (h : ∀ t, (act t).Memories t.memories) : Stays (.next (s.issue n opc w ok regs ahead act)) :=
  stays_of_memories hs (issue_memories _ _ _ _ _ _ _ _ h)

theorem execPartnerSleepReject_stays (p : PortNo) {s : State} (hs : Canonical s.memories) : Stays (execPartnerSleepReject p s) := by
  cases h : s.askSleep p with
  | none => simp [execPartnerSleepReject, h, hs]
  | some u => simp [execPartnerSleepReject, h, askSleep_memories h, hs]

theorem execMfbEstimate_stays (p : PortNo) (start : Nat) (u : Unit) {s : State} (hs : Canonical s.memories) :
    Stays (execMfbEstimate p start u s) := by
  unfold execMfbEstimate
  split
  · simp only [stays_ite, stays_next, setRb_memories, setRf_memories, snrOf_memories, hs, ite_self]
  · simp [hs]

theorem execTxSelect_stays (e : EgrNo) {s : State} (hs : Canonical s.memories) : Stays (execTxSelect e s) := by
  unfold execTxSelect
  dsimp only
  split <;> simp [hs]

theorem execQueueSample_stays (e : EgrNo) (q : Fin 8) {s : State} (hs : Canonical s.memories) : Stays (execQueueSample e q s) := by
  simp only [execQueueSample, stays_ite, stays_next, memories_mk, memories_fold]
  simp [hs]

theorem execMfs_stays (n : SpnNo) (w : BitVec 40) {s : State} (hs : Canonical s.memories) : Stays (execMfs n w s) := by
  refine issue_stays hs (fun t => ?_)
  cases h : t.replayOf n <;> simp

theorem execWaita_stays (n : SpnNo) (w : BitVec 40) {s : State} (hs : Canonical s.memories) : Stays (execWaita n w s) := by
  refine issue_stays hs (fun t => ?_)
  split <;> simp

theorem execKnotGrant_stays (k : Fin 64) {s : State} (hs : Canonical s.memories) : Stays (execKnotGrant k s) := by
  unfold execKnotGrant
  split
  · simp [hs]
  · split
    · simp [hs]
    · dsimp only
      split <;> simp [hs]

theorem execBistDone_stays (fail : Option (BitVec 24)) {s : State} (hs : Canonical s.memories) : Stays (execBistDone fail s) := by
  cases h : s.bist.cur with
  | none => simp [execBistDone, h, hs]
  | some t => cases fail <;> simp [execBistDone, h, hs]

theorem execPortSleep_stays (id : BitVec 16) {s : State} (hs : Canonical s.memories) : Stays (execPortSleep id s) := by
  refine stays_of_memories hs (runCmd_memories _ _ _ _ (fun c going => ?_))
  cases h : s.askSleep c.tindex with
  | none => simp [h]
  | some u => simp [h, askSleep_memories h]

theorem execHandshakeDelayExpire_stays (d : Fin 50) (again : Bool) {s : State} (hs : Canonical s.memories) :
    Stays (execHandshakeDelayExpire d again s) := by
  cases h : s.entryReason d true (decide ((s.dom d).chg = 1) && s.retMem d 0) <;> simp [execHandshakeDelayExpire, h, hs]

theorem execGuardWindowExpire_stays (r : Requester) {s : State} (hs : Canonical s.memories) : Stays (execGuardWindowExpire r s) := by
  unfold execGuardWindowExpire; split <;> simp [hs]

theorem execPlcaBeacon_stays (p : PortNo) {s : State} (hs : Canonical s.memories) : Stays (execPlcaBeacon p s) := by
  cases h : (s.port p).plcaNext <;> simp [execPlcaBeacon, h, hs]

theorem execAdcRecalDone_stays (p : PortNo) {s : State} (hs : Canonical s.memories) : Stays (execAdcRecalDone p s) := by
  cases h : (s.port p).calHeld <;> simp [execAdcRecalDone, h, hs]

theorem execGatherComplete_stays (n : SpnNo) (t : Fin 8) (u : Unit) {s : State} (hs : Canonical s.memories) : Stays (execGatherComplete n t u s) := by
  unfold execGatherComplete; split <;> simp [hs]

theorem execSnrBlockEnd_stays (p : PortNo) (u u' : Unit) {s : State} (hs : Canonical s.memories) : Stays (execSnrBlockEnd p u u' s) := by
  unfold execSnrBlockEnd; split <;> simp [hs]

theorem execRovingDataReceive_stays (p : PortNo) (frame : List Byte) (first : BitVec 96) (u : Unit) {s : State} (hs : Canonical s.memories) :
    Stays (execRovingDataReceive p frame first u s) := by
  cases h : rovParse frame <;> simp [execRovingDataReceive, h, hs]

theorem execRovingSettingSwitch_stays (p : PortNo) {s : State} (hs : Canonical s.memories) : Stays (execRovingSettingSwitch p s) := by
  unfold execRovingSettingSwitch; split <;> simp [hs]

theorem execCompletionWrite_stays (id : BitVec 16) {s : State} (hs : Canonical s.memories) : Stays (execCompletionWrite id s) := by
  cases h : s.finishedAt (fun c => decide (c.id = id.toNat)) <;> simp [execCompletionWrite, h, hs]

theorem execRingRetry_stays (cpl : Bool) (raise : Bool) {s : State} (hs : Canonical s.memories) : Stays (execRingRetry cpl raise s) := by
  cases h : s.finishedAt (fun _ => true) <;> simp [execRingRetry, h, hs]

theorem execSupervisorMove_stays {s : State} (hs : Canonical s.memories) : Stays (execSupervisorMove s) := by
  cases h : s.supNext <;> simp [execSupervisorMove, h, hs]

theorem execFrameTxDone_stays (e : EgrNo) {s : State} (hs : Canonical s.memories) : Stays (execFrameTxDone e s) := by
  unfold execFrameTxDone; split <;> simp [hs]

theorem execDstCheckpoint_stays (c : Fin 4) (u : Unit) {s : State} (hs : Canonical s.memories) : Stays (execDstCheckpoint c u s) := by
  unfold execDstCheckpoint; split <;> simp [hs]

theorem execAsyncSafeState_stays (c : WatchedClock) {s : State} (hs : Canonical s.memories) : Stays (execAsyncSafeState c s) := by
  unfold execAsyncSafeState; split <;> simp [hs]

theorem execParkWake_stays (src : WakeSource) {s : State} (hs : Canonical s.memories) : Stays (execParkWake src s) := by
  cases src <;> simp [execParkWake, hs]

theorem execHoldGaugeEmpty_stays (holdMv : BitVec 16) {s : State} (hs : Canonical s.memories) : Stays (execHoldGaugeEmpty holdMv s) := by
  unfold execHoldGaugeEmpty; split <;> simp [hs]

theorem execFaultEvent_stays {s : State} (hs : Canonical s.memories) : Stays (execFaultEvent s) := by
  cases h : s.nextEvent <;> simp [execFaultEvent, h, hs]

theorem execBistConditionTimeout_stays {s : State} (hs : Canonical s.memories) : Stays (execBistConditionTimeout s) := by
  unfold execBistConditionTimeout; split <;> simp [hs]

theorem execBistAbort_stays {s : State} (hs : Canonical s.memories) : Stays (execBistAbort s) := by
  unfold execBistAbort; split <;> simp [hs]

theorem execGuardHold_stays (r : Requester) (a : BitVec 32) (v : Word) {s : State} (hs : Canonical s.memories) : Stays (execGuardHold r a v s) := by
  simp [execGuardHold, hs]

theorem execShRead_stays (r : Requester) (a : BitVec 32) {s : State} (hs : Canonical s.memories) : Stays (execShRead r a s) := by
  simp [execShRead, hs]

theorem execSpnImdataAccess_stays (r : Requester) (n : SpnNo) (write : Bool) (v : Word) {s : State} (hs : Canonical s.memories) :
    Stays (execSpnImdataAccess r n write v s) := by
  simp [execSpnImdataAccess, hs]

theorem execSpnDmdataAccess_stays (r : Requester) (n : SpnNo) (write : Bool) (v : Word) {s : State} (hs : Canonical s.memories) :
    Stays (execSpnDmdataAccess r n write v s) := by
  simp [execSpnDmdataAccess, hs]

theorem execTagComplete_stays (n : SpnNo) (t : Fin 8) {s : State} (hs : Canonical s.memories) : Stays (execTagComplete n t s) := by
  simp [execTagComplete, hs]

theorem execDelegateWin_stays (id : BitVec 16) {s : State} (hs : Canonical s.memories) : Stays (execDelegateWin id s) := by
  refine stays_of_canonical (runCmd_canonical hs _ _ _ (fun c _ => ?_))
  dsimp only
  split
  · exact hs
  · exact needDoms_canonical hs _ _ (fun u hu => supWrite_canonical (supWrite_canonical hu _ _) _ _)

theorem execDelegateLine_stays (id : BitVec 16) {s : State} (hs : Canonical s.memories) : Stays (execDelegateLine id s) := by
  refine stays_of_canonical (runCmd_canonical hs _ _ _ (fun c _ => ?_))
  simp only [memories_ite_snd]
  refine .ite hs (.ite hs (.ite hs (needDoms_canonical hs _ _ (fun u hu => ?_))))
  simp [hu]

theorem execPortConfig_stays (id : BitVec 16) {s : State} (hs : Canonical s.memories) : Stays (execPortConfig id s) := by
  refine stays_of_canonical (runCmd_canonical hs _ _ _ (fun c going => ?_))
  simp only [memories_ite_snd, pdone_memories]
  refine .ite hs (.ite hs (needDoms_canonical hs _ _ (fun u hu => ?_)))
  have h3 : ∀ a b c v w x, Canonical ((((u.supWrite a v).2.supWrite b w).2.supWrite c x).2).memories := fun a b c v w x =>
    supWrite_canonical (supWrite_canonical (supWrite_canonical hu a v) b w) c x
  simp [h3]

theorem execSkeinSet_stays (id : BitVec 16) {s : State} (hs : Canonical s.memories) : Stays (execSkeinSet id s) :=
  stays_of_canonical (runCmd_canonical hs _ _ _ (fun c _ => needDoms_canonical hs _ _ (fun u hu => by simp [hu])))

theorem execPortFpcapture_stays (id : BitVec 16) {s : State} (hs : Canonical s.memories) : Stays (execPortFpcapture id s) := by
  refine stays_of_canonical (runCmd_canonical hs _ _ _ (fun c going => ?_))
  simp only [memories_ite_snd, pdone_memories, updPort_memories, refuseCsw_memories, fpTake_memories]
  exact .ite hs (.ite hs (.ite hs (.ite hs (.ite hs (needDoms_canonical hs _ _ (fun u hu => by simp [hu]))))))

theorem execPortFpread_stays (id : BitVec 16) {s : State} (hs : Canonical s.memories) : Stays (execPortFpread id s) := by
  refine stays_of_canonical (runCmd_canonical hs _ _ _ (fun c _ => ?_))
  simp only [memories_ite_snd, pdone_memories]
  exact .ite hs (needDoms_canonical hs _ _ (fun u hu => by simp [hu]))

theorem execPortFprestore_stays (id : BitVec 16) {s : State} (hs : Canonical s.memories) : Stays (execPortFprestore id s) := by
  refine stays_of_canonical (runCmd_canonical hs _ _ _ (fun c _ => ?_))
  simp only [memories_ite_snd, pdone_memories]
  exact .ite hs (needDoms_canonical hs _ _ (fun u hu => by simp [hu]))

theorem execConfigRecord_stays {s : State} (hs : Canonical s.memories) : Stays (execConfigRecord s) := by
  simp only [execConfigRecord]
  split
  · exact stays_of_canonical hs
  · split
    · exact stays_of_canonical hs
    · split
      · simp [hs]
      · split
        · simp [hs]
        · split
          · simp [hs]
          · split
            · rename_i ht
              exact stays_of_canonical (recordWrite_canonical hs ht)
            · rename_i ht
              simpa using recordWrite_canonical hs ht

theorem execCsp1Frame_stays (f : CspFrame) {s : State} (hs : Canonical s.memories) : Stays (execCsp1Frame f s) := by
  simp only [execCsp1Frame]
  split
  · exact stays_of_canonical hs
  · split
    · exact stays_refused _
    · split <;> simp [hs]

theorem execHlFrameReceive_stays (n : LaneNo) (f : LaneFrame) {s : State} (hs : Canonical s.memories) : Stays (execHlFrameReceive n f s) :=
  stays_of_canonical (laneReceive_canonical (by simpa using hs) n f)

theorem execMgmtRequestFrame_stays (f : LaneFrame) {s : State} (hs : Canonical s.memories) : Stays (execMgmtRequestFrame f s) :=
  stays_of_canonical (laneReceive_canonical (by simpa using hs) 0 f)

theorem execDomainWakeDone_stays (d : Fin 50) {s : State} (hs : Canonical s.memories) : Stays (execDomainWakeDone d s) := by
  simp [execDomainWakeDone, hs]

theorem execRequestAbsentTimeout_stays (r : Requester) {s : State} (hs : Canonical s.memories) : Stays (execRequestAbsentTimeout r s) := by
  have late : ∀ (t : State) (d : Nat), t.memories = s.memories → Stays (.next (t.wakeLate d).pump) := fun t d ht =>
    stays_of_canonical (pump_canonical (by simpa [ht] using hs))
  simp only [execRequestAbsentTimeout]
  split
  · exact late _ _ (by simp)
  · split
    · exact stays_of_canonical hs
    · split
      · exact late _ _ (by simp)
      · split
        · exact stays_of_canonical hs
        · split
          · exact late _ _ (by simp)
          · exact stays_of_canonical hs

theorem execPowerOn_stays (b : BootInputs) {s : State} (hs : Canonical s.memories) : Stays (execPowerOn b s) := by
  simp [execPowerOn, hs]

theorem execVddCoreLoss_stays {s : State} (hs : Canonical s.memories) : Stays (execVddCoreLoss s) := by
  simp [execVddCoreLoss, hs]

theorem execRailUndervoltage_stays (rail : Rail) {s : State} (hs : Canonical s.memories) : Stays (execRailUndervoltage rail s) := by
  cases rail <;> simp [execRailUndervoltage, hs]

theorem execHoldVokFall_stays {s : State} (hs : Canonical s.memories) : Stays (execHoldVokFall s) := by
  simp only [execHoldVokFall]
  split <;> simp [hs]

theorem execFlashOpDone_stays {s : State} (hs : Canonical s.memories) : Stays (execFlashOpDone s) := by
  simp only [execFlashOpDone]
  split <;> simp [hs]

theorem execFlashOpTimeout_stays {s : State} (hs : Canonical s.memories) : Stays (execFlashOpTimeout s) := by
  unfold execFlashOpTimeout
  split <;> simp [hs]

theorem execVddCoreReturn_stays (b : BootInputs) {s : State} (hs : Canonical s.memories) : Stays (execVddCoreReturn b s) := by
  simp [execVddCoreReturn, hs]

theorem execLcFuseDone_stays {s : State} (hs : Canonical s.memories) : Stays (execLcFuseDone s) := by
  unfold execLcFuseDone
  split <;> simp [hs]

theorem execRollbackFuseBlow_stays {s : State} (hs : Canonical s.memories) : Stays (execRollbackFuseBlow s) := by
  unfold execRollbackFuseBlow
  split <;> simp [hs]

/-- Every command: most write neither memory, and the others write words, drop words or program bytes, each of which keeps the form. -/
theorem exec_stays (i : Instr) {s : State} (hs : Canonical s.memories) : Stays (exec i s) := by
  cases i with
  -- start-up, register fabric, management (chapters 00–02, 16)
  | powerOn b => exact execPowerOn_stays b hs
  | supervisorStart => exact (by simp [execSupervisorStart, hs] : Stays (execSupervisorStart s))
  | configRecord => exact execConfigRecord_stays hs
  | configWaitExpire => exact (by simp [execConfigWaitExpire, hs] : Stays (execConfigWaitExpire s))
  | rollbackFuseBlow => exact execRollbackFuseBlow_stays hs
  | lcStateWrite r w => exact stays_of_canonical (writePair_canonical hs ..)
  | lcFuseDone => exact execLcFuseDone_stays hs
  | guardHold r a v => exact execGuardHold_stays r a v hs
  | guardWindowExpire r => exact execGuardWindowExpire_stays r hs
  | idMgmtpathWrite r w => exact stays_of_canonical (writePair_canonical hs ..)
  | shRead r a => exact execShRead_stays r a hs
  | registerWrite r a v => exact stays_of_canonical (writeReg_canonical hs ..)
  | scrubPass => exact (by simp [execScrubPass, hs] : Stays (execScrubPass s))
  | mgmtRequestFrame f => exact execMgmtRequestFrame_stays f hs
  | csp1Frame f => exact execCsp1Frame_stays f hs
  | csp1SelectTimeout => exact (by simp [execCsp1SelectTimeout, hs] : Stays (execCsp1SelectTimeout s))
  | csp1LinesWrite r lines => exact stays_of_canonical (writeFld_canonical hs ..)
  | cspModeWrite r csp1 mode => exact stays_of_canonical (writeFld_canonical hs ..)
  -- link life (chapters 03, 06)
  | trainAdmit p => exact (by simp [execTrainAdmit, hs] : Stays (execTrainAdmit p s))
  | anPageReceive p pg => exact (by simp [execAnPageReceive, hs] : Stays (execAnPageReceive p pg s))
  | anAbandon p => exact (by simp [execAnAbandon, hs] : Stays (execAnAbandon p s))
  | trainingSignalDetect p => exact (by simp [execTrainingSignalDetect, hs] : Stays (execTrainingSignalDetect p s))
  | warmCheck p mismatch => exact (by simp [execWarmCheck, hs] : Stays (execWarmCheck p mismatch s))
  | linkUp p => exact (by simp [execLinkUp, hs] : Stays (execLinkUp p s))
  | trainFail p => exact (by simp [execTrainFail, hs] : Stays (execTrainFail p s))
  | linkLoss p => exact (by simp [execLinkLoss, hs] : Stays (execLinkLoss p s))
  | backoffExpire p => exact (by simp [execBackoffExpire, hs] : Stays (execBackoffExpire p s))
  | rovdlyExpire p => exact (by simp [execRovdlyExpire, hs] : Stays (execRovdlyExpire p s))
  | plcaBeacon p => exact execPlcaBeacon_stays p hs
  | plcaBeaconConflict p => exact (by simp [execPlcaBeaconConflict, hs] : Stays (execPlcaBeaconConflict p s))
  | plcaBeaconTimeout p => exact (by simp [execPlcaBeaconTimeout, hs] : Stays (execPlcaBeaconTimeout p s))
  | plcaToExpire p => exact (by simp [execPlcaToExpire, hs] : Stays (execPlcaToExpire p s))
  | plcaSeenExpire p node => exact stays_of_memories hs (setRb_memories ..)
  | rsDecode p first errs erasedBad frames => exact (by simp [execRsDecode, hs] : Stays (execRsDecode p first errs erasedBad frames s))
  | portTestmodeWrite r p tm => exact stays_of_canonical (writeFld_canonical hs ..)
  | prbsResync p bits errs => exact (by simp [execPrbsResync, hs] : Stays (execPrbsResync p bits errs s))
  -- receive path (chapter 04)
  | portGainWrite r p gain => exact stays_of_canonical (writeFld_canonical hs ..)
  | adcRecalRequest r p seq => exact stays_of_canonical (writeFld_canonical hs ..)
  | adcRecalDone p => exact execAdcRecalDone_stays p hs
  | recalInterval p => exact (by simp [execRecalInterval, hs] : Stays (execRecalInterval p s))
  | swapEffect p => exact (by simp [execSwapEffect, hs] : Stays (execSwapEffect p s))
  | mirrorDone p => exact (by simp [execMirrorDone, hs] : Stays (execMirrorDone p s))
  | gatherComplete n t u => exact execGatherComplete_stays n t u hs
  | slubStart p u v => exact stays_of_memories hs (slubStart_memories ..)
  | slubWindowEnd p u => exact (by simp [execSlubWindowEnd, hs] : Stays (execSlubWindowEnd p u s))
  | slubCap p => exact (by simp [execSlubCap, hs] : Stays (execSlubCap p s))
  | snrBlockEnd p u v => exact execSnrBlockEnd_stays p u v hs
  | mfbEstimate p start u => exact execMfbEstimate_stays p start u hs
  | sqiUpdate p => exact (by simp [execSqiUpdate, hs] : Stays (execSqiUpdate p s))
  -- idle, sleep and wake (chapter 06)
  | lpiTxRequest p => exact (by simp [execLpiTxRequest, hs] : Stays (execLpiTxRequest p s))
  | lpiTxWake p => exact (by simp [execLpiTxWake, hs] : Stays (execLpiTxWake p s))
  | lpiWakeDone p => exact (by simp [execLpiWakeDone, hs] : Stays (execLpiWakeDone p s))
  | lpiRxChange p enter => exact (by simp [execLpiRxChange, hs] : Stays (execLpiRxChange p enter s))
  | sleepRequestReceive p => exact (by simp [execSleepRequestReceive, hs] : Stays (execSleepRequestReceive p s))
  | sleepHandshakeDone p => exact (by simp [execSleepHandshakeDone, hs] : Stays (execSleepHandshakeDone p s))
  | detectorArm p => exact (by simp [execDetectorArm, hs] : Stays (execDetectorArm p s))
  | lineEnergyDetect x => exact (by simp [execLineEnergyDetect, hs] : Stays (execLineEnergyDetect x s))
  | remoteWake p => exact (by simp [execRemoteWake, hs] : Stays (execRemoteWake p s))
  | wakeForward p => exact (by simp [execWakeForward, hs] : Stays (execWakeForward p s))
  | localWake p => exact (by simp [execLocalWake, hs] : Stays (execLocalWake p s))
  | falseWakeTimeout p => exact (by simp [execFalseWakeTimeout, hs] : Stays (execFalseWakeTimeout p s))
  | txOverload p legN => exact stays_of_memories hs (raise_memories ..)
  -- skeins (chapter 05)
  | lgSkeinWrite r g n v => exact stays_of_canonical (writeReg_canonical hs ..)
  | skeinSwapEffect g n => exact (by simp [execSkeinSwapEffect, hs] : Stays (execSkeinSwapEffect g n s))
  | skeinMemberLeave g k => exact (by simp [execSkeinMemberLeave, hs] : Stays (execSkeinMemberLeave g k s))
  | skeinRefresh g n ws => exact (by simp [execSkeinRefresh, hs] : Stays (execSkeinRefresh g n ws s))
  | oamMessageSend p u v => exact (by simp [execOamMessageSend, hs] : Stays (execOamMessageSend p u v s))
  | d2ReportReceive p w => exact (by simp [execD2ReportReceive, hs] : Stays (execD2ReportReceive p w s))
  -- roving and carding (chapter 07)
  | rovingHelloReceive p frame snr u v w => exact (by simp [execRovingHelloReceive, hs] : Stays (execRovingHelloReceive p frame snr u v w s))
  | rovingAckReceive p frame snr u v => exact (by simp [execRovingAckReceive, hs] : Stays (execRovingAckReceive p frame snr u v s))
  | rovingSetreqReceive p frame u => exact (by simp [execRovingSetreqReceive, hs] : Stays (execRovingSetreqReceive p frame u s))
  | rovingSetackReceive p frame u => exact (by simp [execRovingSetackReceive, hs] : Stays (execRovingSetackReceive p frame u s))
  | rovingSnrrepReceive p frame snr u => exact (by simp [execRovingSnrrepReceive, hs] : Stays (execRovingSnrrepReceive p frame snr u s))
  | rovingDataReceive p frame first u => exact execRovingDataReceive_stays p frame first u hs
  | rovingAcqTimeout p => exact (by simp [execRovingAcqTimeout, hs] : Stays (execRovingAcqTimeout p s))
  | rovingRetry p => exact (by simp [execRovingRetry, hs] : Stays (execRovingRetry p s))
  | rovingSettingSwitch p => exact execRovingSettingSwitch_stays p hs
  | rovingSnrrepSend p snr => exact (by simp [execRovingSnrrepSend, hs] : Stays (execRovingSnrrepSend p snr s))
  | rovingSnrLow p snr => exact (by simp [execRovingSnrLow, hs] : Stays (execRovingSnrLow p snr s))
  | rovingFallback p u => exact (by simp [execRovingFallback, hs] : Stays (execRovingFallback p u s))
  | rovingLoss p => exact (by simp [execRovingLoss, hs] : Stays (execRovingLoss p s))
  | rovingRestartWindow p u => exact (by simp [execRovingRestartWindow, hs] : Stays (execRovingRestartWindow p u s))
  | rovingWindowEnd p u => exact (by simp [execRovingWindowEnd, hs] : Stays (execRovingWindowEnd p u s))
  | cardingDone p discard peaks => exact (by simp [execCardingDone, hs] : Stays (execCardingDone p discard peaks s))
  | fpSnapshot p u => exact (by simp [execFpSnapshot, hs] : Stays (execFpSnapshot p u s))
  | fpSnapshotRetry p => exact (by simp [execFpSnapshotRetry, hs] : Stays (execFpSnapshotRetry p s))
  | fpTrendPoint p => exact (by simp [execFpTrendPoint, hs] : Stays (execFpTrendPoint p s))
  -- Wovin scalar, immediate, local and branch (chapter 08)
  | add n w => exact stays_of_memories hs (issueRR_memories ..)
  | addi n w => exact stays_of_memories hs (issueRI_memories ..)
  | sub n w => exact stays_of_memories hs (issueRR_memories ..)
  | and n w => exact stays_of_memories hs (issueRR_memories ..)
  | andi n w => exact stays_of_memories hs (issueRI_memories ..)
  | or n w => exact stays_of_memories hs (issueRR_memories ..)
  | ori n w => exact stays_of_memories hs (issueRI_memories ..)
  | xor n w => exact stays_of_memories hs (issueRR_memories ..)
  | xori n w => exact stays_of_memories hs (issueRI_memories ..)
  | sll n w => exact stays_of_memories hs (issueRR_memories ..)
  | slli n w => exact stays_of_memories hs (issueRI_memories ..)
  | srl n w => exact stays_of_memories hs (issueRR_memories ..)
  | srli n w => exact stays_of_memories hs (issueRI_memories ..)
  | sra n w => exact stays_of_memories hs (issueRR_memories ..)
  | srai n w => exact stays_of_memories hs (issueRI_memories ..)
  | slt n w => exact stays_of_memories hs (issueRR_memories ..)
  | slti n w => exact stays_of_memories hs (issueRI_memories ..)
  | sltu n w => exact stays_of_memories hs (issueRR_memories ..)
  | sltiu n w => exact stays_of_memories hs (issueRI_memories ..)
  | mul n w => exact stays_of_memories hs (issueRR_memories ..)
  | muli n w => exact stays_of_memories hs (issueRI_memories ..)
  | mulh n w => exact stays_of_memories hs (issueRR_memories ..)
  | min n w => exact stays_of_memories hs (issueRR_memories ..)
  | mini n w => exact stays_of_memories hs (issueRI_memories ..)
  | max n w => exact stays_of_memories hs (issueRR_memories ..)
  | maxi n w => exact stays_of_memories hs (issueRI_memories ..)
  | clz n w => exact issue_stays hs (fun t => by simp)
  | sat n w => exact stays_of_memories hs (issueRR_memories ..)
  | sati n w => exact stays_of_memories hs (issueRI_memories ..)
  | li n w => exact issue_stays hs (fun t => by simp)
  | lih n w => exact issue_stays hs (fun t => by simp)
  | lpc n w => exact issue_stays hs (fun t => by simp)
  | ldl n w => exact issue_stays hs (fun t => by simp)
  | stl n w => exact issue_stays hs (fun t => by simp)
  | ldv n w => exact issue_stays hs (fun t => by simp)
  | stv n w => exact issue_stays hs (fun t => by simp)
  | beq n w => exact stays_of_memories hs (issueB_memories ..)
  | bne n w => exact stays_of_memories hs (issueB_memories ..)
  | blt n w => exact stays_of_memories hs (issueB_memories ..)
  | bge n w => exact stays_of_memories hs (issueB_memories ..)
  | bltu n w => exact stays_of_memories hs (issueB_memories ..)
  | bgeu n w => exact stays_of_memories hs (issueB_memories ..)
  | jal n w => exact issue_stays hs (fun t => by simp)
  | jalr n w => exact issue_stays hs (fun t => by simp)
  | branchResolve n => exact stays_of_memories hs (resolveBranch_memories ..)
  -- Wovin vector
  | vadd n w => exact stays_of_memories hs (issueVab_memories ..)
  | vsub n w => exact stays_of_memories hs (issueVab_memories ..)
  | vaddh n w => exact stays_of_memories hs (issueVab_memories ..)
  | vsubh n w => exact stays_of_memories hs (issueVab_memories ..)
  | vand n w => exact stays_of_memories hs (issueVab_memories ..)
  | vor n w => exact stays_of_memories hs (issueVab_memories ..)
  | vxor n w => exact stays_of_memories hs (issueVab_memories ..)
  | vsll n w => exact stays_of_memories hs (issueV_memories ..)
  | vsra n w => exact stays_of_memories hs (issueV_memories ..)
  | vmac n w => exact stays_of_memories hs (issueV_memories ..)
  | vmul n w => exact stays_of_memories hs (issueVab_memories ..)
  | vrnd n w => exact stays_of_memories hs (issueVab_memories ..)
  | vcmul n w => exact stays_of_memories hs (issueVab_memories ..)
  | vcmac n w => exact issue_stays hs (fun t => by simp)
  | vabsh n w => exact stays_of_memories hs (issueV_memories ..)
  | vnegh n w => exact stays_of_memories hs (issueV_memories ..)
  | vbcst n w => exact stays_of_memories hs (issueV_memories ..)
  | vext n w => exact stays_of_memories hs (issueV_memories ..)
  | vins n w => exact stays_of_memories hs (issueV_memories ..)
  | vred n w => exact stays_of_memories hs (issueV_memories ..)
  | vperm n w => exact stays_of_memories hs (issueV_memories ..)
  | vsel n w => exact stays_of_memories hs (issueV_memories ..)
  | vcmp n w => exact stays_of_memories hs (issueVab_memories ..)
  | vmax n w => exact stays_of_memories hs (issueVab_memories ..)
  | vmin n w => exact stays_of_memories hs (issueVab_memories ..)
  | vunpk n w => exact stays_of_memories hs (issueV_memories ..)
  | vflag n w => exact stays_of_memories hs (issueV_memories ..)
  | vbfly n w => exact issue_stays hs (fun t => by simp)
  -- Wovin tagged operations
  | ldb n w => exact issue_stays hs (fun t => by simp)
  | stb n w => exact issue_stays hs (fun t => by simp)
  | gsw n w => exact issue_stays hs (fun t => by simp)
  | cwr n w => exact issue_stays hs (fun t => by simp)
  | cswSwap n w => exact (by simp [execCswSwap, hs] : Stays (execCswSwap n w s))
  | cswMirror n w => exact (by simp [execCswMirror, hs] : Stays (execCswMirror n w s))
  | ldf n w => exact issue_stays hs (fun t => by simp)
  | mbs n w => exact issue_stays hs (fun t => by simp)
  | mbr n w => exact issue_stays hs (fun t => by simp)
  | lck n w => exact issue_stays hs (fun t => by simp)
  | ulk n w => exact issue_stays hs (fun t => by simp)
  | frx n w => exact issue_stays hs (fun t => by simp)
  | ftx n w => exact issue_stays hs (fun t => by simp)
  | tagComplete n t => exact execTagComplete_stays n t hs
  | knotGrant k => exact execKnotGrant_stays k hs
  -- Wovin system
  | wait n w => exact issue_stays hs (fun t => by simp)
  | fence n w => exact issue_stays hs (fun t => by simp)
  | fenceW n w => exact issue_stays hs (fun t => by simp)
  | trap n w => exact issue_stays hs (fun t => by simp)
  | eret n w => exact issue_stays hs (fun t => by simp)
  | sleep n w => exact issue_stays hs (fun t => by simp)
  | mfs n w => exact execMfs_stays n w hs
  | mts n w => exact issue_stays hs (fun t => by simp)
  | waita n w => exact execWaita_stays n w hs
  | spnHalt r n => exact stays_of_canonical (writeFld_canonical hs ..)
  | spnHaltDone n => exact (by simp [execSpnHaltDone, hs] : Stays (execSpnHaltDone n s))
  | spnRelease r n => exact stays_of_canonical (writeFld_canonical hs ..)
  | spnCtlModeWrite r n mode replay => exact stays_of_canonical (writeReg_canonical hs ..)
  | spnImdataAccess r n write v => exact execSpnImdataAccess_stays r n write v hs
  | spnDmdataAccess r n write v => exact execSpnDmdataAccess_stays r n write v hs
  -- line runtime, mailboxes and knots (chapter 09)
  | mbDoorbellWrite r index => exact stays_of_canonical (writeReg_canonical hs ..)
  | commandCopy => exact (by simp [execCommandCopy, hs] : Stays (execCommandCopy s))
  | mbRingConfigWrite r reg v => exact stays_of_canonical (writeReg_canonical hs ..)
  | completionWrite id => exact execCompletionWrite_stays id hs
  | mbCplrdWrite r index => exact stays_of_canonical (writeReg_canonical hs ..)
  | ringRetry cpl raise => exact execRingRetry_stays cpl raise hs
  | hello id => exact (by simp [execHello, hs] : Stays (execHello id s))
  | nop id => exact (by simp [execNop, hs] : Stays (execNop id s))
  | partition id => exact (by simp [execPartition, hs] : Stays (execPartition id s))
  | delegateWin id => exact execDelegateWin_stays id hs
  | delegateLine id => exact execDelegateLine_stays id hs
  | portEnable id => exact (by simp [execPortEnable, hs] : Stays (execPortEnable id s))
  | portDisable id => exact (by simp [execPortDisable, hs] : Stays (execPortDisable id s))
  | portConfig id => exact execPortConfig_stays id hs
  | portRestart id => exact (by simp [execPortRestart, hs] : Stays (execPortRestart id s))
  | portSleep id => exact execPortSleep_stays id hs
  | portWake id => exact (by simp [execPortWake, hs] : Stays (execPortWake id s))
  | portCard id => exact (by simp [execPortCard, hs] : Stays (execPortCard id s))
  | portFpcapture id => exact execPortFpcapture_stays id hs
  | portFpread id => exact execPortFpread_stays id hs
  | portFprestore id => exact execPortFprestore_stays id hs
  | portCoefload id => exact (by simp [execPortCoefload, hs] : Stays (execPortCoefload id s))
  | portPlca id => exact (by simp [execPortPlca, hs] : Stays (execPortPlca id s))
  | skeinSet id => exact execSkeinSet_stays id hs
  | rtStage id => exact (by simp [execRtStage, hs] : Stays (execRtStage id s))
  | rtSwitch r w => exact stays_of_canonical (writePair_canonical hs ..)
  | quantumBoundary n => exact (by simp [execQuantumBoundary, hs] : Stays (execQuantumBoundary n s))
  | quantumTimeout n => exact (by simp [execQuantumTimeout, hs] : Stays (execQuantumTimeout n s))
  | supervisorMove => exact execSupervisorMove_stays hs
  | knotHostAcquire k lease => exact stays_of_canonical (writeReg_canonical hs ..)
  | knotHostRelease k => exact stays_of_canonical (writeReg_canonical hs ..)
  | knotHostRenew k lease => exact stays_of_canonical (writeReg_canonical hs ..)
  | knotLeaseExpire k => exact (by simp [execKnotLeaseExpire, hs] : Stays (execKnotLeaseExpire k s))
  | mbTxWrite r n v => exact stays_of_canonical (writeReg_canonical hs ..)
  | mbHostrxRead r => exact stays_of_canonical (readReg_canonical hs ..)
  -- traffic manager (chapter 10)
  | frameIngress f => exact (by simp [execFrameIngress, hs] : Stays (execFrameIngress f s))
  | txSelect e => exact execTxSelect_stays e (s := s) hs
  | frameTxDone e => exact execFrameTxDone_stays e hs
  | gateEntryAdvance e => exact stays_of_memories hs (closeHeld_memories ..)
  | gclChange r e seq => exact stays_of_canonical (writeFld_canonical hs ..)
  | gclSwap e => exact (by simp [execGclSwap, hs] : Stays (execGclSwap e s))
  | sgChange r k seq => exact stays_of_canonical (writeFld_canonical hs ..)
  | sgSwap k => exact (by simp [execSgSwap, hs] : Stays (execSgSwap k s))
  | queueSample e q => exact execQueueSample_stays e q hs
  | tmPolicerWrite r st second v => exact stays_of_canonical (writeReg_canonical hs ..)
  | tmMeterWrite r m k v => exact stays_of_canonical (writeReg_canonical hs ..)
  -- Plylink (chapter 11)
  | hlFrameReceive n f => exact execHlFrameReceive_stays n f hs
  | capabilitySetReceive n bytes => exact (by simp [execCapabilitySetReceive, hs] : Stays (execCapabilitySetReceive n bytes s))
  | capabilitySetSend n => exact (by simp [execCapabilitySetSend, hs] : Stays (execCapabilitySetSend n s))
  | creditSetReceive n bytes => exact (by simp [execCreditSetReceive, hs] : Stays (execCreditSetReceive n bytes s))
  | timeOrderedSetSend n => exact (by simp [execTimeOrderedSetSend, hs] : Stays (execTimeOrderedSetSend n s))
  | hlEnable r n => exact stays_of_canonical (writeFld_canonical hs ..)
  | hlBuseqChange r n seq => exact stays_of_canonical (writeFld_canonical hs ..)
  | hlSlip r n seq => exact stays_of_canonical (writeFld_canonical hs ..)
  | hlAlign n => exact (by simp [execHlAlign, hs] : Stays (execHlAlign n s))
  | hlAlignLoss n => exact (by simp [execHlAlignLoss, hs] : Stays (execHlAlignLoss n s))
  | hlStep n => exact (by simp [execHlStep, hs] : Stays (execHlStep n s))
  | hlRxLock n => exact (by simp [execHlRxLock, hs] : Stays (execHlRxLock n s))
  | hlRun n => exact (by simp [execHlRun, hs] : Stays (execHlRun n s))
  | hlLos n => exact stays_of_memories hs (laneLoss_memories ..)
  | hlLol n => exact stays_of_memories hs (laneLoss_memories ..)
  | hlRebuExpire n => exact (by simp [execHlRebuExpire, hs] : Stays (execHlRebuExpire n s))
  | hlTxsleep r n on => exact stays_of_canonical (writeFld_canonical hs ..)
  | hlRxsleep r n on => exact stays_of_canonical (writeFld_canonical hs ..)
  | hlTxAbort n => exact stays_of_memories hs (abortTx_memories ..)
  -- distaff (chapter 12)
  | dstArm r seq => exact stays_of_canonical (writeFld_canonical hs ..)
  | dstTrigseq r seq => exact stays_of_canonical (writeFld_canonical hs ..)
  | dstPostDone u => exact (by simp [execDstPostDone, hs] : Stays (execDstPostDone u s))
  | dstCheckpoint c u => exact execDstCheckpoint_stays c u hs
  | dstRelease r seq => exact stays_of_canonical (writeFld_canonical hs ..)
  | dstExport r seq => exact stays_of_canonical (writeFld_canonical hs ..)
  | dstRddataRead r => exact stays_of_canonical (readReg_canonical hs ..)
  | replayStart r g v => exact stays_of_canonical (writeReg_canonical hs ..)
  | replayDone g u v w => exact (by simp [execReplayDone, hs] : Stays (execReplayDone g u v w s))
  | d3TriggerReceive p w => exact (by simp [execD3TriggerReceive, hs] : Stays (execD3TriggerReceive p w s))
  -- clocks and time (chapter 13)
  | clkMonitorWindow src dev ppm => exact (by simp [execClkMonitorWindow, hs] : Stays (execClkMonitorWindow src dev ppm s))
  | pllLockDrop k => exact (by simp [execPllLockDrop, hs] : Stays (execPllLockDrop k s))
  | clkEdgeTimeout src => exact stays_of_memories hs (sourceFail_memories ..)
  | asyncSafeState c => exact execAsyncSafeState_stays c hs
  | pllLock k => exact (by simp [execPllLock, hs] : Stays (execPllLock k s))
  | pllUnblock k => exact (by simp [execPllUnblock, hs] : Stays (execPllUnblock k s))
  | clkSrcselWrite r w => exact stays_of_canonical (writePair_canonical hs ..)
  | clkPllctlWrite r k w => exact stays_of_canonical (writePair_canonical hs ..)
  | clkReadyRead r => exact stays_of_canonical (readReg_canonical hs ..)
  | clkAutoreturn => exact (by simp [execClkAutoreturn, hs] : Stays (execClkAutoreturn s))
  | xqueueResume d => exact (by simp [execXqueueResume, hs] : Stays (execXqueueResume d s))
  | timeSet r seq => exact stays_of_canonical (writeFld_canonical hs ..)
  | timeStep r seq => exact stays_of_canonical (writeFld_canonical hs ..)
  | ppsInEdge => exact (by simp [execPpsInEdge, hs] : Stays (execPpsInEdge s))
  | ppsOutPulse => exact (by simp [execPpsOutPulse, hs] : Stays (execPpsOutPulse s))
  | ppsOutEnd => exact (by simp [execPpsOutEnd, hs] : Stays (execPpsOutEnd s))
  -- power (chapter 14)
  | domainTargetOn r d => exact stays_of_canonical (targetWrite_canonical hs ..)
  | domainTargetRet r d delay => exact stays_of_canonical (targetWrite_canonical hs ..)
  | domainTargetOff r d delay => exact stays_of_canonical (targetWrite_canonical hs ..)
  | handshakeDelayExpire d again => exact execHandshakeDelayExpire_stays d again hs
  | domainEntryDone d => exact (by simp [execDomainEntryDone, hs] : Stays (execDomainEntryDone d s))
  | domainWakeDone d => exact execDomainWakeDone_stays d hs
  | requestAbsentTimeout r => exact execRequestAbsentTimeout_stays r hs
  | pwrForceoff r w => exact stays_of_canonical (writePair_canonical hs ..)
  | vddCoreLoss => exact execVddCoreLoss_stays hs
  | parkEntryDone => exact (by simp [execParkEntryDone, hs] : Stays (execParkEntryDone s))
  | wakeInAssert => exact (by simp [execWakeInAssert, hs] : Stays (execWakeInAssert s))
  | parkWake src => exact execParkWake_stays src hs
  | vddCoreReturn b => exact execVddCoreReturn_stays b hs
  | railUndervoltage rail => exact execRailUndervoltage_stays rail hs
  | aonBrownout => exact (by simp [execAonBrownout, hs] : Stays (execAonBrownout s))
  | aonRestart => exact (by simp [execAonRestart, hs] : Stays (execAonRestart s))
  | holdupEngage => exact stays_of_canonical (holdup_canonical hs)
  | holdVokFall => exact execHoldVokFall_stays hs
  | holdGaugeEmpty holdMv => exact execHoldGaugeEmpty_stays holdMv hs
  -- faults and self-test (chapter 15)
  | faultEvent => exact execFaultEvent_stays hs
  | faultQuietExpire src => exact (by simp [execFaultQuietExpire, hs] : Stays (execFaultQuietExpire src s))
  | fltRelease r seq src => exact stays_of_canonical (writeReg_canonical hs ..)
  | fltReccfgWrite r w => exact stays_of_canonical (writePair_canonical hs ..)
  | fltCodecfgWrite r c w => exact stays_of_canonical (writePair_canonical hs ..)
  | faultNWidthExpire => exact (by simp [execFaultNWidthExpire, hs] : Stays (execFaultNWidthExpire s))
  | fltPinWrite r v => exact stays_of_canonical (writeReg_canonical hs ..)
  | fltAckWrite r ack => exact stays_of_canonical (writeFld_canonical hs ..)
  | fltHistRead r => exact stays_of_canonical (readReg_canonical hs ..)
  | bistInterval => exact (by simp [execBistInterval, hs] : Stays (execBistInterval s))
  | bistConditionTimeout => exact execBistConditionTimeout_stays hs
  | bistDone fail => exact execBistDone_stays fail hs
  | bistAbort => exact execBistAbort_stays hs
  | bistExternal r seq cls unit => exact stays_of_canonical (writeReg_canonical hs ..)
  -- images, flash, pins (chapters 16, 17)
  | csp0Commit r w => exact stays_of_canonical (writePair_canonical hs ..)
  | flashOpDone => exact execFlashOpDone_stays hs
  | flashOpTimeout => exact execFlashOpTimeout_stays hs
  | flashLineFill line => exact (by simp [execFlashLineFill, hs] : Stays (execFlashLineFill line s))
  | flashReadTimeout => exact (by simp [execFlashReadTimeout, hs] : Stays (execFlashReadTimeout s))
  | csp0Reboot r w => exact stays_of_canonical (writePair_canonical hs ..)
  | pinFuncWrite r pin v => exact stays_of_canonical (writeReg_canonical hs ..)
  | pinFuncSwitchDone pin => exact stays_of_memories hs (setRb_memories ..)
  | plcaBeaconReturn p => exact (by simp [execPlcaBeaconReturn, hs] : Stays (execPlcaBeaconReturn p s))
  | partnerSleepReject p => exact execPartnerSleepReject_stays p hs

/-- One step from canonical memories: the front command's effect, or a tick of time and the accesses that then go on. -/
theorem step_canonical {s t : State} (hs : Canonical s.memories) (h : step s = .next t) : Canonical t.memories := by
  unfold step at h
  split at h
  · cases h
    exact idle_canonical hs
  · exact exec_stays _ (by simpa using hs) t h

end Sys2Proof.Machine

namespace Sys2Proof
open Machine

/-- Settles O5: the form holds through every operation that a step is made of. -/
theorem memoriesStayCanonical : Obligations.MemoriesStayCanonical := by
  unfold Obligations.MemoriesStayCanonical
  intro s t hb hf h
  exact step_canonical (s := s) ⟨hb, hf⟩ h

end Sys2Proof
end

section
/-! PROOF. REGISTER_WRITE (O6): the register map's addresses, what the distaff's record of a write leaves, how a write fails at once, and what the
writes of a port's words store. -/

namespace Sys2Proof.Machine

/-! ### The register map -/

theorem regMap_at_eq {a : Nat} {l : RegLoc} {row : RegRow} {second : Bool} (h : RegMap.at a = some (l, row, second)) :
    RegLoc.of a = some l ∧ RegMap.find (RegMap.rows l.blk) l.off = some (row, second) := by
  unfold RegMap.at at h
  split at h
  · cases h
  · rename_i l' hl
    split at h
    · cases h
    · rename_i r b hf
      cases h
      exact ⟨hl, hf⟩

/-- Registers lie below the bobbin (R32). -/
theorem regMap_at_none {a : Nat} (h : 0x1000000 ≤ a) : RegMap.at a = none := by
  have hl : RegLoc.of a = none := by
    unfold RegLoc.of
    repeat rw [if_neg (by omega)]
  simp [RegMap.at, hl]

theorem lt_of_regMap_at {a : Nat} (h : RegMap.at a ≠ none) : a < 0x1000000 := by
  by_contra hc
  exact h (regMap_at_none (by omega))

/-- A branch of an address map that is not a port's is not taken at a port's word. -/
theorem not_of_ite_port {c : Prop} [Decidable c] {x : RegLoc} {o : Option RegLoc} {l : RegLoc} (hb : l.blk = .port) (hx : x.blk ≠ .port)
    (h : (if c then some x else o) = some l) : ¬c ∧ o = some l := by
  by_cases hc : c
  · rw [if_pos hc, Option.some.injEq] at h
    exact absurd (h ▸ hb) hx
  · exact ⟨hc, by rwa [if_neg hc] at h⟩

theorem tmAt_blk {a : Nat} {l : RegLoc} (h : RegLoc.tmAt a = some l) : l.blk ≠ .port := by
  have he : ∀ e o : Nat, (RegLoc.egressAt e o).blk ≠ .port := fun e o => by unfold RegLoc.egressAt; split <;> simp
  intro hb
  unfold RegLoc.tmAt at h
  obtain ⟨h0, h⟩ := not_of_ite_port hb (by simp) h
  by_cases hs : a < 0x94000
  · rw [if_pos hs, Option.ite_none_left_eq_some, Option.some.injEq] at h
    simp [← h.2] at hb
  · rw [if_neg hs] at h
    obtain ⟨h1, h⟩ := not_of_ite_port hb (by simp) h
    obtain ⟨h2, h⟩ := Option.ite_none_left_eq_some.mp h
    obtain ⟨h3, h⟩ := not_of_ite_port hb (by simp) h
    obtain ⟨h4, h⟩ := not_of_ite_port hb (he _ _) h
    exact absurd h.symm (Option.some_ne_none l)

/-- A port's words: its number and offset give the address back (R32). -/
theorem regLoc_port {a : Nat} {l : RegLoc} (h : RegLoc.of a = some l) (hb : l.blk = .port) :
    a = 0x10000 + 0x1000 * l.inst + l.off ∧ a < 0x70000 := by
  unfold RegLoc.of at h
  iterate 10 replace h := (not_of_ite_port hb (by simp) h).2
  obtain ⟨hlo, h⟩ := Option.ite_none_left_eq_some.mp h
  by_cases hp : a < 0x70000
  · rw [if_pos hp, Option.some.injEq] at h
    subst h
    exact ⟨by show a = 0x10000 + 0x1000 * ((a - 0x10000) / 0x1000) + (a - 0x10000) % 0x1000; omega, hp⟩
  · rw [if_neg hp] at h
    replace h := (not_of_ite_port hb (by simp) h).2
    replace h := (Option.ite_none_left_eq_some.mp h).2
    replace h := (not_of_ite_port hb (by simp) h).2
    replace h := (Option.ite_none_left_eq_some.mp h).2
    by_cases ht : a < 0x100000
    · rw [if_pos ht] at h
      exact absurd hb (tmAt_blk h)
    · rw [if_neg ht] at h
      replace h := (not_of_ite_port hb (by simp) h).2
      replace h := (Option.ite_none_left_eq_some.mp h).2
      replace h := (not_of_ite_port hb (by simp) h).2
      exact absurd h.symm (Option.some_ne_none l)

theorem find_mem {rows : List RegRow} {o : Nat} {row : RegRow} {b : Bool} (h : RegMap.find rows o = some (row, b)) :
    row ∈ rows ∧ row.hit o = some b := by
  induction rows with
  | nil => cases h
  | cons r rs ih =>
    unfold RegMap.find at h
    split at h
    · rename_i c hc
      cases h
      exact ⟨List.mem_cons_self, hc⟩
    · exact ⟨List.mem_cons_of_mem _ (ih h).1, (ih h).2⟩

/-- No word of a port is guarded. -/
theorem port_row_not_grd : ∀ row ∈ RegMap.port, row.acc ≠ .grd := by decide

/-- The runtime writes no bits of an RW word (R79). -/
theorem port_rw_row : ∀ row ∈ RegMap.port, row.acc = .rw → row.cnt = 1 ∧ row.step = 1 ∧ runMask row.off = 0 := by decide

theorem runMask_rw {o : Nat} {row : RegRow} (h : RegMap.find RegMap.port o = some (row, false)) (hr : row.acc = .rw) : runMask o = 0 := by
  obtain ⟨hm, hh⟩ := find_mem h
  obtain ⟨hc, hs, h0⟩ := port_rw_row row hm hr
  have ho : o = row.off := by
    by_contra hne
    by_cases hlt : o < row.off
    · simp [RegRow.hit, hlt] at hh
    · have : ¬ o - row.off < 1 := by omega
      simp [RegRow.hit, hlt, hc, hs, hr, this] at hh
  exact ho ▸ h0

/-! ### The distaff's record of a write (R311) -/

/-- What an event of the distaff can change: its list of events, or the count and the mark of events lost. -/
theorem dstEvent_frame {β : Type} (g : State → β) (hd : ∀ s d, g { s with dst := d } = g s)
    (hr : ∀ s a v, a = Reg.DST_EVLOST ∨ a = Reg.DST_STAT → g (s.setReg a v) = g s) (s : State) (typ : Nat) (spec : Bool) (unit info : Nat)
    (cont : List Word) : g (s.dstEvent typ spec unit info cont) = g s := by
  simp only [State.dstEvent]
  split
  · split
    · exact hd _ _
    · rw [setRb_eq, bump_eq, hr _ _ _ (.inr rfl), hr _ _ _ (.inl rfl)]
  · rfl

theorem regwr_frame {β : Type} (g : State → β) (hd : ∀ s d, g { s with dst := d } = g s)
    (hr : ∀ s a v, a = Reg.DST_EVLOST ∨ a = Reg.DST_STAT → g (s.setReg a v) = g s) (s : State) (l : RegLoc) (a : Nat) (v : Word) :
    g (s.regwr l a v) = g s := by
  unfold State.regwr
  split
  · exact dstEvent_frame g hd hr _ _ _ _ _ _
  · rfl

theorem reg_regwr (s : State) (l : RegLoc) (a : Nat) (v : Word) {b : Nat} (h1 : b ≠ Reg.DST_EVLOST) (h2 : b ≠ Reg.DST_STAT) :
    (s.regwr l a v).reg b = s.reg b :=
  regwr_frame (fun t => t.reg b) (fun _ _ => rfl) (fun t c w hc => reg_setReg_other t w (by rintro rfl; exact hc.elim h1 h2)) s l a v

theorem spns_regwr (s : State) (l : RegLoc) (a : Nat) (v : Word) : (s.regwr l a v).spns = s.spns :=
  regwr_frame State.spns (fun _ _ => rfl) (fun _ _ _ _ => rfl) s l a v

theorem ports_regwr (s : State) (l : RegLoc) (a : Nat) (v : Word) : (s.regwr l a v).ports = s.ports :=
  regwr_frame State.ports (fun _ _ => rfl) (fun _ _ _ _ => rfl) s l a v

theorem bobbin_regwr (s : State) (l : RegLoc) (a : Nat) (v : Word) : (s.regwr l a v).bobbin = s.bobbin :=
  regwr_frame State.bobbin (fun _ _ => rfl) (fun _ _ _ _ => rfl) s l a v

theorem fuses_regwr (s : State) (l : RegLoc) (a : Nat) (v : Word) : (s.regwr l a v).fuses = s.fuses :=
  regwr_frame State.fuses (fun _ _ => rfl) (fun _ _ _ _ => rfl) s l a v

/-! ### Completions of a write -/

/-- A write by a present requester with nothing waiting: the attempt's status is its reply. -/
theorem performs_of_attempt {s t : State} {r : Requester} {a : BitVec 32} {v : Word} {st : Nat} {P : State → Prop}
    (hp : s.present (reqNo r) = true) (hf : s.firstOf (reqNo r) = none)
    (ha : s.attempt { req := reqNo r, write := true, addr := a.toNat, data := v, sink := .bare, may := s.mayWrite (reqNo r) a.toNat } =
      (some (st, 0), t))
    (hP : P (t.setReply (reqNo r) st a.toNat 0)) : Performs r a.toNat st (exec (.registerWrite r a v) s) P := by
  refine ⟨t.setReply (reqNo r) st a.toNat 0, ?_, completed_setReply t r st a.toNat, hP⟩
  show Host.Outcome.next (s.writeReg r a.toNat v) = _
  rw [State.writeReg, access_go (w := { req := reqNo r, write := true, addr := a.toNat, data := v, sink := .bare }) hp hf ha]
  rfl

/-- A write that its requester can make of an assigned word: what the word's own write answers. -/
theorem performs_of_writeWord {s t : State} {r : Requester} {a : BitVec 32} {v : Word} {st : Nat} {P : State → Prop} (h : CanWrite s r a.toNat)
    (hm : RegMap.at a.toNat ≠ none) (hw : s.writeWord (reqNo r) a.toNat v = (st, t)) (hP : P (t.setReply (reqNo r) st a.toNat 0)) :
    Performs r a.toNat st (exec (.registerWrite r a v) s) P := by
  refine ⟨t.setReply (reqNo r) st a.toNat 0, ?_, completed_setReply t r st a.toNat, hP⟩
  show Host.Outcome.next (s.writeReg r a.toNat v) = _
  rw [writeReg_eq v h (lt_of_regMap_at hm) hm, hw]


/-! ### Writes that fail (R35, R37, R40, R26) -/

section
variable {s : State} {r : Requester} {a : BitVec 32} (v : Word) (hp : s.present (reqNo r) = true) (hf : s.firstOf (reqNo r) = none)
include hp hf

theorem write_denied (ha : a.toNat < 0x1000000) (hm : s.mayWrite (reqNo r) a.toNat = false) :
    Performs r a.toNat 3 (exec (.registerWrite r a v) s) (fun t =>
      (∀ b, b ≠ Reg.FLT_REPEATCNT → b ≠ Reg.FLT_INLOST → t.reg b = s.reg b) ∧ t.bobbin = s.bobbin ∧ t.spns = s.spns) := by
  refine performs_of_attempt (t := if reqNo r < 48 then s.raise (0x080 + reqNo r) 0x14 a.toNat else s) hp hf
    (by simp [State.attempt, ha, hm, stDENIED]) ?_
  split
  · refine ⟨fun b h1 h2 => reg_raise s _ _ _ b h1 h2, ?_, ?_⟩
    · exact raise_frame State.bobbin (fun _ _ => rfl) (fun _ _ _ => rfl) s _ _ _
    · exact raise_frame State.spns (fun _ _ => rfl) (fun _ _ _ => rfl) s _ _ _
  · exact ⟨fun _ _ _ => rfl, rfl, rfl⟩

theorem write_unassigned (ha : 0x1800000 ≤ a.toNat) :
    Performs r a.toNat 1 (exec (.registerWrite r a v) s) (fun t =>
      t.regs = s.regs ∧ t.bobbin = s.bobbin ∧ t.spns = s.spns ∧ t.flt = s.flt) := by
  have hn : RegMap.at a.toNat = none := regMap_at_none (by omega)
  have hb : isBobbin a.toNat = false := by simp [isBobbin, ha]
  have hr : ¬ a.toNat < 0x1000000 := by omega
  exact performs_of_attempt (t := s) hp hf (by simp [State.attempt, unmapped, hr, hn, hb, stNOMAP]) ⟨rfl, rfl, rfl, rfl⟩

theorem write_isolated {d : Nat} (ha : RegMap.at a.toNat ≠ none) (hd : domainOf a.toNat = some d) (hm : s.mayWrite (reqNo r) a.toNat = true)
    (hi : (s.dom d).isolated = true) :
    Performs r a.toNat 2 (exec (.registerWrite r a v) s) (fun t => (∀ b, b ≠ Reg.CLK_XDROP 2 → t.reg b = s.reg b) ∧
      t.reg (Reg.CLK_XDROP 2) = s.reg (Reg.CLK_XDROP 2) + (if crossClock d then 1 else 0) ∧ t.bobbin = s.bobbin ∧ t.pwr = s.pwr) := by
  have hl := lt_of_regMap_at ha
  have hb : isBobbin a.toNat = false := by simp [isBobbin, hl]
  have hw : isFlashWin a.toNat = false := by simp [isFlashWin]; omega
  have hg : s.gate d = .absent := by simp [State.gate, hi]
  refine performs_of_attempt (t := s.crossDrop d 3) hp hf (by simp [State.attempt, unmapped, hm, hb, hw, ha, hd, hg, stABSENT]) ?_
  unfold State.crossDrop
  split
  · refine ⟨fun b h => reg_setReg_other s _ h, ?_, rfl, rfl⟩
    exact reg_setReg_same s _ _
  · exact ⟨fun _ _ => rfl, (BitVec.add_zero _).symm, rfl, rfl⟩

end

/-- R37, R79: a read-only, counter or live word, outside what the runtime writes. -/
theorem write_readOnly {s : State} {r : Requester} {a : BitVec 32} (v : Word) {l : RegLoc} {row : RegRow} (h : CanWrite s r a.toNat)
    (hm : RegMap.at a.toNat = some (l, row, false)) (ha : row.acc = .ro ∨ row.acc = .cnt ∨ row.acc = .live) (hd : isDelegation l = false)
    (hr : l.blk = .port → s.isRuntime (reqNo r) = true → runMask l.off = 0) :
    Performs r a.toNat 6 (exec (.registerWrite r a v) s) (fun t => t.regs = s.regs ∧ t.bobbin = s.bobbin ∧ t.spns = s.spns) := by
  have hl := lt_of_regMap_at (a := a.toNat) (by simp [hm])
  have hb : isBobbin a.toNat = false := by simp [isBobbin, hl]
  have hg : row.acc ≠ .grd ∧ row.acc ≠ .rw := by rcases ha with e | e | e <;> simp [e]
  have hn : ¬ (l.blk = .port ∧ s.isRuntime (reqNo r) = true ∧ runMask l.off ≠ 0) := fun ⟨h1, h2, h3⟩ => h3 (hr h1 h2)
  refine performs_of_writeWord (t := s) h (by simp [hm]) ?_ ⟨rfl, rfl, rfl⟩
  simp [State.writeWord, State.writeAt, hb, hm, hg, hd, hn, stRDONLY]

/-! ### Writes that store (R32, R36, R43, R79) -/

theorem write_bobbin {s : State} {r : Requester} {a : BitVec 32} (v : Word) (h : CanWrite s r a.toNat) (hl : 0x1000000 ≤ a.toNat)
    (hb : a.toNat < 0x1800000) :
    Performs r a.toNat 0 (exec (.registerWrite r a v) s) (fun t =>
      t.bob (a.toNat - 0x1000000) = v ∧ (∀ k, k ≠ a.toNat - 0x1000000 → t.bob k = s.bob k) ∧ t.regs = s.regs ∧ t.spns = s.spns) := by
  refine ⟨_, congrArg Host.Outcome.next (writeReg_bobbin v h hl hb), completed_setReply _ r 0 a.toNat, ?_, fun k hk => ?_, rfl, rfl⟩
  · exact bob_setBob_same s _ v
  · exact bob_setBob_other s v hk

/-- The word of a port that carries no further effect is stored as it is. -/
theorem portWrite_plain (s : State) (r : Nat) {p o a : Nat} (w : Word) (ha : a = 0x10000 + 0x1000 * p + o)
    (ho : o ≠ 2 ∧ o ≠ 4 ∧ o ≠ 8 ∧ o ≠ 0x20 ∧ o ≠ 0x24 ∧ o ≠ 0x25 ∧ o ≠ 0x72) : s.portWrite r p o a w = s.setReg a w := by
  obtain ⟨h2, h4, h8, h20, h24, h25, h72⟩ := ho
  have hmode : ¬ (a = Reg.PORT_TESTMODE p ∨ a = Reg.PORT_MODE p) := by unfold Reg.PORT_TESTMODE Reg.PORT_MODE; omega
  have hfp : a ≠ Reg.PORT_FPCFG p := by unfold Reg.PORT_FPCFG; omega
  simp [State.portWrite, hmode, hfp, h8, h20, h24, h25]

/-- The state after a write that stores `w` in the word `a` of a block whose writes the distaff records. -/
def State.stored (s : State) (l : RegLoc) (a : Nat) (w v : Word) : State := ((s.setReg a w).goodParity a).regwr l a v

theorem reg_stored_same (s : State) (l : RegLoc) {a : Nat} (w v : Word) (h : a < 0x200000) : (s.stored l a w v).reg a = w := by
  rw [State.stored, reg_regwr _ _ _ _ (by unfold Reg.DST_EVLOST; omega) (by unfold Reg.DST_STAT; omega)]
  exact reg_setReg_same s a w

theorem reg_stored_other (s : State) (l : RegLoc) {a b : Nat} (w v : Word) (hb : b ≠ a) (h1 : b ≠ Reg.DST_EVLOST) (h2 : b ≠ Reg.DST_STAT) :
    (s.stored l a w v).reg b = s.reg b := by
  rw [State.stored, reg_regwr _ _ _ _ h1 h2]
  exact reg_setReg_other s w hb

theorem spns_stored (s : State) (l : RegLoc) (a : Nat) (w v : Word) : (s.stored l a w v).spns = s.spns := spns_regwr _ l a v
theorem ports_stored (s : State) (l : RegLoc) (a : Nat) (w v : Word) : (s.stored l a w v).ports = s.ports := ports_regwr _ l a v
theorem bobbin_stored (s : State) (l : RegLoc) (a : Nat) (w v : Word) : (s.stored l a w v).bobbin = s.bobbin := bobbin_regwr _ l a v
theorem fuses_stored (s : State) (l : RegLoc) (a : Nat) (w v : Word) : (s.stored l a w v).fuses = s.fuses := fuses_regwr _ l a v

/-- R36, R43: a port's configuration word takes the bits it has, put into range. -/
theorem write_port {s : State} {r : Requester} {a : BitVec 32} (v : Word) {l : RegLoc} {row : RegRow} (h : CanWrite s r a.toNat)
    (hm : RegMap.at a.toNat = some (l, row, false)) (ha : row.acc = .rw) (hp : l.blk = .port)
    (ho : l.off ≠ 2 ∧ l.off ≠ 4 ∧ l.off ≠ 8 ∧ l.off ≠ 0x20 ∧ l.off ≠ 0x24 ∧ l.off ≠ 0x25 ∧ l.off ≠ 0x72) :
    Performs r a.toNat 0 (exec (.registerWrite r a v) s) (fun t =>
      t.reg a.toNat = clampWord l (s.reg (Reg.PORT_CAP l.inst)) ((s.reg a.toNat &&& ~~~BitVec.ofNat 48 row.mask) ||| (v &&& BitVec.ofNat 48 row.mask)) ∧
      (∀ b, b ≠ a.toNat → b ≠ Reg.DST_EVLOST → b ≠ Reg.DST_STAT → t.reg b = s.reg b) ∧
      t.bobbin = s.bobbin ∧ t.spns = s.spns ∧ t.ports = s.ports ∧ t.fuses = s.fuses) := by
  obtain ⟨hl, hf⟩ := regMap_at_eq hm
  rw [hp] at hf
  obtain ⟨hae, hlt⟩ := regLoc_port hl hp
  have hb : isBobbin a.toNat = false := by simp [isBobbin]; omega
  have hd : isDelegation l = false := by simp [isDelegation, hp]
  refine performs_of_writeWord (t := s.stored l a.toNat (clampWord l (s.reg (Reg.PORT_CAP l.inst)) (s.masked row a.toNat v)) v) h (by simp [hm]) ?_
    ⟨reg_stored_same s l _ v (by omega), fun b hb h1 h2 => reg_stored_other s l _ v hb h1 h2, bobbin_stored .., spns_stored .., ports_stored ..,
      fuses_stored ..⟩
  simp [State.writeWord, State.writeAt, State.storeAt, State.stored, hb, hm, ha, hd, hp, runMask_rw hf ha, portWrite_plain s _ _ hae ho, stOK]

/-- R79: a word that the state's owner writes takes the runtime's bits. -/
theorem write_runtime {s : State} {r : Requester} {a : BitVec 32} (v : Word) {l : RegLoc} {row : RegRow} (h : CanWrite s r a.toNat)
    (hm : RegMap.at a.toNat = some (l, row, false)) (hp : l.blk = .port) (h0 : l.off ≠ 0) (hk : runMask l.off ≠ 0)
    (hr : s.isRuntime (reqNo r) = true) :
    Performs r a.toNat 0 (exec (.registerWrite r a v) s) (fun t =>
      t.reg a.toNat = (s.reg a.toNat &&& ~~~BitVec.ofNat 48 (runMask l.off)) ||| (v &&& BitVec.ofNat 48 (runMask l.off)) ∧
      (∀ b, b ≠ a.toNat → b ≠ Reg.DST_EVLOST → b ≠ Reg.DST_STAT → t.reg b = s.reg b) ∧
      t.bobbin = s.bobbin ∧ t.spns = s.spns ∧ t.ports = s.ports) := by
  obtain ⟨hl, hf⟩ := regMap_at_eq hm
  rw [hp] at hf
  have hg : row.acc ≠ .grd := port_row_not_grd row (find_mem hf).1
  obtain ⟨hae, hlt⟩ := regLoc_port hl hp
  have hb : isBobbin a.toNat = false := by simp [isBobbin]; omega
  have hd : isDelegation l = false := by simp [isDelegation, hp]
  have hw : s.writeWord (reqNo r) a.toNat v = (stOK, (s.setReg a.toNat
      ((s.reg a.toNat &&& ~~~BitVec.ofNat 48 (runMask l.off)) ||| (v &&& BitVec.ofNat 48 (runMask l.off)))).regwr l a.toNat v) := by
    simp [State.writeWord, State.writeAt, State.runtimeWrite, hb, hm, hg, hd, hp, hr, hk, h0]
  refine performs_of_writeWord h (by simp [hm]) hw ⟨?_, fun b hb h1 h2 => ?_, bobbin_regwr .., spns_regwr .., ports_regwr ..⟩
  · exact (reg_regwr _ l _ v (by unfold Reg.DST_EVLOST; omega) (by unfold Reg.DST_STAT; omega)).trans (reg_setReg_same s _ _)
  · exact (reg_regwr _ l _ v h1 h2).trans (reg_setReg_other s _ hb)

/-- The ID block has no RW word (R54). -/
theorem id_row_not_rw : ∀ row ∈ RegMap.id, row.acc ≠ .rw := by decide

end Sys2Proof.Machine

namespace Sys2Proof
open Machine

/-- Settles O6: how a write fails, and what it stores where it does not. -/
theorem registerWrites : Obligations.RegisterWrites := by
  unfold Obligations.RegisterWrites
  refine ⟨fun r a v s hp hf => ⟨write_denied v hp hf, write_unassigned v hp hf, fun d => write_isolated v hp hf,
    fun l row hm ha hd h hr => write_readOnly v h hm ha hd hr⟩, fun r a v s h => ⟨write_bobbin v h, fun l row hm ha hblk => ?_,
    fun l row hm hp h0 hk hr => write_runtime v h hm hp h0 hk hr⟩⟩
  rcases hblk with hid | ⟨hp, ho⟩
  · obtain ⟨-, hf⟩ := regMap_at_eq hm
    rw [hid] at hf
    exact absurd ha (id_row_not_rw row (find_mem hf).1)
  · exact write_port v h hm ha hp ho

end Sys2Proof
end

section
/-! PROOF. Local loads and stores (O18): what an instruction that retires leaves, what one that raises an exception leaves, and the shared local access. -/

namespace Sys2Proof.Machine

/-- An instruction that retires with an effect `f` on its spindle, everything else standing as in `u`. -/
theorem apply_retire_leaves {s b u : State} (n : Nat) (f : Spindle → Spindle) (hb : (b.spn n).pc = (s.spn n).pc) (hu : ∀ m, u.spn m = s.spn m)
    (hf : (f (s.spn n)).pc = (s.spn n).pc) :
    Leaves s (u.fetched (s.spn n).pc) n ((f (s.spn n)).step ((s.spn n).pc + 1)) (.next (b.apply n (.retire (u.updSpn n f)))) := by
  refine ⟨_, rfl, ?_, fun m hm => ?_, ?_⟩
  · simp [State.apply, spn_fetched, updSpn_eq, hu, hf]
  · simp [State.apply, spn_fetched, updSpn_eq, spn_setSpn, hm, hu]
  · simp only [State.apply, hb, State.updSpn, setSpn_eq, fetched_withSpns, withSpns_self, withSpns_spns]

/-! ### Exceptions (R221, R222) -/

theorem reg_fetched (s : State) (pc : Nat) {a : Nat} (h1 : a ≠ Reg.CSP0_PFHIT) (h2 : a ≠ Reg.CSP0_PFMISS) : (s.fetched pc).reg a = s.reg a := by
  unfold State.fetched
  split
  · unfold State.flashTouch
    split
    · exact reg_setReg_other _ _ h1
    · exact reg_setReg_other _ _ h2
  · rfl

/-- An exception outside a handler. -/
theorem except_eq (s : State) (n code info : Nat) (h : (s.spn n).exc = false) :
    s.except n code info =
      (((s.setSpn n { s.spn n with
          epc := BitVec.ofNat 48 (if code = 4 then (s.spn n).pc + 1 else (s.spn n).pc)
          ecause := BitVec.ofNat 48 (code * 2 ^ 40 + info % 2 ^ 32), exc := true, pc := 4 }).setReg (Reg.SPN_EPC n)
        (BitVec.ofNat 48 (if code = 4 then (s.spn n).pc + 1 else (s.spn n).pc))).setReg (Reg.SPN_ECAUSE n)
        (BitVec.ofNat 48 (code * 2 ^ 40 + info % 2 ^ 32))).bump (Reg.SPN_EXCCNT n) := by
  unfold State.except
  exact if_neg (by simp [h])

theorem fuses_of_fixed {s t : State} (h : t.fixed = s.fixed) : t.fuses = s.fuses := (Prod.mk.inj h).1
theorem pending_of_fixed {s t : State} (h : t.fixed = s.fixed) : t.pending = s.pending := (Prod.mk.inj h).2
theorem bobbin_of_memories {s t : State} (h : t.memories = s.memories) : t.bobbin = s.bobbin := (Prod.mk.inj h).1

/-- An exception of an instruction that its fetch has passed, outside a handler and off a predicted path; `b` stands after the fetch. -/
theorem apply_raise {s b : State} {n code : Nat} (info : Nat) (hs : ∀ m, b.spn m = s.spn m) (hr : b.reg (Reg.SPN_EXCCNT n) = s.reg (Reg.SPN_EXCCNT n))
    (hf : b.fixed = s.fixed) (hm : b.memories = s.memories) (hc : code ≠ 2 ∧ code ≠ 5 ∧ code ≠ 6) (hx : (s.spn n).exc = false)
    (hk : (s.spn n).ckpts = []) : Raises s n code info (.next (b.apply n (.raise code info))) := by
  obtain ⟨h2, h5, h6⟩ := hc
  have ha : b.apply n (.raise code info) = (b.except n code info).fetched (s.spn n).pc := by
    simp [State.apply, hs, hk, h2, h5, h6]
  have hfix : ((b.except n code info).fetched (s.spn n).pc).fixed = s.fixed := by simp [hf]
  have hmem : ((b.except n code info).fetched (s.spn n).pc).memories = s.memories := by simp [hm]
  have hreg : ∀ a, 0x100000 ≤ a → ((b.except n code info).fetched (s.spn n).pc).reg a = (b.except n code info).reg a := fun a h =>
    reg_fetched _ _ (by unfold Reg.CSP0_PFHIT; omega) (by unfold Reg.CSP0_PFMISS; omega)
  have hEpc : Reg.SPN_EPC n = 0x100000 + 0x100 * n + 0x3 := rfl
  have hEcause : Reg.SPN_ECAUSE n = 0x100000 + 0x100 * n + 0x4 := rfl
  have hExccnt : Reg.SPN_EXCCNT n = 0x100000 + 0x100 * n + 0x12 := rfl
  have he := except_eq b n code info (by rw [hs]; exact hx)
  rw [hs, bump_eq] at he
  refine ⟨_, congrArg Host.Outcome.next ha, ?_, fun m hm => ?_, ?_, ?_, ?_, pending_of_fixed hfix, bobbin_of_memories hmem,
    fuses_of_fixed hfix⟩
  · rw [spn_fetched, he, spn_setReg, spn_setReg, spn_setReg, spn_setSpn_same]
  · rw [spn_fetched, he, spn_setReg, spn_setReg, spn_setReg, spn_setSpn_other _ _ hm, hs]
  · rw [hreg _ (by omega), he, reg_setReg_other _ _ (by omega), reg_setReg_other _ _ (by omega), reg_setReg_same]
  · rw [hreg _ (by omega), he, reg_setReg_other _ _ (by omega), reg_setReg_same]
  · rw [hreg _ (by omega), he, reg_setReg_same, reg_setReg_other _ _ (by omega), reg_setReg_other _ _ (by omega), reg_setSpn, hr]

/-! ### The local access (R205, R206) -/

theorem zeros_bit39 {w : BitVec 40} (h : w.toNat / 2 ^ 39 = 0) : zeros w (2 ^ 39) = true := by
  refine decide_eq_true (BitVec.eq_of_toNat_eq ?_)
  have hb : w.toNat.testBit 39 = false := by rw [Nat.testBit_eq_decide_div_mod_eq, h]; rfl
  rw [BitVec.toNat_and, BitVec.toNat_ofNat, Nat.mod_eq_of_lt (by decide), Nat.and_two_pow, hb]
  rfl

/-- The address of a local access does not depend on the count of a corrected fetch. -/
theorem localEa_corr (s : State) (n : Nat) (c : Bool) (w : BitVec 40) :
    (if c then s.bump (Reg.SPN_ECCCOR n) else s).localEa n w = s.localEa n w := by
  rw [State.localEa, spn_corr, ← State.localEa]

/-- R205: a local access outside DMEM raises LOCAL. -/
theorem local_raises {s : State} {n ea m : Nat} (c store : Bool) (f : Nat → Spindle → Spindle) (hx : (s.spn n).exc = false)
    (hk : (s.spn n).ckpts = []) (h : ea < 0xFFFF0000 ∨ 0xFFFF4000 < ea + m) :
    Raises s n 3 (if 0xFFFF0000 ≤ ea ∧ ea < 0xFFFF4000 then 0xFFFF4000 else ea)
      (.next ((if c then s.bump (Reg.SPN_ECCCOR n) else s).apply n ((if c then s.bump (Reg.SPN_ECCCOR n) else s).localAct n ea m store f))) := by
  have hl : localOk ea m = false := decide_eq_false (by unfold dmemBase; omega)
  simp only [State.localAct, hl, if_true, firstBadLocal]
  refine apply_raise _ (fun m => spn_corr s n m c) ?_ ?_ ?_ (by decide) hx hk
  · cases c
    · rfl
    · exact reg_setReg_other s _ (show 0x100000 + 0x100 * n + 0x12 ≠ 0x100000 + 0x100 * n + 0x15 by omega)
  · split
    · exact bump_fixed ..
    · rfl
  · split
    · exact bump_memories ..
    · rfl

theorem localOk_of {ea m : Nat} (hlo : 0xFFFF0000 ≤ ea) (hhi : ea + m ≤ 0xFFFF4000) : localOk ea m = true :=
  decide_eq_true ⟨hlo, hhi⟩

/-- A store inside DMEM of words that no operation holds. -/
theorem localStore_retires {s : State} {n ea m : Nat} (c : Bool) {f : Nat → Spindle → Spindle} (hlo : 0xFFFF0000 ≤ ea) (hhi : ea + m ≤ 0xFFFF4000)
    (hh : (s.spn n).localHeld ea m true = false) (hf : ∀ k y, (f k y).pc = y.pc) :
    Retires s n c ((f (ea - 0xFFFF0000) (s.spn n)).step ((s.spn n).pc + 1))
      (.next ((if c then s.bump (Reg.SPN_ECCCOR n) else s).apply n ((if c then s.bump (Reg.SPN_ECCCOR n) else s).localAct n ea m true f))) := by
  have ha : (if c then s.bump (Reg.SPN_ECCCOR n) else s).localAct n ea m true f =
      .retire ((if c then s.bump (Reg.SPN_ECCCOR n) else s).updSpn n (f (ea - 0xFFFF0000))) := by
    simp only [State.localAct, localOk_of hlo hhi, spn_corr, hh]
    rfl
  rw [ha, ← hf (ea - 0xFFFF0000) (s.spn n)]
  exact apply_retire s n c _

/-- A load inside DMEM of words that no operation holds and that hold no double-bit error; `e` counts the corrected ones, at once or with the
branch that the load runs ahead of (R195, R220). -/
theorem localLoad_leaves {s : State} {n ea m e : Nat} (c : Bool) {f : Nat → Spindle → Spindle} (hlo : 0xFFFF0000 ≤ ea) (hhi : ea + m ≤ 0xFFFF4000)
    (hh : (s.spn n).localHeld ea m false = false) (he : (s.spn n).eccScan (ea - 0xFFFF0000) m = (e, none)) (hf : ∀ k y, (f k y).pc = y.pc) :
    Leaves s ((if (s.spn n).ckpts.isEmpty then (if c then s.bump (Reg.SPN_ECCCOR n) else s).addCnt (Reg.SPN_ECCCOR n) e
        else if c then s.bump (Reg.SPN_ECCCOR n) else s).fetched (s.spn n).pc) n
      ((if (s.spn n).ckpts.isEmpty then f (ea - 0xFFFF0000) (s.spn n)
        else (f (ea - 0xFFFF0000) (s.spn n)).updPath (s.spn n).issued (fun d => { d with ecc := d.ecc + e })).step ((s.spn n).pc + 1))
      (.next ((if c then s.bump (Reg.SPN_ECCCOR n) else s).apply n ((if c then s.bump (Reg.SPN_ECCCOR n) else s).localAct n ea m false f))) := by
  have hpc : ((if c then s.bump (Reg.SPN_ECCCOR n) else s).spn n).pc = (s.spn n).pc := by rw [spn_corr]
  simp only [State.localAct, localOk_of hlo hhi, spn_corr, hh, he]
  by_cases hk : (s.spn n).ckpts.isEmpty = true
  · simp only [hk, if_true]
    exact apply_retire_leaves n (f (ea - 0xFFFF0000)) hpc (fun m => spn_corr s n m c) (hf _ _)
  · simp only [hk]
    exact apply_retire_leaves n (fun y => (f (ea - 0xFFFF0000) y).updPath (s.spn n).issued (fun d => { d with ecc := d.ecc + e })) hpc
      (fun m => spn_corr s n m c) (hf _ _)

theorem setVl_pc (x : Spindle) (r i : Nat) (v : Word) : (x.setVl r i v).pc = x.pc := rfl

theorem setVr_pc (x : Spindle) (r : Nat) (f : Nat → Word) : (x.setVr r f).pc = x.pc := by
  simp only [Spindle.setVr, setVl_pc]

theorem setDms_pc (x : Spindle) (k : Nat) (l : List Word) : (x.setDms k l).pc = x.pc := by
  induction l generalizing x k with
  | nil => rfl
  | cons v l ih => exact ih ..

/-! ### The four instructions, issued -/

section
variable {s : State} {n : SpnNo} {w : BitVec 40} {c : Bool}

theorem ldl_eq (h : Issues s n 0x30 w c true [opD w, opA w]) :
    exec (.ldl n w) s = .next ((if c then s.bump (Reg.SPN_ECCCOR n) else s).apply n
      ((if c then s.bump (Reg.SPN_ECCCOR n) else s).localAct n (s.localEa n w) 1 false (fun k x => x.setGr (opD w) (x.dm k)))) := by
  simp only [exec, execLdl, issue_eq _ h (by decide) (by decide), localEa_corr]

theorem stl_eq (h : Issues s n 0x31 w c false [opD w, opA w]) :
    exec (.stl n w) s = .next ((if c then s.bump (Reg.SPN_ECCCOR n) else s).apply n
      ((if c then s.bump (Reg.SPN_ECCCOR n) else s).localAct n (s.localEa n w) 1 true (fun k x => x.setDm k (x.gr (opD w))))) := by
  simp only [exec, execStl, issue_eq _ h (by decide) (by decide), localEa_corr]

theorem ldv_eq (h : Issues s n 0x32 w c true [opA w]) (hz : w.toNat / 2 ^ 39 = 0) :
    exec (.ldv n w) s = .next ((if c then s.bump (Reg.SPN_ECCCOR n) else s).apply n
      ((if c then s.bump (Reg.SPN_ECCCOR n) else s).localAct n (s.localEa n w) 8 false
        (fun k x => x.setVr (opD w) (fun i => x.dm (k + i))))) := by
  simp only [exec, execLdv, zeros_bit39 hz, issue_eq _ h (by decide) (by decide), localEa_corr]

theorem stv_eq (h : Issues s n 0x33 w c false [opA w]) (hz : w.toNat / 2 ^ 39 = 0) :
    exec (.stv n w) s = .next ((if c then s.bump (Reg.SPN_ECCCOR n) else s).apply n
      ((if c then s.bump (Reg.SPN_ECCCOR n) else s).localAct n (s.localEa n w) 8 true
        (fun k x => x.setDms k ((List.range 8).map (x.vl (opD w)))))) := by
  simp only [exec, execStv, zeros_bit39 hz, issue_eq _ h (by decide) (by decide), localEa_corr]

end

end Sys2Proof.Machine

namespace Sys2Proof
open Machine

/-- Settles O18: the four local accesses, inside and outside DMEM. -/
theorem localMemoryAccesses : Obligations.LocalMemoryAccesses := by
  unfold Obligations.LocalMemoryAccesses
  refine ⟨fun n w s c e => ⟨fun h hlo hhi hh he => ?_, fun h hlo hhi hh => ?_, fun h hz hlo hhi hh he => ?_, fun h hz hlo hhi hh => ?_⟩,
    List.forall_mem_cons.2 ⟨fun n w s c h hz hx hk ho => ?_, List.forall_mem_cons.2 ⟨fun n w s c h hz hx hk ho => ?_,
      List.forall_mem_cons.2 ⟨fun n w s c h hz hx hk ho => ?_, List.forall_mem_cons.2 ⟨fun n w s c h hz hx hk ho => ?_, List.forall_mem_nil _⟩⟩⟩⟩⟩
  · exact ldl_eq h ▸ localLoad_leaves c hlo hhi hh he fun k y => setGr_pc y _ _
  · exact stl_eq h ▸ localStore_retires c hlo hhi hh fun k y => rfl
  · exact ldv_eq h hz ▸ localLoad_leaves c hlo hhi hh he fun k y => setVr_pc ..
  · exact stv_eq h hz ▸ localStore_retires c hlo hhi hh fun k y => setDms_pc ..
  · exact ldl_eq h ▸ local_raises c _ _ hx hk ho
  · exact stl_eq h ▸ local_raises c _ _ hx hk ho
  · exact ldv_eq h (hz rfl) ▸ local_raises c _ _ hx hk ho
  · exact stv_eq h (hz rfl) ▸ local_raises c _ _ hx hk ho

end Sys2Proof
end

section
/-! PROOF. Link transitions (O31): the link words of the ports, which operations leave them, and what a transition makes of them. -/

namespace Sys2Proof.Machine

/-! ### The link words

PORT_STATE of every port, and of every port the words in which a transition reports: PORT_LINKSTAT, PORT_TRAINCNT and PORT_WARMCNT. -/

/-- The link words of a register table. -/
def linkWords (r : Tab Word) : (PortNo → Word) × (PortNo → Word × Word × Word) :=
  (fun q => Tab.get RegMap.resetWord r (Reg.PORT_STATE q),
   fun q => (Tab.get RegMap.resetWord r (Reg.PORT_LINKSTAT q), Tab.get RegMap.resetWord r (Reg.PORT_TRAINCNT q),
     Tab.get RegMap.resetWord r (Reg.PORT_WARMCNT q)))

/-- The first component is PORT_STATE of every port, the second the words beside it. -/
def State.links (s : State) : (PortNo → Word) × (PortNo → Word × Word × Word) := linkWords s.regs

/-- The address is that of a link word. -/
def LinkWord (a : Nat) : Prop :=
  ∃ q : PortNo, a = Reg.PORT_STATE q ∨ a = Reg.PORT_LINKSTAT q ∨ a = Reg.PORT_TRAINCNT q ∨ a = Reg.PORT_WARMCNT q

theorem links_congr {s t : State} (h : ∀ a, LinkWord a → t.reg a = s.reg a) : t.links = s.links := by
  refine Prod.ext (funext fun q => h _ ⟨q, .inl rfl⟩) (funext fun q => ?_)
  exact Prod.ext (h _ ⟨q, .inr (.inl rfl)⟩) (Prod.ext (h _ ⟨q, .inr (.inr (.inl rfl))⟩) (h _ ⟨q, .inr (.inr (.inr rfl))⟩))

/-- Another word of a port's block. -/
theorem not_linkWord_port (p : Nat) {o : Nat} (h : o < 0x1000 ∧ o ≠ 0 ∧ o ≠ 0x46 ∧ o ≠ 0x49 ∧ o ≠ 0x4B) : ¬ LinkWord (0x10000 + 0x1000 * p + o) := by
  rintro ⟨q, e | e | e | e⟩
  · exact absurd e (show 0x10000 + 0x1000 * p + o ≠ 0x10000 + 0x1000 * q.val + 0x0 by omega)
  · exact absurd e (show 0x10000 + 0x1000 * p + o ≠ 0x10000 + 0x1000 * q.val + 0x46 by omega)
  · exact absurd e (show 0x10000 + 0x1000 * p + o ≠ 0x10000 + 0x1000 * q.val + 0x49 by omega)
  · exact absurd e (show 0x10000 + 0x1000 * p + o ≠ 0x10000 + 0x1000 * q.val + 0x4B by omega)

theorem LinkWord.range {a : Nat} (h : LinkWord a) : 0x10000 ≤ a ∧ a < 0x70000 := by
  obtain ⟨q, e⟩ := h
  have hq : q.val < 96 := q.isLt
  have hs : Reg.PORT_STATE q = 0x10000 + 0x1000 * q.val + 0x0 := rfl
  have hl : Reg.PORT_LINKSTAT q = 0x10000 + 0x1000 * q.val + 0x46 := rfl
  have ht : Reg.PORT_TRAINCNT q = 0x10000 + 0x1000 * q.val + 0x49 := rfl
  have hw : Reg.PORT_WARMCNT q = 0x10000 + 0x1000 * q.val + 0x4B := rfl
  rw [hs, hl, ht, hw] at e
  omega

/-- A word above the ports' blocks. -/
theorem not_linkWord_above (b : Nat) {a : Nat} (h : 0x70000 ≤ a) : ¬ LinkWord (a + b) := fun hl => by
  have := hl.range
  omega

/-- The words of a port that the operations below write, beside the link words. -/
@[simp] theorem not_linkWord_ports (p : Nat) : ¬ LinkWord (Reg.PORT_TESTMODE p) ∧ ¬ LinkWord (Reg.PORT_PLCASTAT p) ∧ ¬ LinkWord (Reg.PORT_PCSSTAT p) ∧
    ¬ LinkWord (Reg.PORT_LINKDN p) ∧ ¬ LinkWord (Reg.PORT_AFE p) ∧ ¬ LinkWord (Reg.PORT_LMSCFG p) ∧ ¬ LinkWord (Reg.PORT_COEFSTAT p) ∧
    ¬ LinkWord (Reg.PORT_TAPCFG p) ∧ ¬ LinkWord (Reg.PORT_SLUBCFG p) ∧ ¬ LinkWord (Reg.PORT_SNR p) ∧ ¬ LinkWord (Reg.PORT_MFB p) ∧
    ¬ LinkWord (Reg.PORT_GAP p) ∧ ¬ LinkWord (Reg.PORT_TAILERR p) ∧ ¬ LinkWord (Reg.PORT_SQI p) ∧ ¬ LinkWord (Reg.PORT_TRAINFAIL p) ∧
    ¬ LinkWord (Reg.PORT_WAKECNT p) ∧ ¬ LinkWord (Reg.PORT_FALSEWAKE p) ∧ ¬ LinkWord (Reg.PORT_ROVSTAT p) ∧ ¬ LinkWord (Reg.PORT_ROVFN p) ∧
    ¬ LinkWord (Reg.PORT_ROVDROP p) ∧ ¬ LinkWord (Reg.PORT_CARDSTAT p) := by
  refine ⟨?_, ?_, ?_, ?_, ?_, ?_, ?_, ?_, ?_, ?_, ?_, ?_, ?_, ?_, ?_, ?_, ?_, ?_, ?_, ?_, ?_⟩ <;> exact not_linkWord_port p (by decide)

@[simp] theorem not_linkWord_skslave (g : Nat) : ¬ LinkWord (Reg.LG_SKSLAVE g) := not_linkWord_above _ (by omega)
@[simp] theorem not_linkWord_drops (e q : Nat) : ¬ LinkWord (Reg.TM_QDROPSTATE e q) ∧ ¬ LinkWord (Reg.TM_QDROPLOST e q) :=
  ⟨not_linkWord_above _ (by omega), not_linkWord_above _ (by omega)⟩
@[simp] theorem not_linkWord_skeinSets (n : Nat) : ¬ LinkWord (Reg.SPN_DSKG n) ∧ ¬ LinkWord (Reg.SPN_DSKW n) :=
  ⟨not_linkWord_above _ (by omega), not_linkWord_above _ (by omega)⟩

@[simp] theorem not_linkWord_dst : ¬ LinkWord Reg.DST_STAT ∧ ¬ LinkWord Reg.DST_TRIGTIME ∧ ¬ LinkWord (Reg.DST_TRIGTIME + 1) ∧
    ¬ LinkWord Reg.DST_TRIGCNT ∧ ¬ LinkWord Reg.DST_TRIGLOST ∧ ¬ LinkWord Reg.DST_EVLOST := by
  have h : ∀ b, ¬ LinkWord (0x200000 + b) := fun b => not_linkWord_above b (by decide)
  exact ⟨h 1, h 6, h 7, h 0x20, h 0x21, h 0x22⟩

@[simp] theorem not_linkWord_deleg (n p : Nat) : ¬ LinkWord (dgReg n p) ∧ ¬ LinkWord (dwReg n p) := by
  unfold dgReg dwReg
  constructor <;> split <;> exact not_linkWord_above _ (by omega)

/-! ### Updates of the state -/

@[simp] theorem links_mk (pending now time setPend stepPend free regs perReq guard shadow reply waitQ inband nextReply badpar bobbin bobFree flash
    fuses csp1 boot ports lgs spns lanes rt knots tm dst clk pwr flt bist pins) :
    (State.mk pending now time setPend stepPend free regs perReq guard shadow reply waitQ inband nextReply badpar bobbin bobFree flash
      fuses csp1 boot ports lgs spns lanes rt knots tm dst clk pwr flt bist pins).links = linkWords regs := by
  rw [State.links]

@[simp] theorem linkWords_regs (s : State) : linkWords s.regs = s.links := by rw [State.links]

@[simp] theorem links_ite (c : Prop) [Decidable c] (a b : State) : (if c then a else b).links = if c then a.links else b.links :=
  apply_ite _ _ _ _

theorem forAll_links {α : Type} (f : State → α → State) (h : ∀ s a, (f s a).links = s.links) (l : List α) (s : State) :
    (forAll f l s).links = s.links := forAll_frame State.links f h l s

@[simp] theorem setReg_links {a : Nat} (s : State) (v : Word) (h : ¬ LinkWord a) : (s.setReg a v).links = s.links :=
  links_congr fun _ hb => reg_setReg_other s v (fun e => h (e ▸ hb))
@[simp] theorem setRf_links {a : Nat} (s : State) (hi lo v : Nat) (h : ¬ LinkWord a) : (s.setRf a hi lo v).links = s.links := setReg_links s _ h
@[simp] theorem setRb_links {a : Nat} (s : State) (i : Nat) (b : Bool) (h : ¬ LinkWord a) : (s.setRb a i b).links = s.links := setReg_links s _ h
@[simp] theorem addCnt_links {a : Nat} (s : State) (n : Nat) (h : ¬ LinkWord a) : (s.addCnt a n).links = s.links := setReg_links s _ h
@[simp] theorem bump_links {a : Nat} (s : State) (h : ¬ LinkWord a) : (s.bump a).links = s.links := setReg_links s _ h
@[simp] theorem setPort_links (s : State) (p : Nat) (x : Port) : (s.setPort p x).links = s.links :=
  congrArg linkWords rfl
@[simp] theorem updPort_links (s : State) (p : Nat) (f : Port → Port) : (s.updPort p f).links = s.links :=
  congrArg linkWords rfl
@[simp] theorem setCur_links (s : State) (e : Nat) (x : Option Sending) : (s.setCur e x).links = s.links :=
  congrArg linkWords rfl
@[simp] theorem setShp_links (s : State) (e q : Nat) (x : Option Shaper) : (s.setShp e q x).links = s.links :=
  congrArg linkWords rfl
@[simp] theorem setQueue_links (s : State) (e q : Nat) (l : List QEntry) : (s.setQueue e q l).links = s.links :=
  congrArg linkWords rfl
@[simp] theorem setFrame_links (s : State) (fid : Nat) (x : Option Stored) : (s.setFrame fid x).links = s.links :=
  congrArg linkWords rfl
@[simp] theorem drawNat_links (s : State) (n : Nat) : (s.drawNat n).2.links = s.links :=
  congrArg linkWords rfl
@[simp] theorem endLive_links (s : State) (pick : TagOp → Bool) (st : Nat) : (s.endLive pick st).links = s.links :=
  congrArg linkWords rfl
@[simp] theorem endRunning_links (s : State) (p op st : Nat) : (s.endRunning p op st).links = s.links :=
  congrArg linkWords rfl
@[simp] theorem endSent_links (s : State) (e : Nat) : (s.endSent e).links = s.links :=
  congrArg linkWords rfl
@[simp] theorem restartSym_links (s : State) (p : Nat) : (s.restartSym p).links = s.links :=
  congrArg linkWords rfl
@[simp] theorem settle_links (s : State) (p n : Nat) : (s.settle p n).links = s.links :=
  congrArg linkWords rfl
@[simp] theorem applyConfig_links (s : State) (p : Nat) : (s.applyConfig p).links = s.links :=
  congrArg linkWords rfl
@[simp] theorem lossMemo_links (s : State) (p c : Nat) : (s.lossMemo p c).links = s.links :=
  congrArg linkWords rfl
@[simp] theorem armDetector_links (s : State) (p : Nat) : (s.armDetector p).links = s.links :=
  congrArg linkWords rfl
@[simp] theorem endGather_links (s : State) (p : Nat) (src : Nat → Bool) : (s.endGather p src).links = s.links :=
  congrArg linkWords rfl
@[simp] theorem endRovCoef_links (s : State) (p : Nat) : (s.endRovCoef p).links = s.links :=
  congrArg linkWords rfl
@[simp] theorem endUpCmds_links (s : State) (p : Nat) : (s.endUpCmds p).links = s.links :=
  congrArg linkWords rfl
@[simp] theorem resetShapers_links (s : State) (p : Nat) (c : Bool) : (s.resetShapers p c).links = s.links :=
  forAll_links _ (fun t q => setShp_links t p q _) _ s
@[simp] theorem updRov_links (s : State) (p : Nat) (f : Roving → Roving) : (s.updRov p f).links = s.links :=
  congrArg linkWords rfl
@[simp] theorem rovSend_links (s : State) (p c : Nat) (l : List (Nat × Nat)) : (s.rovSend p c l).links = s.links :=
  congrArg linkWords rfl

/-! ### The distaff's records and the egress -/

@[simp] theorem dstEvent_links (s : State) (typ : Nat) (spec : Bool) (unit info : Nat) (cont : List Word) :
    (s.dstEvent typ spec unit info cont).links = s.links :=
  dstEvent_frame State.links (fun _ _ => rfl) (fun t _ v h => setReg_links t v (by rcases h with rfl | rfl <;> simp)) s typ spec unit info cont
@[simp] theorem dstPortEvent_links (s : State) (typ p sym low : Nat) (cont : List Word) :
    (s.dstPortEvent typ p sym low cont).links = s.links := by
  unfold State.dstPortEvent; split <;> simp
@[simp] theorem dstPortState_links (s : State) (p st : Nat) : (s.dstPortState p st).links = s.links := by simp [State.dstPortState]
@[simp] theorem d3Send_links (s : State) (c : Nat) : (s.d3Send c).links = s.links := by
  unfold State.d3Send
  split
  · exact forAll_links _ (fun t q => by simp) _ s
  · rfl
@[simp] theorem setSh_links (s : State) (v : BitVec 96) : (s.setSh Reg.DST_TRIGTIME v).links = s.links := by simp [State.setSh]
@[simp] theorem dstTrigger_links (s : State) (c u n : Nat) : (s.dstTrigger c u n).links = s.links := by simp [State.dstTrigger]

@[simp] theorem dropCopy_links (s : State) (fid : Nat) : (s.dropCopy fid).links = s.links := by
  unfold State.dropCopy; split <;> simp
@[simp] theorem txOver_links (s : State) (e q : Nat) : (s.txOver e q).links = s.links := by
  unfold State.txOver; split <;> simp
@[simp] theorem cutTx_links (s : State) (e : Nat) : (s.cutTx e).links = s.links := by
  unfold State.cutTx; split <;> simp

theorem flushQueue_links (s : State) (e q : Nat) (cnts : List Nat) (h : ∀ a ∈ cnts, ¬ LinkWord a) : (s.flushQueue e q cnts).links = s.links := by
  have hb : ∀ (l : List Nat), (∀ a ∈ l, ¬ LinkWord a) → ∀ t : State, (forAll State.bump l t).links = t.links := by
    intro l
    induction l with
    | nil => exact fun _ _ => rfl
    | cons a l ih =>
      intro hl t
      exact (ih (fun b hm => hl b (List.mem_cons_of_mem a hm)) _).trans (bump_links t (hl a List.mem_cons_self))
  rw [State.flushQueue, setQueue_links]
  exact forAll_links _ (fun t x => (hb cnts h _).trans (dropCopy_links t _)) _ s

theorem flushState_links (s : State) (e : Nat) (qs more : List Nat) (h : ∀ a ∈ more, ¬ LinkWord a) : (s.flushState e qs more).links = s.links :=
  forAll_links _ (fun t q => flushQueue_links t e q _ (List.forall_mem_cons.2 ⟨by simp, h⟩)) qs s

@[simp] theorem egressEntry_links (s : State) (p st : Nat) : (s.egressEntry p st).links = s.links := by
  simp [State.egressEntry, flushState_links]

/-! ### What a transition ends and starts -/

@[simp] theorem partnerClock_links (s : State) (p st : Nat) : (s.partnerClock p st).links = s.links := by simp [State.partnerClock]
@[simp] theorem leaveUp_links (s : State) (p : Nat) : (s.leaveUp p).links = s.links := by simp [State.leaveUp]
@[simp] theorem endPortCoef_links (s : State) (p : Nat) : (s.endPortCoef p).links = s.links := by simp [State.endPortCoef]
@[simp] theorem regainPort_links (s : State) (p : Nat) : (s.regainPort p).links = s.links := forAll_links _ (fun t n => by simp) _ s
@[simp] theorem regainSkein_links (s : State) (k : Nat) : (s.regainSkein k).links = s.links := forAll_links _ (fun t n => by simp) _ s
@[simp] theorem withdrawWrite_links (s : State) (p : Nat) : (s.withdrawWrite p).links = s.links := by
  cases h : s.skeinOf (lgOf p) (localOf p) <;> simp [State.withdrawWrite, h]
@[simp] theorem sweepAbort_links (s : State) (p : Nat) : (s.sweepAbort p).links = s.links := by simp [State.sweepAbort]
@[simp] theorem testTurn_links (s s0 : State) (p : Nat) : (s.testTurn s0 p).links = s.links := by simp [State.testTurn]
@[simp] theorem setThresh_links (s : State) (p : Nat) : (s.setThresh p).links = s.links := by simp [State.setThresh]
@[simp] theorem serveHalf_links (s : State) (p h m : Nat) : (s.serveHalf p h m).links = s.links := by simp [State.serveHalf]
@[simp] theorem warmHalf_links (s : State) (p : Nat) : (s.warmHalf p).links = s.links := by simp [State.warmHalf]
@[simp] theorem muEcStart_links (s : State) (p : Nat) : (s.muEcStart p).links = s.links := by simp [State.muEcStart]
@[simp] theorem muEcEnd_links (s : State) (p : Nat) : (s.muEcEnd p).links = s.links := by simp [State.muEcEnd]
@[simp] theorem coldHalves_links (s : State) (p : Nat) : (s.coldHalves p).links = s.links := by simp [State.coldHalves]
@[simp] theorem raise_links (s : State) (src code info : Nat) : (s.raise src code info).links = s.links :=
  links_congr fun a h => reg_raise s src code info a (by have := h.range; unfold Reg.FLT_REPEATCNT; omega)
    (by have := h.range; unfold Reg.FLT_INLOST; omega)
@[simp] theorem skeinSlave_links (s : State) (p : Nat) : (s.skeinSlave p).links = s.links := by
  unfold State.skeinSlave; split <;> simp
@[simp] theorem setFn_links (s : State) (p v : Nat) : (s.setFn p v).links = s.links := by simp [State.setFn]
@[simp] theorem setPhase_links (s : State) (p v : Nat) : (s.setPhase p v).links = s.links := by simp [State.setPhase]
@[simp] theorem setGrid_links (s : State) (p t n : Nat) : (s.setGrid p t n).links = s.links := by simp [State.setGrid]
@[simp] theorem acquire_links (s : State) (p : Nat) : (s.acquire p).links = s.links := by simp [State.acquire]

/-! ### A transition -/

/-- The port's entry to a state up to PORT_STATE.STATE and GEN. -/
def State.entering (s : State) (p st : Nat) : State :=
  let s0 := if s.pst p = stListen then (s.endRunning p 0x12 9).endRunning p 0x13 9 else s
  let s1 := if s.pst p = stUp then s0.leaveUp p else if s.pst p = stRoving then (s0.cutTx p).endRovCoef p else s0
  (s1.setRf (Reg.PORT_STATE p) 31 28 st).setRf (Reg.PORT_STATE p) 47 32 (s.pgen p + 1)

theorem enter_links (s : State) (p st : Nat) : (s.enter p st).links = ((s.entering p st).stateFields p st).links := by
  simp [State.enter, State.entering]

end Sys2Proof.Machine
end

section
/-! PROOF. Link transitions (O31): what entry to a state makes of PORT_STATE, of its port and of every other, and the commands that enter one. -/

namespace Sys2Proof.Machine

theorem reg_state_of_links {s t : State} (h : t.links.1 = s.links.1) (q : PortNo) : t.reg (Reg.PORT_STATE q) = s.reg (Reg.PORT_STATE q) := congrFun h q

theorem reg_report_of_links {s t : State} (h : t.links.2 = s.links.2) (q : PortNo) :
    t.reg (Reg.PORT_LINKSTAT q) = s.reg (Reg.PORT_LINKSTAT q) ∧ t.reg (Reg.PORT_TRAINCNT q) = s.reg (Reg.PORT_TRAINCNT q) ∧
      t.reg (Reg.PORT_WARMCNT q) = s.reg (Reg.PORT_WARMCNT q) := by
  have hq := Prod.mk.inj (congrFun h q)
  exact ⟨hq.1, Prod.mk.inj hq.2⟩

/-! ### Writes of the link words themselves -/

theorem report_setReg {a : Nat} (s : State) (v : Word)
    (h : ∀ q : PortNo, a ≠ Reg.PORT_LINKSTAT q ∧ a ≠ Reg.PORT_TRAINCNT q ∧ a ≠ Reg.PORT_WARMCNT q) : (s.setReg a v).links.2 = s.links.2 := by
  funext q
  obtain ⟨hl, ht, hw⟩ := h q
  exact Prod.ext (reg_setReg_other s v hl.symm) (Prod.ext (reg_setReg_other s v ht.symm) (reg_setReg_other s v hw.symm))

theorem state_setReg {a : Nat} (s : State) (v : Word) (h : ∀ q : PortNo, a ≠ Reg.PORT_STATE q) : (s.setReg a v).links.1 = s.links.1 :=
  funext fun q => reg_setReg_other s v (h q).symm

@[simp] theorem report_setState (s : State) (p hi lo v : Nat) : (s.setRf (Reg.PORT_STATE p) hi lo v).links.2 = s.links.2 :=
  report_setReg s _ fun q => ⟨by unfold Reg.PORT_STATE Reg.PORT_LINKSTAT; omega, by unfold Reg.PORT_STATE Reg.PORT_TRAINCNT; omega,
    by unfold Reg.PORT_STATE Reg.PORT_WARMCNT; omega⟩

@[simp] theorem state_setLinkstat (s : State) (p hi lo v : Nat) : (s.setRf (Reg.PORT_LINKSTAT p) hi lo v).links.1 = s.links.1 :=
  state_setReg s _ fun q => by unfold Reg.PORT_STATE Reg.PORT_LINKSTAT; omega
@[simp] theorem state_setLinkbit (s : State) (p i : Nat) (b : Bool) : (s.setRb (Reg.PORT_LINKSTAT p) i b).links.1 = s.links.1 :=
  state_setLinkstat s p i i _
@[simp] theorem state_bumpTraincnt (s : State) (p : Nat) : (s.bump (Reg.PORT_TRAINCNT p)).links.1 = s.links.1 :=
  state_setReg s _ fun q => by unfold Reg.PORT_STATE Reg.PORT_TRAINCNT; omega
@[simp] theorem state_bumpWarmcnt (s : State) (p : Nat) : (s.bump (Reg.PORT_WARMCNT p)).links.1 = s.links.1 :=
  state_setReg s _ fun q => by unfold Reg.PORT_STATE Reg.PORT_WARMCNT; omega
@[simp] theorem state_cause (s : State) (p c : Nat) : (s.cause p c).links.1 = s.links.1 := state_setLinkstat s p 47 44 c

/-! ### Within a state: the bits below STATE -/

/-- PORT_STATE keeps its bits from STATE up at port p, and all of them at every other port. -/
def SameState (p : PortNo) (s t : State) : Prop :=
  (∀ hi lo, 28 ≤ lo → t.rf (Reg.PORT_STATE p) hi lo = s.rf (Reg.PORT_STATE p) hi lo) ∧
    ∀ q : PortNo, q ≠ p → t.reg (Reg.PORT_STATE q) = s.reg (Reg.PORT_STATE q)

theorem SameState.of_links {p : PortNo} {s t : State} (h : t.links.1 = s.links.1) : SameState p s t :=
  ⟨fun hi lo _ => congrArg (fld · hi lo) (reg_state_of_links h p), fun q _ => reg_state_of_links h q⟩

theorem SameState.trans {p : PortNo} {s t u : State} (h : SameState p s t) (g : SameState p t u) : SameState p s u :=
  ⟨fun hi lo hl => (g.1 hi lo hl).trans (h.1 hi lo hl), fun q hq => (g.2 q hq).trans (h.2 q hq)⟩

theorem reg_setState_other (s : State) {p q : PortNo} (hi lo v : Nat) (h : q ≠ p) :
    (s.setRf (Reg.PORT_STATE p) hi lo v).reg (Reg.PORT_STATE q) = s.reg (Reg.PORT_STATE q) := by
  have hv : q.val ≠ p.val := fun e => h (Fin.ext e)
  exact reg_setReg_other s _ (show 0x10000 + 0x1000 * q.val + 0x0 ≠ 0x10000 + 0x1000 * p.val + 0x0 by omega)

theorem SameState.setState (p : PortNo) (s : State) {hi lo : Nat} (v : Nat) (hl : lo ≤ hi) (hh : hi < 28) :
    SameState p s (s.setRf (Reg.PORT_STATE p) hi lo v) := by
  refine ⟨fun hi' lo' hl' => ?_, fun q hq => reg_setState_other s hi lo v hq⟩
  rw [State.rf, setRf_eq, reg_setReg_same]
  exact fld_putFld_other _ _ _ _ _ _ (by omega) hl (.inl (by omega))

/-- What a change of the mode makes of the link words. -/
theorem setMode_links (s : State) (p : PortNo) {m : Nat} (h : s.pmode p ≠ m) : (s.setMode p m).links = (s.setRf (Reg.PORT_STATE p) 23 20 m).links := by
  have h0 : ∀ t : State, t.links = s.links → (t.setRf (Reg.PORT_STATE p) 23 20 m).links = (s.setRf (Reg.PORT_STATE p) 23 20 m).links := by
    intro t ht
    refine Prod.ext (funext fun q => ?_) ((report_setState t p 23 20 m).trans ((congrArg Prod.snd ht).trans (report_setState s p 23 20 m).symm))
    show (t.setRf _ _ _ _).reg _ = (s.setRf _ _ _ _).reg _
    by_cases hq : q = p
    · rw [hq, setRf_eq, setRf_eq, reg_setReg_same, reg_setReg_same, reg_state_of_links (congrArg Prod.fst ht)]
    · rw [reg_setState_other _ _ _ _ hq, reg_setState_other _ _ _ _ hq, reg_state_of_links (congrArg Prod.fst ht)]
  rw [State.setMode, if_neg h]
  simp only [endGather_links, endPortCoef_links, updPort_links, restartSym_links, setRf_links _ _ _ _ (not_linkWord_ports p).2.2.2.2.1]
  exact h0 _ (by simp)

theorem SameState.setMode (p : PortNo) (s : State) (m : Nat) : SameState p s (s.setMode p m) := by
  by_cases h : s.pmode p = m
  · exact .of_links (by rw [State.setMode, if_pos h])
  · exact (SameState.setState p s m (by decide : 20 ≤ 23) (by decide)).trans (.of_links (congrArg Prod.fst (setMode_links s p h)))

theorem mode_setMode (s : State) (p : PortNo) (m : Nat) : (s.setMode p m).pmode p = m % 16 := by
  by_cases h : s.pmode p = m
  · rw [State.setMode, if_pos h, ← h, State.pmode, State.rf, fld]
    omega
  · rw [State.pmode, State.rf, reg_state_of_links (congrArg Prod.fst (setMode_links s p h)), setRf_eq, reg_setReg_same]
    exact fld_putFld _ 23 20 m (by decide) (by decide)

/-- The same, and the words beside PORT_STATE stay. -/
def Within (p : PortNo) (s t : State) : Prop := SameState p s t ∧ t.links.2 = s.links.2

theorem Within.of_links {p : PortNo} {s t : State} (h : t.links = s.links) : Within p s t := ⟨.of_links (congrArg Prod.fst h), congrArg Prod.snd h⟩

theorem Within.trans {p : PortNo} {s t u : State} (h : Within p s t) (g : Within p t u) : Within p s u := ⟨h.1.trans g.1, g.2.trans h.2⟩

theorem Within.setState (p : PortNo) (s : State) {hi lo : Nat} (v : Nat) (hl : lo ≤ hi) (hh : hi < 28) :
    Within p s (s.setRf (Reg.PORT_STATE p) hi lo v) := ⟨.setState p s v hl hh, report_setState s p hi lo v⟩

/-- The mode and role that a state gives a port. -/
theorem Within.setMode (p : PortNo) (s : State) (m r : Nat) : Within p s ((s.setMode p m).setRf (Reg.PORT_STATE p) 25 24 r) := by
  refine Within.trans ⟨.setMode p s m, ?_⟩ (.setState p _ r (by decide) (by decide))
  by_cases h : s.pmode p = m
  · rw [State.setMode, if_pos h]
  · rw [setMode_links s p h, report_setState]

/-- The fields that hold only in some states lie below STATE. -/
theorem Within.stateFields (p : PortNo) (s : State) (st : Nat) : Within p s (s.stateFields p st) := by
  have h1 : Within p s (if st = stUp then s else (s.setRf (Reg.PORT_STATE p) 27 26 0).setRf (Reg.PORT_STATE p) 19 16 0) := by
    split
    · exact .of_links rfl
    · exact (Within.setState p s 0 (by decide) (by decide)).trans (.setState p _ 0 (by decide) (by decide))
  unfold State.stateFields
  extract_lets x s1 s2 s3 s4 left
  have h3 : Within p s s3 := h1.trans (.of_links (by simp [s3, s2, s1]))
  split
  · exact h3.trans (.setMode p s3 _ _)
  · split
    · exact (h3.trans (.setMode p s3 8 x.upRole)).trans (.of_links (by simp))
    · split
      · exact (h3.trans (.setMode p s3 0 0)).trans (.of_links (by simp [s4]))
      · exact (h3.trans (.setMode p s3 0 0)).trans (.of_links (by simp))

/-! ### A transition -/

/-- The port stands in the new state, GEN has counted one, and no other port's PORT_STATE has changed. -/
def Entered (s t : State) (p : PortNo) (st : Nat) : Prop :=
  t.pst p = st ∧ t.pgen p = (s.pgen p + 1) % 65536 ∧ ∀ q : PortNo, q ≠ p → t.reg (Reg.PORT_STATE q) = s.reg (Reg.PORT_STATE q)

theorem Entered.same {s t u : State} {p : PortNo} {st : Nat} (h : Entered s t p st) (g : SameState p t u) : Entered s u p st :=
  ⟨(g.1 31 28 (by decide)).trans h.1, (g.1 47 32 (by decide)).trans h.2.1, fun q hq => (g.2 q hq).trans (h.2.2 q hq)⟩

theorem Entered.of_links {s t u : State} {p : PortNo} {st : Nat} (h : Entered s t p st) (g : u.links.1 = t.links.1) : Entered s u p st :=
  h.same (.of_links g)

theorem Entered.from_links {s s' t : State} {p : PortNo} {st : Nat} (h : Entered s' t p st) (g : s'.links.1 = s.links.1) : Entered s t p st :=
  ⟨h.1, h.2.1.trans (congrArg (fun w => (fld w 47 32 + 1) % 65536) (reg_state_of_links g p)), fun q hq => (h.2.2 q hq).trans (reg_state_of_links g q)⟩

/-- What the old state ends before PORT_STATE changes leaves the link words. -/
theorem entering_base_links (s : State) (p : Nat) :
    (if s.pst p = stUp then (if s.pst p = stListen then (s.endRunning p 0x12 9).endRunning p 0x13 9 else s).leaveUp p
      else if s.pst p = stRoving then ((if s.pst p = stListen then (s.endRunning p 0x12 9).endRunning p 0x13 9 else s).cutTx p).endRovCoef p
      else if s.pst p = stListen then (s.endRunning p 0x12 9).endRunning p 0x13 9 else s).links = s.links := by
  simp

theorem entered_entering (s : State) (p : PortNo) {st : Nat} (h : st < 16) : Entered s (s.entering p st) p st := by
  have hb := reg_state_of_links (congrArg Prod.fst (entering_base_links s p))
  have hp : (s.entering p st).reg (Reg.PORT_STATE p) = putFld (putFld (s.reg (Reg.PORT_STATE p)) 31 28 st) 47 32 (s.pgen p + 1) := by
    rw [State.entering, setRf_eq, reg_setReg_same, setRf_eq, reg_setReg_same]
    exact congrArg (fun w => putFld (putFld w 31 28 st) 47 32 (s.pgen p + 1)) (hb p)
  refine ⟨?_, ?_, fun q hq => ?_⟩
  · rw [State.pst, State.rf, hp, fld_putFld_other _ _ _ _ _ _ (by decide) (by decide) (.inr (by decide)), fld_putFld _ _ _ _ (by decide) (by decide)]
    exact Nat.mod_eq_of_lt h
  · rw [State.pgen, State.rf, hp]
    exact fld_putFld _ 47 32 _ (by decide) (by decide)
  · rw [State.entering, reg_setState_other _ _ _ _ hq, reg_setState_other _ _ _ _ hq]
    exact hb q

/-- R30: a transition. -/
theorem entered_enter (s : State) (p : PortNo) {st : Nat} (h : st < 16) : Entered s (s.enter p st) p st :=
  ((entered_entering s p h).same (Within.stateFields p _ st).1).of_links (congrArg Prod.fst (enter_links s p st))

@[simp] theorem report_enter (s : State) (p : PortNo) (st : Nat) : (s.enter p st).links.2 = s.links.2 := by
  rw [enter_links, (Within.stateFields p _ st).2, State.entering, report_setState, report_setState]
  exact congrArg Prod.snd (entering_base_links s p)

/-! ### The entries of the states -/

section
variable (s : State) (p : PortNo)

theorem entered_toListen : Entered s (s.toListen p) p stListen :=
  ((entered_enter (s.updPort p fun x => { x with fromRov := false }) p (by decide)).from_links (by simp)).of_links (by simp [State.toListen])

theorem entered_toDisabled : Entered s (s.toDisabled p) p stDisabled :=
  (entered_enter s p (by decide)).of_links (by simp [State.toDisabled])

theorem entered_toSleep : Entered s (s.toSleep p) p stSleep :=
  (entered_enter s p (by decide)).of_links (by simp [State.toSleep])

theorem entered_toTrain : Entered s (s.toTrain p) p stTrain := by
  unfold State.toTrain
  extract_lets s1 s2
  have h1 : Entered s (s1.enter p stTrain) p stTrain := (entered_enter s1 p (by decide)).from_links (by simp [s1])
  exact h1.of_links (by simp [s2])

theorem entered_enterRoving : Entered s (s.enterRoving p) p stRoving := by
  unfold State.enterRoving
  extract_lets cfg s1
  have h1 : Entered s (s1.enter p stRoving) p stRoving := (entered_enter s1 p (by decide)).from_links (by simp [s1])
  exact h1.of_links (by simp)

@[simp] theorem report_toListen : (s.toListen p).links.2 = s.links.2 := by simp [State.toListen]
@[simp] theorem report_toDisabled : (s.toDisabled p).links.2 = s.links.2 := by simp [State.toDisabled]
@[simp] theorem report_toSleep : (s.toSleep p).links.2 = s.links.2 := by simp [State.toSleep]

@[simp] theorem state_attemptFail (c : Nat) : (s.attemptFail p c).links.1 = s.links.1 := by simp [State.attemptFail]

/-- CAUSE just written, under what leaves the words beside PORT_STATE. -/
theorem cause_of_links {s t : State} (c : Nat) (h : t.links.2 = (s.cause p c).links.2) : t.rf (Reg.PORT_LINKSTAT p) 47 44 = c % 16 := by
  rw [State.rf, (reg_report_of_links h p).1, State.cause, setRf_eq, reg_setReg_same]
  exact fld_putFld _ 47 44 c (by decide) (by decide)

end

end Sys2Proof.Machine
end

section
/-! PROOF. Link transitions (O31): entry to UP, the commands of the clauses, and the statement. -/

namespace Sys2Proof.Machine

/-! ### Entry to UP -/

theorem stateFields_up (s : State) (p : Nat) :
    s.stateFields p stUp = (s.setMode p (s.port p).resMode).setRf (Reg.PORT_STATE p) 25 24 (s.port p).resRole := by
  simp [State.stateFields, State.partnerClock, stUp, stTrain]

theorem entering_port {s : State} {p : PortNo} (st : Nat) (h : s.pst p = 2) : (s.entering p st).port p = s.port p := by
  unfold State.entering
  extract_lets s0 s1
  have h0 : s0 = s := if_neg (by simp [h, stListen])
  have h1 : s1 = s0 := (if_neg (by simp [h, stUp])).trans (if_neg (by simp [h, stRoving]))
  rw [setRf_eq, port_setReg, setRf_eq, port_setReg, h1, h0]

section
variable {s : State} {p : PortNo} (h : s.pst p = 2)
include h

/-- A port that leaves TRAIN for UP takes the mode and role that were resolved. -/
theorem enter_up_mode : (s.enter p stUp).pmode p = (s.port p).resMode % 16 ∧ (s.enter p stUp).prole p = (s.port p).resRole % 4 := by
  have he := reg_state_of_links (congrArg Prod.fst (enter_links s p stUp)) p
  rw [stateFields_up, entering_port _ h, setRf_eq, reg_setReg_same] at he
  constructor
  · rw [State.pmode, State.rf, he, fld_putFld_other _ _ _ _ _ _ (by decide) (by decide) (.inr (by decide))]
    exact mode_setMode _ p _
  · rw [State.prole, State.rf, he]
    exact fld_putFld _ 25 24 _ (by decide) (by decide)

end

section
variable (s : State) (p : PortNo)

/-- The bits of PORT_STATE that entry to UP sets after the transition. -/
def State.upBits (s : State) (p : Nat) : State :=
  (((s.enter p stUp).setRb (Reg.PORT_STATE p) 26 true).setRf (Reg.PORT_STATE p) 19 17 (s.port p).resDial).setRb (Reg.PORT_STATE p) 16
    (s.port p).resPre

/-- What entry to UP counts and reports. -/
def State.upReport (s : State) (p : Nat) : State :=
  let us := (s.now - (s.port p).trainAt) / 1000
  let s3 := ((s.upBits p).bump (Reg.PORT_TRAINCNT p)).setRb (Reg.PORT_LINKSTAT p) 43 (s.port p).warm
  let s4 := if (s.port p).warm then s3.bump (Reg.PORT_WARMCNT p) else s3
  (s4.setRf (Reg.PORT_LINKSTAT p) 39 32 0).setRf (Reg.PORT_LINKSTAT p) 23 0 (if us < 2 ^ 24 then us else 2 ^ 24 - 1)

theorem toUp_links : (s.toUp p).links = (s.upReport p).links := by
  unfold State.toUp
  extract_lets x us s1 s2 s3 s4 s5 s6 s7 s8
  have h5 : s5 = s.upReport p := rfl
  simp [s8, s7, s6, h5]

theorem upReport_state : (s.upReport p).links.1 = (s.upBits p).links.1 := by
  unfold State.upReport
  extract_lets us s3 s4
  have h3 : s3.links.1 = (s.upBits p).links.1 := by simp [s3]
  have h4 : s4.links.1 = s3.links.1 := by
    unfold s4
    split
    · simp
    · rfl
  simp only [state_setLinkstat, h4, h3]

theorem entered_toUp : Entered s (s.toUp p) p stUp := by
  have h1 : Entered s (s.upBits p) p stUp := (((entered_enter s p (by decide)).same (.setState p _ _ (by decide) (by decide))).same
    (.setState p _ _ (by decide) (by decide))).same (.setState p _ _ (by decide) (by decide))
  exact h1.of_links ((congrArg Prod.fst (toUp_links s p)).trans (upReport_state s p))

/-- PORT_STATE after entry to UP. -/
theorem reg_state_toUp : (s.toUp p).reg (Reg.PORT_STATE p) =
    putFld (putFld (putFld ((s.enter p stUp).reg (Reg.PORT_STATE p)) 26 26 (bnat true)) 19 17 (s.port p).resDial) 16 16 (bnat (s.port p).resPre) := by
  rw [reg_state_of_links ((congrArg Prod.fst (toUp_links s p)).trans (upReport_state s p)), State.upBits]
  simp only [setRb_eq, setRf_eq, reg_setReg_same]

/-- The words that report, after entry to UP. -/
theorem report_toUp :
    (s.toUp p).reg (Reg.PORT_TRAINCNT p) = s.reg (Reg.PORT_TRAINCNT p) + 1 ∧
    (s.toUp p).reg (Reg.PORT_WARMCNT p) = (if (s.port p).warm then s.reg (Reg.PORT_WARMCNT p) + 1 else s.reg (Reg.PORT_WARMCNT p)) ∧
    (s.toUp p).rf (Reg.PORT_LINKSTAT p) 39 32 = 0 ∧ (s.toUp p).rb (Reg.PORT_LINKSTAT p) 43 = (s.port p).warm := by
  obtain ⟨-, et, ew⟩ := reg_report_of_links (show (s.upBits p).links.2 = s.links.2 from
    (report_setState ..).trans ((report_setState ..).trans ((report_setState ..).trans (report_enter s p stUp)))) p
  obtain ⟨rl, rt, rwarm⟩ := reg_report_of_links (congrArg Prod.snd (toUp_links s p)) p
  refine ⟨rt.trans ?_, rwarm.trans ?_, ?_, ?_⟩
  · cases hx : (s.port p).warm <;>
      simp [State.upReport, hx, setRf_eq, setRb_eq, bump_eq, reg_setReg_other, et]
  · cases hx : (s.port p).warm <;>
      simp [State.upReport, hx, setRf_eq, setRb_eq, bump_eq, reg_setReg_other, ew]
  · rw [State.rf, rl, State.upReport, setRf_eq, reg_setReg_same, setRf_eq, reg_setReg_same,
      fld_putFld_other _ _ _ _ _ _ (by decide) (by decide) (.inl (by decide)), fld_putFld _ _ _ _ (by decide) (by decide)]
    rfl
  · rw [State.rb, rl, State.upReport, setRf_eq, reg_setReg_same, setRf_eq, reg_setReg_same, bitOf_putFld _ _ _ _ _ (by decide) (by decide),
      if_neg (by decide), bitOf_putFld _ _ _ _ _ (by decide) (by decide), if_neg (by decide)]
    have e4 : ∀ t : State, (if (s.port p).warm then t.bump (Reg.PORT_WARMCNT p) else t).reg (Reg.PORT_LINKSTAT p) = t.reg (Reg.PORT_LINKSTAT p) :=
      fun t => by cases (s.port p).warm <;> simp [bump_eq, reg_setReg_other]
    rw [e4, setRb_eq, reg_setReg_same, bitOf_putFld _ _ _ _ _ (by decide) (by decide), if_pos (by decide)]
    exact testBit_bnat _

end

/-! ### Waking -/

theorem entered_wakePort (s : State) (p : PortNo) (k : Nat) (loc : Bool) (h : s.quadOn p = true) : Entered s (s.wakePort p k loc) p stListen := by
  unfold State.wakePort State.wakeEnter
  extract_lets s1 x
  rw [if_pos h]
  exact ((entered_toListen s1 p).from_links (by simp [s1])).of_links (by simp)

theorem domOn_congr {s t : State} {d : Nat} (h : t.dom d = s.dom d) : t.domOn d = s.domOn d := by
  unfold State.domOn
  rw [h]

theorem quadOn_bump (s : State) (a q : Nat) : (s.bump a).quadOn q = s.quadOn q := domOn_congr (dom_setReg s a _ (quadOf q))

theorem entered_remoteWake (s : State) (p : PortNo) (loc : Bool) (h : s.quadOn p = true) :
    Entered s ((s.bump (Reg.PORT_WAKECNT p)).wakePort p 1 loc) p stListen :=
  (entered_wakePort _ p 1 loc ((quadOn_bump ..).trans h)).from_links (by simp)

theorem entered_localWake (s : State) (p : PortNo) (h : s.quadOn p = true) : Entered s (s.localWake p) p stListen := by
  unfold State.localWake
  split
  · exact entered_remoteWake s p true h
  · exact entered_wakePort s p 0 true h

/-! ### Leaving UP, and back to ROVING -/

/-- Training that was entered from ROVING fails. -/
def State.backToRoving (s : State) (p : Nat) : State :=
  (((s.updPort p fun x => { x with attempt := false, fromRov := false }).enter p stRoving).cause p 8).bump (Reg.PORT_TRAINFAIL p)

theorem entered_backToRoving (s : State) (p : PortNo) : Entered s (s.backToRoving p) p stRoving := by
  unfold State.backToRoving
  exact ((entered_enter (s.updPort p fun x => { x with attempt := false, fromRov := false }) p (by decide)).from_links (by simp)).of_links (by simp)

theorem entered_toRoving (s : State) (p : PortNo) : Entered s (s.toRoving p) p stRoving :=
  (entered_enterRoving s p).of_links (by simp [State.toRoving])

theorem cause_backToRoving (s : State) (p : PortNo) : (s.backToRoving p).rf (Reg.PORT_LINKSTAT p) 47 44 = 8 :=
  cause_of_links p 8 (congrArg Prod.snd (bump_links _ (by simp)))

/-- What a link loss counts and records before the port leaves UP. -/
def State.lossNoted (s : State) (p : Nat) : State :=
  let s1 := ((s.bump (Reg.PORT_LINKDN p)).cause p 1).lossMemo p 1
  if s.triggers p then s1.dstTrigger 3 p 0 else s1

theorem lossNoted_links (s : State) (p : Nat) : (s.lossNoted p).links = ((s.bump (Reg.PORT_LINKDN p)).cause p 1).links := by
  simp [State.lossNoted]

section
variable (s : State) (p : PortNo)

theorem linkLoss_eq : s.linkLoss p = if s.rb (Reg.PORT_LINKCFG p) 47 then (s.lossNoted p).relisten p else (s.lossNoted p).toDisabled p := rfl

theorem entered_linkLoss : Entered s (s.linkLoss p) p (if s.rb (Reg.PORT_LINKCFG p) 47 then 1 else 0) := by
  have hs : (s.lossNoted p).links.1 = s.links.1 := by simp [lossNoted_links]
  rw [linkLoss_eq]
  split
  · exact ((entered_toListen _ p).from_links hs).of_links (by simp [State.relisten])
  · exact (entered_toDisabled _ p).from_links hs

theorem cause_linkLoss : (s.linkLoss p).rf (Reg.PORT_LINKSTAT p) 47 44 = 1 := by
  have hs := congrArg Prod.snd (lossNoted_links s p)
  rw [linkLoss_eq]
  split
  · rw [State.relisten, State.rf, setRf_eq, reg_setReg_same, fld_putFld_other _ _ _ _ _ _ (by decide) (by decide) (.inl (by decide))]
    exact cause_of_links p 1 ((report_toListen _ p).trans hs)
  · exact cause_of_links p 1 ((report_toDisabled _ p).trans hs)

theorem entered_sleepNow : Entered s (s.sleepNow p) p stSleep := by
  unfold State.sleepNow
  extract_lets s1
  exact ((entered_toSleep s1 p).from_links (by simp [s1])).of_links (by simp)

theorem cause_sleepNow : (s.sleepNow p).rf (Reg.PORT_LINKSTAT p) 47 44 = 2 :=
  cause_of_links (s := s) p 2 (by simp [State.sleepNow])

end

end Sys2Proof.Machine

namespace Sys2Proof
open Machine

/-- A transition command of a clause: its port enters the state, and bobbin and fuses stay. -/
theorem moves_of_entered {i : Instr} {s t : State} {p : PortNo} {st : Nat} (cause : Option Nat) (he : exec i s = .next t) (h : Entered s t p st)
    (hc : ∀ c, cause = some c → t.rf (Reg.PORT_LINKSTAT p) 47 44 = c) (hm : t.memories = s.memories) (hf : t.fixed = s.fixed) :
    nextWith (exec i s) (fun t => t.pst p = st ∧ t.pgen p = (s.pgen p + 1) % 65536 ∧
      (∀ c, cause = some c → t.rf (Reg.PORT_LINKSTAT p) 47 44 = c) ∧
      (∀ q : PortNo, q ≠ p → t.reg (Reg.PORT_STATE q) = s.reg (Reg.PORT_STATE q)) ∧ t.bobbin = s.bobbin ∧ t.fuses = s.fuses) :=
  ⟨t, he, h.1, h.2.1, hc, h.2.2, bobbin_of_memories hm, fuses_of_fixed hf⟩

theorem none_cause {P : Nat → Prop} : ∀ c, (none : Option Nat) = some c → P c := fun _ h => nomatch h

theorem some_cause {c : Nat} {P : Nat → Prop} (h : P c) : ∀ d, some c = some d → P d := fun _ e => Option.some.inj e ▸ h

/-- Settles O31: each transition command, and what entry to UP leaves. -/
theorem portTransitions : Obligations.PortTransitions := by
  unfold Obligations.PortTransitions
  refine ⟨fun p s => ⟨fun h => ?_, fun h hr hd => ?_, fun h hr => ?_, fun h hm => ?_, fun h ha hw hr hm => ?_, fun h hs => ?_, fun h hk hl => ?_,
    fun ha hd hl hk hq => ?_, fun ha hl hq => ?_, fun h hu hc hd ht => ?_⟩, fun p s h => ?_⟩
  · exact moves_of_entered none (if_pos h) (entered_toUp s p) none_cause (by simp) (by simp)
  · exact moves_of_entered (t := (s.toListen p).attemptFail p 8) (some 8) (by simp [exec, execTrainFail, h, hr, hd, stTrain])
      ((entered_toListen s p).of_links (by simp)) (some_cause (cause_of_links (s := s.toListen p) p 8 (by simp [State.attemptFail])))
      (by simp) (by simp)
  · exact moves_of_entered (t := s.backToRoving p) (some 8) (by simp [exec, execTrainFail, h, hr, stTrain, State.backToRoving])
      (entered_backToRoving s p) (some_cause (cause_backToRoving s p)) (by simp [State.backToRoving]) (by simp [State.backToRoving])
  · exact moves_of_entered (some 1) (if_pos ⟨h, hm⟩) (entered_linkLoss s p) (some_cause (cause_linkLoss s p)) (by simp) (by simp)
  · exact moves_of_entered (t := (s.updPort p fun y => { y with trainSig := true }).toTrain p) none
      (by simp [exec, execTrainingSignalDetect, h, ha, hw, hr, hm, stListen]) ((entered_toTrain _ p).from_links (by simp)) none_cause
      (by simp) (by simp)
  · exact moves_of_entered (some 2) (if_pos ⟨h, hs⟩) (entered_sleepNow s p) (some_cause (cause_sleepNow s p)) (by simp) (by simp)
  · exact moves_of_entered (t := s.falseWake p) none (by simp [exec, execFalseWakeTimeout, h, hk, hl, stListen])
      ((entered_toSleep s p).of_links (by simp [State.falseWake])) none_cause (by simp) (by simp)
  · exact moves_of_entered none (if_pos (by simp [State.remoteDue, ha, hd, hl, hk]))
      (entered_remoteWake s p _ hq) none_cause (by simp) (by simp)
  · exact moves_of_entered none (congrArg Host.Outcome.next (if_pos ⟨ha, hl⟩)) (entered_localWake s p hq) none_cause (by simp) (by simp)
  · have hs : (if (s.port p).attempt then (s.cause p 7).bump (Reg.PORT_TRAINFAIL p) else s).links.1 = s.links.1 := by
      split <;> simp
    exact moves_of_entered none ((if_pos ⟨hu, hc, hd, ht⟩).trans (if_pos h)) ((entered_toRoving _ p).from_links hs) none_cause
      (by simp) (by simp)
  · obtain ⟨hmode, hrole⟩ := enter_up_mode h
    obtain ⟨ht, hw, ha, hb⟩ := report_toUp s p
    refine ⟨s.toUp p, if_pos h, ?_, ?_, ?_, ?_, ?_, ht, hw, ha, hb⟩
    · rw [← hmode, State.pmode, State.rf, reg_state_toUp]
      iterate 3 rw [fld_putFld_other _ _ _ _ _ _ (by decide) (by decide) (by decide)]
      rfl
    · rw [← hrole, State.prole, State.rf, reg_state_toUp]
      iterate 3 rw [fld_putFld_other _ _ _ _ _ _ (by decide) (by decide) (by decide)]
      rfl
    · rw [State.rb, reg_state_toUp]
      simp [bitOf_putFld, bnat]
    · rw [State.rf, reg_state_toUp, fld_putFld_other _ _ _ _ _ _ (by decide) (by decide) (by decide)]
      exact fld_putFld _ 19 17 _ (by decide) (by decide)
    · rw [State.rb, reg_state_toUp, bitOf_putFld _ _ _ _ _ (by decide) (by decide), if_pos (by decide)]
      exact testBit_bnat _

end Sys2Proof
end

section
/-! PROOF. Start-up (O58): what the boot sequencer's work after the straps leaves, and the start and move of the supervisor. -/

namespace Sys2Proof.Machine

/-! ### What the boot sequencer leaves once it has taken the straps (R398) -/

/-- Words that the boot sequencer sets first: the straps, the management path, the core family's loop. -/
def BootWord (a : Nat) : Prop := a = Reg.ID_STRAP ∨ a = Reg.ID_MGMTPATH ∨ a = Reg.CLK_PLLCTL 0

/-- Those words, the phase of start-up, the rail and what waits in the runtime. -/
def State.startView (s : State) : (Word × Word × Word) × (Nat × Bool) × Runtime × List Waiting :=
  ((s.reg Reg.ID_STRAP, s.reg Reg.ID_MGMTPATH, s.reg (Reg.CLK_PLLCTL 0)), (s.boot.phase, s.pwr.core), s.rt, s.waitQ)

theorem not_bootWord {a : Nat} (h : 0x1012 ≤ a) : ¬ BootWord a := by
  rintro (rfl | rfl | rfl) <;> exact absurd h (by decide)

@[simp] theorem not_bootWord_root : ¬ BootWord Reg.CLK_READY ∧ ¬ BootWord Reg.CLK_ACK ∧ ¬ BootWord Reg.CLK_SRCSEL ∧ ¬ BootWord Reg.CLK_ACTIVE := by
  unfold BootWord
  decide

@[simp] theorem not_bootWord_csp0 : ¬ BootWord Reg.CSP0_FLASHSIZE ∧ ¬ BootWord Reg.CSP0_CFG ∧ ¬ BootWord Reg.CSP0_BOOTSTAT :=
  ⟨not_bootWord (by decide), not_bootWord (by decide), not_bootWord (by decide)⟩

@[simp] theorem not_bootWord_pwr : ¬ BootWord Reg.PWR_HOLDGAUGE ∧ ¬ BootWord Reg.PWR_HOLDSTAT ∧ ¬ BootWord Reg.PWR_AONSTAT ∧
    ¬ BootWord (Reg.PWR_DOMCTL 44) ∧ ¬ BootWord (Reg.HL_CTL 0) ∧ ¬ BootWord (Reg.CLK_PLLCTL 13) :=
  ⟨not_bootWord (by decide), not_bootWord (by decide), not_bootWord (by decide), not_bootWord (by decide), not_bootWord (by decide),
    not_bootWord (by decide)⟩

@[simp] theorem not_bootWord_bist : ¬ BootWord Reg.BIST_FAILCNT ∧ ¬ BootWord Reg.BIST_SPNFAIL ∧ ¬ BootWord Reg.BIST_BANKFAIL ∧
    ¬ BootWord Reg.TM_BANKEN :=
  ⟨not_bootWord (by decide), not_bootWord (by decide), not_bootWord (by decide), not_bootWord (by decide)⟩

@[simp] theorem not_bootWord_halves (k : Nat) : ¬ BootWord (Reg.BIST_COEFFAIL k) ∧ ¬ BootWord (Reg.BIST_CANCFAIL k) ∧ ¬ BootWord (Reg.PORT_COEFSTAT k) :=
  ⟨not_bootWord (by unfold Reg.BIST_COEFFAIL; omega), not_bootWord (by unfold Reg.BIST_CANCFAIL; omega),
    not_bootWord (by unfold Reg.PORT_COEFSTAT; omega)⟩

@[simp] theorem startView_ite (c : Prop) [Decidable c] (a b : State) :
    (if c then a else b).startView = if c then a.startView else b.startView := apply_ite _ _ _ _

theorem forAll_startView {α : Type} (f : State → α → State) (h : ∀ s a, (f s a).startView = s.startView) (l : List α) (s : State) :
    (forAll f l s).startView = s.startView := forAll_frame State.startView f h l s

section
variable (s : State)

@[simp] theorem setReg_startView {a : Nat} (v : Word) (h : ¬ BootWord a) : (s.setReg a v).startView = s.startView := by
  obtain ⟨h1, h2, h3⟩ := not_or.mp h |>.imp_right not_or.mp
  simp only [State.startView, reg_setReg_other s v (Ne.symm h1), reg_setReg_other s v (Ne.symm h2), reg_setReg_other s v (Ne.symm h3),
    setReg_boot, setReg_pwr, setReg_rt, setReg_waitQ]
@[simp] theorem setRf_startView {a : Nat} (hi lo v : Nat) (h : ¬ BootWord a) : (s.setRf a hi lo v).startView = s.startView := setReg_startView s _ h
@[simp] theorem setRb_startView {a : Nat} (i : Nat) (b : Bool) (h : ¬ BootWord a) : (s.setRb a i b).startView = s.startView := setReg_startView s _ h
@[simp] theorem bump_startView {a : Nat} (h : ¬ BootWord a) : (s.bump a).startView = s.startView := setReg_startView s _ h
@[simp] theorem updPort_startView (p : Nat) (f : Port → Port) : (s.updPort p f).startView = s.startView := by
  simp only [updPort_eq, State.startView, reg_setPort, setPort_boot, setPort_pwr, setPort_rt, setPort_waitQ]
@[simp] theorem updSpn_startView (n : Nat) (f : Spindle → Spindle) : (s.updSpn n f).startView = s.startView := by
  simp only [updSpn_eq, State.startView, reg_setSpn, setSpn_boot, setSpn_pwr, setSpn_rt, setSpn_waitQ]
@[simp] theorem raise_startView (src code info : Nat) : (s.raise src code info).startView = s.startView := by
  have hw : ∀ a, BootWord a → (s.raise src code info).reg a = s.reg a := by
    rintro a (rfl | rfl | rfl) <;> exact reg_raise s src code info _ (by decide) (by decide)
  have hr : (s.raise src code info).boot = s.boot ∧ (s.raise src code info).pwr = s.pwr ∧ (s.raise src code info).rt = s.rt ∧
      (s.raise src code info).waitQ = s.waitQ :=
    ⟨raise_frame State.boot (fun _ _ => rfl) (fun _ _ _ => rfl) s _ _ _, raise_frame State.pwr (fun _ _ => rfl) (fun _ _ _ => rfl) s _ _ _,
      raise_frame State.rt (fun _ _ => rfl) (fun _ _ _ => rfl) s _ _ _, raise_frame State.waitQ (fun _ _ => rfl) (fun _ _ _ => rfl) s _ _ _⟩
  simp only [State.startView, hr, hw _ (.inl rfl), hw _ (.inr (.inl rfl)), hw _ (.inr (.inr rfl))]
@[simp] theorem startWake_startView : (s.startWake 44).startView = s.startView := by
  have hd : ∀ (t : State) (x : Dom), (t.setDom 44 x).startView = t.startView := fun _ _ => rfl
  simp only [State.startWake, startView_ite, hd, setRf_startView s 1 0 0 not_bootWord_pwr.2.2.2.1, ite_self]

/-! The clocks (R330), the reserve's gauge (R353), self-test (R372). -/

@[simp] theorem ackReady_startView : s.ackReady.startView = s.startView := by simp [State.ackReady]
@[simp] theorem loopBack_startView (g : Nat) (low : Bool) : (s.loopBack g low).startView = s.startView :=
  forAll_startView _ (fun t i => by simp) _ s
@[simp] theorem afterSwitch_startView (old : Word) : (s.afterSwitch old).startView = s.startView := by
  have hf : ∀ (t : State) (f : Flt), (t.setFlt f).startView = t.startView := fun _ _ => rfl
  unfold State.afterSwitch
  extract_lets rose flt s1
  have h1 : s1.startView = s.startView := by simp [s1, hf]
  exact (forAll_startView _ (fun t g => by simp) _ s1).trans h1
@[simp] theorem moveTo_startView (bits : Word) : (s.moveTo bits).startView = s.startView := by simp [State.moveTo, State.activate]
@[simp] theorem bootMove_startView : s.bootMove.startView = s.startView := by
  have hc : ∀ t : State, ({ t with boot := { t.boot with coreDue := false } } : State).startView = t.startView := fun _ => rfl
  have hh : ∀ t : State, ({ t with boot := { t.boot with hlDue := false } } : State).startView = t.startView := fun _ => rfl
  simp only [State.bootMove, startView_ite, moveTo_startView, hc, hh, ite_self]
@[simp] theorem readySources_startView (r : BitVec 18) : (s.readySources r).startView = s.startView := by
  have hs : ∀ (t : State) (k : Nat) (x : ClkSrc), (t.setSrc k x).startView = t.startView := fun _ _ _ => rfl
  exact (forAll_startView _ (fun t k => by simp [hs]) _ _).trans (by simp)
@[simp] theorem setGauge_startView (v : Nat) : (s.setGauge v).startView = s.startView :=
  (setReg_startView (s.drawNat 24).2 (BitVec.ofNat 48 v) not_bootWord_pwr.1 : _)
@[simp] theorem postEvent_startView (src code : Nat) (info : Nat → Nat) : (s.postEvent src code info).startView = s.startView := by
  have hd : (s.drawNat 28).2.startView = s.startView := rfl
  simp [State.postEvent, hd]
@[simp] theorem applyPost_startView (r : PostResult) : (s.applyPost r).startView = s.startView := by
  unfold State.applyPost
  extract_lets s1 s2 s3
  have h1 : s1.startView = s.startView := forAll_startView _ (fun t n => by simp) _ s
  have h2 : s2.startView = s1.startView := forAll_startView _ (fun t b => by simp) _ s1
  have h3 : s3.startView = s2.startView := forAll_startView _ (fun t p => forAll_startView _ (fun u h => by simp) _ t) _ s2
  exact ((forAll_startView _ (fun t u => forAll_startView _ (fun v h => by simp) _ t) _ s3).trans h3).trans (h2.trans h1)

/-- The straps are taken and the core family's loop is enabled. -/
def State.strapped (s : State) (b : BootInputs) : State :=
  let gpio := (s.pins.gpio &&& 0xFFFFFFF8#32) ||| b.straps.zeroExtend 32
  let s0 : State := { s with
    boot := { phase := 1, coreDue := true, hlDue := b.straps.getLsbD 0, laneDue := b.straps.getLsbD 0 && decide ((s.dom 44).st ≠ 0) }
    time := 0, pins := { s.pins with gpio }
    pwr := { s.pwr with core := true, ret := true, io := true, park := 0, pwrReq := true, wakeIn := false, bootIn := none } }
  let s2 := (s0.setReg Reg.ID_STRAP (BitVec.ofNat 48 b.straps.toNat)).setReg Reg.ID_MGMTPATH (BitVec.ofNat 48 (bnat (b.straps.getLsbD 0)))
  (s2.setRb (Reg.CLK_PLLCTL 0) 2 (s2.rb Reg.CLK_CFG 1)).setRb (Reg.CLK_PLLCTL 0) 47 true

theorem bootStart_startView (b : BootInputs) : (s.bootStart b).startView = (s.strapped b).startView := by
  unfold State.bootStart
  extract_lets strap hl0 gpio pins0 s0 pwr0 s1 s2 loop s3 s4 s5 size bad lines s6 codes s7 s8 s9 s10 pwr10 s11 s12
  have h3 : s3 = s.strapped b := rfl
  have h4 : s4.startView = s3.startView := by simp [s4, loop]
  have h9 : s9.startView = s4.startView := by simp [s9, s8, s7, s6, s5]
  have h10 : s10.startView = s9.startView := forAll_startView _ (fun t e => by simp) _ s9
  have h11 : s11.startView = s10.startView := rfl
  have h12 : s12.startView = s11.startView := by simp [s12]
  have he : (if hl0 then (if (s12.dom 44).st = 0 then s12.setRb (Reg.HL_CTL 0) 47 true else s12.startWake 44) else s12).startView = s12.startView := by
    simp
  rw [he, h12, h11, h10, h9, h4, h3]

end

end Sys2Proof.Machine
end

section
/-! PROOF. Start-up (O58): power-on, the winning slot, the start and the move of the supervisor. -/

namespace Sys2Proof.Machine

/-! ### Power-on (R398, R49) -/

/-- What cutting the programming of a life-cycle fuse leaves of the fuses (R55). -/
theorem tornFuse_fuses (s : State) :
    s.tornFuse.fuses.count = s.fuses.count ∧ s.tornFuse.fuses.prog = none ∧ (s.fuses.prog = none → s.tornFuse.fuses.lc = s.fuses.lc) := by
  unfold State.tornFuse
  cases h : s.fuses.prog with
  | none => exact ⟨rfl, h, fun _ => rfl⟩
  | some v => exact ⟨rfl, rfl, fun e => by cases e⟩

theorem startView_strapped (s : State) (b : BootInputs) :
    (s.strapped b).boot.phase = 1 ∧ (s.strapped b).pwr.core = true ∧ (s.strapped b).rt = s.rt ∧ (s.strapped b).waitQ = s.waitQ ∧
      (s.strapped b).reg Reg.ID_STRAP = BitVec.ofNat 48 b.straps.toNat ∧ (s.strapped b).rb Reg.ID_MGMTPATH 0 = b.straps.getLsbD 0 ∧
      (s.strapped b).rb (Reg.CLK_PLLCTL 0) 47 = true := by
  refine ⟨rfl, rfl, rfl, rfl, ?_, ?_, ?_⟩
  · unfold State.strapped
    simp only [setRb_eq]
    rw [reg_setReg_other _ _ (by decide), reg_setReg_other _ _ (by decide), reg_setReg_other _ _ (by decide), reg_setReg_same]
  · unfold State.strapped
    simp only [setRb_eq, State.rb]
    rw [reg_setReg_other _ _ (by decide), reg_setReg_other _ _ (by decide), reg_setReg_same]
    cases b.straps.getLsbD 0 <;> decide
  · unfold State.strapped
    simp only [setRb_eq, State.rb]
    rw [reg_setReg_same, bitOf_putFld _ _ _ _ _ (by decide) (by decide), if_pos (by decide)]
    rfl

theorem powerOn_spec (s : State) (b : BootInputs) : nextWith (exec (.powerOn b) s) (fun t =>
    t.boot.phase = 1 ∧ t.rootUp = true ∧ t.reg Reg.ID_STRAP = BitVec.ofNat 48 b.straps.toNat ∧ t.rb Reg.ID_MGMTPATH 0 = b.straps.getLsbD 0 ∧
    t.rb (Reg.CLK_PLLCTL 0) 47 = true ∧ t.flash = s.flash ∧ t.fuses.count = s.fuses.count ∧ t.fuses.prog = none ∧
    (s.fuses.prog = none → t.fuses.lc = s.fuses.lc) ∧ t.pending = s.pending ∧ t.bobbin = [] ∧ t.rt.cmds = [] ∧ t.waitQ = []) := by
  have hv := bootStart_startView s.bare b
  have hf := bootStart_fixed s.bare b
  have hm := bootStart_memories s.bare b
  generalize ht : s.bare.bootStart b = t at hv hf hm
  obtain ⟨hwords, hrest⟩ := Prod.mk.inj hv
  obtain ⟨hstrap, hwords⟩ := Prod.mk.inj hwords
  obtain ⟨hpath, hloop⟩ := Prod.mk.inj hwords
  obtain ⟨hphase, hrest⟩ := Prod.mk.inj hrest
  obtain ⟨hphase, hcore⟩ := Prod.mk.inj hphase
  obtain ⟨hrt, hwait⟩ := Prod.mk.inj hrest
  obtain ⟨gphase, gcore, grt, gwait, gstrap, gpath, gloop⟩ := startView_strapped s.bare b
  obtain ⟨fcount, fprog, flc⟩ := tornFuse_fuses s
  have hfuse : t.fuses = s.tornFuse.fuses := fuses_of_fixed (s := s.bare) hf
  have hph : t.boot.phase = 1 := hphase.trans gphase
  have hco : t.pwr.core = true := hcore.trans gcore
  refine ⟨t, congrArg Host.Outcome.next ht, hph, by simp [State.rootUp, hph, hco], hstrap.trans gstrap,
    (congrArg (bitOf · 0) hpath).trans gpath, (congrArg (bitOf · 47) hloop).trans gloop, (Prod.mk.inj hm).2, ?_, ?_, ?_, pending_of_fixed (s := s.bare) hf,
    bobbin_of_memories (s := s.bare) hm, congrArg Runtime.cmds (hrt.trans grt), hwait.trans gwait⟩
  · rw [hfuse, fcount]
  · rw [hfuse, fprog]
  · rw [hfuse]
    exact flc

/-! ### The winning slot (R393) -/

/-- A header that passes its checks puts the entry inside the body. -/
theorem entry_of_imgHeader {w : Nat → Word} {count : Nat} (h : imgHeader w count = 0) : fld (w 2) 31 0 < 260096 := by
  unfold imgHeader at h
  extract_lets f len hash at h
  split_ifs at h with h1 h2 h3 h4 h5
  simp only [not_or, not_lt, not_le] at h4
  omega

theorem selectSlot_win {s : State} {k : Nat} (h : s.selectSlot.2.2 = some k) : k ≤ 1 ∧ imgHeader (s.slotImg k) s.fuses.count = 0 := by
  unfold State.selectSlot at h
  extract_lets early full first order r1 r2 win at h
  have hwin : win = some k := by
    split at h <;> exact h
  have hfull : ∀ j, full j = 0 → early j = 0 := fun j hj => by
    by_contra he
    simp only [full, if_pos he] at hj
    exact he hj
  have hfirst : first ≤ 1 := by
    unfold first
    split <;> decide
  have horder : order ≤ 1 := by
    unfold order
    split
    · exact Nat.sub_le 1 first
    · exact hfirst
  by_cases h1 : r1 = 0
  · have : order = k := by simpa [win, h1] using hwin
    exact this ▸ ⟨horder, hfull order h1⟩
  · by_cases h2 : r2 = 0
    · have : 1 - order = k := by simpa [win, h1, h2] using hwin
      exact this ▸ ⟨Nat.sub_le 1 order, hfull _ (by simpa [r2, h1] using h2)⟩
    · simp [win, h1, h2] at hwin

/-- The supervisor's entry is a PC of 32 bits. -/
theorem entryPc_lt {s : State} {k : Nat} (h : s.selectSlot.2.2 = some k) : entryPc k (fld (s.slotImg k 2) 31 0) < 2 ^ 32 := by
  obtain ⟨hk, hh⟩ := selectSlot_win h
  have := entry_of_imgHeader hh
  unfold entryPc bodyAt
  omega

/-! ### The supervisor's spindle (R18, R242) -/

theorem spnPassed_congr {s t : State} {n : Nat} (h : t.spn n = s.spn n) : t.spnPassed n = s.spnPassed n := by
  unfold State.spnPassed
  rw [h]

theorem supPick_congr {s t : State} (h : ∀ n, t.spn n = s.spn n) : t.supPick = s.supPick := by
  have hp : ∀ n, t.spnPassed n = s.spnPassed n := fun n => spnPassed_congr (h n)
  simp only [State.supPick, hp]

theorem supPick_lt {s : State} {n : Nat} (h : s.supPick = some n) : n < 48 := by
  unfold State.supPick at h
  split at h
  · cases h; decide
  · exact List.mem_range.mp (List.mem_of_find?_eq_some h)

theorem supNext_lt {s : State} {n : Nat} (h : s.supNext = some n) : n < 48 := by
  unfold State.supNext at h
  simp only at h
  split at h
  · cases h
  · exact List.mem_range.mp (List.mem_of_find?_eq_some h)

/-! ### A spindle starts as supervisor -/

theorem reg_setSpnMode (s : State) (n m : Nat) {a : Nat} (h : a ≠ Reg.SPN_CTL n) : (s.setSpnMode n m).reg a = s.reg a := by
  rw [State.setSpnMode, updSpn_eq, reg_setSpn, setRf_eq, reg_setReg_other _ _ h]

/-- The spindle in SUP mode at its start address, its HALT not yet cleared. -/
def State.supMode (s : State) (n : Nat) (pc : Option Nat) : State :=
  let s1 := (s.setReg Reg.MB_SUPLOC (BitVec.ofNat 48 n)).setSpnMode n 0
  match pc with
  | some k => s1.setRf (Reg.SPN_STARTPC n) 31 0 k
  | none => s1

section
variable (s : State) (n : Nat) (pc : Option Nat)

theorem startSup_eq : s.startSup n pc = ((s.supMode n pc).setRb (Reg.SPN_CTL n) 47 false).startSpn n := rfl

theorem supMode_spn : (s.supMode n pc).spn n = { s.spn n with mode := 0 } := by
  have h : ((s.setReg Reg.MB_SUPLOC (BitVec.ofNat 48 n)).setSpnMode n 0).spn n = { s.spn n with mode := 0 } := by
    rw [State.setSpnMode, updSpn_eq, spn_setSpn_same, setRf_eq, spn_setReg, spn_setReg]
  cases pc with
  | none => exact h
  | some k => exact (spn_setReg _ _ _ n).trans h

theorem startSup_spn : (s.startSup n pc).spn n = { s.spn n with
    mode := 0, run := .running, dbl := false, pc := ((s.supMode n pc).setRb (Reg.SPN_CTL n) 47 false).rf (Reg.SPN_STARTPC n) 31 0 } := by
  rw [startSup_eq, State.startSpn, updSpn_eq, spn_setSpn_same, setRb_eq, spn_setReg, supMode_spn]

theorem startSup_pc (k : Nat) : ((s.startSup n (some k)).spn n).pc = k % 2 ^ 32 := by
  have hne : Reg.SPN_STARTPC n ≠ Reg.SPN_CTL n := by simp
  rw [startSup_spn]
  show (State.setRb _ _ _ _).rf _ _ _ = _
  rw [State.rf, setRb_eq, reg_setReg_other _ _ hne, State.supMode, setRf_eq, reg_setReg_same]
  exact fld_putFld _ 31 0 k (by decide) (by decide)

theorem startSup_boot : (s.startSup n pc).boot = s.boot := by
  have h : ∀ t : State, (t.setSpnMode n 0).boot = t.boot := fun t => by rw [State.setSpnMode, updSpn_eq, setSpn_boot, setRf_eq, setReg_boot]
  rw [startSup_eq, State.startSpn, updSpn_eq, setSpn_boot, setRb_eq, setReg_boot]
  cases pc with
  | none => exact (h _).trans (setReg_boot s _ _)
  | some k => exact (setReg_boot _ _ _).trans ((h _).trans (setReg_boot s _ _))

/-- A start writes no word outside the spindle's block beside MB_SUPLOC. -/
theorem startSup_reg_supMode {a : Nat} (h : a < 0x100000) :
    (s.startSup n pc).reg a = (s.setReg Reg.MB_SUPLOC (BitVec.ofNat 48 n)).reg a := by
  have hc : a ≠ Reg.SPN_CTL n := by unfold Reg.SPN_CTL; omega
  have hp : a ≠ Reg.SPN_STARTPC n := by unfold Reg.SPN_STARTPC; omega
  rw [startSup_eq, State.startSpn, updSpn_eq, reg_setSpn, setRb_eq, reg_setReg_other _ _ hc]
  cases pc with
  | none => exact reg_setSpnMode _ n 0 hc
  | some k => exact (reg_setReg_other _ _ hp).trans (reg_setSpnMode _ n 0 hc)

theorem startSup_reg {a : Nat} (h : a < 0x100000) (hs : a ≠ Reg.MB_SUPLOC) : (s.startSup n pc).reg a = s.reg a :=
  (startSup_reg_supMode s n pc h).trans (reg_setReg_other s _ hs)

theorem startSup_suploc : (s.startSup n pc).reg Reg.MB_SUPLOC = BitVec.ofNat 48 n :=
  (startSup_reg_supMode s n pc (by decide)).trans (reg_setReg_same s _ _)

end

theorem supSpn_of_suploc {s : State} {n : Nat} (h : s.reg Reg.MB_SUPLOC = BitVec.ofNat 48 n) (hn : n < 48) : s.supSpn = n := by
  rw [State.supSpn, State.rf, h, fld, BitVec.toNat_ofNat]
  omega

/-- R242: the move. -/
theorem supervisorMove_spec {s : State} {n : Nat} (hp : 2 ≤ s.boot.phase) (hr : s.rootUp = true) (hf : s.supFailed = true) (hn : s.supNext = some n) :
    nextWith (exec .supervisorMove s) (fun t =>
      t.supSpn = n ∧ (t.spn n).mode = 0 ∧ (t.spn n).run = .running ∧ t.reg Reg.MB_SUPMOVE = s.reg Reg.MB_SUPMOVE + 1) := by
  refine ⟨(((s.setSpnMode s.supSpn 1).startSup n (s.boot.win.map fun k => entryPc k (fld (s.slotImg k 2) 31 0))).bump Reg.MB_SUPMOVE),
    by simp only [exec, execSupervisorMove, hp, hr, hf, hn, and_self, if_true], supSpn_of_suploc ?_ (supNext_lt hn), ?_, ?_, ?_⟩
  · rw [bump_eq, reg_setReg_other _ _ (by decide), startSup_suploc]
  · rw [bump_eq, spn_setReg, startSup_spn]
  · rw [bump_eq, spn_setReg, startSup_spn]
  · have hc : Reg.MB_SUPMOVE ≠ Reg.SPN_CTL s.supSpn := by unfold Reg.SPN_CTL Reg.MB_SUPMOVE; omega
    rw [bump_eq, reg_setReg_same, startSup_reg _ _ _ (by decide) (by decide), reg_setSpnMode _ _ _ hc]

end Sys2Proof.Machine
end

section
/-! PROOF. Start-up (O58): the start of the supervisor, the configuration records, and the statement. -/

namespace Sys2Proof.Machine

/-! ### What the start leaves of the supervisor's spindle -/

/-- A function that no step over the members of a list changes. -/
theorem forAll_frame_mem {α σ β : Type} (g : σ → β) (f : σ → α → σ) :
    ∀ (l : List α) (s : σ), (∀ a ∈ l, ∀ t, g (f t a) = g t) → g (forAll f l s) = g s
  | [], _, _ => rfl
  | a :: l, s, h =>
    (forAll_frame_mem g f l (f s a) fun b hb => h b (List.mem_cons_of_mem a hb)).trans (h a List.mem_cons_self s)

/-- Start-up's record, the supervisor's spindle and where it is, and CSP0_BOOTSTAT. -/
def State.supView (s : State) (n : Nat) : Boot × Spindle × Word × Word := (s.boot, s.spn n, s.reg Reg.MB_SUPLOC, s.reg Reg.CSP0_BOOTSTAT)

section
variable (s : State) (n : Nat)

theorem supView_setReg {a : Nat} (v : Word) (h : 0x9000 ≤ a) : (s.setReg a v).supView n = s.supView n := by
  have h1 : Reg.MB_SUPLOC ≠ a := by unfold Reg.MB_SUPLOC; omega
  have h2 : Reg.CSP0_BOOTSTAT ≠ a := by unfold Reg.CSP0_BOOTSTAT; omega
  rw [State.supView, setReg_boot, spn_setReg, reg_setReg_other s v h1, reg_setReg_other s v h2, State.supView]

theorem supView_setSpnMode {k m : Nat} (h : k ≠ n) : (s.setSpnMode k m).supView n = s.supView n := by
  have hs : ∀ (t : State) (x : Spindle), (t.setSpn k x).supView n = t.supView n := fun t x => by
    rw [State.supView, setSpn_boot, spn_setSpn_other t x (Ne.symm h), reg_setSpn, reg_setSpn, State.supView]
  rw [State.setSpnMode, updSpn_eq, hs, setRf_eq, supView_setReg _ _ _ (by unfold Reg.SPN_CTL; omega)]

theorem supView_assignModes (u : Nat) (h : s.supSpn = n) : (s.assignModes u).supView n = s.supView n := by
  refine forAll_frame_mem (State.supView · n) _ _ s fun x hx t => supView_setSpnMode t n ?_
  obtain ⟨y, hy, rfl⟩ := List.mem_map.mp hx
  have hp := (List.mem_filter.mp (List.of_mem_zip hy).1).2
  simp only [Bool.and_eq_true, decide_eq_true_eq, h] at hp
  exact hp.2

theorem supView_grantRun (k : Nat) : (s.grantRun k).supView n = s.supView n := by
  have hw : ∀ (t : State) (j : Nat) (v w : Word), ((t.setReg (Reg.SPN_DWBASE k j) v).setReg (Reg.SPN_DWLIM k j) w).supView n = t.supView n :=
    fun t j v w => by
      rw [supView_setReg _ _ _ (by unfold Reg.SPN_DWLIM; omega), supView_setReg _ _ _ (by unfold Reg.SPN_DWBASE; omega)]
  unfold State.grantRun
  extract_lets win s1
  have h1 : s1.supView n = s.supView n := ((hw _ 3 _ _).trans (hw _ 2 _ _)).trans ((hw _ 1 _ _).trans (hw s 0 _ _))
  refine (forAll_frame_mem (State.supView · n) _ _ s1 fun a ha t => supView_setReg t n _ ?_).trans h1
  simp only [List.mem_cons, List.not_mem_nil, or_false] at ha
  rcases ha with rfl | rfl | rfl | rfl | rfl | rfl <;> simp only [Reg.SPN_DGATHER0, Reg.SPN_DGATHER1, Reg.SPN_DWRITE0, Reg.SPN_DWRITE1, Reg.SPN_DSKG,
    Reg.SPN_DSKW] <;> omega

theorem supView_cutTx (e : Nat) : (s.cutTx e).supView n = s.supView n := by
  have hd : ∀ (t : State) (fid : Nat), (t.dropCopy fid).supView n = t.supView n := fun t fid => by
    unfold State.dropCopy
    split
    · rfl
    · split <;> rfl
  have ho : ∀ (t : State) (q : Nat), (t.txOver e q).supView n = t.supView n := fun t q => by
    unfold State.txOver
    split
    · split <;> rfl
    · rfl
  unfold State.cutTx
  split
  · rfl
  · split
    · rfl
    · rw [bump_eq, supView_setReg _ _ _ (by unfold Reg.TM_QDROPLOST; omega), hd, ho]
      rfl

theorem supView_stopTx (k : Nat) : (s.stopTx k).supView n = s.supView n := by
  unfold State.stopTx
  split
  · rw [bump_eq, supView_setReg _ _ _ (by unfold Reg.HL_TXABORT; omega), supView_cutTx]
  · rfl

theorem supView_bringUp (k : Nat) : (s.bringUp k).supView n = s.supView n := by
  have ha : (s.abortTx k).supView n = s.supView n := by
    unfold State.abortTx
    split
    · exact supView_stopTx (s.drawNat 14).2 n k
    · exact supView_stopTx s n k
  have hl : 0x9000 ≤ Reg.HL_STAT k := by unfold Reg.HL_STAT; omega
  rw [State.bringUp, setRf_eq, supView_setReg _ _ _ hl, State.setAligned, setRb_eq, supView_setReg _ _ _ hl, State.setLst, setRf_eq,
    supView_setReg _ _ _ hl]
  exact ha

end

/-! ### The start (R18, R398, R399) -/

/-- The codes of the two slots and the winner, where the flash can be read. -/
def State.slotResult (s : State) : Nat × Nat × Option Nat :=
  if s.rb Reg.CSP0_BOOTSTAT 37 || s.rb Reg.CSP0_CFG 47 then (9, 9, none) else s.selectSlot

/-- CSP0_BOOTSTAT takes the result. -/
def State.slotNoted (s : State) : State :=
  let s1 := (s.setRf Reg.CSP0_BOOTSTAT 47 44 s.slotResult.1).setRf Reg.CSP0_BOOTSTAT 43 40 s.slotResult.2.1
  match s.slotResult.2.2 with
  | some k => ((s1.setRb Reg.CSP0_BOOTSTAT 39 (decide (k = 1))).setRb Reg.CSP0_BOOTSTAT 38 false).setRf Reg.CSP0_BOOTSTAT 15 0 (fld (s.slotImg k 30) 15 0)
  | none => s1.setRb Reg.CSP0_BOOTSTAT 38 true

/-- Spindle n starts as supervisor. -/
def State.supStarted (s : State) (n : Nat) : State :=
  let win := s.slotResult.2.2
  let s3 : State := { s.slotNoted with boot := { s.slotNoted.boot with phase := 2, win := win, bare := win.isNone, cfgIx := 0, cfgWait := false } }
  s3.startSup n (win.map (fun k => entryPc k (fld (s.slotImg k 2) 31 0)))

/-- The pool takes its modes, the RUN spindles their windows, and HL0 begins where it carries management. -/
def State.supGranted (s : State) : State :=
  let s5 := s.assignModes s.rt.u
  let s6 := forAll State.grantRun s5.runSpindles s5
  if s6.rb (Reg.HL_CTL 0) 47 ∧ s6.lst 0 = laOff ∧ s6.laneOn 0 then s6.bringUp 0 else s6

theorem slotNoted_spn (s : State) (n : Nat) : s.slotNoted.spn n = s.spn n := by
  unfold State.slotNoted
  extract_lets s1
  have h1 : s1.spn n = s.spn n := by
    unfold s1
    rw [setRf_eq, spn_setReg, setRf_eq, spn_setReg]
  split
  · rw [setRf_eq, spn_setReg, setRb_eq, spn_setReg, setRb_eq, spn_setReg, h1]
  · rw [setRb_eq, spn_setReg, h1]

theorem slotNoted_bare (s : State) : s.slotNoted.rb Reg.CSP0_BOOTSTAT 38 = s.slotResult.2.2.isNone := by
  unfold State.slotNoted
  extract_lets s1
  split
  · rename_i k hk
    rw [hk, State.rb, setRf_eq, reg_setReg_same, bitOf_putFld _ _ _ _ _ (by decide) (by decide), if_neg (by decide), setRb_eq, reg_setReg_same,
      bitOf_putFld _ _ _ _ _ (by decide) (by decide), if_pos (by decide)]
    rfl
  · rename_i hk
    rw [hk, State.rb, setRb_eq, reg_setReg_same, bitOf_putFld _ _ _ _ _ (by decide) (by decide), if_pos (by decide)]
    rfl

theorem supervisorGo_eq {s : State} {n : Nat} (h : s.supPick = some n) :
    s.supervisorGo = if s.domOn (30 + n / 8) = false then s.wakeDom (30 + n / 8) else (s.supStarted n).supGranted := by
  have hp : s.slotNoted.supPick = some n := (supPick_congr (slotNoted_spn s)).trans h
  have he : s.supervisorGo = match s.slotNoted.supPick with
    | none => s
    | some m => if s.domOn (30 + m / 8) = false then s.wakeDom (30 + m / 8) else (s.supStarted m).supGranted := rfl
  rw [he, hp]

theorem slotResult_win (s : State) :
    s.slotResult.2.2 = if s.rb Reg.CSP0_BOOTSTAT 37 = true ∨ s.rb Reg.CSP0_CFG 47 = true then none else s.selectSlot.2.2 := by
  unfold State.slotResult
  by_cases h : s.rb Reg.CSP0_BOOTSTAT 37 = true ∨ s.rb Reg.CSP0_CFG 47 = true
  · rw [if_pos h, if_pos (by simpa using h)]
  · rw [if_neg h, if_neg (by simpa using h)]

theorem selectSlot_of_slotResult {s : State} {k : Nat} (h : s.slotResult.2.2 = some k) : s.selectSlot.2.2 = some k := by
  rw [slotResult_win] at h
  split at h
  · cases h
  · exact h

theorem supStarted_suploc (s : State) (n : Nat) : (s.supStarted n).reg Reg.MB_SUPLOC = BitVec.ofNat 48 n := startSup_suploc _ n _

theorem supView_supGranted {s : State} {n : Nat} (h : s.supSpn = n) : s.supGranted.supView n = s.supView n := by
  unfold State.supGranted
  extract_lets s5 s6
  have h5 : s5.supView n = s.supView n := supView_assignModes s n _ h
  have h6 : s6.supView n = s5.supView n := forAll_frame (State.supView · n) _ (fun t k => supView_grantRun t n k) _ s5
  split
  · rw [supView_bringUp, h6, h5]
  · rw [h6, h5]

theorem supervisorStart_spec {s : State} {n : Nat} (hp : s.boot.phase = 1) (hr : s.rootUp = true) (hn : s.supPick = some n)
    (hd : s.domOn (30 + n / 8) = true) : nextWith (exec .supervisorStart s) (fun t =>
      let win := if s.rb Reg.CSP0_BOOTSTAT 37 = true ∨ s.rb Reg.CSP0_CFG 47 = true then none else s.selectSlot.2.2
      t.boot.phase = 2 ∧ t.boot.win = win ∧ t.boot.bare = win.isNone ∧ t.supSpn = n ∧ (t.spn n).mode = 0 ∧ (t.spn n).run = .running ∧
      t.rb Reg.CSP0_BOOTSTAT 38 = win.isNone ∧ ∀ k, win = some k → (t.spn n).pc = entryPc k (fld (s.slotImg k 2) 31 0)) := by
  have he : exec .supervisorStart s = .next (s.supStarted n).supGranted :=
    (if_pos ⟨hp, hr⟩).trans (congrArg Host.Outcome.next ((supervisorGo_eq hn).trans (if_neg (by simp [hd]))))
  have hs := supSpn_of_suploc (supStarted_suploc s n) (supPick_lt hn)
  obtain ⟨hboot, hv⟩ := Prod.mk.inj (supView_supGranted hs)
  obtain ⟨hspn, hv⟩ := Prod.mk.inj hv
  obtain ⟨hloc, hstat⟩ := Prod.mk.inj hv
  have gboot : (s.supStarted n).boot = { s.slotNoted.boot with
      phase := 2, win := s.slotResult.2.2, bare := s.slotResult.2.2.isNone, cfgIx := 0, cfgWait := false } := startSup_boot _ n _
  have gstat : (s.supStarted n).reg Reg.CSP0_BOOTSTAT = s.slotNoted.reg Reg.CSP0_BOOTSTAT := startSup_reg _ n _ (by decide) (by decide)
  refine ⟨_, he, ?_⟩
  rw [← slotResult_win]
  refine ⟨?_, ?_, ?_, supSpn_of_suploc (hloc.trans (supStarted_suploc s n)) (supPick_lt hn), ?_, ?_, ?_, fun k hk => ?_⟩
  · rw [hboot, gboot]
  · rw [hboot, gboot]
  · rw [hboot, gboot]
  · rw [hspn, State.supStarted, startSup_spn]
  · rw [hspn, State.supStarted, startSup_spn]
  · rw [State.rb, hstat, gstat]
    exact slotNoted_bare s
  · rw [hspn, State.supStarted, hk]
    exact (startSup_pc _ n _).trans (Nat.mod_eq_of_lt (entryPc_lt (selectSlot_of_slotResult hk)))

end Sys2Proof.Machine
end

section
/-! PROOF. Configuration records (O58, R394, R395), and the statement. -/

namespace Sys2Proof.Machine

theorem updSpn_boot (s : State) (n : Nat) (f : Spindle → Spindle) : (s.updSpn n f).boot = s.boot := by rw [updSpn_eq, setSpn_boot]

theorem loadRuntime_boot (s : State) (slot : Nat) (ws : List Word) (ver : Nat) (api : List Nat) : (s.loadRuntime slot ws ver api).boot = s.boot := by
  have hr : ∀ (t : State) (r : Runtime), ({ t with rt := r } : State).boot = t.boot := fun _ _ => rfl
  unfold State.loadRuntime
  extract_lets s1 s2
  have h1 : s1.boot = s.boot := forAll_frame State.boot _ (fun u n => updSpn_boot u n _) _ s
  rw [hr, show s2.boot = s1.boot by unfold s2; rw [setRf_eq, setReg_boot, setRb_eq, setReg_boot], h1]

/-- The configuration is applied, and the runtime of slot k, or the ROM's, is loaded. -/
def State.configured (s : State) (k : Nat) : State :=
  if bitOf (s.slotImg k 0) 18 then
    State.loadRuntime { s with boot := { s.boot with phase := 3 } } 0
      ((imgWords (s.slotImg k) (bodyAt + fld (s.slotImg k 5) 31 0) (fld (s.slotImg k 6) 31 0)).take 3840) (fld (s.slotImg k 7) 47 32)
      (apiRange (fld (s.slotImg k 6) 47 40) (fld (s.slotImg k 6) 39 32))
  else State.setRb { s with boot := { s.boot with phase := 3 } } Reg.MB_RTSTAT 40 true

theorem configEnd_eq (s : State) (k : Nat) :
    s.configEnd k = forAll (fun t n => (t.setRb (Reg.SPN_CTL n) 47 false).startSpn n) s.runSpindles (s.configured k) := rfl

theorem configured_boot (s : State) (k : Nat) : (s.configured k).boot = { s.boot with phase := 3 } := by
  unfold State.configured
  split
  · exact loadRuntime_boot _ _ _ _ _
  · rw [setRb_eq, setReg_boot]

/-- The runtime's load and the start of the RUN spindles leave start-up's record (R398). -/
theorem configEnd_boot (s : State) (k : Nat) : (s.configEnd k).boot = { s.boot with phase := 3 } := by
  have hs : ∀ (t : State) (n : Nat), ((t.setRb (Reg.SPN_CTL n) 47 false).startSpn n).boot = t.boot := fun t n => by
    rw [State.startSpn, updSpn_boot, setRb_eq, setReg_boot]
  rw [configEnd_eq]
  exact (forAll_frame State.boot _ hs _ _).trans (configured_boot s k)

theorem nextRecord_bob (s : State) (j : Nat) : s.nextRecord.bob j = s.bob j := rfl
theorem nextRecord_reg (s : State) (a : Nat) : s.nextRecord.reg a = s.reg a := rfl
theorem nextRecord_fuses (s : State) : s.nextRecord.fuses = s.fuses := rfl
theorem nextRecord_regs (s : State) : s.nextRecord.regs = s.regs := rfl
theorem nextRecord_cfgIx (s : State) : s.nextRecord.boot.cfgIx = s.boot.cfgIx + 1 := rfl

/-- R395: what a record that fails leaves. -/
theorem recordFails_spec (s : State) :
    s.recordFails.nextRecord.boot.cfgIx = s.boot.cfgIx + 1 ∧ s.recordFails.nextRecord.reg Reg.CSP0_CFGERR = s.reg Reg.CSP0_CFGERR + 1 ∧
      s.recordFails.nextRecord.fuses = s.fuses ∧
      (s.rf Reg.CSP0_BOOTSTAT 35 16 = 0xFFFFF → s.boot.cfgIx < 2 ^ 20 → s.recordFails.nextRecord.rf Reg.CSP0_BOOTSTAT 35 16 = s.boot.cfgIx) := by
  refine ⟨?_, ?_, ?_, fun hf hi => ?_⟩
  · rw [nextRecord_cfgIx]
    unfold State.recordFails
    split
    · rw [setRf_eq, setReg_boot, bump_eq, setReg_boot]
    · rw [bump_eq, setReg_boot]
  · rw [nextRecord_reg]
    unfold State.recordFails
    split
    · rw [setRf_eq, reg_setReg_other _ _ (by decide), bump_eq, reg_setReg_same]
    · rw [bump_eq, reg_setReg_same]
  · rw [nextRecord_fuses]
    unfold State.recordFails
    split
    · rw [setRf_eq, setReg_fuses, bump_eq, setReg_fuses]
    · rw [bump_eq, setReg_fuses]
  · have h : fld (putFld ((s.bump Reg.CSP0_CFGERR).reg Reg.CSP0_BOOTSTAT) 35 16 s.boot.cfgIx) 35 16 = s.boot.cfgIx % 2 ^ 20 :=
      fld_putFld _ 35 16 _ (by decide) (by decide)
    rw [State.rf, nextRecord_reg, State.recordFails, if_pos hf, setRf_eq, reg_setReg_same, h, Nat.mod_eq_of_lt hi]

/-- A record's write of a bobbin word. -/
theorem recordWrite_bobbin {s : State} {a : Nat} (v : Word) (hl : 0x1000000 ≤ a) (hh : a < 0x1800000)
    (hd : ∀ d, domainOf a = some d → s.domOn d = true) : s.recordWrite false a v = (some stOK, s.setBob (a - 0x1000000) v) := by
  have hi : isBobbin a = true := by simp [isBobbin, hl, hh]
  have hf : isFlashWin a = false := by simp [isFlashWin]; omega
  have ha := attempt_on (s := s) (w := { req := s.supSpn, write := true, addr := a, data := v, sink := .bare }) (fun _ _ => rfl)
    (by simp [unmapped, hi]) hf hd
  simp [State.recordWrite, ha, State.perform, State.writeWord, hi]

section
variable {s : State} {k : Nat} (hw : s.boot.win = some k) (hp : s.boot.phase = 2) (hu : s.supUp = true) (hc : s.boot.cfgWait = false)
include hw hp hu hc

/-- The record that is due: it is the end, a wait, a write of LC_STATE, or another write. -/
theorem configRecord_eq : exec .configRecord s =
    (let i := s.boot.cfgIx
     let w := s.slotImg k (bodyAt + fld (s.slotImg k 3) 31 0 + 2 * i)
     let v := s.slotImg k (bodyAt + fld (s.slotImg k 3) 31 0 + 2 * i + 1)
     if fld (s.slotImg k 4) 31 0 ≤ i ∨ fld w 47 46 = 3 then .next (s.configEnd k)
     else if fld w 47 46 = 2 then .next ({ s.nextRecord with boot := { s.nextRecord.boot with cfgWait := true } } : State)
     else if fld w 31 0 = Reg.LC_STATE then .next s.recordFails.nextRecord
     else
       match s.recordWrite (decide (fld w 47 46 = 1)) (fld w 31 0) v with
       | (none, t) => .next t
       | (some st, t) => .next (if st = stOK then t else t.recordFails).nextRecord) := by
  have hg : ¬ (s.boot.phase ≠ 2 ∨ s.supUp = false ∨ s.boot.cfgWait = true) := by simp [hp, hu, hc]
  show execConfigRecord s = _
  unfold execConfigRecord
  rw [hw]
  exact if_neg hg

end

/-- R394. -/
theorem rollbackFuseBlow_eq {s : State} {k : Nat} (hw : s.boot.win = some k) :
    exec .rollbackFuseBlow s = if s.boot.phase = 3 ∧ s.rootUp ∧ s.rf Reg.CSP0_BOOTSTAT 35 16 = 0xFFFFF ∧ bitOf (s.slotImg k 0) 17 ∧
        s.fuses.count < fld (s.slotImg k 2) 47 40 ∧ s.fuses.count < 64 then
      .next { s with fuses := { s.fuses with count := s.fuses.count + 1 } } else .next s := by
  show execRollbackFuseBlow s = _
  unfold execRollbackFuseBlow
  rw [hw]

end Sys2Proof.Machine

namespace Sys2Proof
open Machine

/-- Settles O58: power-on, the supervisor's start and move, the configuration's records, the rollback fuse. -/
theorem startUpAndConfiguration : Obligations.StartUpAndConfiguration := by
  unfold Obligations.StartUpAndConfiguration
  refine ⟨fun s => ⟨powerOn_spec s, fun n hp hr hn hd => ?_, fun n hp hr hn hd => supervisorStart_spec hp hr hn hd,
    fun n hp hr hf hn => supervisorMove_spec hp hr hf hn⟩, fun s k hw => ⟨fun hp hu hc => ⟨fun hi => ?_, fun hi => ⟨fun h2 => ?_, fun h2 hl => ?_,
      fun h0 hlo hhi hd _ => ?_⟩⟩, rfl, fun hp hr hf hn => ⟨fun hb hlt => ?_, fun hle => ?_⟩⟩⟩
  · exact (if_pos ⟨hp, hr⟩).trans (congrArg Host.Outcome.next ((supervisorGo_eq hn).trans (if_pos hd)))
  · refine ⟨s.configEnd k, (configRecord_eq hw hp hu hc).trans (if_pos (.inl hi)), ?_, ?_, fuses_of_fixed (by simp)⟩
    · rw [configEnd_boot]
    · rw [configEnd_boot]
      exact hw
  · rw [configRecord_eq hw hp hu hc]
    exact (if_neg (by omega)).trans (if_pos h2)
  · refine ⟨s.recordFails.nextRecord, ?_, recordFails_spec s⟩
    rw [configRecord_eq hw hp hu hc]
    exact (if_neg (by omega)).trans ((if_neg (by omega)).trans (if_pos hl))
  · refine ⟨(s.setBob (fld (s.slotImg k (bodyAt + fld (s.slotImg k 3) 31 0 + 2 * s.boot.cfgIx)) 31 0 - 0x1000000)
      (s.slotImg k (bodyAt + fld (s.slotImg k 3) 31 0 + 2 * s.boot.cfgIx + 1))).nextRecord, ?_,
      (nextRecord_bob _ _).trans (bob_setBob_same s _ _), (nextRecord_cfgIx _).trans (by rw [setBob_boot]),
      (nextRecord_regs _).trans (setBob_regs s _ _)⟩
    have hlc : fld (s.slotImg k (bodyAt + fld (s.slotImg k 3) 31 0 + 2 * s.boot.cfgIx)) 31 0 ≠ Reg.LC_STATE := by
      unfold Reg.LC_STATE
      omega
    rw [configRecord_eq hw hp hu hc]
    refine (if_neg (by omega)).trans ((if_neg (by omega)).trans ((if_neg hlc).trans ?_))
    rw [h0, show decide ((0 : Nat) = 1) = false from rfl, recordWrite_bobbin _ hlo hhi hd]
    rfl
  · exact (rollbackFuseBlow_eq hw).trans (if_pos ⟨hp, hr, hf, hb, hlt, hn⟩)
  · exact (rollbackFuseBlow_eq hw).trans (if_neg fun h => absurd h.2.2.2.2.1 (by omega))

end Sys2Proof
end

section
/-! PROOF. Steps and the queue (O1, O4). -/

namespace Sys2Proof.Machine

/-- A step on a queue that is not empty. -/
theorem step_cons {s : State} {c : Instr} {cs : List Instr} (h : s.pending = c :: cs) : step s = exec c { s with pending := cs } := by
  unfold step
  rw [h]

/-- A command leaves the queue of commands. -/
theorem exec_pending {c : Instr} {s t : State} (h : exec c s = .next t) : t.pending = s.pending := (exec_moves c s t h).2

end Sys2Proof.Machine

namespace Sys2Proof
open Machine

/-- Settles O1, by the equation of `step` on a queue that is not empty. -/
theorem stepRunsFrontCommand : Obligations.StepRunsFrontCommand := fun _ _ _ => step_cons

/-- Settles O4: what one command can do beside the fuses leaves the queue. -/
theorem commandsLeaveTheQueue : Obligations.CommandsLeaveTheQueue := fun _ _ _ => exec_pending

end Sys2Proof
end

section
/-! PROOF. Split reads and guarded writes (O7): a read of a 96-bit register, the first write of a guarded pair, and the end of its window. -/

namespace Sys2Proof.Machine

/-! ### Reads of 96-bit registers (R44) -/

theorem isAccess_eq {a : Nat} {l : RegLoc} {row : RegRow} {acc : Access} (h : RegMap.at a = some (l, row, false)) (ha : row.acc = acc) :
    isAccess acc a = true := by
  simp [isAccess, h, ha]

/-- A read of the A of a 96-bit register: its low half, and the high half as the requester's shadow. -/
theorem readWord_split {s : State} (r : Nat) {a : Nat} {l : RegLoc} {row : RegRow} (h : RegMap.at a = some (l, row, false)) (ha : row.acc = .sh)
    (hh : a ≠ Reg.FLT_HIST) :
    s.readWord r a = (stOK, (s.shVal l a).extractLsb' 0 48, s.setShadow r ((s.shVal l a).extractLsb' 48 48)) := by
  have hl := lt_of_regMap_at (a := a) (by simp [h])
  have hb : isBobbin a = false := by simp [isBobbin, hl]
  have hw : isFlashWin a = false := by simp [isFlashWin]; omega
  simp [State.readWord, State.readAt, State.shRead, State.parityBad, hb, hw, h, ha, hh]

theorem shadowOf_setShadow (s : State) (r : Nat) (w : Word) : (s.setShadow r w).shadowOf r = w := Tab.get_set_same _ _ _ _

theorem readReg_split {s : State} {r : Requester} {a : Nat} {l : RegLoc} {row : RegRow} (h : RegMap.at a = some (l, row, false)) (ha : row.acc = .sh)
    (hh : a ≠ Reg.FLT_HIST) (hr : CanReach s r a) :
    s.readReg r a = (s.setShadow (reqNo r) ((s.shVal l a).extractLsb' 48 48)).setReply (reqNo r) stOK a ((s.shVal l a).extractLsb' 0 48) := by
  have hm : RegMap.at a ≠ none := by simp [h]
  rw [readReg_eq hr (lt_of_regMap_at hm) hm, readWord_split _ h ha hh]

/-! ### The guard slot (R45) -/

@[simp] theorem reg_setGuard (s : State) (r : Nat) (g : Option Guard) (a : Nat) : (s.setGuard r g).reg a = s.reg a := rfl

/-- Neither the record of a discarded write nor the slot changes other registers than the collector's counters of repeats and losses. -/
theorem guardA_frame {β : Type} (g : State → β) (hf : ∀ s f, g (s.setFlt f) = g s)
    (hr : ∀ s b w, b = Reg.FLT_REPEATCNT ∨ b = Reg.FLT_INLOST → g (s.setReg b w) = g s) (hg : ∀ s r x, g (s.setGuard r x) = g s)
    (s : State) (r a : Nat) (v : Word) : g (s.guardA r a v).2 = g s := by
  have hraise : ∀ (t : State) (b : Nat), g (t.guardFault b) = g t := fun t b => by
    obtain ⟨f, h | ⟨w, h⟩ | ⟨w, h⟩⟩ := raise_cases t 0x0F1 0x31 b <;> rw [State.guardFault, h]
    · exact hf t f
    · rw [hr _ _ _ (.inl rfl), hf]
    · rw [hr _ _ _ (.inr rfl), hf]
  have hage : g (s.guardAge r) = g s := by
    unfold State.guardAge
    split
    · split
      · rw [hraise, hg]
      · rfl
    · rfl
  unfold State.guardA
  dsimp only
  rw [hg]
  split
  · split
    · exact hage
    · rw [hraise, hage]
  · exact hage

theorem guardA_status (s : State) (r a : Nat) (v : Word) : (s.guardA r a v).1 = stPENDING := rfl

/-- Whatever was held before, the slot holds this write. -/
theorem guardSlot_guardA (s : State) (r a : Nat) (v : Word) :
    (s.guardA r a v).2.guardSlot r = some { addr := a, val := v, since := s.now } := by
  have hage : (s.guardAge r).now = s.now := by
    unfold State.guardAge
    split
    · split
      · exact raise_frame State.now (fun _ _ => rfl) (fun _ _ _ => rfl) _ _ _ _
      · rfl
    · rfl
  exact (guardSlot_setGuard_same _ r _).trans (by rw [hage])

/-- A first write of a pair that its requester can make. -/
theorem writeReg_guardA {s : State} {r : Requester} {a : Nat} {l : RegLoc} {row : RegRow} (v : Word) (h : CanWrite s r a)
    (hm : RegMap.at a = some (l, row, false)) (ha : row.acc = .grd) :
    s.writeReg r a v = (s.guardA (reqNo r) a v).2.setReply (reqNo r) stPENDING a 0 := by
  have hn : RegMap.at a ≠ none := by simp [hm]
  have hl := lt_of_regMap_at hn
  have hb : isBobbin a = false := by simp [isBobbin, hl]
  rw [writeReg_eq v h hl hn]
  simp [State.writeWord, hb, hm, ha, guardA_status]

/-- The counters of the collector are not guarded. -/
theorem ne_counter_of_grd {a : Nat} {l : RegLoc} {row : RegRow} (hm : RegMap.at a = some (l, row, false)) (ha : row.acc = .grd) :
    a ≠ Reg.FLT_REPEATCNT ∧ a ≠ Reg.FLT_INLOST := by
  have hc : isAccess .grd Reg.FLT_REPEATCNT = false ∧ isAccess .grd Reg.FLT_INLOST = false := by decide
  have hg := isAccess_eq hm ha
  refine ⟨?_, ?_⟩ <;> rintro rfl <;> simp [hc] at hg

end Sys2Proof.Machine

namespace Sys2Proof
open Machine

/-- Settles O7: a read of a 96-bit register, a first write of a guarded pair, the end of its window. -/
theorem splitReadsAndGuards : Obligations.SplitReadsAndGuards := by
  unfold Obligations.SplitReadsAndGuards
  refine ⟨fun r a l row s hm ha hh hr => ?_, fun r a v l row s hm ha h _ => ?_, fun r g s hg hq hl => ?_⟩
  · refine ⟨_, congrArg Host.Outcome.next ((if_pos (isAccess_eq hm ha)).trans (readReg_split hm ha hh hr)), ?_, ?_, rfl, rfl, fun hb ho => ?_⟩
    · rw [Completed, getReply_setReply, if_pos rfl]
    · exact shadowOf_setShadow s _ _
    · simp [State.shVal, hb, ho]
  · refine ⟨_, congrArg Host.Outcome.next ((if_pos (isAccess_eq hm ha)).trans (writeReg_guardA v h hm ha)), completed_setReply _ r _ _, ?_, ?_, ?_⟩
    · exact guardSlot_guardA s _ _ v
    · obtain ⟨h1, h2⟩ := ne_counter_of_grd hm ha
      exact guardA_frame (fun t => t.reg a.toNat) (fun _ _ => rfl)
        (fun t b w hb => reg_setReg_other t w (by rintro rfl; exact hb.elim h1 h2)) (fun _ _ _ => rfl) s _ _ v
    · exact guardA_frame State.fuses (fun _ _ => rfl) (fun _ _ _ _ => rfl) (fun _ _ _ => rfl) s _ _ v
  · have he : exec (.guardWindowExpire r) s = .next ((s.setGuard (reqNo r) none).guardFault g.addr) := by
      show execGuardWindowExpire r s = _
      simp [execGuardWindowExpire, hg]
    refine ⟨_, he, ?_, ?_, ?_⟩
    · exact (raise_frame (fun t : State => t.guardSlot (reqNo r)) (fun _ _ => rfl) (fun _ _ _ => rfl) _ _ _ _).trans (guardSlot_setGuard_same s _ _)
    · exact raise_frame State.fuses (fun _ _ => rfl) (fun _ _ _ => rfl) _ _ _ _
    · exact congrArg (fun u : State => u.flt.queue) (raise_queued (s.setGuard (reqNo r) none) 0x0F1 0x31 g.addr hq hl)

end Sys2Proof
end

section
/-! PROOF. The fault collector's records (O11, O56): the counts of recorded events, PWR_FORCEOFF, the history, the sources and the pulse of FAULT_N, and
the operations that leave them: what a unit loses that goes out of service, and what its return does. -/

namespace Sys2Proof.Machine

/-! ### The records -/

/-- The words FLT_EVCNT and FLT_EVSEQ that count recorded events, and PWR_FORCEOFF. -/
def CollWord (a : Nat) : Prop := a = Reg.FLT_EVCNT ∨ a = Reg.FLT_EVSEQ ∨ a = Reg.PWR_FORCEOFF

/-- The collector's records in a register table and a collector. -/
def collOf (r : Tab Word) (f : Flt) : (Word × Word × Word) × List Rec × Tab FSrc × Bool :=
  ((Tab.get RegMap.resetWord r Reg.FLT_EVCNT, Tab.get RegMap.resetWord r Reg.FLT_EVSEQ, Tab.get RegMap.resetWord r Reg.PWR_FORCEOFF), f.hist, f.src, f.pulse)

def State.coll (s : State) : (Word × Word × Word) × List Rec × Tab FSrc × Bool := collOf s.regs s.flt

theorem coll_congr {s t : State} (hr : ∀ a, CollWord a → t.reg a = s.reg a) (hh : t.flt.hist = s.flt.hist) (hs : t.flt.src = s.flt.src)
    (hp : t.flt.pulse = s.flt.pulse) : t.coll = s.coll :=
  Prod.ext (Prod.ext (hr _ (.inl rfl)) (Prod.ext (hr _ (.inr (.inl rfl))) (hr _ (.inr (.inr rfl))))) (Prod.ext hh (Prod.ext hs hp))

theorem reg_of_coll {s t : State} (h : t.coll = s.coll) {a : Nat} (ha : CollWord a) : t.reg a = s.reg a := by
  obtain ⟨h1, h2⟩ := Prod.mk.inj (congrArg Prod.fst h)
  obtain ⟨h2, h3⟩ := Prod.mk.inj h2
  rcases ha with rfl | rfl | rfl
  · exact h1
  · exact h2
  · exact h3

theorem hist_of_coll {s t : State} (h : t.coll = s.coll) : t.flt.hist = s.flt.hist := congrArg (fun x => x.2.1) h
theorem src_of_coll {s t : State} (h : t.coll = s.coll) : t.flt.src = s.flt.src := congrArg (fun x => x.2.2.1) h
theorem pulse_of_coll {s t : State} (h : t.coll = s.coll) : t.flt.pulse = s.flt.pulse := congrArg (fun x => x.2.2.2) h
theorem fsrc_of_coll {s t : State} (h : t.coll = s.coll) (k : Nat) : t.fsrc k = s.fsrc k :=
  congrArg (fun x => Tab.get (fun _ => ({} : FSrc)) x k) (src_of_coll h)

theorem CollWord.lt {a : Nat} (h : CollWord a) : a < 0x4000 := by
  rcases h with rfl | rfl | rfl <;> decide

theorem not_collWord {a : Nat} (h : 0x4000 ≤ a) : ¬ CollWord a := fun hc => absurd hc.lt (by omega)

@[simp] theorem not_collWord_base (n : Nat) : ¬ CollWord (0x10000 + 0x1000 * n) ∧ ¬ CollWord (0x80000 + 0x400 * n) ∧ ¬ CollWord (0x100000 + 0x100 * n) :=
  ⟨not_collWord (by omega), not_collWord (by omega), not_collWord (by omega)⟩
@[simp] theorem not_collWord_port (p o : Nat) : ¬ CollWord (0x10000 + 0x1000 * p + o) := not_collWord (by omega)
@[simp] theorem not_collWord_lg (g o : Nat) : ¬ CollWord (0x70000 + 0x1000 * g + o) := not_collWord (by omega)
@[simp] theorem not_collWord_lane (n o : Nat) : ¬ CollWord (0x80000 + 0x400 * n + o) := not_collWord (by omega)
@[simp] theorem not_collWord_queue (e q o : Nat) : ¬ CollWord (0xB0100 + 0x800 * e + 0x40 * q + o) := not_collWord (by omega)
@[simp] theorem not_collWord_spn (n o : Nat) : ¬ CollWord (0x100000 + 0x100 * n + o) := not_collWord (by omega)
@[simp] theorem not_collWord_knot (k : Nat) : ¬ CollWord (Reg.KNOT_STATE k) := not_collWord (by unfold Reg.KNOT_STATE; omega)
@[simp] theorem not_collWord_dst : ¬ CollWord Reg.DST_STAT ∧ ¬ CollWord Reg.DST_TRIGTIME ∧ ¬ CollWord (Reg.DST_TRIGTIME + 1) ∧
    ¬ CollWord Reg.DST_TRIGCNT ∧ ¬ CollWord Reg.DST_TRIGLOST ∧ ¬ CollWord Reg.DST_EVLOST ∧ ¬ CollWord Reg.DST_HANKLEN := by
  refine ⟨?_, ?_, ?_, ?_, ?_, ?_, ?_⟩ <;> exact not_collWord (by decide)
@[simp] theorem not_collWord_root : ¬ CollWord Reg.KNOT_BROKENCNT ∧ ¬ CollWord Reg.TM_BANKEN ∧ ¬ CollWord Reg.BIST_LAST ∧ ¬ CollWord Reg.BIST_STAT := by
  refine ⟨?_, ?_, ?_, ?_⟩ <;> exact not_collWord (by decide)
@[simp] theorem not_collWord_deleg (n p : Nat) : ¬ CollWord (dgReg n p) ∧ ¬ CollWord (dwReg n p) := by
  unfold dgReg dwReg
  constructor <;> split <;> simp

/-! ### Updates of the state -/

@[simp] theorem coll_mk (pending now time setPend stepPend free regs perReq guard shadow reply waitQ inband nextReply badpar bobbin bobFree flash
    fuses csp1 boot ports lgs spns lanes rt knots tm dst clk pwr flt bist pins) :
    (State.mk pending now time setPend stepPend free regs perReq guard shadow reply waitQ inband nextReply badpar bobbin bobFree flash
      fuses csp1 boot ports lgs spns lanes rt knots tm dst clk pwr flt bist pins).coll = collOf regs flt := by
  rw [State.coll]

@[simp] theorem collOf_fold (s : State) : collOf s.regs s.flt = s.coll := by rw [State.coll]

@[simp] theorem coll_ite (c : Prop) [Decidable c] (a b : State) : (if c then a else b).coll = if c then a.coll else b.coll :=
  apply_ite _ _ _ _

@[simp] theorem forAll_coll {α : Type} (f : State → α → State) (h : ∀ s a, (f s a).coll = s.coll) (l : List α) (s : State) :
    (forAll f l s).coll = s.coll := forAll_frame State.coll f h l s

@[simp] theorem setReg_coll {a : Nat} (s : State) (v : Word) (h : ¬ CollWord a) : (s.setReg a v).coll = s.coll :=
  coll_congr (fun _ hb => reg_setReg_other s v (fun e => h (e ▸ hb))) rfl rfl rfl
@[simp] theorem setRf_coll {a : Nat} (s : State) (hi lo v : Nat) (h : ¬ CollWord a) : (s.setRf a hi lo v).coll = s.coll := setReg_coll s _ h
@[simp] theorem setRb_coll {a : Nat} (s : State) (i : Nat) (b : Bool) (h : ¬ CollWord a) : (s.setRb a i b).coll = s.coll := setReg_coll s _ h
@[simp] theorem addCnt_coll {a : Nat} (s : State) (n : Nat) (h : ¬ CollWord a) : (s.addCnt a n).coll = s.coll := setReg_coll s _ h
@[simp] theorem bump_coll {a : Nat} (s : State) (h : ¬ CollWord a) : (s.bump a).coll = s.coll := setReg_coll s _ h
@[simp] theorem setPort_coll (s : State) (p : Nat) (x : Port) : (s.setPort p x).coll = s.coll := by
  simp [State.setPort]
@[simp] theorem updPort_coll (s : State) (p : Nat) (f : Port → Port) : (s.updPort p f).coll = s.coll := by
  simp [State.updPort]
@[simp] theorem setLg_coll (s : State) (g : Nat) (x : LineGroup) : (s.setLg g x).coll = s.coll := by
  simp [State.setLg]
@[simp] theorem updLg_coll (s : State) (g : Nat) (f : LineGroup → LineGroup) : (s.updLg g f).coll = s.coll := by
  simp [State.updLg]
@[simp] theorem setSpn_coll (s : State) (n : Nat) (x : Spindle) : (s.setSpn n x).coll = s.coll := by
  simp [State.setSpn]
@[simp] theorem updSpn_coll (s : State) (n : Nat) (f : Spindle → Spindle) : (s.updSpn n f).coll = s.coll := by
  simp [State.updSpn]
@[simp] theorem setLane_coll (s : State) (n : Nat) (x : Lane) : (s.setLane n x).coll = s.coll := by
  simp [State.setLane]
@[simp] theorem updLane_coll (s : State) (n : Nat) (f : Lane → Lane) : (s.updLane n f).coll = s.coll := by
  simp [State.updLane]
@[simp] theorem setDom_coll (s : State) (d : Nat) (x : Dom) : (s.setDom d x).coll = s.coll := by
  simp [State.setDom]
@[simp] theorem updDom_coll (s : State) (d : Nat) (f : Dom → Dom) : (s.updDom d f).coll = s.coll := by
  simp [State.updDom]
@[simp] theorem dropBob_coll (s : State) (lo n : Nat) : (s.dropBob lo n).coll = s.coll := by
  simp [State.dropBob]
@[simp] theorem freshBob_coll (s : State) (lo n : Nat) : (s.freshBob lo n).coll = s.coll := by
  simp [State.freshBob]
@[simp] theorem drawNat_coll (s : State) (n : Nat) : (s.drawNat n).2.coll = s.coll := by
  simp [State.drawNat]
@[simp] theorem setFlt_coll (s : State) (f : Flt) (hh : f.hist = s.flt.hist) (hs : f.src = s.flt.src) (hp : f.pulse = s.flt.pulse) :
    (s.setFlt f).coll = s.coll := coll_congr (fun _ _ => rfl) hh hs hp

/-- Raising an event changes the collector's queue, its latches and its counts of repeats and losses. -/
@[simp] theorem raise_coll (s : State) (src code info : Nat) : (s.raise src code info).coll = s.coll := by
  have hc : ∀ a, CollWord a → a ≠ Reg.FLT_REPEATCNT ∧ a ≠ Reg.FLT_INLOST := fun a h => by rcases h with rfl | rfl | rfl <;> decide
  have hf : ∀ {β : Type} (g : Flt → β), (∀ (f : Flt) q l n b, g { f with queue := q, latch := l, arrivals := n, loss := b } = g f) →
      g (s.raise src code info).flt = g s.flt := fun g hg => by
    unfold State.raise
    dsimp only
    repeat' split
    all_goals exact hg s.flt _ _ _ _
  exact coll_congr (fun a h => reg_raise s _ _ _ a (hc a h).1 (hc a h).2) (hf Flt.hist fun _ _ _ _ _ => rfl) (hf Flt.src fun _ _ _ _ _ => rfl)
    (hf Flt.pulse fun _ _ _ _ _ => rfl)
@[simp] theorem setSh_coll {a : Nat} (s : State) (v : BitVec 96) (h : ¬ CollWord a) (h' : ¬ CollWord (a + 1)) : (s.setSh a v).coll = s.coll := by
  simp [State.setSh, h, h']
@[simp] theorem restartSym_coll (s : State) (p : Nat) : (s.restartSym p).coll = s.coll := by
  simp [State.restartSym]
@[simp] theorem dstEvent_coll (s : State) (typ : Nat) (spec : Bool) (unit info : Nat) (cont : List Word) :
    (s.dstEvent typ spec unit info cont).coll = s.coll := by
  simp [State.dstEvent]
@[simp] theorem d3Send_coll (s : State) (cause : Nat) : (s.d3Send cause).coll = s.coll := by
  simp [State.d3Send]
@[simp] theorem dstTrigger_coll (s : State) (cause unit partner : Nat) : (s.dstTrigger cause unit partner).coll = s.coll := by
  simp [State.dstTrigger]
@[simp] theorem setFrame_coll (s : State) (fid : Nat) (x : Option Stored) : (s.setFrame fid x).coll = s.coll := by
  simp [State.setFrame]
@[simp] theorem setQueue_coll (s : State) (e q : Nat) (l : List QEntry) : (s.setQueue e q l).coll = s.coll := by
  simp [State.setQueue]
@[simp] theorem setCur_coll (s : State) (e : Nat) (x : Option Sending) : (s.setCur e x).coll = s.coll := by
  simp [State.setCur]
@[simp] theorem dropCopy_coll (s : State) (fid : Nat) : (s.dropCopy fid).coll = s.coll := by
  unfold State.dropCopy; split <;> simp
theorem flushQueue_coll (s : State) (e q : Nat) (cnts : List Nat) (h : ∀ a ∈ cnts, ¬ CollWord a) : (s.flushQueue e q cnts).coll = s.coll := by
  have hb : ∀ (l : List Nat), (∀ a ∈ l, ¬ CollWord a) → ∀ t : State, (forAll State.bump l t).coll = t.coll := by
    intro l
    induction l with
    | nil => exact fun _ _ => rfl
    | cons a l ih =>
      intro hl t
      exact (ih (fun b hm => hl b (List.mem_cons_of_mem a hm)) _).trans (bump_coll t (hl a List.mem_cons_self))
  rw [State.flushQueue, setQueue_coll]
  exact forAll_frame State.coll _ (fun t x => (hb cnts h _).trans (dropCopy_coll t _)) _ s

theorem flushState_coll (s : State) (e : Nat) (qs more : List Nat) (h : ∀ a ∈ more, ¬ CollWord a) : (s.flushState e qs more).coll = s.coll :=
  forAll_frame State.coll _ (fun t q => flushQueue_coll t e q _ (List.forall_mem_cons.2 ⟨by simp, h⟩)) qs s
@[simp] theorem setShp_coll (s : State) (e q : Nat) (x : Option Shaper) : (s.setShp e q x).coll = s.coll := by
  simp [State.setShp]
@[simp] theorem txOver_coll (s : State) (e q : Nat) : (s.txOver e q).coll = s.coll := by
  unfold State.txOver; split <;> simp
@[simp] theorem setSent_coll (s : State) (e : Nat) (f : Option SentFrame) : (s.setSent e f).coll = s.coll := by
  simp [State.setSent]
@[simp] theorem endSent_coll (s : State) (e : Nat) : (s.endSent e).coll = s.coll := by
  simp [State.endSent]
@[simp] theorem cutTx_coll (s : State) (e : Nat) : (s.cutTx e).coll = s.coll := by
  unfold State.cutTx; split <;> simp
@[simp] theorem endLive_coll (s : State) (pick : TagOp → Bool) (status : Nat) : (s.endLive pick status).coll = s.coll := by
  simp [State.endLive]
@[simp] theorem endGather_coll (s : State) (p : Nat) (src : Nat → Bool) : (s.endGather p src).coll = s.coll := by
  simp [State.endGather]
@[simp] theorem endSkGather_coll (s : State) (g n : Nat) : (s.endSkGather g n).coll = s.coll := by
  simp [State.endSkGather]
@[simp] theorem skLatch_coll (s : State) (g n : Nat) : (s.skLatch g n).coll = s.coll := by
  unfold State.skLatch; split <;> simp
@[simp] theorem skStop_coll (s : State) (g i : Nat) : (s.skStop g i).coll = s.coll := by
  simp [State.skStop]
@[simp] theorem endCmdsGen_coll (s : State) (pick : Cmd → Bool) (status : Nat) (gen : Cmd → Nat) :
    (s.endCmdsGen pick status gen).coll = s.coll := by
  simp [State.endCmdsGen]
@[simp] theorem endCmds_coll (s : State) (pick : Cmd → Bool) (status : Nat) : (s.endCmds pick status).coll = s.coll := by
  simp [State.endCmds]
@[simp] theorem endRunning_coll (s : State) (p op status : Nat) : (s.endRunning p op status).coll = s.coll := by
  simp [State.endRunning]
@[simp] theorem endUpCmds_coll (s : State) (p : Nat) : (s.endUpCmds p).coll = s.coll := by
  simp [State.endUpCmds]
@[simp] theorem coefTouch_coll (s : State) (p h : Nat) : (s.coefTouch p h).coll = s.coll := by
  simp [State.coefTouch]
@[simp] theorem endPortCoef_coll (s : State) (p : Nat) : (s.endPortCoef p).coll = s.coll := by
  simp [State.endPortCoef]
@[simp] theorem endRovCoef_coll (s : State) (p : Nat) : (s.endRovCoef p).coll = s.coll := by
  simp [State.endRovCoef]
@[simp] theorem resetShapers_coll (s : State) (p : Nat) (credit : Bool) : (s.resetShapers p credit).coll = s.coll := by
  simp [State.resetShapers]
@[simp] theorem partnerClock_coll (s : State) (p st : Nat) : (s.partnerClock p st).coll = s.coll := by
  simp [State.partnerClock]
@[simp] theorem setMode_coll (s : State) (p m : Nat) : (s.setMode p m).coll = s.coll := by
  simp [State.setMode]
@[simp] theorem leaveUp_coll (s : State) (p : Nat) : (s.leaveUp p).coll = s.coll := by
  simp [State.leaveUp]
@[simp] theorem stateFields_coll (s : State) (p st : Nat) : (s.stateFields p st).coll = s.coll := by
  simp [State.stateFields]
@[simp] theorem egressEntry_coll (s : State) (p st : Nat) : (s.egressEntry p st).coll = s.coll := by
  simp [State.egressEntry, flushState_coll]
@[simp] theorem applyConfig_coll (s : State) (p : Nat) : (s.applyConfig p).coll = s.coll := by
  simp [State.applyConfig]
@[simp] theorem dstPortState_coll (s : State) (p st : Nat) : (s.dstPortState p st).coll = s.coll := by
  simp [State.dstPortState]
@[simp] theorem regainPort_coll (s : State) (p : Nat) : (s.regainPort p).coll = s.coll := by
  simp [State.regainPort]
@[simp] theorem regainSkein_coll (s : State) (k : Nat) : (s.regainSkein k).coll = s.coll := by
  simp [State.regainSkein]
@[simp] theorem withdrawWrite_coll (s : State) (p : Nat) : (s.withdrawWrite p).coll = s.coll := by
  cases h : s.skeinOf (lgOf p) (localOf p) <;> simp [State.withdrawWrite, h]
@[simp] theorem sweepAbort_coll (s : State) (p : Nat) : (s.sweepAbort p).coll = s.coll := by
  simp [State.sweepAbort]
@[simp] theorem testTurn_coll (s s0 : State) (p : Nat) : (s.testTurn s0 p).coll = s.coll := by
  simp [State.testTurn]
@[simp] theorem enter_coll (s : State) (p st : Nat) : (s.enter p st).coll = s.coll := by
  simp [State.enter]
@[simp] theorem cause_coll (s : State) (p c : Nat) : (s.cause p c).coll = s.coll := by
  simp [State.cause]
@[simp] theorem lossMemo_coll (s : State) (p c : Nat) : (s.lossMemo p c).coll = s.coll := by
  simp [State.lossMemo]
@[simp] theorem toListen_coll (s : State) (p : Nat) : (s.toListen p).coll = s.coll := by
  simp [State.toListen]
@[simp] theorem toDisabled_coll (s : State) (p : Nat) : (s.toDisabled p).coll = s.coll := by
  simp [State.toDisabled]
@[simp] theorem portFault_coll (s : State) (p : Nat) : (s.portFault p).coll = s.coll := by
  simp [State.portFault]
@[simp] theorem portQuadOff_coll (s : State) (p : Nat) : (s.portQuadOff p).coll = s.coll := by
  simp [State.portQuadOff]
@[simp] theorem setLst_coll (s : State) (n v : Nat) : (s.setLst n v).coll = s.coll := by
  simp [State.setLst]
@[simp] theorem setAligned_coll (s : State) (n : Nat) (b : Bool) : (s.setAligned n b).coll = s.coll := by
  simp [State.setAligned]
@[simp] theorem stopTx_coll (s : State) (n : Nat) : (s.stopTx n).coll = s.coll := by
  simp [State.stopTx]
@[simp] theorem abortTx_coll (s : State) (n : Nat) : (s.abortTx n).coll = s.coll := by
  unfold State.abortTx; split <;> simp
@[simp] theorem bringUp_coll (s : State) (n : Nat) : (s.bringUp n).coll = s.coll := by
  simp [State.bringUp]
@[simp] theorem laneOff_coll (s : State) (n : Nat) : (s.laneOff n).coll = s.coll := by
  simp [State.laneOff]
@[simp] theorem bumpEpoch_coll (s : State) (c : Nat) : (s.bumpEpoch c).coll = s.coll := by
  simp [State.bumpEpoch]
@[simp] theorem setLeaseEnd_coll (s : State) (k t : Nat) : (s.setLeaseEnd k t).coll = s.coll := by
  simp [State.setLeaseEnd]
@[simp] theorem breakKnot_coll (s : State) (k : Nat) : (s.breakKnot k).coll = s.coll := by
  simp [State.breakKnot]
@[simp] theorem breakKnots_coll (s : State) (owner : Nat) : (s.breakKnots owner).coll = s.coll := by
  simp [State.breakKnots]
@[simp] theorem dropWaiter_coll (s : State) (n : Nat) : (s.dropWaiter n).coll = s.coll := by
  simp [State.dropWaiter]
@[simp] theorem haltSpn_coll (s : State) (n : Nat) : (s.haltSpn n).coll = s.coll := by
  simp [State.haltSpn]
@[simp] theorem relQuiet_coll (s : State) (p : Nat) : (s.relQuiet p).coll = s.coll := by
  simp [State.relQuiet]
@[simp] theorem dstStop_coll (s : State) (c : Nat) : (s.dstStop c).coll = s.coll := by
  simp [State.dstStop]
@[simp] theorem setReply_coll (s : State) (r status addr : Nat) (data : Word) : (s.setReply r status addr data).coll = s.coll := by
  simp [State.setReply]
@[simp] theorem sendInband_coll (s : State) : s.sendInband.coll = s.coll := by
  simp [State.sendInband]
@[simp] theorem deliver_coll (s : State) (r : Nat) (k : Sink) (status addr : Nat) (data : Word) (read : Bool) :
    (s.deliver r k status addr data read).coll = s.coll := by
  simp only [State.deliver]; split <;> simp
@[simp] theorem firstAbsent_coll (s : State) (r : Nat) : (s.firstAbsent r).coll = s.coll := by
  unfold State.firstAbsent; split <;> simp
@[simp] theorem cmdsAbsent_coll (s : State) (d : Nat) : (s.cmdsAbsent d).coll = s.coll := by
  simp [State.cmdsAbsent]
@[simp] theorem requestsAbsent_coll (s : State) (d : Nat) : (s.requestsAbsent d).coll = s.coll := by
  simp [State.requestsAbsent]
@[simp] theorem dropRegs_coll (s : State) (d : Nat) (ret : Bool) : (s.dropRegs d ret).coll = s.coll := by
  have hk : ∀ a, CollWord a → domainOf a = none := fun a h => by rcases h with rfl | rfl | rfl <;> rfl
  exact coll_congr (fun a h => by simp [State.reg, State.dropRegs, Tab.get_keep, hk a h]) rfl rfl rfl
@[simp] theorem quadLeave_coll (s : State) (d : Nat) (ret : Bool) : (s.quadLeave d ret).coll = s.coll := by
  simp [State.quadLeave]
@[simp] theorem groupLeave_coll (s : State) (d : Nat) (ret : Bool) : (s.groupLeave d ret).coll = s.coll := by
  simp [State.groupLeave]
@[simp] theorem clusterLeave_coll (s : State) (d : Nat) (ret : Bool) : (s.clusterLeave d ret).coll = s.coll := by
  simp [State.clusterLeave]
@[simp] theorem cellLoss_coll (s : State) (b : Nat) : (s.cellLoss b).coll = s.coll := by
  simp [State.cellLoss]
@[simp] theorem stateLoss_coll (s0 : State) : s0.stateLoss.coll = s0.coll := by
  simp [State.stateLoss]
@[simp] theorem bankLoss_coll (s : State) (b : Nat) : (s.bankLoss b).coll = s.coll := by
  simp [State.bankLoss]
@[simp] theorem hostQuadLeave_coll (s : State) (d : Nat) (ret : Bool) : (s.hostQuadLeave d ret).coll = s.coll := by
  simp [State.hostQuadLeave]
@[simp] theorem tmLeave_coll (s : State) (d : Nat) (ret : Bool) : (s.tmLeave d ret).coll = s.coll := by
  simp [State.tmLeave, flushQueue_coll]
@[simp] theorem distaffLeave_coll (s : State) (d : Nat) (ret : Bool) : (s.distaffLeave d ret).coll = s.coll := by
  simp [State.distaffLeave]
@[simp] theorem domLeave_coll (s : State) (d : Nat) (ret : Bool) : (s.domLeave d ret).coll = s.coll := by
  simp [State.domLeave]
@[simp] theorem marchFill_coll (s : State) (cls unit : Nat) : (s.marchFill cls unit).coll = s.coll := by
  simp [State.marchFill]
@[simp] theorem marchLeft_coll (s : State) (t : Test) : (s.marchLeft t).coll = s.coll := by
  simp [State.marchLeft]
@[simp] theorem putWords_coll (s : State) (cls unit : Nat) (ws : List Word) : (s.putWords cls unit ws).coll = s.coll := by
  simp [State.putWords]
@[simp] theorem loadScratch_coll (s : State) (cls unit : Nat) : (s.loadScratch cls unit).coll = s.coll := by
  unfold State.loadScratch; split <;> simp
@[simp] theorem testRestore_coll (s0 : State) (t : Test) : (s0.testRestore t).coll = s0.coll := by
  simp [State.testRestore]
@[simp] theorem testLast_coll (s : State) (t : Test) (result word : Nat) : (s.testLast t result word).coll = s.coll := by
  simp [State.testLast]
@[simp] theorem testAbort_coll (s : State) : s.testAbort.coll = s.coll := by
  unfold State.testAbort; split <;> simp
@[simp] theorem setTarget_coll (s : State) {d : Nat} (v : Nat) (h : d < 50) : (s.setTarget d v).coll = s.coll := by
  have hd : ¬ CollWord (Reg.PWR_DOMCTL d) := by
    unfold CollWord Reg.PWR_DOMCTL Reg.FLT_EVCNT Reg.FLT_EVSEQ Reg.PWR_FORCEOFF
    omega
  exact setRf_coll s _ _ _ hd
@[simp] theorem forceOne_coll (s : State) {d : Nat} (h : d < 50) : (s.forceOne d).coll = s.coll := by
  simp [State.forceOne, h]
@[simp] theorem forceOff_coll (s : State) {d : Nat} (h : d < 50) : (s.forceOff d).coll = s.coll := by
  have hg : 24 ≤ d → d < 30 → (forAll (fun t i => State.forceOne t (4 * (d - 24) + i)) [0, 1, 2, 3] s).coll = s.coll := fun h1 h2 => by
    simp only [forAll]
    repeat rw [forceOne_coll _ (by omega)]
  simpa [State.forceOff, h] using hg
@[simp] theorem isolateDom_coll (s : State) (d : Nat) : (s.isolateDom d).coll = s.coll := by
  simp [State.isolateDom]
@[simp] theorem isolate_coll (s : State) (src : Nat) : (s.isolate src).coll = s.coll := by
  simp [State.isolate]
@[simp] theorem safeQuietAll_coll (s : State) (src : Nat) : (s.safeQuietAll src).coll = s.coll := by
  simp [State.safeQuietAll]
@[simp] theorem react_coll (s : State) (src sev code : Nat) : (s.react src sev code).coll = s.coll := by
  simp [State.react]
@[simp] theorem faultTrigger_coll (s : State) (src sev : Nat) : (s.faultTrigger src sev).coll = s.coll := by
  cases h : (List.range 16).find? (fun i => s.triggers (16 * (src - 0x60) + i)) <;> simp [State.faultTrigger, h]
@[simp] theorem unitReturn_coll (s : State) (src : Nat) : (s.unitReturn src).coll = s.coll := by
  simp [State.unitReturn]

end Sys2Proof.Machine
end

section
/-! PROOF. Guarded pairs (O11): a complete pair commits, whatever was held before, in a state that differs from the one before only in the fault
collector and its counters, the guard slot and the reply; and what each commit stores. -/

namespace Sys2Proof.Machine

/-! ### A complete pair (R45) -/

/-- The registers at a and a + 1 are the two words of a guarded register of ROOT, with the place l that its commit names. -/
def pairAt (a : Nat) (l : RegLoc) : Bool :=
  decide (a + 1 < 0x1000000) && decide (domainOf (a + 1) = none) &&
  match RegMap.at a, RegMap.at (a + 1) with
  | some (_, row, false), some (l', row', true) => decide (row.acc = .grd ∧ row'.acc = .grd ∧ { l' with off := l'.off - 1 } = l)
  | _, _ => false

theorem pairAt_rows {a : Nat} {l : RegLoc} (h : pairAt a l = true) : a + 1 < 0x1000000 ∧ domainOf (a + 1) = none ∧
    ∃ l0 row l' row', RegMap.at a = some (l0, row, false) ∧ RegMap.at (a + 1) = some (l', row', true) ∧ row.acc = .grd ∧ row'.acc = .grd ∧
      { l' with off := l'.off - 1 } = l := by
  unfold pairAt at h
  simp only [Bool.and_eq_true, decide_eq_true_eq] at h
  obtain ⟨⟨ha, hd⟩, h⟩ := h
  split at h
  · rename_i l0 row l' row' h0 h1
    simp only [decide_eq_true_eq] at h
    obtain ⟨hr, hr', hl⟩ := h
    exact ⟨ha, hd, l0, row, l', row', h0, h1, hr, hr', hl⟩
  · cases h

/-- The state in which the second write of a pair commits: the first one's reply stands, and the guard slot is empty again. -/
def State.pairing (s : State) (r a : Nat) (v : Word) : State := ((s.guardA r a v).2.setReply r stPENDING a 0).setGuard r none

/-- A reading that neither the collector and its counters nor the guard slots and the replies change. -/
theorem pairing_frame {β : Type} (g : State → β) (hf : ∀ s f, g (s.setFlt f) = g s)
    (hr : ∀ s b w, b = Reg.FLT_REPEATCNT ∨ b = Reg.FLT_INLOST → g (s.setReg b w) = g s) (hg : ∀ s r x, g (s.setGuard r x) = g s)
    (hp : ∀ s r st a d, g (s.setReply r st a d) = g s) (s : State) (r a : Nat) (v : Word) : g (s.pairing r a v) = g s := by
  rw [State.pairing, hg, hp, guardA_frame g hf hr hg]

/-- A word that is none of the collector's counters of repeats and losses. -/
theorem reg_setCounter {a b : Nat} (s : State) (v : Word) (ha : a = Reg.FLT_REPEATCNT ∨ a = Reg.FLT_INLOST) (hb : b < 0x3007 ∨ 0x3009 ≤ b) :
    (s.setReg a v).reg b = s.reg b := by
  refine reg_setReg_other s v ?_
  rintro rfl
  rcases ha with rfl | rfl <;> exact absurd hb (by decide)

theorem reg_pairing (s : State) (r a : Nat) (v : Word) {b : Nat} (hb : b < 0x3007 ∨ 0x3009 ≤ b) : (s.pairing r a v).reg b = s.reg b :=
  pairing_frame (fun t => t.reg b) (fun _ _ => rfl) (fun t _ w hc => reg_setCounter t w hc hb) (fun _ _ _ => rfl) (fun _ _ _ _ _ => rfl) s r a v

theorem mayWrite_setCounter {a : Nat} (s : State) (v : Word) (h : a = Reg.FLT_REPEATCNT ∨ a = Reg.FLT_INLOST) (r b : Nat) :
    (s.setReg a v).mayWrite r b = s.mayWrite r b := by
  have hb : ∀ n k, (s.setReg a v).reg (Reg.SPN_DWBASE n k) = s.reg (Reg.SPN_DWBASE n k) := fun n k =>
    reg_setCounter s v h (by unfold Reg.SPN_DWBASE; omega)
  have hl : ∀ n k, (s.setReg a v).reg (Reg.SPN_DWLIM n k) = s.reg (Reg.SPN_DWLIM n k) := fun n k =>
    reg_setCounter s v h (by unfold Reg.SPN_DWLIM; omega)
  have hw : (s.setReg a v).inWindow r b = s.inWindow r b :=
    congrArg (List.any (List.range 8)) (funext fun k => by rw [State.rb, State.rf, State.rf, hb, hl]; rfl)
  simp only [State.mayWrite, hw]
  rfl

theorem present_setCounter {a : Nat} (s : State) (v : Word) (h : a = Reg.FLT_REPEATCNT ∨ a = Reg.FLT_INLOST) (r : Nat) :
    (s.setReg a v).present r = s.present r := by
  have hh : (s.setReg a v).reg Reg.PWR_HOLDSTAT = s.reg Reg.PWR_HOLDSTAT := reg_setCounter s v h (by decide)
  unfold State.present State.rootUp State.rb
  rw [hh]
  rfl

/-- A complete pair: what the register's commit answers, and its status as the second reply. -/
theorem writePair_commit {s : State} {r : Requester} {a : Nat} {l : RegLoc} (v : Word) (h : CanPair s r a) (hp : pairAt a l = true) :
    s.writePair r a v =
      let x := (s.pairing (reqNo r) a v).commitAt l v
      (if x.1 = stOK then x.2.goodParity a else x.2).setReply (reqNo r) x.1 (a + 1) 0 := by
  obtain ⟨ha, hd, l0, row, l', row', hm, hm', hr, hr', rfl⟩ := pairAt_rows hp
  obtain ⟨hw, hmay⟩ := h
  have h1 := writeReg_guardA v hw hm hr
  have h2 : CanWrite (s.writeReg r a v) r (a + 1) := by
    rw [h1]
    refine ⟨⟨?_, ?_, fun d e => by rw [hd] at e; cases e⟩, ?_⟩
    · exact (guardA_frame (fun t => t.present (reqNo r)) (fun _ _ => rfl) (fun t _ w hc => present_setCounter t w hc _) (fun _ _ _ => rfl) s _ _ v).trans
        hw.1.1
    · exact (guardA_frame (fun t => t.firstOf (reqNo r)) (fun _ _ => rfl) (fun _ _ _ _ => rfl) (fun _ _ _ => rfl) s _ _ v).trans hw.1.2.1
    · exact (guardA_frame (fun t => t.mayWrite (reqNo r) (a + 1)) (fun _ _ => rfl) (fun t _ w hc => mayWrite_setCounter t w hc _ _) (fun _ _ _ => rfl)
        s _ _ v).trans hmay
  have h3 : (s.writeReg r a v).guardSlot (reqNo r) = some { addr := a, val := v, since := (s.writeReg r a v).now } := by
    rw [h1]
    exact (guardSlot_guardA s (reqNo r) a v).trans (congrArg (fun n => some (Guard.mk a v n))
      (guardA_frame State.now (fun _ _ => rfl) (fun _ _ _ _ => rfl) (fun _ _ _ => rfl) s (reqNo r) a v).symm)
  have hb : isBobbin (a + 1) = false := by simp [isBobbin]; omega
  rw [State.writePair, writeReg_eq _ h2 ha (by simp [hm'])]
  simp only [State.writeWord, hb, hm', hr', Bool.false_eq_true, if_false, if_true, Nat.add_sub_cancel, guardB_matching _ h3]
  rw [h1]
  rfl

/-- A pair whose commit is not refused completes OK. -/
theorem performs_pair {s t : State} {r : Requester} {a : Nat} {l : RegLoc} {v : Word} {P : State → Prop} (h : CanPair s r a) (hp : pairAt a l = true)
    (hc : (s.pairing (reqNo r) a v).commitAt l v = (stOK, t)) (hP : P ((t.goodParity a).setReply (reqNo r) stOK (a + 1) 0)) :
    Performs r (a + 1) 0 (.next (s.writePair r a v)) P := by
  refine ⟨_, rfl, ?_⟩
  rw [writePair_commit v h hp, hc]
  exact ⟨completed_setReply _ r _ _, hP⟩

/-! ### ID_MGMTPATH (R52, R250) -/

theorem lst_pairing (s : State) (r a : Nat) (v : Word) (n : Nat) : (s.pairing r a v).lst n = s.lst n := by
  unfold State.lst State.rf
  rw [reg_pairing s r a v (by unfold Reg.HL_STAT; omega)]

theorem breakKnots_path (s : State) (o : Nat) :
    (s.breakKnots o).reg Reg.ID_MGMTPATH = s.reg Reg.ID_MGMTPATH ∧ (s.breakKnots o).knots.hostEpoch = s.knots.hostEpoch := by
  have hk : ∀ (t : State) (k : Nat), (t.breakKnot k).reg Reg.ID_MGMTPATH = t.reg Reg.ID_MGMTPATH := fun t k => by
    rw [State.breakKnot, reg_raise _ _ _ _ _ (by decide) (by decide), bump_eq, reg_setReg_other _ _ (by decide)]
    exact reg_setReg_other t _ (by unfold Reg.ID_MGMTPATH Reg.KNOT_STATE; omega)
  have he : ∀ (t : State) (k : Nat), (t.breakKnot k).knots.hostEpoch = t.knots.hostEpoch := fun t k =>
    raise_frame (fun u : State => u.knots.hostEpoch) (fun _ _ => rfl) (fun _ _ _ => rfl) _ _ _ _
  refine ⟨forAll_frame (fun t : State => t.reg Reg.ID_MGMTPATH) _ (fun t k => ?_) _ s,
    forAll_frame (fun t : State => t.knots.hostEpoch) _ (fun t k => ?_) _ s⟩ <;> split
  · exact hk t k
  · rfl
  · exact he t k
  · rfl

/-- A bit just written. -/
theorem bitOf_putBit (w : Word) (i : Nat) (b : Bool) (h : i < 48) : bitOf (putFld w i i (bnat b)) i = b := by
  rw [bitOf_putFld w i i _ i h (Nat.le_refl i), if_pos ⟨Nat.le_refl i, Nat.le_refl i⟩, Nat.sub_self, testBit_bnat]

/-- A change of path that may go ahead. -/
theorem pathWrite_changes {s : State} {v : Word} (h : bitOf v 0 ≠ s.rb Reg.ID_MGMTPATH 0) (hl : bitOf v 0 = true → s.lst 0 = 5) :
    ∃ t, s.pathWrite v = (stOK, t) ∧ t.rb Reg.ID_MGMTPATH 0 = bitOf v 0 ∧ t.knots.hostEpoch = (s.knots.hostEpoch + 1) % 256 := by
  have hr : ¬ (bitOf v 0 = true ∧ s.lst 0 ≠ laRun) := fun hc => hc.2 (hl hc.1)
  obtain ⟨hb, he⟩ := breakKnots_path (s.setRb Reg.ID_MGMTPATH 0 (bitOf v 0)) ownerHost
  refine ⟨((s.setRb Reg.ID_MGMTPATH 0 (bitOf v 0)).breakKnots ownerHost).bumpHostEpoch, (if_neg h).trans (if_neg hr), ?_, ?_⟩
  · show bitOf ((State.breakKnots _ ownerHost).reg Reg.ID_MGMTPATH) 0 = _
    rw [hb, setRb_eq, reg_setReg_same, bitOf_putBit _ _ _ (by decide)]
  · show ((State.breakKnots _ ownerHost).knots.hostEpoch + 1) % 256 = _
    rw [he]
    rfl

/-! ### MB_RTSLOT (R247) -/

/-- A slot that holds a runtime, while no spindle runs an old one. -/
theorem rtslotWrite_stores {s : State} {v : Word} (h : s.rb Reg.MB_RTSTAT (40 + fld v 0 0) = true) (ho : s.oldCount = 0) :
    ∃ t, s.rtslotWrite v = (stOK, t) ∧ t.rf Reg.MB_RTSLOT 0 0 = fld v 0 0 ∧ t.rt = s.rt := by
  simp only [State.rtslotWrite, h, ho, ne_eq, not_true, if_false, Bool.true_eq_false]
  by_cases hs : fld v 0 0 = s.rf Reg.MB_RTSLOT 0 0
  · exact ⟨s, if_pos hs, hs.symm, rfl⟩
  · refine ⟨_, if_neg hs, ?_, forAll_frame State.rt (fun t n => t.updSpn n (fun x => { x with oldSlot := true })) (fun _ _ => rfl) _ _⟩
    refine (forAll_frame (fun u : State => u.rf Reg.MB_RTSLOT 0 0) (fun t n => t.updSpn n (fun x => { x with oldSlot := true })) (fun _ _ => rfl)
      _ _).trans ?_
    rw [State.rf, reg_setReg_same]
    simp only [fld, BitVec.toNat_ofNat]
    omega

/-! ### CLK_SRCSEL and CLK_PLLCTL (R328, R334) -/

theorem fieldRefusal_pairing (s : State) (r a : Nat) (v : Word) (b : Nat) (w : Word) : (s.pairing r a v).fieldRefusal b w = s.fieldRefusal b w := by
  have hs : ∀ p, (s.pairing r a v).reg (Reg.PORT_STATE p) = s.reg (Reg.PORT_STATE p) := fun p =>
    reg_pairing s r a v (by unfold Reg.PORT_STATE; omega)
  have hc : (s.pairing r a v).reg Reg.CLK_ACTIVE = s.reg Reg.CLK_ACTIVE ∧ (s.pairing r a v).reg Reg.CLK_READY = s.reg Reg.CLK_READY ∧
      (s.pairing r a v).reg Reg.CLK_ACK = s.reg Reg.CLK_ACK :=
    ⟨reg_pairing s r a v (by decide), reg_pairing s r a v (by decide), reg_pairing s r a v (by decide)⟩
  have hp : ∀ p, (s.pairing r a v).pst p = s.pst p := fun p => congrArg (fld · 31 28) (hs p)
  have ha : ∀ i, (s.pairing r a v).rb Reg.CLK_ACTIVE i = s.rb Reg.CLK_ACTIVE i := fun i => congrArg (bitOf · i) hc.1
  have hk : ∀ i, (s.pairing r a v).rb Reg.CLK_ACK i = s.rb Reg.CLK_ACK i := fun i => congrArg (bitOf · i) hc.2.2
  have hy : ∀ i, (s.pairing r a v).ready i = s.ready i := fun i => congrArg (bitOf · i) hc.2.1
  simp only [State.fieldRefusal, State.fieldOn, State.fieldOff, hp, ha, hk, hy]
  congr!

theorem afterSwitch_regs (s : State) (old : Word) : (s.afterSwitch old).regs = s.regs := by
  have hb : ∀ (t : State) (g : Nat) (low : Bool), (t.loopBack g low).regs = t.regs := fun t g low =>
    forAll_frame State.regs _ (fun u i => by split <;> rfl) _ t
  unfold State.afterSwitch
  refine (forAll_frame State.regs _ (fun t g => ?_) _ _).trans ?_
  · split
    · exact hb t g false
    · rfl
  · split <;> rfl

/-- No field is refused, and no loop that a field names is blocked: all of the changes take place. -/
theorem srcselWrite_stores {s : State} {w : Word} (h : ∀ b ∈ srcFields, s.fieldRefusal b w = 0 ∧ (s.src (srcOfField b)).blocked = false) :
    ∃ t, s.srcselWrite w = (stOK, t) ∧ t.reg Reg.CLK_SRCSEL = w &&& 0x7FD#48 ∧ t.reg Reg.CLK_ACTIVE = w &&& 0x7FD#48 := by
  have hf : srcFields.find? (fun b => decide (s.fieldRefusal b w ≠ 0)) = none := List.find?_eq_none.2 fun b hb => by simp [(h b hb).1]
  have hw : srcFields.filter (fun b => bitOf (w &&& 0x7FD#48) b && (s.src (srcOfField b)).blocked && !(s.rb Reg.CLK_ACTIVE b)) = [] :=
    List.filter_eq_nil_iff.2 fun b hb => by simp [(h b hb).2]
  unfold State.srcselWrite
  rw [hf]
  dsimp only
  rw [hw]
  refine ⟨_, rfl, ?_, ?_⟩
  all_goals rw [State.reg, afterSwitch_regs]
  · exact (reg_setReg_other _ _ (by decide)).trans (reg_setReg_same _ _ _)
  · refine (reg_setReg_same _ _ _).trans ?_
    show w &&& 0x7FD#48 &&& BitVec.allOnes 48 = w &&& 0x7FD#48
    rw [BitVec.and_allOnes]

theorem loopUsed_setCounter {a : Nat} (s : State) (v : Word) (h : a = Reg.FLT_REPEATCNT ∨ a = Reg.FLT_INLOST) (k : Nat) :
    (s.setReg a v).loopUsed k = s.loopUsed k := by
  have hp : ∀ p o : Nat, (s.setReg a v).reg (0x10000 + 0x1000 * p + o) = s.reg (0x10000 + 0x1000 * p + o) := fun p o => reg_setCounter s v h (by omega)
  have hst : ∀ p, (s.setReg a v).pst p = s.pst p := fun p => congrArg (fld · 31 28) (hp p 0)
  have hmo : ∀ p, (s.setReg a v).pmode p = s.pmode p := fun p => congrArg (fld · 23 20) (hp p 0)
  have hrp : ∀ p, (s.setReg a v).rphase p = s.rphase p := fun p => congrArg (fld · 47 45) (hp p 0x61)
  have hcap : ∀ p i, (s.setReg a v).rb (Reg.PORT_CAP p) i = s.rb (Reg.PORT_CAP p) i := fun p i => congrArg (bitOf · i) (hp p 1)
  have htm : ∀ p, (s.setReg a v).rf (Reg.PORT_TESTMODE p) 3 0 = s.rf (Reg.PORT_TESTMODE p) 3 0 := fun p => congrArg (fld · 3 0) (hp p 4)
  have hfm : ∀ p w, (s.setReg a v).forceMode p w = s.forceMode p w := fun p w => by simp only [State.forceMode, hcap]
  have hsk : ∀ g n, (s.setReg a v).skMembers g n = s.skMembers g n := fun g n => by
    rw [State.skMembers, reg_setCounter s v h (by unfold Reg.LG_SKEIN; omega)]
    rfl
  have hc : ∀ i, (s.setReg a v).rb Reg.CLK_ACTIVE i = s.rb Reg.CLK_ACTIVE i := fun i => congrArg (bitOf · i) (reg_setCounter s v h (by decide))
  simp only [State.loopUsed, State.onHighLoop, State.onLowLoop, State.txMode, State.testActive, State.testMode, State.skeinOf, hst, hmo, hrp, htm, hfm,
    hsk, hc, src_setReg, hp]
  congr!

/-- A loop that nothing uses takes what is written. -/
theorem pllctlWrite_stores {s : State} (k : Fin 15) {w : Word} (h : s.loopUsed k = false) :
    ∃ t, s.pllctlWrite k w = (stOK, t) ∧ t.rb (Reg.CLK_PLLCTL k) 47 = bitOf w 47 ∧
      t.rf (Reg.CLK_PLLCTL k) 1 0 = if k = 13 then 2 else fld w 1 0 := by
  have hb : ∀ i, i = 47 ∨ i < 2 → (w &&& 0x800000000007#48).toNat.testBit i = w.toNat.testBit i := fun i hi => by
    have hm : (0x800000000007#48).toNat.testBit i = true := by
      rcases hi with rfl | hi
      · decide
      · interval_cases i <;> decide
    rw [BitVec.toNat_and, Nat.testBit_and, hm, Bool.and_true]
  have hm : bitOf (w &&& 0x800000000007#48) 47 = bitOf w 47 ∧ fld (w &&& 0x800000000007#48) 1 0 = fld w 1 0 := by
    refine ⟨by rw [bitOf_eq, bitOf_eq, hb 47 (.inl rfl)], Nat.eq_of_testBit_eq fun i => ?_⟩
    rw [testBit_fld, testBit_fld]
    by_cases hi : i < 2
    · rw [hb (i + 0) (.inr hi)]
    · simp [hi]
  simp only [State.pllctlWrite, h, Bool.false_eq_true, and_false, if_false]
  refine ⟨_, rfl, ?_, ?_⟩
  · rw [State.rb, reg_setReg_same]
    by_cases hk : k.val = 13
    · rw [if_pos hk, bitOf_putFld _ _ _ _ _ (by decide) (by decide), if_neg (by decide), hm.1]
    · rw [if_neg hk, hm.1]
  · rw [State.rf, reg_setReg_same]
    by_cases hk : k.val = 13
    · rw [if_pos hk, if_pos (Fin.ext hk)]
      exact fld_putFld _ 1 0 2 (by decide) (by decide)
    · rw [if_neg hk, if_neg (fun e => hk (congrArg Fin.val e)), hm.2]

/-! ### FLT_RECCFG and FLT_CODECFG (R358, R365) -/

/-- The fields of FLT_RECCFG as its commit stores them. -/
theorem reccfgWrite_fields (s : State) (v : Word) :
    (s.reccfgWrite v).rf Reg.FLT_RECCFG 47 34 = clampNat 1 10000 (fld v 47 34) ∧ (s.reccfgWrite v).rf Reg.FLT_RECCFG 33 28 = max 1 (fld v 33 28) ∧
      (s.reccfgWrite v).rf Reg.FLT_RECCFG 27 20 = max 1 (fld v 27 20) := by
  have hm : clampNat 1 10000 (fld v 47 34) < 2 ^ 14 := by unfold clampNat; split <;> [skip; split] <;> omega
  have hn : max 1 (fld v 33 28) < 2 ^ 6 := by have := Nat.mod_lt (v.toNat / 2 ^ 28) (Nat.two_pow_pos 6); simp only [fld]; omega
  have hw : max 1 (fld v 27 20) < 2 ^ 8 := by have := Nat.mod_lt (v.toNat / 2 ^ 20) (Nat.two_pow_pos 8); simp only [fld]; omega
  generalize hx : clampNat 1 10000 (fld v 47 34) = x at *
  generalize hy : max 1 (fld v 33 28) = y at *
  generalize hz : max 1 (fld v 27 20) = z at *
  simp only [State.rf, State.reccfgWrite, reg_setReg_same, hx, hy, hz]
  refine ⟨?_, ?_, ?_⟩ <;> simp only [fld, BitVec.toNat_ofNat] <;> omega

theorem fld_lt (w : Word) (hi lo : Nat) : fld w hi lo < 2 ^ (hi + 1 - lo) := Nat.mod_lt _ (Nat.two_pow_pos _)

/-- A field just written with a number that fits. -/
theorem rf_setRf_same (s : State) (a hi lo v : Nat) (h : hi < 48) (hl : lo ≤ hi) (hv : v < 2 ^ (hi + 1 - lo)) : (s.setRf a hi lo v).rf a hi lo = v := by
  rw [State.rf, setRf_eq, reg_setReg_same, fld_putFld _ _ _ _ h hl, Nat.mod_eq_of_lt hv]

/-- A severity that the code allows, and of a locked code the one it has. -/
theorem codecfgWrite_stores {s : State} {c sev m : Nat} {locked : Bool} {v : Word} (hi : FaultCode.info c = some (sev, m, locked))
    (hl : locked = true → fld v 46 44 = s.rf (Reg.FLT_CODECFG c) 46 44) (hm : fld v 45 44 ≤ m) :
    ∃ t, s.codecfgWrite c v = (stOK, t) ∧ t.rf (Reg.FLT_CODECFG c) 46 44 = fld v 46 44 := by
  refine ⟨s.setRf (Reg.FLT_CODECFG c) 46 44 (fld v 46 44), ?_, rf_setRf_same s _ 46 44 _ (by decide) (by decide) (fld_lt v 46 44)⟩
  unfold State.codecfgWrite
  rw [hi]
  exact (if_neg fun h => h.2 (hl h.1)).trans (if_neg (Nat.not_lt.2 hm))

/-! ### PWR_FORCEOFF (R341) -/

/-- A domain forced off is off, and PWR_FORCEOFF names it. -/
theorem forceoffWrite_stores {s : State} {v : Word} (h : fld v 5 0 < 50) :
    ∃ t, s.forceoffWrite v = (stOK, t) ∧ (t.dom (fld v 5 0)).st = 2 ∧ t.reg Reg.PWR_FORCEOFF = BitVec.ofNat 48 (fld v 5 0) := by
  refine ⟨_, if_pos h, ?_, ?_⟩
  · have ho : ∀ t : State, ((t.forceOne (fld v 5 0)).dom (fld v 5 0)).st = 2 := fun t => by
      unfold State.forceOne
      split
      · rename_i hst
        exact hst.1
      · dsimp only
        rw [State.setTarget, setRf_eq, dom_setReg, updDom_eq, dom_setDom_same]
    unfold State.forceOff
    exact (raise_frame (fun t : State => (t.dom (fld v 5 0)).st) (fun _ _ => rfl) (fun _ _ _ => rfl) _ _ _ _).trans (ho _)
  · exact (reg_of_coll (forceOff_coll _ h) (.inr (.inr rfl))).trans (reg_setReg_same s _ _)

end Sys2Proof.Machine

namespace Sys2Proof
open Machine

theorem pairAt_pllctl : ∀ k : Fin 15, pairAt (Reg.CLK_PLLCTL k) { blk := .clk, inst := 0, sub := 0, off := 0x10 + 2 * k } = true := by decide

theorem pairAt_codecfg : ∀ c : Fin 64, pairAt (Reg.FLT_CODECFG c) { blk := .flt, inst := 0, sub := 0, off := 0x40 + 2 * c } = true := by decide

/-- Settles O11: each pair commits in the state that the first write leaves, and what each commit stores. -/
theorem guardedPairsStore : Obligations.GuardedPairsStore := by
  unfold Obligations.GuardedPairsStore
  refine fun r w s => ⟨fun h hn hl => ?_, fun h hv ho => ?_, fun h hf => ?_, fun k h hu => ?_, fun h => ?_, fun c sev m locked h hi hk hm => ?_,
    fun h hd => ?_⟩
  · have hp : ∀ i, (s.pairing reqHost Reg.ID_MGMTPATH w).rb Reg.ID_MGMTPATH i = s.rb Reg.ID_MGMTPATH i := fun i =>
      congrArg (bitOf · i) (reg_pairing s _ _ w (by decide))
    obtain ⟨t, ht, hb, he⟩ := pathWrite_changes (s := s.pairing reqHost Reg.ID_MGMTPATH w) (v := w) (by rw [hp]; exact hn)
      fun hb => by rw [lst_pairing]; exact hl hb
    refine performs_pair h (l := { blk := .id, inst := 0, sub := 0, off := 0x12 }) (by decide) ht ⟨hb, he.trans (congrArg (fun n => (n + 1) % 256) ?_)⟩
    exact pairing_frame (fun t : State => t.knots.hostEpoch) (fun _ _ => rfl) (fun _ _ _ _ => rfl) (fun _ _ _ => rfl) (fun _ _ _ _ _ => rfl) s _ _ w
  · have hr : (s.pairing (reqNo r) Reg.MB_RTSLOT w).rb Reg.MB_RTSTAT (40 + fld w 0 0) = true :=
      (congrArg (bitOf · _) (reg_pairing s _ _ w (by decide))).trans hv
    have hc : (s.pairing (reqNo r) Reg.MB_RTSLOT w).oldCount = 0 :=
      (pairing_frame State.oldCount (fun _ _ => rfl) (fun _ _ _ _ => rfl) (fun _ _ _ => rfl) (fun _ _ _ _ _ => rfl) s _ _ w).trans ho
    obtain ⟨t, ht, hs, hrt⟩ := rtslotWrite_stores hr hc
    refine performs_pair h (l := { blk := .knot, inst := 0, sub := 0, off := 0x150 }) (by decide) ht ⟨hs, hrt.trans ?_⟩
    exact pairing_frame State.rt (fun _ _ => rfl) (fun _ _ _ _ => rfl) (fun _ _ _ => rfl) (fun _ _ _ _ _ => rfl) s _ _ w
  · have hs : ∀ j, (s.pairing (reqNo r) Reg.CLK_SRCSEL w).src j = s.src j := fun j =>
      pairing_frame (fun t : State => t.src j) (fun _ _ => rfl) (fun _ _ _ _ => rfl) (fun _ _ _ => rfl) (fun _ _ _ _ _ => rfl) s _ _ w
    obtain ⟨t, ht, h1, h2⟩ := srcselWrite_stores (s := s.pairing (reqNo r) Reg.CLK_SRCSEL w) (w := w) fun b hb => by
      rw [fieldRefusal_pairing, hs]
      exact hf b hb
    exact performs_pair h (l := { blk := .clk, inst := 0, sub := 0, off := 4 }) (by decide) ht ⟨h1, h2⟩
  · have hl : (s.pairing (reqNo r) (Reg.CLK_PLLCTL k) w).loopUsed k = false :=
      (pairing_frame (fun t : State => t.loopUsed k) (fun _ _ => rfl) (fun t _ v hb => loopUsed_setCounter t v hb k) (fun _ _ _ => rfl)
        (fun _ _ _ _ _ => rfl) s _ _ w).trans hu
    obtain ⟨t, ht, h1, h2⟩ := pllctlWrite_stores k (w := w) hl
    refine performs_pair h (pairAt_pllctl k) (t := t) ?_ ⟨h1, h2⟩
    have hk : (0x10 + 2 * k.val - 0x10) / 2 = k.val := by omega
    have ho : 0x10 + 2 * k.val ≠ 4 := by omega
    simpa [State.commitAt, ho] using ht
  · obtain ⟨t, ht⟩ : ∃ t, t = (s.pairing (reqNo r) Reg.FLT_RECCFG w).reccfgWrite w := ⟨_, rfl⟩
    have hf := reccfgWrite_fields (s.pairing (reqNo r) Reg.FLT_RECCFG w) w
    rw [← ht] at hf
    exact performs_pair h (l := { blk := .flt, inst := 0, sub := 0, off := 0xE }) (by decide) (congrArg (Prod.mk stOK) ht.symm) hf
  · have hq : (s.pairing (reqNo r) (Reg.FLT_CODECFG c.toNat) w).reg (Reg.FLT_CODECFG c.toNat) = s.reg (Reg.FLT_CODECFG c.toNat) :=
      reg_pairing s _ _ w (by unfold Reg.FLT_CODECFG; omega)
    obtain ⟨t, ht, h1⟩ := codecfgWrite_stores (s := s.pairing (reqNo r) (Reg.FLT_CODECFG c.toNat) w) hi (fun e => by rw [State.rf, hq]; exact hk e) hm
    refine performs_pair h (pairAt_codecfg ⟨c.toNat, c.isLt⟩) (t := t) ?_ h1
    have ho : 0x40 + 2 * c.toNat ≠ 0xE := by omega
    simpa [State.commitAt, ho] using ht
  · obtain ⟨t, ht, h1, h2⟩ := forceoffWrite_stores (s := s.pairing (reqNo r) Reg.PWR_FORCEOFF w) hd
    exact performs_pair h (l := { blk := .pwr, inst := 0, sub := 0, off := 0xC0 }) (by decide) ht ⟨h1, h2⟩

end Sys2Proof
end

section
/-! PROOF. Replies (O8): the status word of a single access and of a burst, and the words of a burst write. -/

namespace Sys2Proof.Machine

/-! ### The status of a reply (R39, R41) -/

/-- A word that completes OK or PENDING leaves the status of a burst. -/
theorem put_good {b : ReplyBuf} {st a : Nat} (d : Option Word) (hb : b.burst = true) (h : st = 0 ∨ st = 4) :
    (b.put st a d).status = b.status ∧ (b.put st a d).addr = b.addr := by
  rcases h with rfl | rfl <;> simp [ReplyBuf.put, hb, stOK, stPENDING]

/-- The first other code stands, with its word's address. -/
theorem put_bad {b : ReplyBuf} {st a : Nat} (d : Option Word) (hs : b.status = 0) (hc : b.cut = false) (h0 : st ≠ 0) (h4 : st ≠ 4) :
    (b.put st a d).status = st ∧ (b.put st a d).addr = a := by
  simp [ReplyBuf.put, hs, hc, h0, h4, stOK, stPENDING]

/-- Once a code stands, no word changes it. -/
theorem put_stands {b : ReplyBuf} {st a : Nat} (d : Option Word) (hs : b.status ≠ 0) :
    (b.put st a d).status = b.status ∧ (b.put st a d).addr = b.addr := by
  simp [ReplyBuf.put, hs, stOK]

theorem put_single {b : ReplyBuf} (st a : Nat) (d : Option Word) (hb : b.burst = false) (hs : b.status = 0) (hc : b.cut = false) :
    (b.put st a d).status = st ∧ (b.put st a d).addr = if st = 0 then b.addr else a := by
  by_cases h : st = 0 <;> simp [ReplyBuf.put, hb, hs, hc, h, stOK]

/-- A reply after the words ws, (status, address, data) each. -/
def ReplyBuf.puts (b : ReplyBuf) (ws : List (Nat × Nat × Option Word)) : ReplyBuf := ws.foldl (fun x y => x.put y.1 y.2.1 y.2.2) b

theorem puts_cons (b : ReplyBuf) (y : Nat × Nat × Option Word) (ws : List (Nat × Nat × Option Word)) :
    b.puts (y :: ws) = (b.put y.1 y.2.1 y.2.2).puts ws := rfl

theorem puts_append (b : ReplyBuf) (xs ys : List (Nat × Nat × Option Word)) : b.puts (xs ++ ys) = (b.puts xs).puts ys := List.foldl_append

/-- Words change neither the kind of a reply nor its cut mark. -/
theorem puts_kind (b : ReplyBuf) (ws : List (Nat × Nat × Option Word)) : (b.puts ws).burst = b.burst ∧ (b.puts ws).cut = b.cut := by
  induction ws generalizing b with
  | nil => exact ⟨rfl, rfl⟩
  | cons y ws ih => exact ih _

theorem puts_good {b : ReplyBuf} {ws : List (Nat × Nat × Option Word)} (hb : b.burst = true) (h : ∀ y ∈ ws, y.1 = 0 ∨ y.1 = 4) :
    (b.puts ws).status = b.status ∧ (b.puts ws).addr = b.addr := by
  induction ws generalizing b with
  | nil => exact ⟨rfl, rfl⟩
  | cons y ws ih =>
    obtain ⟨hy, hws⟩ := List.forall_mem_cons.1 h
    obtain ⟨h1, h2⟩ := put_good (b := b) (a := y.2.1) y.2.2 hb hy
    obtain ⟨i1, i2⟩ := ih (b := b.put y.1 y.2.1 y.2.2) hb hws
    exact ⟨i1.trans h1, i2.trans h2⟩

theorem puts_stands {b : ReplyBuf} (ws : List (Nat × Nat × Option Word)) (hs : b.status ≠ 0) :
    (b.puts ws).status = b.status ∧ (b.puts ws).addr = b.addr := by
  induction ws generalizing b with
  | nil => exact ⟨rfl, rfl⟩
  | cons y ws ih =>
    obtain ⟨h1, h2⟩ := put_stands (b := b) (st := y.1) (a := y.2.1) y.2.2 hs
    obtain ⟨i1, i2⟩ := ih (b := b.put y.1 y.2.1 y.2.2) (h1 ▸ hs)
    exact ⟨i1.trans h1, i2.trans h2⟩

/-- The first code of a burst other than OK and PENDING, with its word's address. -/
theorem puts_first {b : ReplyBuf} {pre post : List (Nat × Nat × Option Word)} {x : Nat × Nat × Option Word} (hb : b.burst = true) (hs : b.status = 0)
    (hc : b.cut = false) (hp : ∀ y ∈ pre, y.1 = 0 ∨ y.1 = 4) (h0 : x.1 ≠ 0) (h4 : x.1 ≠ 4) :
    (b.puts (pre ++ x :: post)).status = x.1 ∧ (b.puts (pre ++ x :: post)).addr = x.2.1 := by
  rw [puts_append, puts_cons]
  obtain ⟨g1, -⟩ := puts_good hb hp
  obtain ⟨-, k2⟩ := puts_kind b pre
  obtain ⟨h1, h2⟩ := put_bad (b := b.puts pre) (a := x.2.1) x.2.2 (g1.trans hs) (k2.trans hc) h0 h4
  obtain ⟨i1, i2⟩ := puts_stands (b := (b.puts pre).put x.1 x.2.1 x.2.2) post (by rw [h1]; exact h0)
  exact ⟨i1.trans h1, i2.trans h2⟩

/-- The status word shows the code and the address. -/
theorem statusWord_fields (b : ReplyBuf) (u c : Bool) :
    fld (b.statusWord u c) 47 44 = b.status % 16 ∧ fld (b.statusWord u c) 31 0 = b.addr % 2 ^ 32 := by
  have hu : bnat u ≤ 1 := by cases u <;> decide
  have hc : bnat c ≤ 1 := by cases c <;> decide
  have hq : b.seq % 256 < 256 := Nat.mod_lt _ (by decide)
  simp only [fld, ReplyBuf.statusWord, BitVec.toNat_ofNat]
  generalize bnat u = x at *
  generalize bnat c = y at *
  omega

/-! ### The words of a burst write (R41) -/

/-- What lets the host reach a word stands in t as it does in s, and no register has changed. -/
structure HostAlike (s t : State) : Prop where
  regs : t.regs = s.regs
  boot : t.boot = s.boot
  pwr : t.pwr = s.pwr
  first : s.firstOf reqHost = none → t.firstOf reqHost = none

theorem HostAlike.refl (s : State) : HostAlike s s := ⟨rfl, rfl, rfl, id⟩

theorem HostAlike.trans {s t u : State} (h : HostAlike s t) (g : HostAlike t u) : HostAlike s u :=
  ⟨g.regs.trans h.regs, g.boot.trans h.boot, g.pwr.trans h.pwr, g.first ∘ h.first⟩

/-- The host path is there while ROOT runs (R38). -/
theorem present_host (s : State) : s.present reqHost = s.rootUp := by simp [State.present]

theorem HostAlike.canReach {s t : State} {a : Nat} (h : HostAlike s t) (hr : CanReach s .host a) : CanReach t .host a := by
  obtain ⟨hp, hf, hd⟩ := hr
  refine ⟨?_, h.first hf, fun d e => ?_⟩
  · rw [← hp]
    show t.present reqHost = s.present reqHost
    rw [present_host, present_host, State.rootUp, State.rootUp, State.rb, State.rb, State.reg, State.reg, h.boot, h.pwr, h.regs]
  · rw [← hd d e]
    unfold State.domOn State.dom
    rw [h.pwr]

/-- The host may write every word. -/
theorem canWrite_host {s : State} {a : Nat} (h : CanReach s .host a) : CanWrite s .host a := ⟨h, rfl⟩

theorem write_bobbin_alike {s : State} {a : Nat} (v : Word) (h : CanReach s .host a) (hl : 0x1000000 ≤ a) (hb : a < 0x1800000) :
    HostAlike s (s.writeReg .host a v) ∧ ∀ k, (s.writeReg .host a v).bob k = if k = a - 0x1000000 then v else s.bob k := by
  rw [writeReg_bobbin v (canWrite_host h) hl hb]
  exact ⟨⟨rfl, rfl, rfl, id⟩, fun k => bob_setBob s _ k v⟩

/-- A write of a word that no row assigns changes no memory, whether it completes, waits behind an earlier access or finds no host path. -/
theorem write_unassigned_alike {s : State} {a : Nat} (v : Word) (ha : a < 0x1000000 ∨ (0x1800000 ≤ a ∧ a < 0x4000000)) (hm : RegMap.at a = none) :
    HostAlike s (s.writeReg .host a v) ∧ ∀ k, (s.writeReg .host a v).bob k = s.bob k := by
  by_cases hp : s.present reqHost = true
  · cases hf : s.firstOf reqHost with
    | some w =>
      have he : s.writeReg .host a v = { s with waitQ := s.waitQ ++ [{ req := reqHost, write := true, addr := a, data := v, sink := .bare, may := true }] } := by
        simp [State.writeReg, State.access, reqNo, hp, hf, State.mayWrite]
      rw [he]
      exact ⟨⟨rfl, rfl, rfl, fun h => by rw [hf] at h; cases h⟩, fun _ => rfl⟩
    | none =>
      have hu : s.attempt { req := reqHost, write := true, addr := a, data := v, sink := .bare, may := s.mayWrite reqHost a } = (some (stNOMAP, 0), s) := by
        have hb : isBobbin a = false := by simp [isBobbin]; omega
        have hw : isFlashWin a = false := by simp [isFlashWin]; omega
        simp [State.attempt, State.mayWrite, unmapped, hb, hw, hm]
      have he : s.writeReg .host a v = s.setReply reqHost stNOMAP a 0 :=
        access_go (w := { req := reqHost, write := true, addr := a, data := v, sink := .bare }) hp hf hu
      rw [he]
      exact ⟨⟨rfl, rfl, rfl, id⟩, fun _ => rfl⟩
  · have he : s.writeReg .host a v = s := by simp [State.writeReg, State.access, reqNo, hp]
    rw [he]
    exact ⟨.refl s, fun _ => rfl⟩

/-- The words from offset j on of a write at `lo`. -/
def State.writeWords (s : State) (lo j : Nat) (ws : List Word) : State :=
  forAll (fun t (x : Word × Nat) => t.writeReg .host ((lo + x.2) % 2 ^ 32) x.1) (ws.zip (List.range' j ws.length)) s

theorem writeWords_cons (s : State) (lo j : Nat) (w : Word) (ws : List Word) :
    s.writeWords lo j (w :: ws) = (s.writeReg .host ((lo + j) % 2 ^ 32) w).writeWords lo (j + 1) ws := by
  simp [State.writeWords, List.range'_succ, forAll]

theorem mgmtWords_write (s : State) {c : MgmtCmd} (ws : List Word) (h : c.op = 3) : s.mgmtWords false c .bare ws = s.writeWords c.addr 0 ws := by
  simp only [State.mgmtWords, MgmtCmd.isWrite, h, State.writeWords, List.range_eq_range']
  rfl

/-- The word at a is a bobbin word that the host can reach, or one that no row assigns. -/
def BurstWord (s : State) (a : Nat) : Prop :=
  (0x1000000 ≤ a ∧ a < 0x1800000 ∧ CanReach s .host a) ∨ ((a < 0x1000000 ∨ (0x1800000 ≤ a ∧ a < 0x4000000)) ∧ RegMap.at a = none)

/-- Every bobbin word of the burst is stored, wherever the unassigned ones lie, and nothing else. -/
theorem writeWords_bob {s t : State} {lo j : Nat} {ws : List Word} (ha : HostAlike s t) (hn : lo + (j + ws.length) ≤ 2 ^ 32)
    (hw : ∀ i, i < ws.length → BurstWord s (lo + (j + i))) :
    HostAlike s (t.writeWords lo j ws) ∧ ∀ k, k < 0x800000 → (t.writeWords lo j ws).bob k =
      if lo + j ≤ 0x1000000 + k ∧ 0x1000000 + k < lo + (j + ws.length) then ws.getD (0x1000000 + k - (lo + j)) 0 else t.bob k := by
  induction ws generalizing t j with
  | nil => exact ⟨ha, fun k _ => (if_neg (by simp only [List.length_nil]; omega)).symm⟩
  | cons w ws ih =>
    rw [List.length_cons] at hn hw
    have hmod : (lo + j) % 2 ^ 32 = lo + j := Nat.mod_eq_of_lt (by omega)
    rw [writeWords_cons, hmod]
    obtain ⟨h1, hb⟩ : HostAlike t (t.writeReg .host (lo + j) w) ∧ ∀ k, k < 0x800000 → (t.writeReg .host (lo + j) w).bob k =
        if 0x1000000 + k = lo + j then w else t.bob k := by
      rcases hw 0 (by omega) with ⟨hl, hh, hr⟩ | ⟨hu, hm⟩
      · obtain ⟨g1, g2⟩ := write_bobbin_alike w (ha.canReach hr) hl hh
        exact ⟨g1, fun k _ => (g2 k).trans (if_congr (by omega) rfl rfl)⟩
      · obtain ⟨g1, g2⟩ := write_unassigned_alike (s := t) w hu hm
        exact ⟨g1, fun k hk => (g2 k).trans (if_neg (by omega)).symm⟩
    obtain ⟨i1, i2⟩ := ih (ha.trans h1) (j := j + 1) (by omega) (fun i hi => by
      rw [show j + 1 + i = j + (i + 1) by omega]
      exact hw (i + 1) (by omega))
    refine ⟨i1, fun k hk => ?_⟩
    rw [i2 k hk, hb k hk, List.length_cons]
    by_cases he : 0x1000000 + k = lo + j
    · rw [if_neg (by omega), if_pos he, if_pos (by omega), he, Nat.sub_self, List.getD_cons_zero]
    · by_cases hin : lo + (j + 1) ≤ 0x1000000 + k ∧ 0x1000000 + k < lo + (j + 1 + ws.length)
      · rw [if_pos hin, if_pos (by omega), show 0x1000000 + k - (lo + j) = 0x1000000 + k - (lo + (j + 1)) + 1 by omega, List.getD_cons_succ]
      · rw [if_neg hin, if_neg he, if_neg (by omega)]

end Sys2Proof.Machine

namespace Sys2Proof
open Machine

/-- Settles O8: by induction on the words, the first code that is neither OK nor PENDING stands; and on those of a burst write, each is executed. -/
theorem burstStatus : Obligations.BurstStatus := by
  unfold Obligations.BurstStatus
  refine ⟨fun b ws hb hs hc ha => ⟨fun h => ?_, ?_, fun u c => statusWord_fields _ u c⟩, fun b st a d hb hs hc ha => ?_, fun s c ws hop hn hle hw => ?_⟩
  · obtain ⟨h1, h2⟩ := puts_good hb h
    exact ⟨h1.trans hs, h2.trans ha⟩
  · rintro pre x post rfl hp h0 h4
    exact puts_first hb hs hc hp h0 h4
  · rw [← ha]
    exact put_single st a d hb hs hc
  · have hj : c.addr + (0 + ws.length) = c.addr + c.count := by rw [hn, Nat.zero_add]
    obtain ⟨h1, h2⟩ := writeWords_bob (HostAlike.refl s) (lo := c.addr) (j := 0) (ws := ws) (by omega) (fun i hi => by
      rw [Nat.zero_add]
      exact hw i (hn ▸ hi))
    rw [mgmtWords_write s ws hop]
    refine ⟨fun k hk => ?_, h1.regs⟩
    rw [h2 k hk, hj]
    rfl

end Sys2Proof
end

section
/-! PROOF. Frames on CSP1 (O48): a management read, the host and device phases, and the frames that do nothing. -/

namespace Sys2Proof.Machine

/-! ### Reads of bobbin words by the host -/

/-- A read of a bobbin word that the host can reach, for whatever reply. -/
theorem access_read_bobbin {s : State} {a : Nat} (k : Sink) (h : CanReach s .host a) (hl : 0x1000000 ≤ a) (hb : a < 0x1800000) :
    s.access { req := reqHost, write := false, addr := a, data := 0, sink := k } = s.deliver reqHost k stOK a (s.bob (a - 0x1000000)) true := by
  have hi : isBobbin a = true := by simp [isBobbin, hl, hb]
  have hf : isFlashWin a = false := by simp [isFlashWin]; omega
  have := attempt_on (s := s) (w := { req := reqHost, write := false, addr := a, data := 0, sink := k, may := s.mayWrite reqHost a })
    (fun e => by cases e) (by simp [unmapped, hi]) hf h.2.2
  rw [access_go (w := { req := reqHost, write := false, addr := a, data := 0, sink := k }) h.1 h.2.1 this]
  simp [State.perform, State.readWord, hi]

/-- What a lapse of the host's guarded pair can change: the slot, the collector and its counters. -/
theorem guardLapse_frame {β : Type} (g : State → β) (hf : ∀ s f, g (s.setFlt f) = g s)
    (hr : ∀ s b w, b = Reg.FLT_REPEATCNT ∨ b = Reg.FLT_INLOST → g (s.setReg b w) = g s) (hg : ∀ s r x, g (s.setGuard r x) = g s) (s : State) :
    g s.guardLapse = g s := by
  unfold State.guardLapse
  split
  · rename_i x _
    obtain ⟨f, h | ⟨w, h⟩ | ⟨w, h⟩⟩ := raise_cases (s.setGuard reqHost none) 0x0F1 0x31 x.addr <;> rw [State.guardFault, h]
    · rw [hf, hg]
    · rw [hr _ _ _ (.inl rfl), hf, hg]
    · rw [hr _ _ _ (.inr rfl), hf, hg]
  · rfl

theorem reg_guardLapse (s : State) {b : Nat} (hb : b < 0x3007 ∨ 0x3009 ≤ b) : s.guardLapse.reg b = s.reg b :=
  guardLapse_frame (fun t => t.reg b) (fun _ _ => rfl) (fun t _ w hc => reg_setCounter t w hc hb) (fun _ _ _ => rfl) s

/-- Another word than the reserve's status does not change what the host reaches. -/
theorem canReach_bump {s : State} {a b : Nat} (hb : b ≠ Reg.PWR_HOLDSTAT) (h : CanReach s .host a) : CanReach (s.bump b) .host a := by
  obtain ⟨hp, hf, hd⟩ := h
  refine ⟨?_, hf, hd⟩
  rw [← hp]
  show (s.bump b).present reqHost = s.present reqHost
  rw [present_host, present_host, State.rootUp, State.rootUp, State.rb, State.rb, bump_eq, reg_setReg_other s _ hb.symm]
  rfl

theorem guardLapse_canReach {s : State} {a : Nat} (h : CanReach s .host a) : CanReach s.guardLapse .host a := by
  refine ⟨?_, ?_, fun d e => ?_⟩
  · exact (guardLapse_frame (fun t => t.present reqHost) (fun _ _ => rfl) (fun t _ w hc => present_setCounter t w hc _) (fun _ _ _ => rfl) s).trans h.1
  · exact (guardLapse_frame (fun t => t.firstOf reqHost) (fun _ _ => rfl) (fun _ _ _ _ => rfl) (fun _ _ _ => rfl) s).trans h.2.1
  · exact (guardLapse_frame (fun t => t.domOn d) (fun _ _ => rfl) (fun _ _ _ _ => rfl) (fun _ _ _ => rfl) s).trans (h.2.2 d e)

/-! ### A management read (R50, R381) -/

/-- A read command of one word. -/
theorem mgmtCmd_read {w : Word} (h : fld w 47 46 = 0) : mgmtCmd w = { op := 0, count := 1, seq := fld w 39 32, addr := fld w 31 0 } := by
  simp [mgmtCmd, h]

/-- The reply of a read of one word, once the word has come. -/
def readReply (id : Nat) (w d : Word) : ReplyBuf :=
  { id := id, seq := fld w 39 32, start := fld w 31 0, left := 0, addr := fld w 31 0, data := [d] }

theorem readReply_words (id : Nat) (w d : Word) :
    (readReply id w d).words false = [BitVec.ofNat 48 (fld w 39 32 * 2 ^ 32 + fld w 31 0), d] := by
  have hq : fld w 39 32 % 256 = fld w 39 32 := Nat.mod_eq_of_lt (fld_lt w 39 32)
  have ha : fld w 31 0 % 4294967296 = fld w 31 0 := Nat.mod_eq_of_lt (fld_lt w 31 0)
  simp [readReply, ReplyBuf.words, ReplyBuf.statusWord, bnat, hq, ha]

/-- The words of a read command of one bobbin word: the guard slot may lapse, and the word goes to its reply. -/
theorem mgmtWords_read {s : State} (slow : Bool) {w : Word} (k : Sink) (ho : fld w 47 46 = 0) (hl : 0x1000000 ≤ fld w 31 0)
    (hb : fld w 31 0 < 0x1800000) (h : CanReach s .host (fld w 31 0)) :
    s.mgmtWords slow (mgmtCmd w) k [] =
      (if slow then s.guardLapse else s).deliver reqHost k stOK (fld w 31 0) (s.bob (fld w 31 0 - 0x1000000)) true := by
  have hm : fld w 31 0 % 2 ^ 32 = fld w 31 0 := Nat.mod_eq_of_lt (fld_lt w 31 0)
  have he : s.mgmtWords slow (mgmtCmd w) k [] =
      (if slow then s.guardLapse else s).access { req := reqHost, write := false, addr := fld w 31 0, data := 0, sink := k } := by
    rw [mgmtCmd_read ho]
    show (if slow then s.guardLapse else s).access { req := reqHost, write := false, addr := (fld w 31 0 + 0) % 2 ^ 32, data := 0, sink := k } = _
    rw [Nat.add_zero, hm]
  rw [he]
  cases slow with
  | false => exact access_read_bobbin k h hl hb
  | true =>
    refine (access_read_bobbin k (guardLapse_canReach h) hl hb).trans ?_
    exact congrArg (fun d => State.deliver _ reqHost k stOK (fld w 31 0) d true)
      (guardLapse_frame (fun t => t.bob (fld w 31 0 - 0x1000000)) (fun _ _ => rfl) (fun _ _ _ _ => rfl) (fun _ _ _ => rfl) s)

/-! ### The phases of a frame (R382–R386) -/

/-- The state as a select finds it: what waited for the select is over. -/
def State.csp1Select (s : State) : State := { s with csp1 := { s.csp1 with lines := none, sent := [] } }

theorem csp1Frame_down (f : CspFrame) {s : State} (h : s.csp1Up = false ∨ s.csp1Pin = false) : execCsp1Frame f s = .next s := if_pos h

section
variable {s : State} (f : CspFrame) (hu : s.csp1Up = true) (hp : s.csp1Pin = true)
include hu hp

theorem csp1Frame_master (hm : s.rb Reg.CSP1_CFG 47 = true) : execCsp1Frame f s = .refused .csp1MasterMode := by
  simp [execCsp1Frame, hu, hp, hm]

/-- R386: while HL0 carries management, only a burst write of ID_MGMTPATH is executed. -/
theorem csp1Frame_ignored (hm : s.rb Reg.CSP1_CFG 47 = false) (hi : s.rb Reg.ID_MGMTPATH 0 = true) (hb : pathBurst f = false)
    (hr : s.csp1.replies = []) :
    execCsp1Frame f s = .next ((if f.words = [] then s.csp1Select else s.csp1Select.bump Reg.CSP1_FRAMES).bump Reg.CSP1_IGNCNT) := by
  have hi' : (s.csp1Select).rb Reg.ID_MGMTPATH 0 = true := hi
  have hr' : (s.csp1Select).csp1.replies = [] := hr
  unfold execCsp1Frame
  rw [if_neg (by simp [hu, hp]), if_neg (by simp [hm])]
  cases hw : f.words with
  | nil => exact congrArg Host.Outcome.next (if_pos hi')
  | cons cmd data =>
    refine (if_pos ⟨hi', hb⟩).trans (congrArg Host.Outcome.next ((if_neg ?_).trans ?_))
    · simp [hr]
    · rfl

/-- A frame of one command word while CSP1 carries management. -/
theorem csp1Frame_command (hm : s.rb Reg.CSP1_CFG 47 = false) (hi : s.rb Reg.ID_MGMTPATH 0 = false) {cmd : Word} (hw : f.words = [cmd]) :
    execCsp1Frame f s =
      .next (((s.csp1Select.bump Reg.CSP1_FRAMES).csp1Host (s.csp1Select.csp1Slow f) cmd []).csp1Device s.csp1.nextId f.devWords f.devCut) := by
  have hi' : (s.csp1Select).rb Reg.ID_MGMTPATH 0 = false := hi
  unfold execCsp1Frame
  rw [if_neg (by simp [hu, hp]), if_neg (by simp [hm]), hw]
  refine (if_neg fun h => ?_).trans (congrArg Host.Outcome.next (if_neg fun h => ?_))
  · exact absurd (hi'.symm.trans h.1) (by decide)
  · exact absurd (hi'.symm.trans h.1) (by decide)

end

/-- Replies that the frame itself has brought stay behind its device phase. -/
theorem csp1Device_new {s : State} {before : Nat} (n : Nat) (cut : Bool) (h : ∀ r ∈ s.csp1.replies, before ≤ r.id) :
    (s.csp1Device before n cut).csp1.replies = s.csp1.replies := by
  have ho : s.csp1.replies.filter (fun r => decide (r.id < before)) = [] := List.filter_eq_nil_iff.2 fun r hr => by simp [h r hr]
  have hn : s.csp1.replies.filter (fun r => !decide (r.id < before)) = s.csp1.replies := List.filter_eq_self.2 fun r hr => by simp [h r hr]
  unfold State.csp1Device
  rw [ho, hn]
  cases cut <;> rfl

/-- The device phase changes its own counters only. -/
theorem csp1Device_frame {β : Type} (g : State → β) (hc : ∀ s c, g { s with csp1 := c } = g s)
    (hr : ∀ s b w, b = Reg.CSP1_UNDERCNT ∨ b = Reg.CSP1_CUTCNT → g (s.setReg b w) = g s) (s : State) (before n : Nat) (cut : Bool) :
    g (s.csp1Device before n cut) = g s := by
  have h1 : ∀ (c : Csp1) (m : Nat), g (({ s with csp1 := c } : State).addCnt Reg.CSP1_UNDERCNT m) = g s := fun c m => by
    rw [addCnt_eq, hr _ _ _ (.inl rfl), hc]
  unfold State.csp1Device
  cases cut with
  | false => exact h1 _ _
  | true =>
    refine (hr _ _ _ (.inr rfl)).trans ((hc _ _).trans (h1 _ _))

theorem nextId_csp1Device (s : State) (before n : Nat) (cut : Bool) : (s.csp1Device before n cut).csp1.nextId = s.csp1.nextId := by
  cases cut <;> rfl

/-- A read command of one bobbin word, with no reply queued: its reply. -/
theorem csp1Host_read {s : State} (slow : Bool) {cmd : Word} (ho : fld cmd 47 46 = 0) (hr : s.csp1.replies = [])
    (hl : 0x1000000 ≤ fld cmd 31 0) (hb : fld cmd 31 0 < 0x1800000) (h : CanReach s .host (fld cmd 31 0)) :
    (s.csp1Host slow cmd []).csp1.replies = [readReply s.csp1.nextId cmd (s.bob (fld cmd 31 0 - 0x1000000))] ∧
      (s.csp1Host slow cmd []).reg Reg.CSP1_FRAMES = s.reg Reg.CSP1_FRAMES ∧ (s.csp1Host slow cmd []).bobbin = s.bobbin := by
  let b : ReplyBuf := { id := s.csp1.nextId, seq := fld cmd 39 32, start := fld cmd 31 0, left := 1, addr := fld cmd 31 0 }
  let u : State := { s with csp1 := { s.csp1 with replies := [b], nextId := s.csp1.nextId + 1 } }
  have hu : CanReach u .host (fld cmd 31 0) := h
  have he : s.csp1Host slow cmd [] = u.mgmtWords slow (mgmtCmd cmd) (.csp1 s.csp1.nextId) [] := by
    simp [State.csp1Host, mgmtCmd_read ho, MgmtCmd.dataWords, MgmtCmd.isWrite, hr, u, b]
  rw [he, mgmtWords_read slow _ ho hl hb hu]
  have hc : (if slow then u.guardLapse else u).csp1 = u.csp1 := by
    split
    · exact guardLapse_frame State.csp1 (fun _ _ => rfl) (fun _ _ _ _ => rfl) (fun _ _ _ => rfl) u
    · rfl
  have hf : (if slow then u.guardLapse else u).reg Reg.CSP1_FRAMES = s.reg Reg.CSP1_FRAMES := by
    split
    · exact reg_guardLapse u (by decide)
    · rfl
  have hbob : (if slow then u.guardLapse else u).bobbin = s.bobbin := by
    split
    · exact guardLapse_frame State.bobbin (fun _ _ => rfl) (fun _ _ _ _ => rfl) (fun _ _ _ => rfl) u
    · rfl
  refine ⟨?_, hf, hbob⟩
  show (State.csp1 (if slow then u.guardLapse else u)).replies.map _ = _
  rw [hc]
  simp [u, b, readReply, ReplyBuf.put]
  rfl

/-- A command behind four replies is void. -/
theorem csp1Host_void {s : State} (slow : Bool) {cmd : Word} (ho : fld cmd 47 46 = 0) (hr : 4 ≤ s.csp1.replies.length) :
    s.csp1Host slow cmd [] = s.bump Reg.CSP1_VOIDCNT := by
  simp [State.csp1Host, mgmtCmd_read ho, MgmtCmd.dataWords, MgmtCmd.isWrite, hr]

theorem reg_bump_same (s : State) (a : Nat) : (s.bump a).reg a = s.reg a + 1 := reg_setReg_same s a _

theorem reg_bump_other (s : State) {a b : Nat} (h : b ≠ a) : (s.bump a).reg b = s.reg b := reg_setReg_other s _ h

/-- A word that the device phase does not count in. -/
theorem reg_csp1Device (s : State) (before n : Nat) (cut : Bool) {a : Nat} (h : a ≠ Reg.CSP1_UNDERCNT ∧ a ≠ Reg.CSP1_CUTCNT) :
    (s.csp1Device before n cut).reg a = s.reg a :=
  csp1Device_frame (fun t => t.reg a) (fun _ _ => rfl) (fun t b w hb => reg_setReg_other t w (by rintro rfl; exact hb.elim h.1 h.2)) s before n cut

theorem reg_withCsp1 (s : State) (c : Csp1) (a : Nat) : State.reg { s with csp1 := c } a = s.reg a := rfl

@[simp] theorem reg_csp1Select (s : State) (a : Nat) : s.csp1Select.reg a = s.reg a := rfl

/-! ### The frames of the statement -/

section
variable {f : CspFrame} {s : State} {cmd : Word} (hu : s.csp1Up = true) (hp : s.csp1Pin = true) (hm : s.rb Reg.CSP1_CFG 47 = false)
include hu hp hm

theorem csp1Frame_read (hi : s.rb Reg.ID_MGMTPATH 0 = false) (hw : f.words = [cmd]) (ho : fld cmd 47 46 = 0) (hr : s.csp1.replies = [])
    (hl : 0x1000000 ≤ fld cmd 31 0) (hb : fld cmd 31 0 < 0x1800000) (hc : CanReach s .host (fld cmd 31 0)) :
    nextWith (execCsp1Frame f s) (fun t => t.reg Reg.CSP1_FRAMES = s.reg Reg.CSP1_FRAMES + 1 ∧ t.bobbin = s.bobbin ∧
      ∃ b, t.csp1.replies = [b] ∧ b.words false = [BitVec.ofNat 48 (fld cmd 39 32 * 2 ^ 32 + fld cmd 31 0), s.bob (fld cmd 31 0 - 0x1000000)]) := by
  have hc' : CanReach (s.csp1Select.bump Reg.CSP1_FRAMES) .host (fld cmd 31 0) := canReach_bump (s := s.csp1Select) (by decide) hc
  obtain ⟨h1, h2, h3⟩ := csp1Host_read (s.csp1Select.csp1Slow f) ho (s := s.csp1Select.bump Reg.CSP1_FRAMES) hr hl hb hc'
  refine ⟨_, csp1Frame_command f hu hp hm hi hw, ?_, ?_, readReply s.csp1.nextId cmd (s.bob (fld cmd 31 0 - 0x1000000)), ?_, readReply_words _ cmd _⟩
  · rw [reg_csp1Device _ _ _ _ (by decide), h2, reg_bump_same, reg_csp1Select]
  · exact (csp1Device_frame State.bobbin (fun _ _ => rfl) (fun _ _ _ _ => rfl) _ _ _ _).trans h3
  · refine (csp1Device_new _ _ fun r hr => ?_).trans h1
    rw [h1, List.mem_singleton] at hr
    exact (congrArg ReplyBuf.id hr).ge

theorem csp1Frame_void (hi : s.rb Reg.ID_MGMTPATH 0 = false) (hw : f.words = [cmd]) (ho : fld cmd 47 46 = 0) (hr : 4 ≤ s.csp1.replies.length) :
    nextWith (execCsp1Frame f s) (fun t =>
      t.reg Reg.CSP1_VOIDCNT = s.reg Reg.CSP1_VOIDCNT + 1 ∧ t.csp1.nextId = s.csp1.nextId ∧ t.bobbin = s.bobbin) := by
  refine ⟨_, csp1Frame_command f hu hp hm hi hw, ?_⟩
  rw [csp1Host_void (s := s.csp1Select.bump Reg.CSP1_FRAMES) _ ho hr]
  refine ⟨?_, nextId_csp1Device _ _ _ _, csp1Device_frame State.bobbin (fun _ _ => rfl) (fun _ _ _ _ => rfl) _ _ _ _⟩
  rw [reg_csp1Device _ _ _ _ (by decide), reg_bump_same, reg_bump_other _ (by decide), reg_csp1Select]

theorem csp1Frame_idle (hi : s.rb Reg.ID_MGMTPATH 0 = true) (hb : pathBurst f = false) (hr : s.csp1.replies = []) :
    nextWith (execCsp1Frame f s) (fun t => t.reg Reg.CSP1_IGNCNT = s.reg Reg.CSP1_IGNCNT + 1 ∧
      t.reg Reg.CSP1_FRAMES = s.reg Reg.CSP1_FRAMES + (if f.words = [] then 0 else 1) ∧ t.csp1.sent = [] ∧ t.bobbin = s.bobbin) := by
  refine ⟨_, csp1Frame_ignored f hu hp hm hi hb hr, ?_⟩
  dsimp only
  rw [reg_bump_same, reg_bump_other _ (by decide)]
  split
  · exact ⟨rfl, (BitVec.add_zero _).symm, rfl, rfl⟩
  · rw [reg_bump_other _ (by decide), reg_bump_same]
    exact ⟨rfl, rfl, rfl, rfl⟩

/-- R385: LINES returns to one line. -/
theorem csp1SelectTimeout_selected : nextWith (execCsp1SelectTimeout s) (fun t =>
    t.rf Reg.CSP1_CFG 45 44 = 0 ∧ t.csp1.lines = none ∧ t.csp1.replies = s.csp1.replies) := by
  have he : execCsp1SelectTimeout s = .next { s.setRf Reg.CSP1_CFG 45 44 0 with csp1 := { s.csp1 with lines := none } } := if_pos ⟨hu, hp, hm⟩
  refine ⟨_, he, ?_, rfl, rfl⟩
  refine (congrArg (fld · 45 44) (reg_withCsp1 _ _ Reg.CSP1_CFG)).trans ?_
  exact rf_setRf_same s Reg.CSP1_CFG 45 44 0 (by decide) (by decide) (by decide)

end

theorem csp1SelectTimeout_down {s : State} (h : s.csp1Up = false ∨ s.csp1Pin = false) : execCsp1SelectTimeout s = .next s :=
  if_neg fun ⟨hu, hp, _⟩ => h.elim (fun e => absurd (e.symm.trans hu) (by decide)) (fun e => absurd (e.symm.trans hp) (by decide))

end Sys2Proof.Machine

namespace Sys2Proof
open Machine

/-- Settles O48: what a frame does by its select, its command word and the replies before it. -/
theorem csp1Frames : Obligations.Csp1Frames := by
  unfold Obligations.Csp1Frames
  refine fun f s => ⟨fun h => ⟨csp1Frame_down f h, csp1SelectTimeout_down h⟩, fun hu hp => ⟨fun hm hi cmd hw ho => ⟨?_, ?_⟩, ?_,
    csp1Frame_master f hu hp, csp1SelectTimeout_selected hu hp⟩⟩
  · exact fun hr hl hb hc => csp1Frame_read hu hp hm hi hw ho hr hl hb hc
  · exact fun hr _ _ => csp1Frame_void hu hp hm hi hw ho hr
  · exact fun hm hi hb hr => csp1Frame_idle hu hp hm hi hb hr

end Sys2Proof
end

section
/-! PROOF. Selection and transmission (O43): which queue starts at a line egress, and what the end of a frame counts. -/

namespace Sys2Proof.Machine

/-! ### Queues and the frame being sent -/

/-- Places of two queues of egresses are one only for the same queue. -/
theorem queue_setQueue_same (s : State) (e q : Nat) (l : List QEntry) : (s.setQueue e q l).queue e q = l := Tab.get_set_same _ _ _ _

theorem queue_setQueue_other (s : State) {e q k : Nat} (l : List QEntry) (h : k ≠ q) : (s.setQueue e q l).queue e k = s.queue e k :=
  (Tab.get_set _ _ _ _ _).trans (if_neg (by omega))

@[simp] theorem queue_setSent (s : State) (e : Nat) (f : Option SentFrame) (e' q' : Nat) : (s.setSent e f).queue e' q' = s.queue e' q' := rfl
@[simp] theorem cur_setSent (s : State) (e : Nat) (f : Option SentFrame) (e' : Nat) : (s.setSent e f).cur e' = s.cur e' := rfl
@[simp] theorem regs_setSent (s : State) (e : Nat) (f : Option SentFrame) : (s.setSent e f).regs = s.regs := rfl

/-- A debit changes a shaper at most. -/
theorem shDebit_frame {β : Type} (g : State → β) (hg : ∀ s e q x, g (s.setShp e q x) = g s) (s : State) (e q len : Nat) :
    g (s.shDebit e q len) = g s := by
  simp only [State.shDebit]
  split
  · rfl
  · split <;> exact hg _ _ _ _

theorem txOver_frame {β : Type} (g : State → β) (hg : ∀ s e q x, g (s.setShp e q x) = g s) (s : State) (e q : Nat) : g (s.txOver e q) = g s := by
  unfold State.txOver
  split
  · split
    · exact hg _ _ _ _
    · rfl
  · rfl

theorem dropCopy_frame {β : Type} (g : State → β) (hg : ∀ s fid x, g (s.setFrame fid x) = g s) (s : State) (fid : Nat) : g (s.dropCopy fid) = g s := by
  unfold State.dropCopy
  split
  · rfl
  · split <;> exact hg _ _ _

/-! ### Which queue starts (R271) -/

/-- A state that no step changes, forAll leaves. -/
theorem forAll_eq_self {α σ : Type} {f : σ → α → σ} {s : σ} {l : List α} (h : ∀ a ∈ l, f s a = s) : forAll f l s = s := by
  induction l with
  | nil => rfl
  | cons a l ih =>
    rw [forAll, h a List.mem_cons_self]
    exact ih fun b hb => h b (List.mem_cons_of_mem a hb)

/-- The largest value that a fold over those who pass takes up. -/
theorem foldl_max_eq {p : Nat → Prop} [DecidablePred p] {f : Nat → Nat} {l : List Nat} {m : Nat} (hle : ∀ k ∈ l, p k → f k ≤ m)
    {b : Nat} (hb : b ≤ m) (h : b = m ∨ ∃ k ∈ l, p k ∧ f k = m) : l.foldl (fun b k => if p k then max b (f k) else b) b = m := by
  induction l generalizing b with
  | nil =>
    rcases h with h | ⟨k, hk, -⟩
    · exact h
    · cases hk
  | cons a l ih =>
    obtain ⟨ha, hl⟩ := List.forall_mem_cons.1 hle
    rw [List.foldl_cons]
    split
    · rename_i hp
      refine ih hl (max_le hb (ha hp)) ?_
      rcases h with rfl | ⟨k, hk, hpk, hf⟩
      · exact .inl (max_eq_left (ha hp))
      · rcases List.mem_cons.1 hk with rfl | hk
        · exact .inl (by rw [hf]; exact max_eq_right hb)
        · exact .inr ⟨k, hk, hpk, hf⟩
    · rename_i hp
      refine ih hl hb ?_
      rcases h with h | ⟨k, hk, hpk, hf⟩
      · exact .inl h
      · rcases List.mem_cons.1 hk with rfl | hk
        · exact absurd hpk hp
        · exact .inr ⟨k, hk, hpk, hf⟩

theorem shClass_le (s : State) (e q : Nat) : s.shClass e q ≤ 2 := by
  simp only [State.shClass]
  repeat' split
  all_goals omega

/-- No class is above committed-eligible. -/
theorem qClass_le (s : State) (e q : Nat) : s.qClass e q ≤ 2 := by
  unfold State.qClass
  split
  · omega
  · split
    · split <;> omega
    · split
      · omega
      · exact shClass_le s e q

theorem rank_le {c q m : Nat} (hc : c ≤ 2) (h : c = 0 ∨ q ≤ m) : rank c q ≤ 8 * 2 + m + 1 := by
  unfold rank
  split <;> omega

section
variable {s : State} {e q : Nat} (he : e < 96)
include he

/-- At a line egress outside ROVING the standing of a queue is its shaper's. -/
theorem qClass_line {x : QEntry} {rest : List QEntry} (hs : s.pst e ≠ 4) (hq : s.queue e q = x :: rest) : s.qClass e q = s.shClass e q := by
  unfold State.qClass
  rw [hq]
  dsimp only
  rw [if_neg fun h => hs h.2, if_neg (by simp [isLine, he])]

variable (hq : q < 8) (hc : s.qClass e q = 2) (hup : ∀ k, q < k → k < 8 → s.queue e k = [])
include hq hc hup

omit he hq hc in
/-- No queue stands above q. -/
theorem rank_qClass_le {k : Nat} (hk : k < 8) : rank (s.qClass e k) k ≤ 8 * 2 + q + 1 := by
  refine rank_le (qClass_le s e k) ?_
  by_cases hlt : q < k
  · exact .inl (by rw [State.qClass, hup k hlt hk])
  · exact .inr (by omega)

omit he in
/-- The highest queue with a committed-eligible head behind an open gate is the best. -/
theorem best_eq (hg : s.gateTest e q = .start) : s.best e = 8 * 2 + q + 1 := by
  refine foldl_max_eq (fun k hk _ => rank_qClass_le hup (List.mem_range.1 hk)) (Nat.zero_le _) (.inr ⟨q, List.mem_range.2 hq, hg, ?_⟩)
  rw [hc]
  rfl

omit he in
theorem markHeld_eq (hg : s.gateTest e q = .start) : s.markHeld e = s := by
  refine forAll_eq_self fun k hk => ?_
  split
  · exact if_neg (by rw [best_eq hq hc hup hg]; exact Nat.not_lt.2 (rank_qClass_le hup (List.mem_range.1 hk)))
  · rfl

end

/-- With no head frame held back by a guard, no window's end counts. -/
theorem closeHeld_eq {s : State} {e : Nat} (h : ∀ q, q < 8 → s.tm.held.get (fun _ => 0) (8 * e + q) = 0) : s.closeHeld e = s :=
  forAll_eq_self fun q hq => if_neg fun hc => hc.1 (h q (List.mem_range.1 hq))

theorem markCredit_line (s : State) {e : Nat} (he : e < 96) : s.markCredit e = s := if_pos (.inl (by simp [isLine, he]))

/-- The best queue's head, where nothing keeps it from being sent, starts. -/
theorem select_starts {s : State} {e q : Nat} (n : Nat) {x : QEntry} {rest : List QEntry} (hq : q < 8) (hb : s.best e = 8 * 2 + q + 1)
    (hx : s.queue e q = x :: rest) (hl : s.linkFails x.fid = false) (hd : s.dequeueDrop e q x.fid = []) (hw : s.bankToWake x.fid = none) :
    s.select e (n + 1) = s.startTx e q x.fid := by
  have hm : (8 * 2 + q + 1 - 1) % 8 = q := by omega
  rw [State.select]
  simp only [hb, hm, hx, hl, hd, hw]
  rfl

/-- A queue's head has left for the wire. -/
def State.started (u : State) (e q : Nat) (rest : List QEntry) (c : Sending) (f : SentFrame) : State :=
  ((u.setQueue e q rest).setCur e (some c)).setSent e (some f)

theorem cur_started (u : State) (e q : Nat) (rest : List QEntry) (c : Sending) (f : SentFrame) (d : Nat) :
    (u.started e q rest c f).cur d = if d = e then some c else u.cur d :=
  cur_setCur (u.setQueue e q rest) e d (some c)

theorem queue_started (u : State) (e q : Nat) (rest : List QEntry) (c : Sending) (f : SentFrame) (k : Nat) :
    (u.started e q rest c f).queue e k = (u.setQueue e q rest).queue e k := rfl

theorem regs_started (u : State) (e q : Nat) (rest : List QEntry) (c : Sending) (f : SentFrame) : (u.started e q rest c f).regs = u.regs := rfl

/-- A frame that starts at a line egress outside ROVING: it leaves its queue and is being sent. -/
theorem startTx_line {s : State} {e q : Nat} {x : QEntry} {rest : List QEntry} (he : e < 96) (hs : s.pst e ≠ 4) (hx : s.queue e q = x :: rest) :
    s.startTx e q x.fid = (s.shDebit e q (s.frameLen x.fid)).started e q rest { q := q, fid := x.fid, at_ := x.at_ } (s.sentAs e q x.fid) := by
  have hq : (s.shDebit e q (s.frameLen x.fid)).queue e q = x :: rest :=
    (shDebit_frame (fun t => t.queue e q) (fun _ _ _ _ => rfl) s e q _).trans hx
  have hl : isLine e = true := by simp [isLine, he]
  simp only [State.startTx, hs, and_false, if_false, hq, List.drop_succ_cons, List.drop_zero, hl]
  exact if_neg (by simp)

theorem txSelect_line {s : State} {e : EgrNo} {q : Nat} {x : QEntry} {rest : List QEntry} (he : e.val < 96) (hs : s.pst e ≠ 4)
    (ht : s.txReady e = true) (hh : ∀ q, q < 8 → s.tm.held.get (fun _ => 0) (8 * e.val + q) = 0) (hq : q < 8) (hx : s.queue e q = x :: rest)
    (hg : s.gateTest e q = .start) (hc : s.shClass e q = 2) (hup : ∀ k, q < k → k < 8 → s.queue e k = []) (hl : s.linkFails x.fid = false)
    (hd : s.dequeueDrop e q x.fid = []) (hw : s.bankToWake x.fid = none) : execTxSelect e s = .next (s.startTx e q x.fid) := by
  have hcl : s.qClass e q = 2 := (qClass_line he hs hx).trans hc
  have hsel : ((s.markHeld e).markCredit e).select e (s.queued e + 1) = s.startTx e q x.fid := by
    rw [markHeld_eq hq hcl hup hg, markCredit_line s he, select_starts _ hq (best_eq hq hcl hup hg) hx hl hd hw]
  unfold execTxSelect
  rw [closeHeld_eq hh]
  dsimp only
  split
  · rw [if_neg (by omega), if_pos ht, hsel]
  · rw [if_pos ht, hsel]

/-! ### The end of a frame (R50, R417) -/

/-- A frame of a queue has left egress e: its copy is gone, and its queue counts it. -/
def State.txCounted (s : State) (e : Nat) (c : Sending) : State :=
  ((((s.setCur e none).txOver e c.q).dropCopy c.fid).bump (Reg.TM_QDEQ e c.q)).addCnt (Reg.TM_QBYTES e c.q) (s.frameLen c.fid)

theorem txCounted_frame {β : Type} (g : State → β) (hs : ∀ s e q x, g (s.setShp e q x) = g s) (hf : ∀ s fid x, g (s.setFrame fid x) = g s)
    (hr : ∀ s a v, g (s.setReg a v) = g s) (s : State) (e : Nat) (c : Sending) : g (s.txCounted e c) = g (s.setCur e none) := by
  rw [State.txCounted, addCnt_eq, hr, bump_eq, hr, dropCopy_frame g hf, txOver_frame g hs]

theorem cur_txCounted (s : State) (e : Nat) (c : Sending) : (s.txCounted e c).cur e = none :=
  (txCounted_frame (fun t => t.cur e) (fun _ _ _ _ => rfl) (fun _ _ _ => rfl) (fun _ _ _ => rfl) s e c).trans (cur_setCur_same s e none)

theorem queue_txCounted (s : State) (e : Nat) (c : Sending) (k j : Nat) : (s.txCounted e c).queue k j = s.queue k j :=
  txCounted_frame (fun t => t.queue k j) (fun _ _ _ _ => rfl) (fun _ _ _ => rfl) (fun _ _ _ => rfl) s e c

theorem reg_txCounted (s : State) (e : Nat) (c : Sending) (a : Nat) : (s.txCounted e c).reg a =
    if a = Reg.TM_QBYTES e c.q then s.reg a + BitVec.ofNat 48 (s.frameLen c.fid) else if a = Reg.TM_QDEQ e c.q then s.reg a + 1 else s.reg a := by
  have hu : ∀ b, (((s.setCur e none).txOver e c.q).dropCopy c.fid).reg b = s.reg b := fun b =>
    (dropCopy_frame (fun t => t.reg b) (fun _ _ _ => rfl) _ _).trans (txOver_frame (fun t => t.reg b) (fun _ _ _ _ => rfl) _ _ _)
  have hn : Reg.TM_QBYTES e c.q ≠ Reg.TM_QDEQ e c.q := by unfold Reg.TM_QBYTES Reg.TM_QDEQ; omega
  rw [State.txCounted, addCnt_eq, reg_setReg]
  split
  · rename_i h
    rw [h, reg_bump_other _ hn, hu]
  · rw [bump_eq, reg_setReg]
    split
    · rename_i h
      rw [h, hu]
    · exact hu a

theorem laneSent_frame {β : Type} (g : State → β) (hl : ∀ s n x, g (s.setLane n x) = g s) (s : State) (n : Nat) :
    g (s.laneSent n) = g (s.bump (Reg.HL_TXFRM n)) := by
  unfold State.laneSent
  dsimp only
  split
  · exact hl _ _ _
  · rfl

/-- R50, R305: a management reply counts at its lane alone. -/
theorem frameTxDone_mgmt {s : State} {e : EgrNo} {c : Sending} (hc : s.cur e = some c) (hm : c.mgmt = true) :
    nextWith (execFrameTxDone e s) (fun t =>
      t.cur e = none ∧ t.reg (Reg.HL_TXFRM (e.val - 96)) = s.reg (Reg.HL_TXFRM (e.val - 96)) + 1 ∧
      (∀ b, b ≠ Reg.HL_TXFRM (e.val - 96) → t.reg b = s.reg b) ∧ (∀ k j, t.queue k j = s.queue k j)) := by
  refine ⟨(s.setCur e none).laneSent (e.val - 96), ?_, ?_, ?_, fun b hb => ?_, fun k j => ?_⟩
  · unfold execFrameTxDone
    rw [hc]
    exact if_pos hm
  · exact (laneSent_frame (fun t => t.cur e) (fun _ _ _ => rfl) _ _).trans (cur_setCur_same s e none)
  · exact (laneSent_frame (fun t => t.reg _) (fun _ _ _ => rfl) _ _).trans (reg_bump_same _ _)
  · exact (laneSent_frame (fun t => t.reg b) (fun _ _ _ => rfl) _ _).trans (reg_bump_other _ hb)
  · exact laneSent_frame (fun t => t.queue k j) (fun _ _ _ => rfl) _ _

/-- What a line port makes of its frame's end beside the counts of the queue. -/
def State.lineSent (s u : State) (e : Nat) : State :=
  let s3 := u.bump (Reg.PORT_TXFRM e)
  let s3 := if s.pmode e = 1 ∧ s.plcaLive e = false then (s3.csmaFree e).updPort e (fun x => { x with csTries := 0 }) else s3
  let s4 := if s.plcaOwn e then (s3.setRb (Reg.PORT_PLCASEEN e) (s.plcaId e % 32) true).plcaSent e else s3
  if s.pst e = stRoving then s4.bump (Reg.PORT_ROVTXFRM e) else s4

theorem plcaSent_frame {β : Type} (g : State → β) (hp : ∀ s p x, g (s.setPort p x) = g s) (s : State) (p : Nat) : g (s.plcaSent p) = g s := by
  unfold State.plcaSent
  split
  · split <;> exact hp _ _ _
  · rfl

theorem lineSent_frame {β : Type} (g : State → β) (hp : ∀ s p x, g (s.setPort p x) = g s) {e : Nat} (hr : ∀ s a v,
    a = Reg.PORT_TXFRM e ∨ a = Reg.PORT_PLCASEEN e ∨ a = Reg.PORT_ROVTXFRM e → g (s.setReg a v) = g s) (s u : State) : g (s.lineSent u e) = g u := by
  have h3 : g (if s.pmode e = 1 ∧ s.plcaLive e = false then ((u.bump (Reg.PORT_TXFRM e)).csmaFree e).updPort e (fun x => { x with csTries := 0 })
      else u.bump (Reg.PORT_TXFRM e)) = g u := by
    split
    · exact (hp _ _ _).trans ((hp _ _ _).trans (hr _ _ _ (.inl rfl)))
    · exact hr _ _ _ (.inl rfl)
  unfold State.lineSent
  extract_lets s3 s3' s4
  have h4 : g s4 = g u := by
    unfold s4
    split
    · exact (plcaSent_frame g hp _ _).trans ((hr _ _ _ (.inr (.inl rfl))).trans h3)
    · exact h3
  split
  · exact (hr _ _ _ (.inr (.inr rfl))).trans h4
  · exact h4

theorem reg_lineSent_other (s u : State) (e : Nat) {a : Nat} (h1 : a ≠ Reg.PORT_TXFRM e) (h2 : a ≠ Reg.PORT_PLCASEEN e)
    (h3 : a ≠ Reg.PORT_ROVTXFRM e) :
    (s.lineSent u e).reg a = u.reg a :=
  lineSent_frame (fun t => t.reg a) (fun _ _ _ => rfl)
    (fun _ b v hb => reg_setReg_other _ v (by rcases hb with rfl | rfl | rfl <;> assumption)) s u

theorem rb_setRb_same (s : State) (a : Nat) {i : Nat} (b : Bool) (h : i < 48) : (s.setRb a i b).rb a i = b := by
  rw [State.rb, State.setRb, State.setRf, reg_setReg_same, bitOf_putBit _ _ _ h]

/-- A line port counts its frame. -/
theorem txfrm_lineSent (s u : State) (e : Nat) : (s.lineSent u e).reg (Reg.PORT_TXFRM e) = u.reg (Reg.PORT_TXFRM e) + 1 := by
  have hp : Reg.PORT_TXFRM e ≠ Reg.PORT_PLCASEEN e := by unfold Reg.PORT_TXFRM Reg.PORT_PLCASEEN; omega
  have hr : Reg.PORT_TXFRM e ≠ Reg.PORT_ROVTXFRM e := by unfold Reg.PORT_TXFRM Reg.PORT_ROVTXFRM; omega
  have h3 : ∀ t : State,
      (if s.pmode e = 1 ∧ s.plcaLive e = false then (t.csmaFree e).updPort e (fun x => { x with csTries := 0 }) else t).regs = t.regs :=
    fun t => by split <;> rfl
  unfold State.lineSent
  extract_lets s3 s3' s4
  have h3' : s3'.reg (Reg.PORT_TXFRM e) = u.reg (Reg.PORT_TXFRM e) + 1 :=
    (congrArg (fun r => Tab.get RegMap.resetWord r (Reg.PORT_TXFRM e)) (h3 s3)).trans (reg_bump_same u _)
  have h4 : s4.reg (Reg.PORT_TXFRM e) = u.reg (Reg.PORT_TXFRM e) + 1 := by
    unfold s4
    split
    · exact (plcaSent_frame (fun t => t.reg _) (fun _ _ _ => rfl) _ _).trans ((reg_setReg_other _ _ hp).trans h3')
    · exact h3'
  split
  · exact (reg_bump_other _ hr).trans h4
  · exact h4

/-- A port that sent in its own transmit opportunity has seen its node. -/
theorem plcaSeen_lineSent {s : State} (u : State) {e : Nat} (h : s.plcaOwn e = true) :
    (s.lineSent u e).rb (Reg.PORT_PLCASEEN e) (s.plcaId e % 32) = true := by
  have hr : Reg.PORT_PLCASEEN e ≠ Reg.PORT_ROVTXFRM e := by unfold Reg.PORT_PLCASEEN Reg.PORT_ROVTXFRM; omega
  unfold State.lineSent
  extract_lets s3 s3' s4
  have h4 : s4.rb (Reg.PORT_PLCASEEN e) (s.plcaId e % 32) = true := by
    unfold s4
    rw [if_pos h, plcaSent_frame (fun t => t.rb _ _) (fun _ _ _ => rfl)]
    exact rb_setRb_same _ _ _ (by omega)
  split
  · exact (congrArg (bitOf · _) (reg_bump_other _ hr)).trans h4
  · exact h4

/-- What a lane makes of its frame's end, and the count of the distribution's own exports. -/
def State.laneDone (s u : State) (e : Nat) (fid : Nat) : State :=
  if s.srcOf fid = 113 then (u.laneSent (e - 96)).bump Reg.DST_EXPFRM else u.laneSent (e - 96)

theorem laneDone_frame {β : Type} (g : State → β) (hl : ∀ s n x, g (s.setLane n x) = g s) {e : Nat}
    (hx : ∀ s : State, g (s.bump Reg.DST_EXPFRM) = g s) (s u : State) (fid : Nat) :
    g (s.laneDone u e fid) = g (u.bump (Reg.HL_TXFRM (e - 96))) := by
  unfold State.laneDone
  split
  · exact (hx _).trans (laneSent_frame g hl u _)
  · exact laneSent_frame g hl u _

/-- What looks at no register sees nothing of a lane's counts. -/
theorem laneDone_keeps {β : Type} (g : State → β) (hl : ∀ s n x, g (s.setLane n x) = g s) (hr : ∀ s a v, g (s.setReg a v) = g s)
    (s u : State) (e fid : Nat) : g (s.laneDone u e fid) = g u :=
  (laneDone_frame g hl (fun _ => hr _ _ _) s u fid).trans (hr _ _ _)

theorem execFrameTxDone_queue {s : State} {e : EgrNo} {c : Sending} (hc : s.cur e = some c) (hm : c.mgmt = false) :
    execFrameTxDone e s = .next (if isLine e then s.lineSent (s.txCounted e c) e else s.laneDone (s.txCounted e c) e c.fid) := by
  unfold execFrameTxDone
  rw [hc]
  dsimp only
  rw [if_neg (by simp [hm])]
  split <;> rfl

/-- R50, R417: a frame of a queue counts at its queue and at its port. -/
theorem frameTxDone_queue {s : State} {e : EgrNo} {c : Sending} (hc : s.cur e = some c) (hm : c.mgmt = false) :
    nextWith (execFrameTxDone e s) (fun t =>
      t.cur e = none ∧ t.reg (Reg.TM_QDEQ e c.q) = s.reg (Reg.TM_QDEQ e c.q) + 1 ∧
      t.reg (Reg.TM_QBYTES e c.q) = s.reg (Reg.TM_QBYTES e c.q) + BitVec.ofNat 48 (s.frameLen c.fid) ∧
      (e.val < 96 → t.reg (Reg.PORT_TXFRM e) = s.reg (Reg.PORT_TXFRM e) + 1 ∧
        (s.plcaOwn e = true → t.rb (Reg.PORT_PLCASEEN e) (s.plcaId e % 32) = true)) ∧
      (96 ≤ e.val → t.reg (Reg.HL_TXFRM (e.val - 96)) = s.reg (Reg.HL_TXFRM (e.val - 96)) + 1) ∧
      (∀ k j, t.queue k j = s.queue k j)) := by
  have hdq : (s.txCounted e c).reg (Reg.TM_QDEQ e c.q) = s.reg (Reg.TM_QDEQ e c.q) + 1 := by
    rw [reg_txCounted, if_neg (by unfold Reg.TM_QDEQ Reg.TM_QBYTES; omega), if_pos rfl]
  have hby : (s.txCounted e c).reg (Reg.TM_QBYTES e c.q) = s.reg (Reg.TM_QBYTES e c.q) + BitVec.ofNat 48 (s.frameLen c.fid) := by
    rw [reg_txCounted, if_pos rfl]
  rw [execFrameTxDone_queue hc hm]
  by_cases he : e.val < 96
  · rw [if_pos (by simp [isLine, he])]
    have hreg : ∀ a, 0xB0100 ≤ a → (s.lineSent (s.txCounted e c) e).reg a = (s.txCounted e c).reg a := fun a ha =>
      reg_lineSent_other _ _ _ (by unfold Reg.PORT_TXFRM; omega) (by unfold Reg.PORT_PLCASEEN; omega) (by unfold Reg.PORT_ROVTXFRM; omega)
    have htx : (s.txCounted e c).reg (Reg.PORT_TXFRM e) = s.reg (Reg.PORT_TXFRM e) := by
      rw [reg_txCounted, if_neg (by unfold Reg.PORT_TXFRM Reg.TM_QBYTES; omega), if_neg (by unfold Reg.PORT_TXFRM Reg.TM_QDEQ; omega)]
    refine ⟨_, rfl, ?_, (hreg _ (by unfold Reg.TM_QDEQ; omega)).trans hdq, (hreg _ (by unfold Reg.TM_QBYTES; omega)).trans hby,
      fun _ => ⟨(txfrm_lineSent _ _ _).trans (congrArg (· + 1) htx), plcaSeen_lineSent _⟩, fun h => absurd he (by omega), fun k j => ?_⟩
    · exact (lineSent_frame (fun t => t.cur e) (fun _ _ _ => rfl) (fun _ _ _ _ => rfl) _ _).trans (cur_txCounted s e c)
    · exact (lineSent_frame (e := e) (fun t => t.queue k j) (fun _ _ _ => rfl) (fun _ _ _ _ => rfl) _ _).trans (queue_txCounted s e c k j)
  · rw [if_neg (by simp [isLine, he])]
    have hlt := e.isLt
    have hreg : ∀ a, a ≠ Reg.DST_EXPFRM → (s.laneDone (s.txCounted e c) e c.fid).reg a = ((s.txCounted e c).bump (Reg.HL_TXFRM (e.val - 96))).reg a :=
      fun a ha => laneDone_frame (fun t => t.reg a) (fun _ _ _ => rfl) (fun _ => reg_bump_other _ ha) _ _ _
    have hq : ∀ a, 0xB0100 ≤ a → a ≠ Reg.DST_EXPFRM → (s.laneDone (s.txCounted e c) e c.fid).reg a = (s.txCounted e c).reg a := fun a ha hn =>
      (hreg a hn).trans (reg_bump_other _ (by unfold Reg.HL_TXFRM; omega))
    have htx : (s.txCounted e c).reg (Reg.HL_TXFRM (e.val - 96)) = s.reg (Reg.HL_TXFRM (e.val - 96)) := by
      rw [reg_txCounted, if_neg (by unfold Reg.HL_TXFRM Reg.TM_QBYTES; omega), if_neg (by unfold Reg.HL_TXFRM Reg.TM_QDEQ; omega)]
    refine ⟨_, rfl, ?_, (hq _ (by unfold Reg.TM_QDEQ; omega) (by unfold Reg.TM_QDEQ Reg.DST_EXPFRM; omega)).trans hdq,
      (hq _ (by unfold Reg.TM_QBYTES; omega) (by unfold Reg.TM_QBYTES Reg.DST_EXPFRM; omega)).trans hby, fun h => absurd h he, fun _ => ?_, fun k j => ?_⟩
    · exact (laneDone_keeps (fun t => t.cur e) (fun _ _ _ => rfl) (fun _ _ _ => rfl) _ _ _ _).trans (cur_txCounted s e c)
    · rw [hreg _ (by unfold Reg.HL_TXFRM Reg.DST_EXPFRM; omega), reg_bump_same, htx]
    · exact (laneDone_keeps (fun t => t.queue k j) (fun _ _ _ => rfl) (fun _ _ _ => rfl) _ _ _ _).trans (queue_txCounted s e c k j)

end Sys2Proof.Machine

namespace Sys2Proof
open Machine

/-- Settles O43: nothing above the queue is eligible, so its head is the best and starts; a frame's end goes
through the counts of its queue, then of its port. -/
theorem selectionAndTransmission : Obligations.SelectionAndTransmission := by
  intro e s
  refine ⟨fun he hs ht hh q x rest hq hx hg hc hup hl hd hw => ?_, fun c hc hm _ => frameTxDone_mgmt hc hm, fun c hc hm => frameTxDone_queue hc hm⟩
  refine ⟨_, (txSelect_line he hs ht hh hq hx hg hc hup hl hd hw).trans (congrArg _ (startTx_line he hs hx)), ?_, ?_,
    fun k _ hk => ?_, fun d hd => ?_, ?_⟩
  · rw [cur_started, if_pos rfl]
  · rw [queue_started, queue_setQueue_same]
  · rw [queue_started, queue_setQueue_other _ _ hk]
    exact shDebit_frame (fun t => t.queue e k) (fun _ _ _ _ => rfl) _ _ _ _
  · rw [cur_started, if_neg hd]
    exact shDebit_frame (fun t => t.cur d) (fun _ _ _ _ => rfl) _ _ _ _
  · rw [regs_started]
    exact shDebit_frame (fun t => t.regs) (fun _ _ _ _ => rfl) _ _ _ _

end Sys2Proof
end

section
/-! PROOF. The service of fault events (O56): what an event leaves in the collector, the port of an isolated source, recovery, and the scrubber. -/

namespace Sys2Proof.Machine

/-! ### The event that waits alone -/

/-- With no self-test running, the collector serves the one event that waits. -/
theorem faultEvent_single {s : State} {e : Ev} (hr : s.rootUp = true) (hq : s.flt.queue = [e]) (hl : s.flt.latch = []) (hb : s.bist.cur = none) :
    execFaultEvent s = .next ((s.setFlt { s.flt with queue := [], latch := [] }).serve e) := by
  have hn : s.nextEvent = some e := by simp [State.nextEvent, State.waitingEvents, hq, hl]
  have ht : s.takeEvent e = s.setFlt { s.flt with queue := [], latch := [] } := by simp [State.takeEvent, hq, hl]
  have hh : s.testHit e = false := by simp [State.testHit, hb]
  unfold execFaultEvent
  rw [if_pos hr, hn]
  simp [ht, hh]

theorem serve_suppressed {s : State} {e : Ev} (h : s.codeEn e.code = false) : s.serve e = s.bump Reg.FLT_SUPPCNT := if_pos h

theorem serve_repeat {s : State} {e : Ev} (h : s.codeEn e.code = true) (hr : s.isRepeat e = true) :
    s.serve e = (s.setFsrc e.src ((s.fsrc e.src).saw e)).bump Reg.FLT_REPEATCNT := by
  rw [State.serve, if_neg (by simp [h]), if_pos hr]

/-! ### A recorded event (R362) -/

/-- The severity with which an event is served: a stop of the device itself becomes a notice (R360). -/
def State.servedSev (s : State) (e : Ev) : Nat := if 2 ≤ s.codeSev e.code ∧ s.downgraded e.src = true then 1 else s.codeSev e.code

/-- What an event of a severity makes of its source. -/
def FSrc.struck (x : FSrc) (e : Ev) (sev : Nat) : FSrc :=
  if sev = 0 then x.saw e else { x.saw e with st := 1, sev := max x.sev sev, code := if x.st = 0 then e.code else x.code }

/-- An event's own records: the count, the history and the source. -/
def State.logged (s : State) (e : Ev) (sev : Nat) : State :=
  ((s.bump Reg.FLT_EVCNT).record (evRec e sev)).setFsrc e.src ((s.fsrc e.src).struck e sev)

/-- The marks of a fault: FLT_EVSEQ, and the pulse of FAULT_N from DEGRADE up. -/
def State.marked (s : State) (sev : Nat) : State :=
  let s3 := if sev = 0 then s else s.bump Reg.FLT_EVSEQ
  if 2 ≤ sev then s3.setFlt { s3.flt with pulse := true, hold := false } else s3

theorem serve_fresh {s : State} {e : Ev} (h : s.codeEn e.code = true) (hx : s.fsrc e.src = {}) :
    s.serve e = (((s.logged e (s.servedSev e)).marked (s.servedSev e)).react e.src (s.servedSev e) e.code).faultTrigger e.src (s.servedSev e) := by
  have hr : s.isRepeat e = false := by simp [State.isRepeat, hx]
  rw [State.serve, if_neg (by simp [h]), if_neg (by simp [hr]), if_neg (by simp [hx])]
  simp only [Bool.and_eq_true, decide_eq_true_eq]
  rfl

theorem struck_fresh (e : Ev) (sev : Nat) :
    (FSrc.struck {} e sev).seen = [(e.code, e.ns)] ∧ (FSrc.struck {} e sev).st = (if sev = 0 then 0 else 1) ∧ (FSrc.struck {} e sev).sev = sev := by
  unfold FSrc.struck
  split
  · rename_i h
    exact ⟨rfl, rfl, h.symm⟩
  · exact ⟨rfl, rfl, Nat.zero_max sev⟩

/-- With room in the history the record enters it. -/
theorem logged_room {s : State} (e : Ev) (sev : Nat) (h : s.flt.hist.length < 16) : ∃ f, s.logged e sev = (s.bump Reg.FLT_EVCNT).setFlt f ∧
    f.hist = s.flt.hist ++ [evRec e sev] ∧ (∀ t : State, (t.setFlt f).fsrc e.src = (s.fsrc e.src).struck e sev) := by
  have hr : (s.bump Reg.FLT_EVCNT).record (evRec e sev) =
      (s.bump Reg.FLT_EVCNT).setFlt { s.flt with first := s.flt.first.or (some (evRec e sev)), hist := s.flt.hist ++ [evRec e sev] } := if_pos h
  rw [State.logged, hr]
  exact ⟨_, rfl, rfl, fun _ => Tab.get_set_same _ _ _ _⟩

theorem marked_frame {β : Type} (g : State → β) (hf : ∀ s f, g (s.setFlt f) = g s) (hr : ∀ s v, g (s.setReg Reg.FLT_EVSEQ v) = g s)
    (s : State) (sev : Nat) :
    g (s.marked sev) = g s := by
  unfold State.marked
  extract_lets s3
  have h3 : g s3 = g s := by
    unfold s3
    split
    · rfl
    · exact hr _ _
  split
  · exact (hf _ _).trans h3
  · exact h3

/-- The marks leave the history and the sources. -/
theorem marked_flt (s : State) (sev : Nat) : (s.marked sev).flt.hist = s.flt.hist ∧ (s.marked sev).flt.src = s.flt.src := by
  unfold State.marked
  dsimp only
  repeat' split
  all_goals exact ⟨rfl, rfl⟩

theorem marked_pulse (s : State) {sev : Nat} (h : 2 ≤ sev) : (s.marked sev).flt.pulse = true := by
  unfold State.marked
  dsimp only
  rw [if_pos h]
  rfl

theorem evseq_marked (s : State) (sev : Nat) : (s.marked sev).reg Reg.FLT_EVSEQ = if sev = 0 then s.reg Reg.FLT_EVSEQ else s.reg Reg.FLT_EVSEQ + 1 := by
  unfold State.marked
  split
  · rename_i h
    rw [if_neg (by omega)]
  · dsimp only
    split
    · exact (reg_setFlt _ _ _).trans (reg_bump_same s _)
    · exact reg_bump_same s _

/-! ### The reaction on a port (R238, R360) -/

theorem react_zero (s : State) (src code : Nat) : s.react src 0 code = s := if_pos (by decide)
theorem faultTrigger_zero (s : State) (src : Nat) : s.faultTrigger src 0 = s := if_pos rfl

@[simp] theorem safeQuietAll_links (s : State) (src : Nat) : (s.safeQuietAll src).links = s.links := forAll_links _ (fun t p => updPort_links t p _) _ s

theorem faultTrigger_links (s : State) {p : Nat} (sev : Nat) (h : p < 96) : (s.faultTrigger p sev).links = s.links := by
  unfold State.faultTrigger
  rw [if_pos (show p < 0x60 from h)]
  repeat' split
  · rfl
  · exact dstTrigger_links s _ _ _
  · rfl

/-- The links of a state show the port's state. -/
theorem pst_of_links {s t : State} (h : t.links = s.links) (p : PortNo) : t.pst p = s.pst p :=
  congrArg (fld · 31 28) (reg_state_of_links (congrArg Prod.fst h) p)

/-- A port out of service, unless it is DISABLED, stands in FAULT. -/
theorem pst_portFault {s : State} {p : PortNo} (h : s.pst p ≠ 0) : (s.portFault p).pst p = 7 := by
  unfold State.portFault
  split
  · rename_i hd
    exact hd.resolve_left h
  · extract_lets s0 s1 s2
    exact (pst_of_links (updPort_links _ _ _) p).trans (entered_enter s2 p (by decide)).1

theorem react_port {s : State} {p : PortNo} {sev : Nat} (code : Nat) (hs : 2 ≤ sev) (hd : (s.dom (quadOf p)).st ≠ 2) (hp : s.pst p ≠ 0) :
    (s.react p sev code).pst p = 7 := by
  have hlt : p.val < 0x60 := p.isLt
  have hu : s.unitOff p = false := by simp [State.unitOff, sourceDomain, hlt, hd]
  have hi : s.isolate p = s.portFault p := if_pos hlt
  unfold State.react
  rw [if_neg (by omega), if_neg (by simp [hu])]
  dsimp only
  rw [hi]
  split
  · exact (pst_of_links (safeQuietAll_links _ _) p).trans (pst_portFault hp)
  · exact pst_portFault hp

/-- R362, R364: an event of a source without faults. -/
theorem serve_fresh_effect {s : State} {e : Ev} (hc : s.codeEn e.code = true) (hx : s.fsrc e.src = {}) (hh : s.flt.hist.length < 16) :
    let sev := s.servedSev e
    let t := s.serve e
    t.reg Reg.FLT_EVCNT = s.reg Reg.FLT_EVCNT + 1 ∧ t.flt.hist = s.flt.hist ++ [evRec e sev] ∧
      (t.fsrc e.src).seen = [(e.code, e.ns)] ∧ (t.fsrc e.src).st = (if sev = 0 then 0 else 1) ∧ (t.fsrc e.src).sev = sev ∧
      t.reg Reg.FLT_EVSEQ = (if sev = 0 then s.reg Reg.FLT_EVSEQ else s.reg Reg.FLT_EVSEQ + 1) ∧
      (2 ≤ sev → t.flt.pulse = true) ∧ (sev = 0 → t.ports = s.ports) ∧
      (∀ p : PortNo, e.src = p.val → 2 ≤ sev → (s.dom (quadOf p)).st ≠ 2 → s.pst p ≠ 0 → t.pst p = 7) := by
  intro sev t
  obtain ⟨f, hf, hhist, hsrc⟩ := logged_room e sev hh
  have ht : t = (((s.logged e sev).marked sev).react e.src sev e.code).faultTrigger e.src sev := serve_fresh hc hx
  have hcoll : t.coll = ((s.logged e sev).marked sev).coll := by rw [ht, faultTrigger_coll, react_coll]
  have hfs : t.fsrc e.src = FSrc.struck {} e sev := by
    rw [fsrc_of_coll hcoll, ← hx, ← hsrc (s.bump Reg.FLT_EVCNT), ← hf]
    exact congrArg (fun x => Tab.get (fun _ => ({} : FSrc)) x e.src) (marked_flt _ _).2
  obtain ⟨hseen, hst, hsev⟩ := struck_fresh e sev
  refine ⟨?_, ?_, hfs ▸ hseen, hfs ▸ hst, hfs ▸ hsev, ?_, fun h2 => ?_, fun h0 => ?_, fun p hp h2 hd hps => ?_⟩
  · rw [reg_of_coll hcoll (.inl rfl), marked_frame (fun t => t.reg Reg.FLT_EVCNT) (fun _ _ => rfl) (fun t v => reg_setReg_other t v (by decide)), hf,
      reg_setFlt, reg_bump_same]
  · rw [hist_of_coll hcoll, (marked_flt _ _).1, hf]
    exact hhist
  · rw [reg_of_coll hcoll (.inr (.inl rfl)), evseq_marked, hf, reg_setFlt, reg_bump_other _ (by decide)]
  · rw [pulse_of_coll hcoll]
    exact marked_pulse _ h2
  · rw [ht, h0, faultTrigger_zero, react_zero, ← h0, marked_frame State.ports (fun _ _ => rfl) (fun _ _ => rfl), hf]
    rfl
  · have hdom : ((s.logged e sev).marked sev).dom (quadOf p) = s.dom (quadOf p) := by
      rw [marked_frame (fun t => t.dom (quadOf p)) (fun _ _ => rfl) (fun _ _ => rfl), hf]
      rfl
    have hpst : ((s.logged e sev).marked sev).pst p = s.pst p := by
      have hne : Reg.PORT_STATE p ≠ Reg.FLT_EVSEQ ∧ Reg.PORT_STATE p ≠ Reg.FLT_EVCNT := by
        unfold Reg.PORT_STATE Reg.FLT_EVSEQ Reg.FLT_EVCNT
        omega
      refine congrArg (fld · 31 28) ?_
      rw [marked_frame (fun t => t.reg (Reg.PORT_STATE p)) (fun _ _ => rfl) (fun t v => reg_setReg_other t v hne.1), hf, reg_setFlt, reg_bump_other _ hne.2]
    rw [ht, hp, pst_of_links (faultTrigger_links _ sev p.isLt) p]
    exact react_port _ h2 (hdom ▸ hd) (hpst ▸ hps)

/-! ### Recovery (R363, R364) -/

@[simp] theorem relQuiet_links (s : State) (p : Nat) : (s.relQuiet p).links = s.links := by simp [State.relQuiet]

/-- A source that returns keeps its recoveries alone. -/
theorem fsrc_sourceReturn (s : State) (k : Nat) (recs : List Nat) :
    (s.sourceReturn k recs).fsrc k = { recs := recs, total := min 65535 ((s.fsrc k).total + 1) } := by
  have hc : (s.sourceReturn k recs).coll = (s.setFsrc k { recs := recs, total := min 65535 ((s.fsrc k).total + 1) }).coll := by
    simp only [State.sourceReturn, forAll_coll, updPort_coll, unitReturn_coll, implies_true]
  rw [fsrc_of_coll hc, fsrc_setFsrc_same]

/-- A port in FAULT whose source returns goes to LISTEN. -/
theorem pst_sourceReturn {s : State} {p : PortNo} (recs : List Nat) (h : s.pst p = 7) : (s.sourceReturn p recs).pst p = 1 := by
  have hlt : p.val < 0x60 := p.isLt
  unfold State.sourceReturn
  extract_lets x s1
  have h1 : s1.pst p = stFault := h
  have hu : s1.unitReturn p = (s1.toListen p).relQuiet p := by
    rw [State.unitReturn, if_pos hlt, if_pos h1]
  rw [pst_of_links (forAll_links _ (fun t q => updPort_links t q _) _ _), hu, pst_of_links (relQuiet_links _ _)]
  exact (entered_toListen s1 p).1

/-- R366: after its width FAULT_N follows HOLD. -/
theorem faultNWidthExpire_pulse {s : State} (hp : s.flt.pulse = true) :
    execFaultNWidthExpire s = .next (s.setFlt { s.flt with pulse := false, hold := s.rb Reg.FLT_PIN 47 }) := by
  rw [execFaultNWidthExpire, if_pos hp]

/-! ### The scrubber (R48, R54) -/

theorem bumpSat_frame {β : Type} (g : State → β) {a : Nat} (hr : ∀ s v, g (s.setReg a v) = g s) (s : State) : g (s.bumpSat a) = g s := by
  unfold State.bumpSat
  split
  · rfl
  · exact hr _ _

theorem scrubPass_clean {s : State} (hr : s.rootUp = true) (hb : s.badpar = []) : execScrubPass s = .next (s.bump Reg.ID_SCRUBPASS) := by
  rw [execScrubPass, if_pos hr, hb, forAll]

theorem scrubPass_single {s : State} {a : Nat} (hr : s.rootUp = true) (hb : s.badpar = [(a, true)]) (hs : s.scrubs a = true) :
    execScrubPass s = .next ((s.parityFault a).bump Reg.ID_SCRUBPASS) := by
  unfold execScrubPass
  rw [if_pos hr, hb, forAll, forAll, if_pos ⟨rfl, hs⟩]

end Sys2Proof.Machine

namespace Sys2Proof
open Machine

/-- Settles O56: the records are made before the reaction, and neither it nor the distaff's trigger touches them. -/
theorem faultService : Obligations.FaultService := by
  intro s
  refine ⟨fun e hr hq hl hb => ⟨fun hc => ?_, fun hc hrep => ?_, fun hc hx hh => ?_⟩, fun src => ⟨fun h1 hw => ?_, fun h1 hw => ?_, fun h1 => ?_⟩,
    fun hp => ?_, fun hr hb => ?_, fun a hr hb hs => ?_⟩
  · exact ⟨_, (faultEvent_single hr hq hl hb).trans (congrArg _ (serve_suppressed hc)), reg_bump_same _ _, rfl, rfl, rfl⟩
  · exact ⟨_, (faultEvent_single hr hq hl hb).trans (congrArg _ (serve_repeat hc hrep)), reg_bump_same _ _, reg_bump_other _ (by decide), rfl, rfl, rfl⟩
  · exact ⟨_, faultEvent_single hr hq hl hb, serve_fresh_effect (s := s.setFlt { s.flt with queue := [], latch := [] }) hc hx hh⟩
  · exact ⟨_, (if_pos h1).trans (if_pos hw), fsrc_setFsrc_same _ _ _, rfl, rfl⟩
  · refine ⟨_, (if_pos h1).trans (if_neg (Nat.not_le.2 hw)), fsrc_sourceReturn _ _ _, fun p hp h7 => ?_⟩
    rw [hp]
    exact pst_sourceReturn _ h7
  · exact ⟨_, if_neg h1, fsrc_setFsrc_same _ _ _, rfl⟩
  · exact ⟨_, faultNWidthExpire_pulse hp, rfl, rfl⟩
  · exact ⟨_, scrubPass_clean hr hb, reg_bump_same _ _, rfl⟩
  · refine ⟨_, scrubPass_single hr hb hs, ?_, fun hq hl => ?_⟩
    · rw [reg_bump_other _ (by decide), State.parityFault, reg_setReg_same]
    · refine Eq.trans (b := (s.raise 0x0F0 0x30 a).flt.queue) ?_ ?_
      · exact bumpSat_frame (fun t => t.flt.queue) (fun _ _ => rfl) _
      · rw [raise_queued _ _ _ _ hq hl]
        rfl

end Sys2Proof
end

section
/-! PROOF. Frames from the host (O47): the operations that leave the lanes' counts of frames received, up to the ingress pipeline. -/

namespace Sys2Proof.Machine

/-! ### HL_RXFRM of the lanes -/

def heardOf (r : Tab Word) : LaneNo → Word := fun n => Tab.get RegMap.resetWord r (Reg.HL_RXFRM n)

/-- The counts of frames received of all lanes. -/
def State.heard (s : State) : LaneNo → Word := heardOf s.regs

def RxCount (a : Nat) : Prop := ∃ n : LaneNo, a = Reg.HL_RXFRM n

theorem heard_congr {s t : State} (h : ∀ a, RxCount a → t.reg a = s.reg a) : t.heard = s.heard := funext fun n => h _ ⟨n, rfl⟩

theorem reg_of_heard {s t : State} (h : t.heard = s.heard) (n : LaneNo) : t.reg (Reg.HL_RXFRM n) = s.reg (Reg.HL_RXFRM n) := congrFun h n

theorem RxCount.range {a : Nat} (h : RxCount a) : 0x80000 ≤ a ∧ a < 0x84000 ∧ a % 0x400 = 0x10 := by
  obtain ⟨n, rfl⟩ := h
  have := n.isLt
  unfold Reg.HL_RXFRM
  omega

/-- Outside the lanes' blocks, or at another place in them. -/
theorem not_rxCount {a : Nat} (h : a < 0x80000 ∨ 0x84000 ≤ a ∨ a % 0x400 ≠ 0x10) : ¬ RxCount a := fun hc => by
  have := hc.range
  omega

@[simp] theorem not_rxCount_port (p : Nat) {o : Nat} (h : o % 0x400 ≠ 0x10) : ¬ RxCount (0x10000 + 0x1000 * p + o) := not_rxCount (by omega)
@[simp] theorem not_rxCount_state (p : Nat) : ¬ RxCount (0x10000 + 0x1000 * p) := not_rxCount (by omega)
@[simp] theorem not_rxCount_stream (st o : Nat) : ¬ RxCount (0xA0000 + 16 * st + o) := not_rxCount (by omega)
@[simp] theorem not_rxCount_meter (m o : Nat) : ¬ RxCount (0x94000 + 8 * m + o) := not_rxCount (by omega)
@[simp] theorem not_rxCount_queue (e q o : Nat) : ¬ RxCount (0xB0100 + 0x800 * e + 0x40 * q + o) := not_rxCount (by omega)
@[simp] theorem not_rxCount_spn (n o : Nat) : ¬ RxCount (0x100000 + 0x100 * n + o) := not_rxCount (by omega)
@[simp] theorem not_rxCount_dst : ¬ RxCount Reg.DST_STAT ∧ ¬ RxCount Reg.DST_EVLOST ∧ ¬ RxCount Reg.TM_NOMATCH ∧ ¬ RxCount Reg.TM_SPNDROP := by
  refine ⟨?_, ?_, ?_, ?_⟩ <;> exact not_rxCount (by decide)
@[simp] theorem not_rxCount_deleg (n p : Nat) : ¬ RxCount (dgReg n p) ∧ ¬ RxCount (dwReg n p) := by
  unfold dgReg dwReg
  constructor <;> split <;> simp

/-! ### Updates of the state -/

@[simp] theorem heard_mk (pending now time setPend stepPend free regs perReq guard shadow reply waitQ inband nextReply badpar bobbin bobFree flash
    fuses csp1 boot ports lgs spns lanes rt knots tm dst clk pwr flt bist pins) :
    (State.mk pending now time setPend stepPend free regs perReq guard shadow reply waitQ inband nextReply badpar bobbin bobFree flash
      fuses csp1 boot ports lgs spns lanes rt knots tm dst clk pwr flt bist pins).heard = heardOf regs := by
  rw [State.heard]

@[simp] theorem heardOf_fold (s : State) : heardOf s.regs = s.heard := by rw [State.heard]

@[simp] theorem heard_ite (c : Prop) [Decidable c] (a b : State) : (if c then a else b).heard = if c then a.heard else b.heard :=
  apply_ite _ _ _ _

@[simp] theorem heard_ite_snd {α : Type} (c : Prop) [Decidable c] (a b : α × State) :
    (if c then a else b).2.heard = if c then a.2.heard else b.2.heard := apply_ite (fun x : α × State => x.2.heard) _ _ _

@[simp] theorem forAll_heard {α : Type} (f : State → α → State) (h : ∀ s a, (f s a).heard = s.heard) (l : List α) (s : State) :
    (forAll f l s).heard = s.heard := forAll_frame State.heard f h l s

@[simp] theorem setReg_heard {a : Nat} (s : State) (v : Word) (h : ¬ RxCount a) : (s.setReg a v).heard = s.heard :=
  heard_congr fun _ hb => reg_setReg_other s v (fun e => h (e ▸ hb))
@[simp] theorem setRf_heard {a : Nat} (s : State) (hi lo v : Nat) (h : ¬ RxCount a) : (s.setRf a hi lo v).heard = s.heard := setReg_heard s _ h
@[simp] theorem setRb_heard {a : Nat} (s : State) (i : Nat) (b : Bool) (h : ¬ RxCount a) : (s.setRb a i b).heard = s.heard := setReg_heard s _ h
@[simp] theorem addCnt_heard {a : Nat} (s : State) (n : Nat) (h : ¬ RxCount a) : (s.addCnt a n).heard = s.heard := setReg_heard s _ h
@[simp] theorem bump_heard {a : Nat} (s : State) (h : ¬ RxCount a) : (s.bump a).heard = s.heard := setReg_heard s _ h
@[simp] theorem setPort_heard (s : State) (p : Nat) (x : Port) : (s.setPort p x).heard = s.heard := by
  simp [State.setPort]
@[simp] theorem updPort_heard (s : State) (p : Nat) (f : Port → Port) : (s.updPort p f).heard = s.heard := by
  simp [State.updPort]
@[simp] theorem setSpn_heard (s : State) (n : Nat) (x : Spindle) : (s.setSpn n x).heard = s.heard := by
  simp [State.setSpn]
@[simp] theorem updSpn_heard (s : State) (n : Nat) (f : Spindle → Spindle) : (s.updSpn n f).heard = s.heard := by
  simp [State.updSpn]
@[simp] theorem setDom_heard (s : State) (d : Nat) (x : Dom) : (s.setDom d x).heard = s.heard := by
  simp [State.setDom]
@[simp] theorem dropBob_heard (s : State) (lo n : Nat) : (s.dropBob lo n).heard = s.heard := by
  simp [State.dropBob]
@[simp] theorem freshBob_heard (s : State) (lo n : Nat) : (s.freshBob lo n).heard = s.heard := by
  simp [State.freshBob]
@[simp] theorem drawNat_heard (s : State) (n : Nat) : (s.drawNat n).2.heard = s.heard := by
  simp [State.drawNat]
@[simp] theorem restartSym_heard (s : State) (p : Nat) : (s.restartSym p).heard = s.heard := by
  simp [State.restartSym]
@[simp] theorem dstEvent_heard (s : State) (typ : Nat) (spec : Bool) (unit info : Nat) (cont : List Word) :
    (s.dstEvent typ spec unit info cont).heard = s.heard := by
  simp [State.dstEvent]
@[simp] theorem setFrame_heard (s : State) (fid : Nat) (x : Option Stored) : (s.setFrame fid x).heard = s.heard := by
  simp [State.setFrame]
@[simp] theorem setQueue_heard (s : State) (e q : Nat) (l : List QEntry) : (s.setQueue e q l).heard = s.heard := by
  simp [State.setQueue]
@[simp] theorem setCur_heard (s : State) (e : Nat) (x : Option Sending) : (s.setCur e x).heard = s.heard := by
  simp [State.setCur]
@[simp] theorem dropCopy_heard (s : State) (fid : Nat) : (s.dropCopy fid).heard = s.heard := by
  unfold State.dropCopy; split <;> simp
theorem flushQueue_heard (s : State) (e q : Nat) (cnts : List Nat) (h : ∀ a ∈ cnts, ¬ RxCount a) : (s.flushQueue e q cnts).heard = s.heard := by
  have hb : ∀ (l : List Nat), (∀ a ∈ l, ¬ RxCount a) → ∀ t : State, (forAll State.bump l t).heard = t.heard := by
    intro l
    induction l with
    | nil => exact fun _ _ => rfl
    | cons a l ih =>
      intro hl t
      exact (ih (fun b hm => hl b (List.mem_cons_of_mem a hm)) _).trans (bump_heard t (hl a List.mem_cons_self))
  rw [State.flushQueue, setQueue_heard]
  exact forAll_frame State.heard _ (fun t x => (hb cnts h _).trans (dropCopy_heard t _)) _ s
theorem flushState_heard (s : State) (e : Nat) (qs more : List Nat) (h : ∀ a ∈ more, ¬ RxCount a) : (s.flushState e qs more).heard = s.heard :=
  forAll_frame State.heard _ (fun t q => flushQueue_heard t e q _ (List.forall_mem_cons.2 ⟨by simp, h⟩)) qs s
@[simp] theorem setShp_heard (s : State) (e q : Nat) (x : Option Shaper) : (s.setShp e q x).heard = s.heard := by
  simp [State.setShp]
@[simp] theorem txOver_heard (s : State) (e q : Nat) : (s.txOver e q).heard = s.heard := by
  unfold State.txOver; split <;> simp
@[simp] theorem setSent_heard (s : State) (e : Nat) (f : Option SentFrame) : (s.setSent e f).heard = s.heard := by
  simp [State.setSent]
@[simp] theorem endSent_heard (s : State) (e : Nat) : (s.endSent e).heard = s.heard := by
  simp [State.endSent]
@[simp] theorem cutTx_heard (s : State) (e : Nat) : (s.cutTx e).heard = s.heard := by
  unfold State.cutTx; split <;> simp
@[simp] theorem endLive_heard (s : State) (pick : TagOp → Bool) (status : Nat) : (s.endLive pick status).heard = s.heard := by
  simp [State.endLive]
@[simp] theorem endGather_heard (s : State) (p : Nat) (src : Nat → Bool) : (s.endGather p src).heard = s.heard := by
  simp [State.endGather]
@[simp] theorem endCmdsGen_heard (s : State) (pick : Cmd → Bool) (status : Nat) (gen : Cmd → Nat) :
    (s.endCmdsGen pick status gen).heard = s.heard := by
  simp [State.endCmdsGen]
@[simp] theorem endCmds_heard (s : State) (pick : Cmd → Bool) (status : Nat) : (s.endCmds pick status).heard = s.heard := by
  simp [State.endCmds]
@[simp] theorem endRunning_heard (s : State) (p op status : Nat) : (s.endRunning p op status).heard = s.heard := by
  simp [State.endRunning]
@[simp] theorem endUpCmds_heard (s : State) (p : Nat) : (s.endUpCmds p).heard = s.heard := by
  simp [State.endUpCmds]
@[simp] theorem endPortCoef_heard (s : State) (p : Nat) : (s.endPortCoef p).heard = s.heard := by
  simp [State.endPortCoef]
@[simp] theorem endRovCoef_heard (s : State) (p : Nat) : (s.endRovCoef p).heard = s.heard := by
  simp [State.endRovCoef]
@[simp] theorem resetShapers_heard (s : State) (p : Nat) (credit : Bool) : (s.resetShapers p credit).heard = s.heard := by
  simp [State.resetShapers]
@[simp] theorem partnerClock_heard (s : State) (p st : Nat) : (s.partnerClock p st).heard = s.heard := by
  simp [State.partnerClock]
@[simp] theorem setMode_heard (s : State) (p m : Nat) : (s.setMode p m).heard = s.heard := by
  simp [State.setMode]
@[simp] theorem leaveUp_heard (s : State) (p : Nat) : (s.leaveUp p).heard = s.heard := by
  simp [State.leaveUp]
@[simp] theorem stateFields_heard (s : State) (p st : Nat) : (s.stateFields p st).heard = s.heard := by
  simp [State.stateFields]
@[simp] theorem egressEntry_heard (s : State) (p st : Nat) : (s.egressEntry p st).heard = s.heard := by
  simp [State.egressEntry, flushState_heard]
@[simp] theorem applyConfig_heard (s : State) (p : Nat) : (s.applyConfig p).heard = s.heard := by
  simp [State.applyConfig]
@[simp] theorem dstPortState_heard (s : State) (p st : Nat) : (s.dstPortState p st).heard = s.heard := by
  simp [State.dstPortState]
@[simp] theorem regainPort_heard (s : State) (p : Nat) : (s.regainPort p).heard = s.heard := by
  simp [State.regainPort]
@[simp] theorem regainSkein_heard (s : State) (k : Nat) : (s.regainSkein k).heard = s.heard := by
  simp [State.regainSkein]
@[simp] theorem withdrawWrite_heard (s : State) (p : Nat) : (s.withdrawWrite p).heard = s.heard := by
  cases h : s.skeinOf (lgOf p) (localOf p) <;> simp [State.withdrawWrite, h]
@[simp] theorem sweepAbort_heard (s : State) (p : Nat) : (s.sweepAbort p).heard = s.heard := by
  simp [State.sweepAbort]
@[simp] theorem testTurn_heard (s s0 : State) (p : Nat) : (s.testTurn s0 p).heard = s.heard := by
  simp [State.testTurn]
@[simp] theorem enter_heard (s : State) (p st : Nat) : (s.enter p st).heard = s.heard := by
  simp [State.enter]
@[simp] theorem toListen_heard (s : State) (p : Nat) : (s.toListen p).heard = s.heard := by
  simp [State.toListen]
@[simp] theorem startWake_heard (s : State) {d : Nat} (h : d < 50) : (s.startWake d).heard = s.heard := by
  have hd : ¬ RxCount (Reg.PWR_DOMCTL d) := not_rxCount (.inl (by unfold Reg.PWR_DOMCTL; omega))
  simp [State.startWake, hd]
@[simp] theorem wakeDom_heard (s : State) {d : Nat} (h : d < 50) : (s.wakeDom d).heard = s.heard := by
  unfold State.wakeDom
  split
  · rename_i l hl
    have hl : l < 50 := by
      unfold lgOfDom at hl
      split at hl <;> simp at hl
      omega
    simp [h, hl]
  · simp [h]
@[simp] theorem wakeEnter_heard (s : State) (p : Nat) : (s.wakeEnter p).heard = s.heard := by
  simp [State.wakeEnter]
@[simp] theorem wakePort_heard (s : State) {p : Nat} (k : Nat) (loc : Bool) (h : p < 96) : (s.wakePort p k loc).heard = s.heard := by
  have hq : quadOf p < 50 := by unfold quadOf; omega
  simp [State.wakePort, hq]
@[simp] theorem localWake_heard (s : State) {p : Nat} (h : p < 96) : (s.localWake p).heard = s.heard := by
  simp [State.localWake, h]
@[simp] theorem setPol_heard (s : State) (st : Nat) (b : Option Bucket) : (s.setPol st b).heard = s.heard := by
  simp [State.setPol]
@[simp] theorem setMet_heard (s : State) (m k : Nat) (b : Option Bucket) : (s.setMet m k b).heard = s.heard := by
  simp [State.setMet]
@[simp] theorem police_heard (s : State) (st inc l t : Nat) : (s.police st inc l t).2.heard = s.heard := by
  simp [State.police]
@[simp] theorem meter_heard (s : State) (m inc l t : Nat) : (s.meter m inc l t).2.heard = s.heard := by
  simp [State.meter]
@[simp] theorem colourOf_heard (s : State) (st ident tag : Nat) (bs : List Byte) : (s.colourOf st ident tag bs).2.heard = s.heard := by
  simp [State.colourOf]
@[simp] theorem shSync_heard (s : State) (e q : Nat) : (s.shSync e q).heard = s.heard := by
  simp [State.shSync]
@[simp] theorem enqueue_heard (s : State) (e q fid : Nat) : (s.enqueue e q fid).heard = s.heard := by
  simp [State.enqueue]
@[simp] theorem admitCopy_heard (s : State) (e q c fid need free : Nat) : (s.admitCopy e q c fid need free).2.heard = s.heard := by
  simp [State.admitCopy]
@[simp] theorem admitAll_heard (s : State) (q c fid need free : Nat) (l : List Nat) :
    (s.admitAll q c fid need free l).2.heard = s.heard := by
  induction l generalizing s with
  | nil => rfl
  | cons e t ih => simp [State.admitAll, ih]
@[simp] theorem toSpn_heard (s : State) (n : Nat) (d : Desc) (pri : Nat) (bs : List Byte) (fid : Nat) : (s.toSpn n d pri bs fid).heard = s.heard := by
  simp [State.toSpn]
@[simp] theorem store_heard (s : State) (d : Desc) (bs : List Byte) (copies : Nat) : (s.store d bs copies).heard = s.heard := by
  simp [State.store]
@[simp] theorem wakeTaken_heard (s : State) (l : List Nat) : (s.wakeTaken l).heard = s.heard := by
  refine forAll_heard _ (fun t e => ?_) l s
  split
  · rename_i h
    exact localWake_heard t (by simpa [isLine] using h.1)
  · rfl
@[simp] theorem forward_heard (s : State) (d : Desc) (bs : List Byte) (laneOnly : Bool) : (s.forward d bs laneOnly).2.heard = s.heard := by
  simp [State.forward]
@[simp] theorem xdrop_heard (s : State) (src : Nat) : (s.xdrop src).heard = s.heard := by
  have hx : ∀ k, k < 50 → ¬ RxCount (Reg.CLK_XDROP k) := fun k h => not_rxCount (.inl (by unfold Reg.CLK_XDROP; omega))
  unfold State.xdrop
  split
  · exact bump_heard s (hx _ (by unfold lgOf; omega))
  · split
    · exact bump_heard s (hx 13 (by decide))
    · rfl
@[simp] theorem pipeline_heard (s : State) (d0 : Desc) (tag first : Nat) (bs : List Byte) :
    (s.pipeline d0 tag first bs).2.heard = s.heard := by
  cases h : s.lookup d0.src bs <;> simp [State.pipeline, h]

end Sys2Proof.Machine
end

section
/-! PROOF. Frames from the host (O47): code groups, the checks of a frame in order, the spindle channel, and management requests. -/

namespace Sys2Proof.Machine

/-! ### Code groups before a frame (R288, R297) -/

theorem groupsIn_nil (s : State) (n : Nat) : s.groupsIn n [] = s := if_pos (.inl rfl)

theorem aligned_setLst (s : State) (n v : Nat) : (s.setLst n v).aligned n = s.aligned n := by
  rw [State.aligned, State.rb, State.setLst, setRf_eq, reg_setReg_same, bitOf_putFld _ _ _ _ _ (by decide) (by decide), if_neg (by decide)]
  rfl

theorem reg_updLane (s : State) (m : Nat) (x : Lane → Lane) (a : Nat) : (s.updLane m x).reg a = s.reg a := rfl
theorem aligned_updLane (s : State) (m : Nat) (x : Lane → Lane) (n : Nat) : (s.updLane m x).aligned n = s.aligned n := rfl

theorem aligned_unalign (s : State) (n : Nat) : (s.unalign n).aligned n = false := by
  have h1 : (s.setAligned n false).aligned n = false := rb_setRb_same s (Reg.HL_STAT n) false (by decide)
  unfold State.unalign
  dsimp only
  split
  · exact (aligned_setLst _ n _).trans h1
  · split
    · exact (aligned_updLane _ n _ n).trans ((aligned_setLst _ n _).trans h1)
    · exact h1

theorem reg_unalign (s : State) {n a : Nat} (h : a ≠ Reg.HL_STAT n) : (s.unalign n).reg a = s.reg a := by
  have hs : ∀ (t : State) (hi lo v : Nat), (t.setRf (Reg.HL_STAT n) hi lo v).reg a = t.reg a := fun t _ _ _ => reg_setReg_other t _ h
  unfold State.unalign
  dsimp only
  split
  · exact (hs _ _ _ _).trans (hs _ _ _ _)
  · split
    · exact (reg_updLane _ n _ a).trans ((hs _ _ _ _).trans (hs _ _ _ _))
    · exact hs _ _ _ _

/-- An aligned receiver that is awake counts each error, and loses the alignment over four near ones. -/
theorem groupsIn_counts {s : State} {n : Nat} (gs : List (BitVec 10)) (ho : s.laneOn n = true) (hl : s.lst n ≠ 0) (hr : s.rb (Reg.HL_STAT n) 38 = false)
    (ha : s.aligned n = true) :
    (s.groupsIn n gs).reg (Reg.HL_CODEERR n) = s.reg (Reg.HL_CODEERR n) + BitVec.ofNat 48 (codeErrors gs true 0).length ∧
      (s.groupsIn n gs).aligned n = !fourNear (codeErrors gs true 0) := by
  cases gs with
  | nil =>
    rw [groupsIn_nil]
    exact ⟨(BitVec.add_zero _).symm, ha⟩
  | cons g gs =>
    have hne : Reg.HL_CODEERR n ≠ Reg.HL_STAT n := by unfold Reg.HL_CODEERR Reg.HL_STAT; omega
    have hadd : (s.addCnt (Reg.HL_CODEERR n) (codeErrors (g :: gs) true 0).length).aligned n = true :=
      (congrArg (bitOf · 43) (reg_setReg_other s _ hne.symm)).trans ha
    unfold State.groupsIn
    rw [if_neg (by simp [ho, hr, ha]; exact hl)]
    dsimp only
    split
    · rename_i h4
      rw [h4, reg_unalign _ hne, aligned_unalign, addCnt_eq, reg_setReg_same]
      exact ⟨rfl, rfl⟩
    · rename_i h4
      rw [hadd, addCnt_eq, reg_setReg_same]
      exact ⟨rfl, by simp [h4]⟩

/-! ### The checks of R292, in order -/

/-- What a frame with a sound header goes through. -/
def State.laneAccept (s : State) (n : Nat) (f : LaneFrame) : State :=
  let port := fld f.w0 47 41
  let ver := s.rf (Reg.HL_STAT n) 35 32
  let len := f.bytes.length
  let ok := fcsGood f.bytes
  let mgmt := decide (n = 0 ∧ port = 112)
  if mgmt ∧ s.rb Reg.ID_MGMTPATH 0 = false then s.bump (Reg.HL_MGMTDROP 0)
  else if mgmt = false ∧ port ≠ 96 + n ∧ (port ≠ 114 ∨ ver ≠ 3) then s.bump (Reg.HL_RXBADID n)
  else if len < 64 ∨ fld f.w1 35 22 ≠ len then s.bump (Reg.HL_RXLEN n)
  else if ok = false ∧ port ≠ 96 + n then s.bump (Reg.HL_RXFCS n)
  else
    let s1 := if ok then s.bump (Reg.HL_RXFRM n) else s.bump (Reg.HL_RXFCS n)
    if mgmt then s1.inbandRequest f.bytes
    else if port = 114 then
      let d : Desc := { src := 114, tsNs := tsNsOf f.first, stream := fld f.w1 41 36, len := len }
      let s2 := if s1.spnTakes d.stream then s1.store d f.bytes 1 else s1
      s2.toSpn d.stream d 0 f.bytes s1.tm.nextFid
    else
      (s1.pipeline { src := 96 + n, fcsBad := !ok, tsNs := tsNsOf f.first, len := len } (fld f.w0 37 36) (timeNs f.first) f.bytes).2

section
variable {s : State} {n : Nat} {f : LaneFrame}

theorem laneReceive_deaf (h : s.laneHears n = false) : s.laneReceive n f = s := if_pos h

theorem laneReceive_abort (hh : s.laneHears n = true) (h : f.good = false ∨ f.codeErr = true ∨ 9216 < f.bytes.length) :
    s.laneReceive n f = s.bump (Reg.HL_RXABORT n) :=
  (if_neg (by simp [hh])).trans (if_pos h)

section
variable (hh : s.laneHears n = true) (hg : f.good = true) (hc : f.codeErr = false) (hl : f.bytes.length ≤ 9216)
include hh hg hc hl

theorem laneReceive_header (h : fld f.w1 7 0 ≠ hcrc f.w0 f.w1 ∨ fld f.w1 15 8 ≠ s.rf (Reg.HL_STAT n) 35 32) :
    s.laneReceive n f = s.bump (Reg.HL_RXHCRC n) := by
  unfold State.laneReceive
  extract_lets port ver len ok mgmt
  rw [if_neg (by simp [hh]), if_neg (by simp [hg, hc, len, hl])]
  rcases Decidable.em (fld f.w1 7 0 = hcrc f.w0 f.w1) with h7 | h7
  · rw [if_neg (not_not.2 h7), if_pos (h.resolve_left (not_not.2 h7))]
  · rw [if_pos h7]

theorem laneReceive_tagged (h7 : fld f.w1 7 0 = hcrc f.w0 f.w1) (hv : fld f.w1 15 8 = s.rf (Reg.HL_STAT n) 35 32) :
    s.laneReceive n f = s.laneAccept n f := by
  unfold State.laneReceive
  extract_lets port ver len ok mgmt
  rw [if_neg (by simp [hh]), if_neg (by simp [hg, hc, len, hl]), if_neg (not_not.2 h7), if_neg (not_not.2 hv)]
  rfl

end

/-! A frame that is none for the management. -/

theorem laneAccept_badId (hm : fld f.w0 47 41 ≠ 112) (hn : fld f.w0 47 41 ≠ 96 + n) (hs : fld f.w0 47 41 ≠ 114 ∨ s.rf (Reg.HL_STAT n) 35 32 ≠ 3) :
    s.laneAccept n f = s.bump (Reg.HL_RXBADID n) :=
  (if_neg (by simp [hm])).trans (if_pos ⟨by simp [hm], hn, hs⟩)

/-- The identity is good. -/
def State.goodId (s : State) (n : Nat) (f : LaneFrame) : Prop :=
  fld f.w0 47 41 ≠ 112 ∧ (fld f.w0 47 41 = 96 + n ∨ (fld f.w0 47 41 = 114 ∧ s.rf (Reg.HL_STAT n) 35 32 = 3))

theorem goodId_lane (hn : n < 16) (h : fld f.w0 47 41 = 96 + n) : s.goodId n f := ⟨by omega, .inl h⟩

theorem goodId_spindle (h : fld f.w0 47 41 = 114) (hv : s.rf (Reg.HL_STAT n) 35 32 = 3) : s.goodId n f := ⟨by omega, .inr ⟨h, hv⟩⟩

section
variable (hi : s.goodId n f)
include hi

theorem laneAccept_length (hl : f.bytes.length < 64 ∨ fld f.w1 35 22 ≠ f.bytes.length) : s.laneAccept n f = s.bump (Reg.HL_RXLEN n) := by
  obtain ⟨hm, hp⟩ := hi
  refine (if_neg (by simp [hm])).trans ((if_neg ?_).trans (if_pos hl))
  rintro ⟨-, h1, h2⟩
  rcases hp with h | ⟨h, hv⟩
  · exact h1 h
  · exact h2.elim (· h) (· hv)

variable (hl : 64 ≤ f.bytes.length) (he : fld f.w1 35 22 = f.bytes.length)
include hl he

theorem laneAccept_sized : s.laneAccept n f =
    if fcsGood f.bytes = false ∧ fld f.w0 47 41 ≠ 96 + n then s.bump (Reg.HL_RXFCS n)
    else
      let s1 := if fcsGood f.bytes then s.bump (Reg.HL_RXFRM n) else s.bump (Reg.HL_RXFCS n)
      if fld f.w0 47 41 = 114 then
        let d : Desc := { src := 114, tsNs := tsNsOf f.first, stream := fld f.w1 41 36, len := f.bytes.length }
        (if s1.spnTakes d.stream then s1.store d f.bytes 1 else s1).toSpn d.stream d 0 f.bytes s1.tm.nextFid
      else
        (s1.pipeline { src := 96 + n, fcsBad := !fcsGood f.bytes, tsNs := tsNsOf f.first, len := f.bytes.length } (fld f.w0 37 36) (timeNs f.first)
          f.bytes).2 := by
  obtain ⟨hm, hp⟩ := hi
  have hid : ¬ (fld f.w0 47 41 ≠ 96 + n ∧ (fld f.w0 47 41 ≠ 114 ∨ s.rf (Reg.HL_STAT n) 35 32 ≠ 3)) := by
    rintro ⟨h1, h2⟩
    rcases hp with h | ⟨h, hv⟩
    · exact h1 h
    · exact h2.elim (· h) (· hv)
  have hmg : decide (n = 0 ∧ fld f.w0 47 41 = 112) = false := by simp [hm]
  unfold State.laneAccept
  extract_lets port ver len ok mgmt
  rw [if_neg (by simp [mgmt, port, hmg]), if_neg (fun h => hid h.2), if_neg (by simp [len, hl, he])]
  refine if_congr Iff.rfl rfl ?_
  exact if_neg (by simp [mgmt, port, hmg])

end
end

/-! ### A frame that passes: the pipeline and the spindle channel -/

/-- The lookup reads the traffic manager's words. -/
theorem lookup_congr {s t : State} (h : ∀ b, 0x90000 ≤ b → t.reg b = s.reg b) (ident : Nat) (bs : List Byte) :
    t.lookup ident bs = s.lookup ident bs := by
  have hk : ∀ st, t.keyHit st ident bs = s.keyHit st ident bs := fun st => by
    unfold State.keyHit
    rw [h _ (by unfold Reg.TM_SKEY0; omega), h _ (by unfold Reg.TM_SKEY1; omega)]
  have hd : ∀ st i, t.rb (Reg.TM_SKEY0 st) i = s.rb (Reg.TM_SKEY0 st) i := fun st i => congrArg (bitOf · i) (h _ (by unfold Reg.TM_SKEY0; omega))
  unfold State.lookup
  simp only [hk, hd, h _ (show 0x90000 ≤ Reg.TM_DEFSTREAM ident by unfold Reg.TM_DEFSTREAM; omega)]

theorem pipeline_noMatch {s : State} {d : Desc} (tag first : Nat) {bs : List Byte} (ht : s.tmOn = true) (h : s.lookup d.src bs = none) :
    (s.pipeline d tag first bs).2 = s.bump Reg.TM_NOMATCH := by
  rw [State.pipeline, if_neg (by simp [ht]), h]

/-- Storing a frame changes no unit and no register. -/
theorem store_frame {β : Type} (g : State → β) (hb : ∀ s lo k, g (s.freshBob lo k) = g s) (ht : ∀ s x, g { s with tm := x } = g s)
    (s : State) (d : Desc) (bs : List Byte) (copies : Nat) : g (s.store d bs copies) = g s := by
  unfold State.store
  exact (ht _ _).trans ((ht _ _).trans (forAll_frame g _ (fun t c => hb t _ _) _ s))

/-- A frame that a spindle takes joins its receive queue with its descriptor. -/
theorem toSpn_takes {s : State} {k : Nat} (d : Desc) (pri : Nat) (bs : List Byte) (fid : Nat) (h : s.spnTakes k = true) :
    ((s.toSpn k d pri bs fid).spn k).rxq =
      (s.spn k).rxq ++ [{ w0 := (tagHeader d pri 3).1, w1 := (tagHeader d pri 3).2, bytes := bs, fid := fid }] := by
  rw [State.toSpn, if_pos h, State.updSpn, spn_setSpn_same]

section
variable {s : State} {n : LaneNo} {f : LaneFrame} (hl : 64 ≤ f.bytes.length) (he : fld f.w1 35 22 = f.bytes.length)
include hl he

theorem laneAccept_badFcs (hp : fld f.w0 47 41 = 114) (hv : s.rf (Reg.HL_STAT n) 35 32 = 3) (hf : fcsGood f.bytes = false) :
    s.laneAccept n f = s.bump (Reg.HL_RXFCS n) := by
  have hn := n.isLt
  rw [laneAccept_sized (goodId_spindle hp hv) hl he, if_pos ⟨hf, by omega⟩]

/-- R292: a frame of the lane's own identity enters the pipeline. -/
theorem laneAccept_lane (hp : fld f.w0 47 41 = 96 + n.val) (hf : fcsGood f.bytes = true) :
    (s.laneAccept n f).reg (Reg.HL_RXFRM n) = s.reg (Reg.HL_RXFRM n) + 1 ∧
      (s.tmOn = true → s.lookup (96 + n.val) f.bytes = none → s.laneAccept n f = (s.bump (Reg.HL_RXFRM n)).bump Reg.TM_NOMATCH) := by
  have hn := n.isLt
  rw [laneAccept_sized (goodId_lane hn hp) hl he, if_neg (by simp [hf]), if_neg (by omega), if_pos hf]
  refine ⟨(reg_of_heard (pipeline_heard _ _ _ _ _) n).trans (reg_bump_same _ _), fun ht hm => pipeline_noMatch _ _ ht ?_⟩
  exact (lookup_congr (fun b hb => reg_bump_other s (by unfold Reg.HL_RXFRM; omega)) _ _).trans hm

/-- R292, R293: a frame of the spindle channel goes to its spindle's receive queue. -/
theorem laneAccept_spindle (hp : fld f.w0 47 41 = 114) (hv : s.rf (Reg.HL_STAT n) 35 32 = 3) (hf : fcsGood f.bytes = true) :
    let k := fld f.w1 41 36
    let t := s.laneAccept n f
    t.reg (Reg.HL_RXFRM n) = s.reg (Reg.HL_RXFRM n) + 1 ∧
      (s.spnTakes k = true → ∃ y : SpnFrame, (t.spn k).rxq = (s.spn k).rxq ++ [y] ∧ y.bytes = f.bytes ∧
        (y.w0, y.w1) = tagHeader { src := 114, tsNs := tsNsOf f.first, stream := k, len := f.bytes.length } 0 3) ∧
      (s.spnTakes k = false → t.reg Reg.TM_SPNDROP = s.reg Reg.TM_SPNDROP + 1 ∧ t.spns = s.spns) := by
  have hn := n.isLt
  have hne : Reg.HL_RXFRM n ≠ Reg.TM_SPNDROP := by unfold Reg.HL_RXFRM Reg.TM_SPNDROP; omega
  intro k t
  let u : State := s.bump (Reg.HL_RXFRM n)
  let d : Desc := { src := 114, tsNs := tsNsOf f.first, stream := k, len := f.bytes.length }
  have ht : t = (if u.spnTakes k then u.store d f.bytes 1 else u).toSpn k d 0 f.bytes u.tm.nextFid := by
    unfold t
    rw [laneAccept_sized (goodId_spindle hp hv) hl he, if_neg (by simp [hf]), if_pos hf]
    exact if_pos hp
  have hu : u.spnTakes k = s.spnTakes k := rfl
  refine ⟨?_, fun hk => ?_, fun hk => ?_⟩
  · have hh : t.heard = u.heard := by
      rw [ht]
      simp
    exact (reg_of_heard hh n).trans (reg_bump_same _ _)
  · have hs : (u.store d f.bytes 1).spnTakes k = true :=
      (store_frame (fun t => t.spnTakes k) (fun _ _ _ => rfl) (fun _ _ => rfl) u d f.bytes 1).trans (hu.trans hk)
    rw [ht, if_pos (hu.trans hk)]
    refine ⟨{ w0 := (tagHeader d 0 3).1, w1 := (tagHeader d 0 3).2, bytes := f.bytes, fid := u.tm.nextFid },
      (toSpn_takes d 0 f.bytes _ hs).trans ?_, rfl, rfl⟩
    exact congrArg (fun x : Spindle => x.rxq ++ _)
      (store_frame (fun t => t.spn k) (fun _ _ _ => rfl) (fun _ _ => rfl) u d f.bytes 1)
  · have hs : u.toSpn k d 0 f.bytes u.tm.nextFid = u.bump Reg.TM_SPNDROP := if_neg (by simp [hu, hk])
    rw [ht, if_neg (by simp [hu, hk]), hs]
    exact ⟨by rw [reg_bump_same, reg_bump_other _ hne.symm], rfl⟩

end

/-! ### Management requests on HL0 (R50–R53) -/

theorem bytes_of_bytesVal_two {l : List Byte} {a b : Byte} (hl : l.length = 2) (h : bytesVal l = 256 * a.toNat + b.toNat) : l = [a, b] := by
  match l, hl with
  | [x, y], _ =>
    have hv : x.toNat * 256 + y.toNat = 256 * a.toNat + b.toNat := by simpa [bytesVal] using h
    have hx : x = a := BitVec.eq_of_toNat_eq (by omega)
    have hy : y = b := BitVec.eq_of_toNat_eq (by omega)
    rw [hx, hy]

theorem wordsOfBytes_six {l : List Byte} (h : l.length = 6) : wordsOfBytes l = [wordOfBytes l] := by
  match l, h with
  | [_, _, _, _, _, _], _ => rfl

/-- A reply that is complete joins those waiting on HL0. -/
theorem sendInband_ready {s : State} {b : InbandBuf} (h : s.inband = [b]) (hr : b.ready = true) :
    (s.sendInband.lane 0).mgmt = (s.lane 0).mgmt ++ [b.frame] ∧ s.sendInband.inband = [] ∧ s.sendInband.regs = s.regs ∧
      s.sendInband.bobbin = s.bobbin := by
  have hs : s.sendInband = ({ s with inband := [] } : State).updLane 0 (fun x => { x with mgmt := x.mgmt ++ [b.frame] }) := by
    simp [State.sendInband, h, hr]
  rw [hs, State.updLane, lane_setLane_same]
  exact ⟨rfl, rfl, rfl, rfl⟩

/-- A word for the one part of the one reply under construction. -/
theorem deliver_inband_single {s : State} {b : InbandBuf} {p : ReplyBuf} (h : s.inband = [b]) (hp : b.parts = [p]) (r status addr : Nat) (d : Word) :
    s.deliver r (.inband p.id) status addr d true =
      ({ s.setReply r status addr d with inband := [{ b with parts := [p.put status addr (some d)] }] } : State).sendInband := by
  have hm : s.inband.map (fun b => { b with parts := b.parts.map fun q => if q.id = p.id then q.put status addr (some d) else q }) =
      [{ b with parts := [p.put status addr (some d)] }] := by simp [h, hp]
  exact congrArg (fun l => State.sendInband { s.setReply r status addr d with inband := l }) hm

theorem sendInband_none {s : State} (h : s.inband = []) : s.sendInband = s := by simp [State.sendInband, h]

/-- The commands of a request whose frame carries no VLAN tag, and their reply. -/
def State.inbandRun (s : State) (bs : List Byte) (cmds : List (MgmtCmd × List Word)) : State :=
  let x := fitMgmt cmds 1532
  let ids := (List.range x.1.length).map (fun i => s.nextReply + i)
  let todo := x.1.zip ids
  let b : InbandBuf := {
    id := s.nextReply
    head := (bs.drop 6).take 6 ++ bs.take 6 ++ (bs.drop 12).take 2
    parts := todo.map (fun y => replyFor y.2 y.1.1)
    tail := match x.2 with
      | some c => [tooLong c]
      | none => [] }
  let s1 : State := { s with inband := s.inband ++ [b], nextReply := s.nextReply + x.1.length }
  (forAll (fun t (y : (MgmtCmd × List Word) × Nat) => t.mgmtWords false y.1.1 (.inband y.2) y.1.2) todo s1).sendInband

section
variable {bs : List Byte} (hl : 64 ≤ bs.length) (ht : bytesVal ((bs.drop 12).take 2) = 0x88B5)
include hl ht

omit hl in
theorem headLen_untagged : headLen bs = 14 := by
  have hv : vlanTci bs = none := by
    unfold vlanTci
    dsimp only
    rw [ht]
    exact if_neg fun h => absurd h.1 (by decide)
  rw [headLen, hv]
  rfl

theorem etherType_bytes : (bs.drop 12).take 2 = [0x88#8, 0xB5#8] :=
  bytes_of_bytesVal_two (by rw [List.length_take, List.length_drop]; omega) ht

omit ht in
/-- A part of the payload lies in the frame. -/
theorem payload_take (k m : Nat) (h : 14 + k + m ≤ 60) : (((bs.take (bs.length - 4)).drop 14).drop k).take m = (bs.drop (14 + k)).take m := by
  rw [List.drop_drop, List.drop_take, List.take_take, Nat.min_eq_left (by omega)]

theorem inbandRequest_commands {s : State} {len : Nat} {cmds : List (MgmtCmd × List Word)} (hn : bytesVal ((bs.drop 14).take 2) = len) (h6 : len % 6 = 0)
    (hlen : len ≤ 44) (hp : parseMgmt (wordsOfBytes ((bs.drop 16).take len)).length (wordsOfBytes ((bs.drop 16).take len)) = some cmds) :
    s.inbandRequest bs = s.inbandRun bs cmds := by
  have hb2 : ((bs.take (bs.length - 4)).drop 14).take 2 = (bs.drop 14).take 2 := payload_take hl 0 2 (by decide)
  have hbl : (((bs.take (bs.length - 4)).drop 14).drop 2).take len = (bs.drop 16).take len := payload_take hl 2 len (by omega)
  have hsz : ¬ ((bs.take (bs.length - 4)).drop 14).length - 2 < len := by
    rw [List.length_drop, List.length_take]
    omega
  unfold State.inbandRequest
  simp only [headLen_untagged ht, hb2, hn, hbl, hp, h6, hsz, ht]
  rfl

/-- A request of no command leaves one reply without words. -/
theorem inbandRequest_none {s : State} (hn : bytesVal ((bs.drop 14).take 2) = 0) (hi : s.inband = []) :
    ∃ b : InbandBuf, ((s.inbandRequest bs).lane 0).mgmt = (s.lane 0).mgmt ++ [b.frame] ∧
      b.head = (bs.drop 6).take 6 ++ bs.take 6 ++ [0x88#8, 0xB5#8] ∧ b.parts = [] ∧ b.tail = [] := by
  rw [inbandRequest_commands hl ht hn rfl (by decide) (cmds := []) rfl]
  let b : InbandBuf := { id := s.nextReply, head := (bs.drop 6).take 6 ++ bs.take 6 ++ [0x88#8, 0xB5#8], parts := [], tail := [] }
  have hr : s.inbandRun bs [] = ({ s with inband := [b] } : State).sendInband := by
    simp [State.inbandRun, fitMgmt, forAll, hi, etherType_bytes hl ht, b]
  rw [hr]
  exact ⟨b, (sendInband_ready rfl rfl).1, rfl, rfl, rfl⟩

/-- R50: a request of one read of a bobbin word leaves its reply. -/
theorem inbandRequest_read {s : State} {w : Word} (hn : bytesVal ((bs.drop 14).take 2) = 6) (hi : s.inband = [])
    (hw : wordOfBytes ((bs.drop 16).take 6) = w) (ho : fld w 47 46 = 0) (hlo : 0x1000000 ≤ fld w 31 0) (hhi : fld w 31 0 < 0x1800000)
    (hc : CanReach s .host (fld w 31 0)) :
    let b : InbandBuf := { id := s.nextReply, head := (bs.drop 6).take 6 ++ bs.take 6 ++ [0x88#8, 0xB5#8],
                           parts := [readReply s.nextReply w (s.bob (fld w 31 0 - 0x1000000))], tail := [] }
    ((s.inbandRequest bs).lane 0).mgmt = (s.lane 0).mgmt ++ [b.frame] ∧ (s.inbandRequest bs).regs = s.regs ∧ (s.inbandRequest bs).bobbin = s.bobbin := by
  have hws : wordsOfBytes ((bs.drop 16).take 6) = [w] := by
    rw [wordsOfBytes_six (by rw [List.length_take, List.length_drop]; omega), hw]
  have hp : parseMgmt (wordsOfBytes ((bs.drop 16).take 6)).length (wordsOfBytes ((bs.drop 16).take 6)) = some [(mgmtCmd w, [])] := by
    rw [hws]
    simp [parseMgmt, mgmtCmd_read ho, MgmtCmd.dataWords, MgmtCmd.isWrite]
  rw [inbandRequest_commands hl ht hn rfl (by decide) hp]
  let b0 : InbandBuf := { id := s.nextReply, head := (bs.drop 6).take 6 ++ bs.take 6 ++ [0x88#8, 0xB5#8],
                          parts := [replyFor s.nextReply (mgmtCmd w)], tail := [] }
  let u : State := { s with inband := [b0], nextReply := s.nextReply + 1 }
  have hr : s.inbandRun bs [(mgmtCmd w, [])] = (u.mgmtWords false (mgmtCmd w) (.inband s.nextReply) []).sendInband := by
    simp [State.inbandRun, fitMgmt, forAll, hi, etherType_bytes hl ht, mgmtCmd_read ho, MgmtCmd.replyWords, MgmtCmd.isWrite, u, b0]
  have hu : CanReach u .host (fld w 31 0) := hc
  let d := s.bob (fld w 31 0 - 0x1000000)
  have hv : u.mgmtWords false (mgmtCmd w) (.inband s.nextReply) [] =
      ({ u.setReply reqHost stOK (fld w 31 0) d with
        inband := [{ b0 with parts := [(replyFor s.nextReply (mgmtCmd w)).put stOK (fld w 31 0) (some d)] }] } : State).sendInband :=
    (mgmtWords_read false _ ho hlo hhi hu).trans (deliver_inband_single (s := u) (b := b0) (p := replyFor s.nextReply (mgmtCmd w)) rfl rfl _ _ _ _)
  have hput : (replyFor s.nextReply (mgmtCmd w)).put stOK (fld w 31 0) (some d) = readReply s.nextReply w d := by
    simp [replyFor, mgmtCmd_read ho, readReply, ReplyBuf.put]
  rw [hput] at hv
  obtain ⟨hm, he, hregs, hbob⟩ := sendInband_ready (s := { u.setReply reqHost stOK (fld w 31 0) d with
    inband := [{ b0 with parts := [readReply s.nextReply w d] }] }) rfl rfl
  rw [hr, hv, sendInband_none he]
  exact ⟨hm, hregs, hbob⟩

end

/-! ### A management frame -/

section
variable {s : State} {f : LaneFrame} (hp : fld f.w0 47 41 = 112)
include hp

theorem laneAccept_mgmtDrop (hm : s.rb Reg.ID_MGMTPATH 0 = false) : s.laneAccept 0 f = s.bump (Reg.HL_MGMTDROP 0) := if_pos ⟨by simp [hp], hm⟩

theorem laneAccept_mgmt (hm : s.rb Reg.ID_MGMTPATH 0 = true) (hl : 64 ≤ f.bytes.length) (he : fld f.w1 35 22 = f.bytes.length)
    (hf : fcsGood f.bytes = true) : s.laneAccept 0 f = (s.bump (Reg.HL_RXFRM 0)).inbandRequest f.bytes := by
  have hd : decide (0 = 0 ∧ fld f.w0 47 41 = 112) = true := by simp [hp]
  unfold State.laneAccept
  extract_lets port ver len ok mgmt s1
  have h1 : s1 = s.bump (Reg.HL_RXFRM 0) := if_pos hf
  rw [if_neg (by simp [hm]), if_neg (by simp [mgmt, port, hd]), if_neg (by simp [len, hl, he]), if_neg (by simp [ok, hf]), h1]
  exact if_pos hd

end

end Sys2Proof.Machine

namespace Sys2Proof
open Machine

/-- Settles O47: the checks of a frame in their order, then the pipeline, the spindle's queue, or the commands of a request. -/
theorem hostAndManagementFrames : Obligations.HostAndManagementFrames := by
  refine ⟨fun n f s0 => ?_, fun f s0 => ?_⟩
  · intro s port ver sound tagged drops
    have out : ∀ {u : State}, s.laneReceive n f = u → exec (.hlFrameReceive n f) s0 = .next u := fun h => congrArg Host.Outcome.next h
    have accept : tagged → s.laneReceive n f = s.laneAccept n f := fun ⟨⟨hh, hg, hc, hl⟩, h7, hv⟩ => laneReceive_tagged hh hg hc hl h7 hv
    refine ⟨fun h => ?_, fun ho hl hr ha => groupsIn_counts f.pre ho hl hr ha, fun h => out (laneReceive_deaf h), fun hh h => out (laneReceive_abort hh h),
      fun ⟨hh, hg, hc, hl⟩ h => out (laneReceive_header hh hg hc hl h), fun ht hm hn hs => out ((accept ht).trans (laneAccept_badId hm hn hs)),
      fun ht hp hl => out ((accept ht).trans (laneAccept_length (goodId_lane n.isLt hp) hl)),
      fun ht hp hv hl he hf => out ((accept ht).trans (laneAccept_badFcs hl he hp hv hf)), fun ht hp hl he hf => ?_, fun ht hp hv hl he hf => ?_⟩
    · exact (congrArg (State.groupsIn s0 n) h).trans (groupsIn_nil s0 n)
    · exact ⟨_, out (accept ht), laneAccept_lane hl he hp hf⟩
    · exact ⟨_, out (accept ht), laneAccept_spindle hl he hp hv hf⟩
  · intro s ok
    have out : ∀ {u : State}, s.laneReceive 0 f = u → exec (.mgmtRequestFrame f) s0 = .next u := fun h => congrArg Host.Outcome.next h
    have accept : ok → s.laneReceive 0 f = s.laneAccept 0 f := fun ⟨hh, hg, hc, hl, h7, hv, _⟩ => laneReceive_tagged hh hg hc hl h7 hv
    have port : ok → fld f.w0 47 41 = 112 := fun ⟨_, _, _, _, _, _, hp⟩ => hp
    refine ⟨fun h hm => out ((accept h).trans (laneAccept_mgmtDrop (port h) hm)), fun w h hm hl he hf ht hn hw ho hlo hhi hc hi => ?_,
      fun h hm hl he hf ht hn hi => ?_⟩
    · obtain ⟨hmg, hregs, hbob⟩ := inbandRequest_read (s := s.bump (Reg.HL_RXFRM 0)) hl ht hn hi hw ho hlo hhi (canReach_bump (by decide) hc)
      refine ⟨_, out ((accept h).trans (laneAccept_mgmt (port h) hm hl he hf)), _, hmg, rfl, rfl, ?_, ?_, hbob⟩
      · rw [List.flatMap_singleton, readReply_words]
        rfl
      · exact (congrArg (fun r => Tab.get RegMap.resetWord r (Reg.HL_RXFRM 0)) hregs).trans (reg_bump_same _ _)
    · exact ⟨_, out ((accept h).trans (laneAccept_mgmt (port h) hm hl he hf)), inbandRequest_none (s := s.bump (Reg.HL_RXFRM 0)) hl ht hn hi⟩

end Sys2Proof
end

section
/-! PROOF. Writes of one register of a port or line group (O12): the register map at a port's and a line group's words, the write of an RW word, and what
the writes of TESTMODE, AFE, LG_SKEIN and LG_REPCTL leave. -/

namespace Sys2Proof.Machine

/-! ### The register map at a port's and a line group's words (R32) -/

theorem regLoc_of_port (p : PortNo) {o : Nat} (h : o < 0x1000) :
    RegLoc.of (0x10000 + 0x1000 * p.val + o) = some { blk := .port, inst := p, sub := 0, off := o } := by
  have hp : p.val < 96 := p.isLt
  unfold RegLoc.of
  iterate 11 rw [if_neg (by omega)]
  rw [if_pos (by omega), show (0x10000 + 0x1000 * p.val + o - 0x10000) / 0x1000 = p.val by omega,
    show (0x10000 + 0x1000 * p.val + o - 0x10000) % 0x1000 = o by omega]

theorem regLoc_of_lg (g : LgNo) {o : Nat} (h : o < 0x1000) :
    RegLoc.of (0x70000 + 0x1000 * g.val + o) = some { blk := .lg, inst := g, sub := 0, off := o } := by
  have hg : g.val < 6 := g.isLt
  unfold RegLoc.of
  iterate 12 rw [if_neg (by omega)]
  rw [if_pos (by omega), show (0x70000 + 0x1000 * g.val + o - 0x70000) / 0x1000 = g.val by omega,
    show (0x70000 + 0x1000 * g.val + o - 0x70000) % 0x1000 = o by omega]

theorem regMap_at_of {a : Nat} {l : RegLoc} {row : RegRow} {second : Bool} (hl : RegLoc.of a = some l)
    (hf : RegMap.find (RegMap.rows l.blk) l.off = some (row, second)) : RegMap.at a = some (l, row, second) := by
  simp only [RegMap.at, hl, hf]

/-- The row of a port's word. -/
theorem regMap_at_port (p : PortNo) {o : Nat} {row : RegRow} (hf : RegMap.find RegMap.port o = some (row, false)) (h : o < 0x1000) :
    RegMap.at (0x10000 + 0x1000 * p.val + o) = some ({ blk := .port, inst := p, sub := 0, off := o }, row, false) :=
  regMap_at_of (regLoc_of_port p h) hf

/-- The row of a line group's word. -/
theorem regMap_at_lg (g : LgNo) {o : Nat} {row : RegRow} (hf : RegMap.find RegMap.lg o = some (row, false)) (h : o < 0x1000) :
    RegMap.at (0x70000 + 0x1000 * g.val + o) = some ({ blk := .lg, inst := g, sub := 0, off := o }, row, false) :=
  regMap_at_of (regLoc_of_lg g h) hf

/-- The rows of LG_SKEIN0–7. -/
theorem find_lgSkein : ∀ k : Fin 8, RegMap.find RegMap.lg (0x100 + k.val) = some (⟨0x100, 8, 1, .rw, 0x0, 0xCF000000FFFF⟩, false) := by decide

/-! ### The write of an RW word (R36, R43) -/

/-- The word is an RW word that the runtime writes as the host does, outside the delegation. -/
def PlainRw (l : RegLoc) (row : RegRow) : Prop := row.acc = .rw ∧ isDelegation l = false ∧ (l.blk = .port → runMask l.off = 0)

/-- The value that a write of the word stores. -/
def State.stores (s : State) (l : RegLoc) (row : RegRow) (a : Nat) (v : Word) : Word := clampWord l (s.reg (Reg.PORT_CAP l.inst)) (s.masked row a v)

theorem writeWord_rw {s : State} {r a : Nat} {l : RegLoc} {row : RegRow} (v : Word) (hm : RegMap.at a = some (l, row, false)) (hr : PlainRw l row) :
    s.writeWord r a v =
      let x := s.storeAt r l a (s.stores l row a v)
      if x.1 = stOK then (stOK, (x.2.goodParity a).regwr l a v) else x := by
  obtain ⟨hrw, hd, hk⟩ := hr
  have hl := lt_of_regMap_at (a := a) (by simp [hm])
  have hb : isBobbin a = false := by simp [isBobbin, hl]
  have hn : ¬ (l.blk = .port ∧ s.isRuntime r = true ∧ runMask l.off ≠ 0) := fun ⟨h, _, h0⟩ => h0 (hk h)
  simp only [State.writeWord, State.writeAt, hb, hm, hrw, hd, hn, State.stores, reduceCtorEq, Bool.false_eq_true, if_false, ne_eq, not_true]
  rfl

/-- A write that the word's own effect takes. -/
theorem performs_stored {s t : State} {r : Requester} {a : Nat} {v : Word} {l : RegLoc} {row : RegRow} {P : State → Prop} (h : CanWrite s r a)
    (hm : RegMap.at a = some (l, row, false)) (hr : PlainRw l row) (hs : s.storeAt (reqNo r) l a (s.stores l row a v) = (stOK, t))
    (hP : P (((t.goodParity a).regwr l a v).setReply (reqNo r) 0 a 0)) : Performs r a 0 (.next (s.writeReg r a v)) P := by
  refine ⟨_, rfl, ?_⟩
  rw [writeReg_eq v h (lt_of_regMap_at (by simp [hm])) (by simp [hm]), writeWord_rw v hm hr, hs]
  exact ⟨completed_setReply _ r 0 a, hP⟩

/-- A write that the word's own effect refuses. -/
theorem performs_refused {s t : State} {r : Requester} {a st : Nat} {v : Word} {l : RegLoc} {row : RegRow} {P : State → Prop} (h : CanWrite s r a)
    (hm : RegMap.at a = some (l, row, false)) (hr : PlainRw l row) (hs : s.storeAt (reqNo r) l a (s.stores l row a v) = (st, t)) (h0 : st ≠ stOK)
    (hP : P (t.setReply (reqNo r) st a 0)) : Performs r a st (.next (s.writeReg r a v)) P := by
  refine ⟨_, rfl, ?_⟩
  rw [writeReg_eq v h (lt_of_regMap_at (by simp [hm])) (by simp [hm]), writeWord_rw v hm hr, hs]
  simp only [if_neg h0]
  exact ⟨completed_setReply _ r st a, hP⟩

/-- What the record of a write and its reply leave of registers, ports and line groups. -/
theorem reg_written (t : State) (l : RegLoc) (r : Requester) {a b : Nat} (v : Word) (h : b < 0x200000) :
    (((t.goodParity a).regwr l a v).setReply (reqNo r) 0 a 0).reg b = t.reg b :=
  reg_regwr (t.goodParity a) l a v (by unfold Reg.DST_EVLOST; omega) (by unfold Reg.DST_STAT; omega)

theorem port_written (t : State) (l : RegLoc) (r : Requester) (a : Nat) (v : Word) (p : Nat) :
    (((t.goodParity a).regwr l a v).setReply (reqNo r) 0 a 0).port p = t.port p :=
  regwr_frame (fun u => u.port p) (fun _ _ => rfl) (fun _ _ _ _ => rfl) (t.goodParity a) l a v

theorem lg_written (t : State) (l : RegLoc) (r : Requester) (a : Nat) (v : Word) (g : Nat) :
    (((t.goodParity a).regwr l a v).setReply (reqNo r) 0 a 0).lg g = t.lg g :=
  regwr_frame (fun u => u.lg g) (fun _ _ => rfl) (fun _ _ _ _ => rfl) (t.goodParity a) l a v

/-! ### Fields under the map's mask -/

theorem testBit_masked (s : State) (row : RegRow) (a : Nat) (v : Word) {i : Nat} (h : i < 48) :
    (s.masked row a v).toNat.testBit i = if row.mask.testBit i then v.toNat.testBit i else (s.reg a).toNat.testBit i := by
  simp only [State.masked, BitVec.testBit_toNat, BitVec.getLsbD_or, BitVec.getLsbD_and, BitVec.getLsbD_not, BitVec.getLsbD_ofNat, h, decide_true,
    Bool.true_and]
  cases row.mask.testBit i <;> simp

/-- A field inside the mask takes the value written. -/
theorem fld_masked (s : State) (row : RegRow) (a : Nat) (v : Word) {hi lo : Nat} (h : hi < 48) (hm : ∀ i ≤ hi, lo ≤ i → row.mask.testBit i = true) :
    fld (s.masked row a v) hi lo = fld v hi lo := by
  apply Nat.eq_of_testBit_eq
  intro i
  rw [testBit_fld, testBit_fld]
  by_cases hi' : i < hi + 1 - lo
  · rw [testBit_masked s row a v (by omega), if_pos (hm _ (by omega) (by omega))]
  · simp [hi']

theorem bitOf_masked (s : State) (row : RegRow) (a : Nat) (v : Word) {i : Nat} (h : i < 48) (hm : row.mask.testBit i = true) :
    bitOf (s.masked row a v) i = bitOf v i := by
  rw [bitOf_eq, bitOf_eq, testBit_masked s row a v h, if_pos hm]

/-- The bits inside the mask are those written. -/
theorem masked_and_mask (s : State) (row : RegRow) (a : Nat) (v : Word) :
    s.masked row a v &&& BitVec.ofNat 48 row.mask = v &&& BitVec.ofNat 48 row.mask := by
  ext i hi
  simp only [State.masked, BitVec.getElem_and, BitVec.getElem_or, BitVec.getElem_not]
  cases (BitVec.ofNat 48 row.mask)[i] <;> simp

/-! ### TESTMODE and AFE (R75, R82, R84) -/

theorem restartSym_regs (s : State) (p : Nat) : (s.restartSym p).regs = s.regs := rfl

theorem testTurn_regs (s s0 : State) (p : Nat) : (s.testTurn s0 p).regs = s.regs := by
  unfold State.testTurn
  split <;> rfl

theorem portWrite_testmode (s : State) (r p : Nat) (w : Word) :
    s.portWrite r p 4 (Reg.PORT_TESTMODE p) w = (s.setReg (Reg.PORT_TESTMODE p) w).testTurn s p := by
  simp [State.portWrite]

theorem portWrite_afe (s : State) (r p : Nat) (w : Word) :
    s.portWrite r p 0x20 (Reg.PORT_AFE p) w = (s.setGain p (fld w 5 0)).adcRecal p (fld w 19 16) := by
  simp [State.portWrite]

/-- A port's event of the distaff changes what an event does. -/
theorem dstPortEvent_frame {β : Type} (g : State → β) (hd : ∀ s d, g { s with dst := d } = g s)
    (hr : ∀ s a v, a = Reg.DST_EVLOST ∨ a = Reg.DST_STAT → g (s.setReg a v) = g s) (s : State) (typ p sym low : Nat) (cont : List Word) :
    g (s.dstPortEvent typ p sym low cont) = g s := by
  unfold State.dstPortEvent
  split
  · exact dstEvent_frame g hd hr s typ _ p _ cont
  · rfl

theorem reg_dstPortEvent (s : State) (typ p sym low : Nat) (cont : List Word) {a : Nat} (h : a < 0x200000) :
    (s.dstPortEvent typ p sym low cont).reg a = s.reg a :=
  dstPortEvent_frame (fun t => t.reg a) (fun _ _ => rfl)
    (fun t b v hb => reg_setReg_other t v (by rcases hb with rfl | rfl <;> (intro e; subst e; exact absurd h (by decide)))) s typ p sym low cont

theorem port_dstPortEvent (s : State) (typ p sym low : Nat) (cont : List Word) (q : Nat) :
    (s.dstPortEvent typ p sym low cont).port q = s.port q :=
  dstPortEvent_frame (fun t => t.port q) (fun _ _ => rfl) (fun _ _ _ _ => rfl) s typ p sym low cont

/-! The symbol clock of a port goes by five words. -/

section
variable {s t : State} {p : Nat} (hs : t.reg (Reg.PORT_STATE p) = s.reg (Reg.PORT_STATE p)) (ht : t.reg (Reg.PORT_TESTMODE p) = s.reg (Reg.PORT_TESTMODE p))
  (hm : t.reg (Reg.PORT_MODE p) = s.reg (Reg.PORT_MODE p)) (hc : t.reg (Reg.PORT_CAP p) = s.reg (Reg.PORT_CAP p))
  (hk : ∀ n, t.reg (Reg.LG_SKEIN (lgOf p) n) = s.reg (Reg.LG_SKEIN (lgOf p) n))

include hk in
theorem skeinOf_congr (i : Nat) : t.skeinOf (lgOf p) i = s.skeinOf (lgOf p) i := by
  have h : ∀ n, t.skMembers (lgOf p) n = s.skMembers (lgOf p) n := fun n => by rw [State.skMembers, hk, State.skMembers]
  simp only [State.skeinOf, h]

include hs ht hm hc hk

theorem testMode_congr : t.testMode p = s.testMode p := by
  have hf : t.forceMode p (t.reg (Reg.PORT_MODE p)) = s.forceMode p (s.reg (Reg.PORT_MODE p)) := by
    rw [State.forceMode, State.rb, hc, hm, State.forceMode, State.rb]
  have hp : t.pst p = s.pst p := congrArg (fld · 31 28) hs
  have hr : t.rf (Reg.PORT_TESTMODE p) 3 0 = s.rf (Reg.PORT_TESTMODE p) 3 0 := congrArg (fld · 3 0) ht
  unfold State.testMode
  rw [hf, hp, hr, skeinOf_congr hk]

theorem lineMode_congr : t.lineMode p = s.lineMode p := by
  have hf : t.forceMode p (t.reg (Reg.PORT_MODE p)) = s.forceMode p (s.reg (Reg.PORT_MODE p)) := by
    rw [State.forceMode, State.rb, hc, hm, State.forceMode, State.rb]
  have hp : t.pst p = s.pst p := congrArg (fld · 31 28) hs
  have hq : t.pmode p = s.pmode p := congrArg (fld · 23 20) hs
  rw [State.lineMode, State.txMode, State.testActive, testMode_congr hs ht hm hc hk, hf, hp, hq]
  rfl

theorem symcnt_congr (hn : t.now = s.now) (hp : t.port p = s.port p) : t.symcnt p = s.symcnt p := by
  rw [State.symcnt, State.groupSyms, State.portRate, lineMode_congr hs ht hm hc hk, hn, hp]
  rfl

end

theorem symcnt_setAfe (s : State) (p : PortNo) (v : Word) : (s.setReg (Reg.PORT_AFE p) v).symcnt p = s.symcnt p := by
  have hp : p.val < 96 := p.isLt
  refine symcnt_congr ?_ ?_ ?_ ?_ (fun n => ?_) rfl rfl
  · exact reg_setReg_other s v (by unfold Reg.PORT_STATE Reg.PORT_AFE; omega)
  · exact reg_setReg_other s v (by unfold Reg.PORT_TESTMODE Reg.PORT_AFE; omega)
  · exact reg_setReg_other s v (by unfold Reg.PORT_MODE Reg.PORT_AFE; omega)
  · exact reg_setReg_other s v (by unfold Reg.PORT_CAP Reg.PORT_AFE; omega)
  · exact reg_setReg_other s v (by unfold Reg.LG_SKEIN Reg.PORT_AFE; omega)

section
variable (s : State) (p : PortNo)

/-- A write of the gain: what it stores, and the settle period that a change starts. -/
theorem setGain_spec {v : Nat} (h : v ≤ 32) :
    (s.setGain p v).rf (Reg.PORT_AFE p) 5 0 = v ∧ (s.setGain p v).rf (Reg.PORT_AFE p) 19 16 = s.rf (Reg.PORT_AFE p) 19 16 ∧
      (s.setGain p v).rb (Reg.PORT_AFE p) 24 = s.rb (Reg.PORT_AFE p) 24 ∧ ((s.setGain p v).port p).half = (s.port p).half ∧
      (v ≠ s.rf (Reg.PORT_AFE p) 5 0 → s.symcnt p + 64 ≤ ((s.setGain p v).port p).settleEnd) := by
  by_cases hv : s.rf (Reg.PORT_AFE p) 5 0 = v
  · rw [State.setGain, if_neg (show ¬ 32 < v by omega), if_pos hv]
    exact ⟨hv, rfl, rfl, rfl, fun hn => absurd hv.symm hn⟩
  · have he : s.setGain p v = ((s.setRf (Reg.PORT_AFE p) 5 0 v).settle p 64).dstPortEvent 0x06 p (s.symcnt p) v [] := by
      rw [State.setGain, if_neg (show ¬ 32 < v by omega), if_neg hv]
    have hr : (s.setGain p v).reg (Reg.PORT_AFE p) = putFld (s.reg (Reg.PORT_AFE p)) 5 0 v := by
      rw [he, reg_dstPortEvent _ _ _ _ _ _ (by unfold Reg.PORT_AFE; omega)]
      exact reg_setReg_same s _ _
    have hp : (s.setGain p v).port p = { s.port p with settleEnd := max (s.port p).settleEnd (s.symcnt p + 64) } := by
      rw [he, port_dstPortEvent, State.settle, updPort_eq, port_setPort_same, setRf_eq, symcnt_setAfe, port_setReg]
    refine ⟨?_, ?_, ?_, by rw [hp], fun _ => by rw [hp]; exact Nat.le_max_right _ _⟩
    · rw [State.rf, hr, fld_putFld _ _ _ _ (by decide) (by decide)]
      exact Nat.mod_eq_of_lt (by omega)
    · rw [State.rf, hr, fld_putFld_other _ _ _ _ _ _ (by decide) (by decide) (by decide), State.rf]
    · rw [State.rb, hr, bitOf_putFld _ _ _ _ _ (by decide) (by decide), if_neg (by decide), State.rb]

/-- A write of CALSEQ that does not change it does nothing. -/
theorem adcRecal_same {q : Nat} (h : s.rf (Reg.PORT_AFE p) 19 16 = q) : s.adcRecal p q = s := if_pos h

/-- A change of CALSEQ requests a recalibration, or holds it while one runs. -/
theorem adcRecal_change {q : Nat} (h : s.rf (Reg.PORT_AFE p) 19 16 ≠ q) (hq : q < 16) :
    (s.adcRecal p q).rf (Reg.PORT_AFE p) 19 16 = q ∧ (s.adcRecal p q).rb (Reg.PORT_AFE p) 24 = true ∧
      (s.rb (Reg.PORT_AFE p) 24 = false → ((s.adcRecal p q).port p).calRun = q) ∧
      (s.rb (Reg.PORT_AFE p) 24 = true → ((s.adcRecal p q).port p).calHeld = some q) := by
  have h0 : fld (putFld (s.reg (Reg.PORT_AFE p)) 19 16 q) 19 16 = q := by
    rw [fld_putFld _ _ _ _ (by decide) (by decide)]
    exact Nat.mod_eq_of_lt (by omega)
  rw [State.adcRecal, if_neg h]
  cases hb : s.rb (Reg.PORT_AFE p) 24
  · rw [if_neg (by simp)]
    refine ⟨?_, ?_, fun _ => ?_, fun hc => absurd hc (by decide)⟩
    · show fld (State.reg _ _) 19 16 = q
      rw [updPort_eq, reg_setPort, setRb_eq, reg_setReg_same, fld_putFld_other _ _ _ _ _ _ (by decide) (by decide) (by decide), setRf_eq, reg_setReg_same, h0]
    · show bitOf (State.reg _ _) 24 = true
      rw [updPort_eq, reg_setPort, setRb_eq, reg_setReg_same]
      exact bitOf_putBit _ 24 true (by decide)
    · rw [updPort_eq, port_setPort_same]
  · rw [if_pos rfl]
    refine ⟨?_, ?_, fun hc => absurd hc (by decide), fun _ => ?_⟩
    · show fld (State.reg _ _) 19 16 = q
      rw [updPort_eq, reg_setPort, setRf_eq, reg_setReg_same, h0]
    · show bitOf (State.reg _ _) 24 = true
      rw [updPort_eq, reg_setPort, setRf_eq, reg_setReg_same, bitOf_putFld _ _ _ _ _ (by decide) (by decide), if_neg (by decide)]
      exact hb
    · rw [updPort_eq, port_setPort_same]

/-- What a write of PORT_AFE stores in its two fields. -/
theorem stores_afe (v : Word) {l : RegLoc} {row : RegRow} (hl : l.blk = .port ∧ l.off = 0x20) (hm : row.mask = 0xF003F) (a : Nat) :
    fld (s.stores l row a v) 5 0 = min 32 (fld v 5 0) ∧ fld (s.stores l row a v) 19 16 = fld v 19 16 := by
  have h : s.stores l row a v = putFld (s.masked row a v) 5 0 (min 32 (fld (s.masked row a v) 5 0)) := by
    simp [State.stores, clampWord, clampPort, mapFld, hl]
  rw [h, fld_putFld _ _ _ _ (by decide) (by decide), fld_putFld_other _ _ _ _ _ _ (by decide) (by decide) (by decide),
    fld_masked s row a v (by decide) (by rw [hm]; decide), fld_masked s row a v (by decide) (by rw [hm]; decide)]
  exact ⟨Nat.mod_eq_of_lt (by omega), rfl⟩

end

/-! ### LG_SKEIN and LG_REPCTL (R113, R319) -/

/-- The refusal of a skein goes by the fields of the word that its row holds. -/
theorem skeinRefusal_congr (s : State) (g n : Nat) {v w : Word} (hm : fld w 15 0 = fld v 15 0) (he : bitOf w 47 = bitOf v 47)
    (hd : fld w 43 40 = fld v 43 40) : s.skeinRefusal g n w = s.skeinRefusal g n v := by
  unfold State.skeinRefusal
  rw [hm, he, hd]

theorem endSkeinCoef_regs (s : State) (g n : Nat) : (s.endSkeinCoef g n).regs = s.regs := rfl

theorem skeinWrite_regs (s : State) (g n : Nat) {v : Word} (h : s.skeinRefusal g n v = 0) :
    ∃ t, s.skeinWrite g n v = (stOK, t) ∧ t.regs = (s.setReg (Reg.LG_SKEIN g n) (v &&& 0xCF000000FFFF#48)).regs := by
  unfold State.skeinWrite
  extract_lets r old s1 s2 s3
  have h2 : s2.regs = s1.regs := forAll_frame State.regs _ (fun t i => by split <;> rfl) _ s1
  have h3 : s3.regs = s2.regs := forAll_frame State.regs _ (fun t i => testTurn_regs t s _) _ s2
  rw [if_neg (fun hr => hr h)]
  split
  · exact ⟨s3.endSkeinCoef g n, rfl, (endSkeinCoef_regs s3 g n).trans (h3.trans h2)⟩
  · exact ⟨s3, rfl, h3.trans h2⟩

theorem repLoadPort_replay (s : State) (g h : Nat) (t : State) (x : Nat × Nat) : ((s.repLoadPort g t x).lg h).replay = (t.lg h).replay := by
  have hu : ∀ (u : State) (k : Nat) (f : LineGroup → LineGroup), (∀ y, (f y).replay = y.replay) → ((u.updLg k f).lg h).replay = (u.lg h).replay := by
    intro u k f hf
    rw [updLg_eq, lg_setLg]
    split
    · rename_i e
      rw [e, hf]
    · rfl
  unfold State.repLoadPort
  extract_lets p k t1
  have h1 : t1.lg h = t.lg h := by
    unfold t1
    rw [setRf_eq, lg_setReg, setRf_eq, lg_setReg, lg_setReg, lg_setPort]
  split
  · refine (hu t1 (lgOf p) _ ?_).trans (congrArg LineGroup.replay h1)
    exact fun _ => rfl
  · refine (hu t1 (lgOf p) _ ?_).trans (congrArg LineGroup.replay h1)
    exact fun _ => rfl

/-- What LG_REPCTL gives a replay, and when it started. -/
def Replay.origin (x : Replay) : Nat × Bool × Nat × Nat × Nat := (x.st, x.src, x.spn, x.base, x.at_)

/-- What the replay datapath loads leaves how it was started. -/
theorem repLoad_origin (s : State) (g : Nat) : ((s.repLoad g).lg g).replay.origin = (s.lg g).replay.origin := by
  have hf := forAll_frame (fun t : State => (t.lg g).replay) _ (fun t x => repLoadPort_replay s g g t x) (s.repPorts g) s
  rw [State.repLoad, State.repKeep, State.updReplay, updLg_eq, lg_setLg_same, ← congrArg Replay.origin hf]
  rfl

/-- LG_REPCTL takes the word, and the replay of line group g begins. -/
def State.repBegun (s : State) (g : Nat) (v : Word) : State :=
  (s.setReg (Reg.LG_REPCTL g) (v &&& 0x813FFFFFFFFF#48)).updLg g fun x =>
    { x with replay := { st := 1, src := bitOf v 40, spn := fld v 37 32, base := fld v 31 0, at_ := s.now } }

theorem repCtlWrite_begin {s : State} {g : Nat} {v : Word} (h : s.rb (Reg.LG_REPCTL g) 47 = false) (hv : bitOf v 47 = true) :
    s.repCtlWrite g v = (((s.repBegun g v).repLoad g).setRf (Reg.LG_REPSTAT g) 47 45 1).setRb (Reg.LG_REPSTAT g) 44 false :=
  if_pos ⟨hv, h⟩

theorem repBegun_origin (s : State) (g : Nat) (v : Word) :
    ((s.repBegun g v).lg g).replay.origin = (1, bitOf v 40, fld v 37 32, fld v 31 0, s.now) := by
  rw [State.repBegun, updLg_eq, lg_setLg_same, Replay.origin]

/-- The start of a replay. -/
theorem repCtlWrite_start {s : State} {g : Nat} {v : Word} (h : s.rb (Reg.LG_REPCTL g) 47 = false) (hv : bitOf v 47 = true) :
    ((s.repCtlWrite g v).lg g).replay.origin = (1, bitOf v 40, fld v 37 32, fld v 31 0, s.now) ∧
      (s.repCtlWrite g v).rf (Reg.LG_REPSTAT g) 47 45 = 1 := by
  rw [repCtlWrite_begin h hv, setRb_eq, lg_setReg, setRf_eq, lg_setReg, repLoad_origin, repBegun_origin]
  refine ⟨rfl, ?_⟩
  rw [State.rf, reg_setReg_same, fld_putFld_other _ _ _ _ _ _ (by decide) (by decide) (by decide), reg_setReg_same,
    fld_putFld _ _ _ _ (by decide) (by decide)]
  rfl

/-! ### The writes of the statement -/

/-- A field of a word with that field put. -/
theorem fld_putFld_lt (w : Word) {hi lo v : Nat} (h : hi < 48) (hl : lo ≤ hi) (hv : v < 2 ^ (hi + 1 - lo)) : fld (putFld w hi lo v) hi lo = v := by
  rw [fld_putFld _ _ _ _ h hl, Nat.mod_eq_of_lt hv]

/-- A write of PORT_AFE leaves the port and its PORT_AFE as the gain and the recalibration it asks for do. -/
theorem performs_afe {s : State} {r : Requester} {p : PortNo} (h : CanWrite s r (Reg.PORT_AFE p)) {v : Word} {P : State → Prop} {g q : Nat}
    (hg : min 32 (fld v 5 0) = g) (hq : fld v 19 16 = q)
    (hP : ∀ t : State, t.reg (Reg.PORT_AFE p) = ((s.setGain p g).adcRecal p q).reg (Reg.PORT_AFE p) →
      t.port p = ((s.setGain p g).adcRecal p q).port p → P t) :
    Performs r (Reg.PORT_AFE p) 0 (.next (s.writeReg r (Reg.PORT_AFE p) v)) P := by
  refine performs_stored h (regMap_at_port p (o := 0x20) rfl (by decide)) ⟨rfl, rfl, fun _ => rfl⟩
    (congrArg (Prod.mk stOK) (portWrite_afe s (reqNo r) p _)) (hP _ ?_ ?_)
  all_goals
    obtain ⟨hg', hq'⟩ := stores_afe s v (l := { blk := .port, inst := p, sub := 0, off := 0x20 }) (row := ⟨0x20, 1, 1, .rw, 0x10, 0xF003F⟩) ⟨rfl, rfl⟩ rfl
      (Reg.PORT_AFE p)
    simp only [hg', hq', hg, hq]
  · exact reg_written _ _ _ _ (by unfold Reg.PORT_AFE; omega)
  · exact port_written _ _ _ _ _ _

section
variable {s : State} {r : Requester} {g : LgNo}

/-- The place and the row of LG_SKEIN. -/
def skeinLoc (g : LgNo) (k : Fin 8) : RegLoc := { blk := .lg, inst := g, sub := 0, off := 0x100 + k.val }
def skeinRow : RegRow := ⟨0x100, 8, 1, .rw, 0x0, 0xCF000000FFFF⟩

theorem regMap_at_skein (g : LgNo) (k : Fin 8) : RegMap.at (Reg.LG_SKEIN g k) = some (skeinLoc g k, skeinRow, false) := by
  have h := regMap_at_lg g (find_lgSkein k) (by omega)
  rwa [← Nat.add_assoc] at h

theorem skeinRow_plain (g : LgNo) (k : Fin 8) : PlainRw (skeinLoc g k) skeinRow := ⟨rfl, rfl, fun h => by cases h⟩

/-- A write of LG_SKEIN does what the word, under its mask, says. -/
theorem storeAt_skein (s : State) (r : Nat) (g : LgNo) (k : Fin 8) (a : Nat) (w : Word) :
    s.storeAt r (skeinLoc g k) a w = s.skeinWrite g k w := by
  have h : 0x100 ≤ 0x100 + k.val ∧ 0x100 + k.val < 0x108 := by omega
  simp [State.storeAt, skeinLoc, h]

theorem skeinRefusal_masked (s : State) (g : LgNo) (k : Fin 8) (a : Nat) (v : Word) :
    s.skeinRefusal g k (s.masked skeinRow a v) = s.skeinRefusal g k v :=
  skeinRefusal_congr s g k (fld_masked s skeinRow a v (by decide) (by decide)) (bitOf_masked s skeinRow a v (by decide) (by decide))
    (fld_masked s skeinRow a v (by decide) (by decide))

/-- A write of LG_SKEIN that is taken. -/
theorem performs_skein {k : Fin 8} {v : Word} (h : CanWrite s r (Reg.LG_SKEIN g k)) (h0 : s.skeinRefusal g k v = 0) :
    Performs r (Reg.LG_SKEIN g k) 0 (.next (s.writeReg r (Reg.LG_SKEIN g k) v)) (fun t => t.reg (Reg.LG_SKEIN g k) = v &&& 0xCF000000FFFF#48) := by
  obtain ⟨t, ht, hr⟩ := skeinWrite_regs s g k ((skeinRefusal_masked s g k (Reg.LG_SKEIN g k) v).trans h0)
  refine performs_stored h (regMap_at_skein g k) (skeinRow_plain g k) ((storeAt_skein s _ g k _ _).trans ht) ?_
  rw [reg_written _ _ _ _ (by unfold Reg.LG_SKEIN; omega), State.reg, hr]
  show State.reg _ _ = _
  rw [reg_setReg_same]
  exact masked_and_mask s skeinRow _ v

/-- A write of LG_SKEIN that is refused keeps the word and gives its reason. -/
theorem performs_skeinRefused {k : Fin 8} {v : Word} (h : CanWrite s r (Reg.LG_SKEIN g k)) (h0 : s.skeinRefusal g k v ≠ 0) :
    Performs r (Reg.LG_SKEIN g k) 8 (.next (s.writeReg r (Reg.LG_SKEIN g k) v)) (fun t =>
      t.reg (Reg.LG_SKEIN g k) = s.reg (Reg.LG_SKEIN g k) ∧ t.rf (Reg.LG_SKCFGSTAT g) 3 0 = s.skeinRefusal g k v % 16) := by
  have hw : s.skeinWrite g k (s.masked skeinRow (Reg.LG_SKEIN g k) v) = (8, s.setRf (Reg.LG_SKCFGSTAT g) 3 0 (s.skeinRefusal g k v)) := by
    rw [State.skeinWrite, skeinRefusal_masked]
    exact if_pos h0
  refine performs_refused h (regMap_at_skein g k) (skeinRow_plain g k) ((storeAt_skein s _ g k _ _).trans hw) (by decide) ⟨?_, ?_⟩
  · exact reg_setReg_other s _ (by unfold Reg.LG_SKEIN Reg.LG_SKCFGSTAT; omega)
  · show fld (State.reg (s.setReg _ _) _) 3 0 = _
    rw [reg_setReg_same]
    exact fld_putFld _ _ _ _ (by decide) (by decide)

/-- The row of LG_REPCTL. -/
def repCtlRow : RegRow := ⟨0x200, 1, 1, .rw, 0x0, 0x813FFFFFFFFF⟩

/-- A write of LG_REPCTL with EN, of a line group that does not replay. -/
theorem performs_replay {v : Word} (h : CanWrite s r (Reg.LG_REPCTL g)) (h0 : s.rb (Reg.LG_REPCTL g) 47 = false) (hv : bitOf v 47 = true) :
    Performs r (Reg.LG_REPCTL g) 0 (.next (s.writeReg r (Reg.LG_REPCTL g) v)) (fun t =>
      (t.lg g).replay.origin = (1, bitOf v 40, fld v 37 32, fld v 31 0, s.now) ∧ t.rf (Reg.LG_REPSTAT g) 47 45 = 1) := by
  let w := s.masked repCtlRow (Reg.LG_REPCTL g) v
  have hb : ∀ i, i < 48 → repCtlRow.mask.testBit i = true → bitOf w i = bitOf v i := fun i hi hm => bitOf_masked s repCtlRow _ v hi hm
  have hf : fld w 37 32 = fld v 37 32 ∧ fld w 31 0 = fld v 31 0 :=
    ⟨fld_masked s repCtlRow _ v (by decide) (by decide), fld_masked s repCtlRow _ v (by decide) (by decide)⟩
  obtain ⟨ho, hst⟩ := repCtlWrite_start (v := w) h0 ((hb 47 (by decide) (by decide)).trans hv)
  refine performs_stored (t := s.repCtlWrite g w) h (regMap_at_lg g (o := 0x200) rfl (by decide)) ⟨rfl, rfl, fun h => by cases h⟩ rfl ⟨?_, ?_⟩
  · rw [lg_written, ho, hb 40 (by decide) (by decide), hf.1, hf.2]
  · rw [State.rf, reg_written _ _ _ _ (by unfold Reg.LG_REPSTAT; omega)]
    exact hst

end

end Sys2Proof.Machine

namespace Sys2Proof
open Machine

/-- Settles O12: each write is one of an RW word, which its own effect takes or refuses. -/
theorem portRegisterCommands : Obligations.PortRegisterCommands := by
  unfold Obligations.PortRegisterCommands
  intro r s
  refine ⟨fun p tm h => ?_, fun p gain h => ?_, fun p seq h hq => ?_, fun g k v h => ⟨fun h0 => ?_, fun h0 => ?_⟩, fun g v h h0 => ?_⟩
  · refine performs_stored h (regMap_at_port p (o := 4) rfl (by decide)) ⟨rfl, rfl, fun _ => rfl⟩
      (congrArg (Prod.mk stOK) (portWrite_testmode s (reqNo r) p _)) ⟨?_, fun q => ?_⟩
    · rw [State.rf, reg_written _ _ _ _ (by unfold Reg.PORT_TESTMODE; omega), State.reg, testTurn_regs]
      show fld (State.reg _ _) 3 0 = _
      rw [reg_setReg_same]
      exact (fld_masked s _ _ _ (by decide) (by decide)).trans (fld_putFld_lt _ (by decide) (by decide) tm.isLt)
    · rw [reg_written _ _ _ _ (by unfold Reg.PORT_STATE; omega), State.reg, testTurn_regs]
      exact reg_setReg_other s _ (by unfold Reg.PORT_STATE Reg.PORT_TESTMODE; omega)
  · refine performs_afe h (g := min 32 gain.toNat) (q := s.rf (Reg.PORT_AFE p) 19 16) ?_ ?_ fun t ht hp => ?_
    · rw [fld_putFld_lt _ (by decide) (by decide) gain.isLt]
    · exact fld_putFld_other _ _ _ _ _ _ (by decide) (by decide) (by decide)
    · obtain ⟨hgain, hseq, -, hhalf, hend⟩ := setGain_spec s p (Nat.min_le_left 32 gain.toNat)
      rw [adcRecal_same _ _ hseq] at ht hp
      rw [State.rf, ht, hp]
      exact ⟨hgain, hhalf, hend⟩
  · refine performs_afe h (g := min 32 (s.rf (Reg.PORT_AFE p) 5 0)) (q := seq.toNat) ?_ ?_ fun t ht hp => ?_
    · exact congrArg (min 32) (fld_putFld_other _ _ _ _ _ _ (by decide) (by decide) (by decide))
    · exact fld_putFld_lt _ (by decide) (by decide) seq.isLt
    · obtain ⟨-, hseq, hrun, -, -⟩ := setGain_spec s p (Nat.min_le_left 32 (s.rf (Reg.PORT_AFE p) 5 0))
      obtain ⟨hs, hb, hfree, hheld⟩ := adcRecal_change (s.setGain p (min 32 (s.rf (Reg.PORT_AFE p) 5 0))) p (hseq ▸ hq) seq.isLt
      rw [State.rf, State.rb, ht, hp]
      exact ⟨hs, hb, fun hf => hfree (hrun.trans hf), fun hf => hheld (hrun.trans hf)⟩
  · exact performs_skein h h0
  · exact performs_skeinRefused h h0
  · have he : bitOf (putFld v 47 47 1) 47 = true := bitOf_putBit v 47 true (by decide)
    have hb : bitOf (putFld v 47 47 1) 40 = bitOf v 40 := by rw [bitOf_putFld _ _ _ _ _ (by decide) (by decide), if_neg (by decide)]
    have hf : ∀ hi lo, hi < 47 → fld (putFld v 47 47 1) hi lo = fld v hi lo := fun hi lo h => fld_putFld_other _ _ _ _ _ _ (by decide) (by decide) (.inr h)
    obtain ⟨t, ht, hc, ho, hst⟩ := performs_replay h h0 he
    rw [hb, hf 37 32 (by decide), hf 31 0 (by decide)] at ho
    simp only [Replay.origin, Prod.mk.injEq] at ho
    obtain ⟨h1, hsrc, hspn, hbase, hat⟩ := ho
    exact ⟨t, ht, hc, h1, hsrc, hspn, hbase, hat, hst⟩

end Sys2Proof
end

section
/-! PROOF. PLCA, the decoding of codewords and the PRBS checker (O33); first what a field of a word is after another field or word was written. -/

namespace Sys2Proof.Machine

/-! ### Fields of a written word -/

section
variable (s : State) {a b hi lo hi' lo' i j : Nat}

theorem rf_setReg_other (v : Word) (h : b ≠ a) (hi lo : Nat) : (s.setReg a v).rf b hi lo = s.rf b hi lo :=
  congrArg (fld · hi lo) (reg_setReg_other s v h)

theorem rb_setReg_other (v : Word) (h : b ≠ a) (i : Nat) : (s.setReg a v).rb b i = s.rb b i := congrArg (bitOf · i) (reg_setReg_other s v h)

theorem rf_setRf_apart (v : Nat) (h : hi < 48) (hl : lo ≤ hi) (hd : hi < lo' ∨ hi' < lo) : (s.setRf a hi lo v).rf a hi' lo' = s.rf a hi' lo' := by
  rw [State.rf, setRf_eq, reg_setReg_same, fld_putFld_other _ _ _ _ _ _ h hl hd, State.rf]

theorem rb_setRf_apart (v : Nat) (h : hi < 48) (hl : lo ≤ hi) (hd : i < lo ∨ hi < i) : (s.setRf a hi lo v).rb a i = s.rb a i := by
  rw [State.rb, setRf_eq, reg_setReg_same, bitOf_putFld _ _ _ _ _ h hl, if_neg (by omega), State.rb]

theorem rb_setRb_apart (v : Bool) (h : i < 48) (hd : j ≠ i) : (s.setRb a i v).rb a j = s.rb a j := rb_setRf_apart s _ h (Nat.le_refl i) (by omega)

theorem rf_setRb_apart (v : Bool) (h : i < 48) (hd : i < lo' ∨ hi' < i) : (s.setRb a i v).rf a hi' lo' = s.rf a hi' lo' :=
  rf_setRf_apart s _ h (Nat.le_refl i) hd

theorem reg_endRunning (p op st a : Nat) : (s.endRunning p op st).reg a = s.reg a := rfl
theorem reg_updPort (p : Nat) (f : Port → Port) (a : Nat) : (s.updPort p f).reg a = s.reg a := rfl

theorem port_bump (q : Nat) : (s.bump a).port q = s.port q := rfl
theorem port_addCnt (n q : Nat) : (s.addCnt a n).port q = s.port q := rfl

theorem reg_addCnt_same (n : Nat) : (s.addCnt a n).reg a = s.reg a + BitVec.ofNat 48 n := reg_setReg_same s a _

theorem reg_addCnt_other (n : Nat) (h : b ≠ a) : (s.addCnt a n).reg b = s.reg b := reg_setReg_other s _ h

theorem reg_setRb_other (v : Bool) (h : b ≠ a) : (s.setRb a i v).reg b = s.reg b := reg_setReg_other s _ h

theorem reg_setRf_other (v : Nat) (h : b ≠ a) : (s.setRf a hi lo v).reg b = s.reg b := reg_setReg_other s _ h

end

/-- Two words of one port. -/
theorem portWord_ne (p : Nat) {o o' : Nat} (h : o ≠ o') : 0x10000 + 0x1000 * p + o ≠ 0x10000 + 0x1000 * p + o' := by omega

/-! ### PLCA -/

/-- A waiting PLCA update takes effect (R164). -/
def State.plcaTaken (s : State) (p : Nat) : State :=
  match (s.port p).plcaNext with
  | some w => ((s.setReg (Reg.PORT_PLCACFG p) w).updPort p (fun x => { x with applPlca := w, plcaNext := none })).endRunning p 0x1B 0
  | none => s

theorem exec_plcaBeacon {s : State} {p : PortNo} (hon : s.plcaOn p = true) (hc : s.plcaConflict p = false) :
    exec (.plcaBeacon p) s = .next (((s.setRf (Reg.PORT_PLCASTAT p) 1 0 (if s.plcaId p = 0 then 3 else 1)).plcaTaken p).updPort p
      (fun x => { x with plcaOpp := 0, plcaAt := s.now, plcaBurst := 0 })) := if_pos ⟨hon, hc⟩

section
variable {s : State} {p : Nat}

theorem plcaTaken_some {w : Word} (h : (s.port p).plcaNext = some w) : s.plcaTaken p =
    ((s.setReg (Reg.PORT_PLCACFG p) w).updPort p (fun x => { x with applPlca := w, plcaNext := none })).endRunning p 0x1B 0 := by
  rw [State.plcaTaken, h]

theorem plcaTaken_none (h : (s.port p).plcaNext = none) : s.plcaTaken p = s := by rw [State.plcaTaken, h]

theorem reg_plcaTaken_other {a : Nat} (h : a ≠ Reg.PORT_PLCACFG p) : (s.plcaTaken p).reg a = s.reg a := by
  cases hn : (s.port p).plcaNext with
  | none => rw [plcaTaken_none hn]
  | some w =>
    rw [plcaTaken_some hn, reg_endRunning, reg_updPort, reg_setReg_other s w h]

theorem plcaTaken_update {w : Word} (h : (s.port p).plcaNext = some w) :
    ((s.plcaTaken p).port p).applPlca = w ∧ ((s.plcaTaken p).port p).plcaNext = none ∧ (s.plcaTaken p).reg (Reg.PORT_PLCACFG p) = w := by
  have hp : (s.plcaTaken p).port p = { s.port p with applPlca := w, plcaNext := none } := by
    rw [plcaTaken_some h]
    exact port_setPort_same _ p _
  refine ⟨by rw [hp], by rw [hp], ?_⟩
  rw [plcaTaken_some h, reg_endRunning, reg_updPort, reg_setReg_same]

end

/-- A beacon starts a cycle and takes over a waiting configuration. -/
theorem plcaBeacon_starts {s : State} {p : PortNo} (hon : s.plcaOn p = true) (hc : s.plcaConflict p = false) :
    nextWith (exec (.plcaBeacon p) s) (fun t => t.rf (Reg.PORT_PLCASTAT p) 1 0 = (if s.plcaId p = 0 then 3 else 1) ∧ (t.port p).plcaOpp = 0 ∧
      (∀ w, (s.port p).plcaNext = some w → (t.port p).applPlca = w ∧ (t.port p).plcaNext = none ∧ t.reg (Reg.PORT_PLCACFG p) = w) ∧
      ((s.port p).plcaNext = none → (t.port p).applPlca = (s.port p).applPlca)) := by
  refine ⟨_, exec_plcaBeacon hon hc, ?_, ?_, fun w hw => ?_, fun hn => ?_⟩
  · refine (congrArg (fld · 1 0) (reg_plcaTaken_other (portWord_ne p (by decide)))).trans ?_
    exact rf_setRf_same s _ 1 0 _ (by decide) (by decide) (by split <;> decide)
  · rw [updPort_eq, port_setPort_same]
  · obtain ⟨h1, h2, h3⟩ := plcaTaken_update (s := s.setRf (Reg.PORT_PLCASTAT p) 1 0 (if s.plcaId p = 0 then 3 else 1)) (p := p) hw
    rw [updPort_eq, port_setPort_same]
    exact ⟨h1, h2, h3⟩
  · rw [updPort_eq, port_setPort_same, plcaTaken_none (s := s.setRf _ 1 0 _) (p := p) hn]
    rfl

/-- A second coordinator's beacon ends PLCA on the port and counts. -/
theorem plcaBeaconConflict_ends {s : State} {p : PortNo} (hon : s.plcaOn p = true) (hi : s.plcaId p = 0) (hc : s.plcaConflict p = false) :
    nextWith (exec (.plcaBeaconConflict p) s)
      (fun t => t.rf (Reg.PORT_PLCASTAT p) 2 0 = 4 ∧ t.reg (Reg.PORT_PLCABCN p) = s.reg (Reg.PORT_PLCABCN p) + 1) := by
  refine ⟨_, if_pos ⟨hon, hi, hc⟩, rf_setRf_same _ _ 2 0 4 (by decide) (by decide) (by decide), ?_⟩
  exact (reg_setRf_other _ _ (portWord_ne p (by decide))).trans (reg_bump_same s _)

/-! ### Decoding -/

section
variable (s : State) (p first : Nat)

theorem reg_hiSer {a : Nat} (h : a ≠ Reg.PORT_PCSSTAT p) : (s.hiSer p).reg a = s.reg a := reg_setReg_other _ _ h

theorem port_hiSer (q : Nat) : (s.hiSer p).port q = s.port q := rfl

theorem pmode_hiSer : (s.hiSer p).pmode p = s.pmode p := congrArg (fld · 23 20) (reg_hiSer s p (portWord_ne p (by decide)))

theorem rsErased_hiSer : (s.hiSer p).rsErased p first = s.rsErased p first := by rw [State.rsErased, pmode_hiSer, State.rsErased]; rfl

/-- The counts of a decoded codeword of f erased symbols: RSCW, and where erasures are on RSOVER beyond the parity, RSERAS within it. -/
def State.rsCounted (f : Nat) : State :=
  let s1 := s.bump (Reg.PORT_RSCW p)
  let s2 := if bitOf (s.port p).applFec 0 = true ∧ rsParity (s.pmode p) < f then s1.bump (Reg.PORT_RSOVER p) else s1
  if bitOf (s.port p).applFec 0 = true ∧ f ≤ rsParity (s.pmode p) then s2.addCnt (Reg.PORT_RSERAS p) f else s2

/-- A codeword decoded to what was sent, of so many wrong symbols. -/
def State.rsCorrected (wrong : Nat) : State := if wrong = 0 then s else (s.bump (Reg.PORT_RSCORR p)).addCnt (Reg.PORT_RSSYM p) wrong

/-- A codeword that stays wrong, and the frames that it marks. -/
def State.rsLost (k : Nat) : State := (s.bump (Reg.PORT_RSUNC p)).updPort p (fun x => { x with rsMarks := x.rsMarks + k })

variable {s p}

theorem reg_rsCounted_other {a : Nat} (f : Nat) (h1 : a ≠ Reg.PORT_RSCW p) (h2 : a ≠ Reg.PORT_RSOVER p) (h3 : a ≠ Reg.PORT_RSERAS p) :
    (s.rsCounted p f).reg a = s.reg a := by
  unfold State.rsCounted
  split <;> split <;> simp only [reg_addCnt_other _ _ h3, reg_bump_other _ h2, reg_bump_other _ h1]

theorem port_rsCounted (f q : Nat) : (s.rsCounted p f).port q = s.port q := by
  unfold State.rsCounted
  split <;> split <;> simp only [port_addCnt, port_bump]

theorem reg_rsCounted_cw (f : Nat) : (s.rsCounted p f).reg (Reg.PORT_RSCW p) = s.reg (Reg.PORT_RSCW p) + 1 := by
  have h2 : Reg.PORT_RSCW p ≠ Reg.PORT_RSOVER p := portWord_ne p (by decide)
  have h3 : Reg.PORT_RSCW p ≠ Reg.PORT_RSERAS p := portWord_ne p (by decide)
  unfold State.rsCounted
  split <;> split <;> simp only [reg_addCnt_other _ _ h3, reg_bump_other _ h2, reg_bump_same]

theorem reg_rsCounted_over (f : Nat) : (s.rsCounted p f).reg (Reg.PORT_RSOVER p) =
    s.reg (Reg.PORT_RSOVER p) + (if bitOf (s.port p).applFec 0 = true ∧ rsParity (s.pmode p) < f then 1 else 0) := by
  have h1 : Reg.PORT_RSOVER p ≠ Reg.PORT_RSCW p := portWord_ne p (by decide)
  have h3 : Reg.PORT_RSOVER p ≠ Reg.PORT_RSERAS p := portWord_ne p (by decide)
  unfold State.rsCounted
  split <;> split <;> simp only [reg_addCnt_other _ _ h3, reg_bump_same, reg_bump_other _ h1, add_zero]

theorem reg_rsCounted_eras (f : Nat) : (s.rsCounted p f).reg (Reg.PORT_RSERAS p) =
    if bitOf (s.port p).applFec 0 = true ∧ f ≤ rsParity (s.pmode p) then s.reg (Reg.PORT_RSERAS p) + BitVec.ofNat 48 f
    else s.reg (Reg.PORT_RSERAS p) := by
  have h1 : Reg.PORT_RSERAS p ≠ Reg.PORT_RSCW p := portWord_ne p (by decide)
  have h2 : Reg.PORT_RSERAS p ≠ Reg.PORT_RSOVER p := portWord_ne p (by decide)
  unfold State.rsCounted
  split <;> split <;> simp only [reg_addCnt_same, reg_bump_other _ h2, reg_bump_other _ h1]

theorem reg_rsCorrected_other {a : Nat} (wrong : Nat) (h1 : a ≠ Reg.PORT_RSCORR p) (h2 : a ≠ Reg.PORT_RSSYM p) :
    (s.rsCorrected p wrong).reg a = s.reg a := by
  unfold State.rsCorrected
  split
  · rfl
  · rw [reg_addCnt_other _ _ h2, reg_bump_other _ h1]

theorem port_rsCorrected (wrong q : Nat) : (s.rsCorrected p wrong).port q = s.port q := by
  unfold State.rsCorrected
  split <;> rfl

theorem reg_rsCorrected {wrong : Nat} (h : wrong ≠ 0) : (s.rsCorrected p wrong).reg (Reg.PORT_RSCORR p) = s.reg (Reg.PORT_RSCORR p) + 1 ∧
    (s.rsCorrected p wrong).reg (Reg.PORT_RSSYM p) = s.reg (Reg.PORT_RSSYM p) + BitVec.ofNat 48 wrong := by
  rw [State.rsCorrected, if_neg h]
  constructor
  · rw [reg_addCnt_other _ _ (portWord_ne p (by decide)), reg_bump_same]
  · rw [reg_addCnt_same, reg_bump_other _ (portWord_ne p (by decide))]

end

theorem rsLost_unc (p : Nat) (t : State) (k : Nat) : (t.rsLost p k).reg (Reg.PORT_RSUNC p) = t.reg (Reg.PORT_RSUNC p) + 1 := reg_bump_same t _

theorem rsLost_marks (p : Nat) (t : State) (k : Nat) : ((t.rsLost p k).port p).rsMarks = (t.port p).rsMarks + k := by
  rw [State.rsLost, updPort_eq, port_setPort_same]
  rfl

/-- Whether e errors outside f erased symbols, b of them wrong, are within a parity: the erasures are used when they are on and within it (R70). -/
def rsWithin (par e f b : Nat) (erase : Bool) : Bool :=
  if erase && decide (f ≤ par) then decide (2 * e + f ≤ par) else decide (2 * (e + min b f) ≤ par)

theorem rsWithin_iff (par e f b : Nat) (erase : Bool) : rsWithin par e f b erase = true ↔
    ((erase = true ∧ f ≤ par) ∧ 2 * e + f ≤ par) ∨ (¬ (erase = true ∧ f ≤ par) ∧ 2 * (e + min b f) ≤ par) := by
  unfold rsWithin
  by_cases h : erase = true ∧ f ≤ par
  · rw [if_pos (by simpa using h)]
    simp [h]
  · rw [if_neg (by simpa using h)]
    simp [h]

theorem exec_rsDecode {s : State} {p : PortNo} (hu : s.pst p = 3) (ho : hasOam (s.pmode p) = true) (first e b k : Nat) :
    exec (.rsDecode p first e b k) s =
      let f := s.rsErased p first
      let t := (s.hiSer p).rsCounted p f
      if rsWithin (rsParity (s.pmode p)) e f b (bitOf (s.port p).applFec 0) then .next (t.rsCorrected p (e + min b f)) else .next (t.rsLost p k) := by
  have he : exec (.rsDecode p first e b k) s = execRsDecode p first e b k s := rfl
  rw [he, execRsDecode, if_pos ⟨hu, ho⟩]
  simp only [rsErased_hiSer, pmode_hiSer, port_hiSer, rsWithin, State.rsCounted, State.rsCorrected, State.rsLost, Bool.and_eq_true, decide_eq_true_eq]

/-- What the counts of a codeword are after its decoding, whatever came of it. -/
theorem rsCounts_of {s t : State} {p : PortNo} (f : Nat)
    (h : ∀ a, a = Reg.PORT_RSCW p ∨ a = Reg.PORT_RSOVER p ∨ a = Reg.PORT_RSERAS p → t.reg a = ((s.hiSer p).rsCounted p f).reg a) :
    let use := bitOf (s.port p).applFec 0 = true ∧ f ≤ rsParity (s.pmode p)
    t.reg (Reg.PORT_RSCW p) = s.reg (Reg.PORT_RSCW p) + 1 ∧
      (use → t.reg (Reg.PORT_RSERAS p) = s.reg (Reg.PORT_RSERAS p) + BitVec.ofNat 48 f) ∧
      (¬ use → t.reg (Reg.PORT_RSERAS p) = s.reg (Reg.PORT_RSERAS p)) ∧
      t.reg (Reg.PORT_RSOVER p) = s.reg (Reg.PORT_RSOVER p) + (if bitOf (s.port p).applFec 0 = true ∧ rsParity (s.pmode p) < f then 1 else 0) := by
  have he := (h _ (.inr (.inr rfl))).trans (reg_rsCounted_eras f)
  have ho := (h _ (.inr (.inl rfl))).trans (reg_rsCounted_over f)
  have hc := (h _ (.inl rfl)).trans (reg_rsCounted_cw f)
  rw [pmode_hiSer, port_hiSer, reg_hiSer s p (portWord_ne p (by decide))] at he ho
  rw [reg_hiSer s p (portWord_ne p (by decide))] at hc
  exact ⟨hc, fun hu => he.trans (if_pos hu), fun hu => he.trans (if_neg hu), ho⟩

/-- A word of the port that the counts of a codeword and HI_SER leave. -/
theorem reg_rsCounted_hiSer (s : State) (p : PortNo) (f : Nat) {o : Nat} (h : o = 0x11 ∨ o = 0x12 ∨ o = 0x13) :
    ((s.hiSer p).rsCounted p f).reg (0x10000 + 0x1000 * p + o) = s.reg (0x10000 + 0x1000 * p + o) := by
  rw [reg_rsCounted_other f, reg_hiSer]
  all_goals exact portWord_ne p (by omega)


theorem rsDecode_corrects {s : State} {p : PortNo} (hu : s.pst p = 3) (ho : hasOam (s.pmode p) = true) {first e b k : Nat}
    (h : rsWithin (rsParity (s.pmode p)) e (s.rsErased p first) b (bitOf (s.port p).applFec 0) = true) :
    exec (.rsDecode p first e b k) s =
      .next (((s.hiSer p).rsCounted p (s.rsErased p first)).rsCorrected p (e + min b (s.rsErased p first))) := by
  rw [exec_rsDecode hu ho]
  exact if_pos h

theorem rsDecode_marks {s : State} {p : PortNo} (hu : s.pst p = 3) (ho : hasOam (s.pmode p) = true) {first e b k : Nat}
    (h : ¬ rsWithin (rsParity (s.pmode p)) e (s.rsErased p first) b (bitOf (s.port p).applFec 0) = true) :
    exec (.rsDecode p first e b k) s = .next (((s.hiSer p).rsCounted p (s.rsErased p first)).rsLost p k) := by
  rw [exec_rsDecode hu ho]
  exact if_neg h

/-- The three words that a codeword's counts leave. -/
theorem reg_rsOutcome (s : State) (p : PortNo) (f : Nat) :
    let t := (s.hiSer p).rsCounted p f
    t.reg (Reg.PORT_RSCORR p) = s.reg (Reg.PORT_RSCORR p) ∧ t.reg (Reg.PORT_RSSYM p) = s.reg (Reg.PORT_RSSYM p) ∧
      t.reg (Reg.PORT_RSUNC p) = s.reg (Reg.PORT_RSUNC p) :=
  ⟨reg_rsCounted_hiSer s p f (.inl rfl), reg_rsCounted_hiSer s p f (.inr (.inr rfl)), reg_rsCounted_hiSer s p f (.inr (.inl rfl))⟩

end Sys2Proof.Machine

namespace Sys2Proof
open Machine

/-- Settles O33. A decoded codeword is corrected or stays wrong as `rsWithin` says; its counts are the same in both cases. -/
theorem plcaAndDecodingCounts : Obligations.PlcaAndDecodingCounts := by
  unfold Obligations.PlcaAndDecodingCounts
  refine ⟨fun p s => ⟨fun hon hi hc => ⟨?_, plcaBeaconConflict_ends hon hi hc⟩, fun hon hi hc => ?_, fun hcyc hcur hw => ?_, fun hon hi => ⟨?_, ?_⟩,
    fun node => ?_⟩, fun p first e b k s => ⟨fun hu ho => ?_, fun ht hs hb => ?_⟩⟩
  · have h := plcaBeacon_starts hon hc
    rwa [if_pos hi] at h
  · have h := plcaBeacon_starts hon hc
    rwa [if_neg hi] at h
  · exact ⟨_, if_pos ⟨hcyc, by rw [hcur]; rfl, hw⟩, port_setPort_same s p _, rfl⟩
  · exact ⟨_, if_pos ⟨hon, hi⟩, rb_setRb_same s _ false (by decide), rfl⟩
  · exact ⟨_, if_pos ⟨hon, hi⟩, rb_setRb_same s _ true (by decide), rfl⟩
  · exact ⟨_, rfl, rb_setRb_same s _ false (by omega), fun i hne => rb_setRb_apart s false (by omega) (fun h => hne (Fin.ext h))⟩
  · obtain ⟨hcorr, hsym, hunc⟩ := reg_rsOutcome s p (s.rsErased p first)
    have hport := port_rsCounted (s := s.hiSer p) (p := p) (s.rsErased p first) p
    have hgood := rsWithin_iff (rsParity (s.pmode p)) e (s.rsErased p first) b (bitOf (s.port p).applFec 0)
    by_cases hw : rsWithin (rsParity (s.pmode p)) e (s.rsErased p first) b (bitOf (s.port p).applFec 0) = true
    · obtain ⟨hcw, hin, hout, hover⟩ := rsCounts_of (s := s) (p := p) (s.rsErased p first) (fun a ha =>
        reg_rsCorrected_other (e + min b (s.rsErased p first)) (by rcases ha with rfl | rfl | rfl <;> exact portWord_ne p (by decide))
          (by rcases ha with rfl | rfl | rfl <;> exact portWord_ne p (by decide)))
      refine ⟨_, rsDecode_corrects hu ho hw, hcw, hin, hout, hover, fun _ hne => ?_, fun _ => ⟨?_, ?_⟩, fun hbad => absurd (hgood.1 hw) hbad⟩
      · rw [← hcorr, ← hsym]
        exact reg_rsCorrected hne
      · exact (reg_rsCorrected_other _ (portWord_ne p (by decide)) (portWord_ne p (by decide))).trans hunc
      · rw [port_rsCorrected, hport, port_hiSer]
    · have hother : ∀ (t : State) a, a ≠ Reg.PORT_RSUNC p → (t.rsLost p k).reg a = t.reg a := fun t a ha => reg_bump_other t ha
      obtain ⟨hcw, hin, hout, hover⟩ := rsCounts_of (s := s) (p := p) (s.rsErased p first) (fun a ha =>
        hother _ a (by rcases ha with rfl | rfl | rfl <;> exact portWord_ne p (by decide)))
      refine ⟨_, rsDecode_marks hu ho hw, hcw, hin, hout, hover, fun hg => absurd (hgood.2 hg) hw, fun hg => absurd (hgood.2 hg) hw,
        fun _ => ⟨?_, ?_, ?_⟩⟩
      · exact (rsLost_unc p _ k).trans (congrArg (· + 1) hunc)
      · exact (rsLost_marks p _ k).trans (congrArg (fun x : Port => x.rsMarks + k) hport)
      · exact (hother _ _ (portWord_ne p (by decide))).trans hcorr
  · exact ⟨_, if_pos ⟨ht, hs, hb⟩, port_setPort_same s p _, rfl⟩

end Sys2Proof
end

section
/-! PROOF. Estimates of a port in UP and low-power idle (O36). -/

namespace Sys2Proof.Machine

theorem rf_updPort (s : State) (p : Nat) (f : Port → Port) (a hi lo : Nat) : (s.updPort p f).rf a hi lo = s.rf a hi lo := rfl
theorem rb_updPort (s : State) (p : Nat) (f : Port → Port) (a i : Nat) : (s.updPort p f).rb a i = s.rb a i := rfl

/-! ### A trigger of the distaff -/

/-- What no update of the distaff, of a port or of the distaff's registers changes, a trigger does not change. -/
theorem dstTrigger_frame {β : Type} (g : State → β) (hd : ∀ s d, g { s with dst := d } = g s) (hr : ∀ s a v, 0x200000 ≤ a → g (s.setReg a v) = g s)
    (hp : ∀ s p w, g (s.updPort p fun x => { x with d3Left := 4, d3Word := w }) = g s) (s : State) (cause unit partner : Nat) :
    g (s.dstTrigger cause unit partner) = g s := by
  have hsend : ∀ t : State, g (t.d3Send cause) = g t := fun t => by
    unfold State.d3Send
    split
    · exact forAll_frame g _ (fun u p => by split; exacts [hp u p _, rfl]) _ t
    · rfl
  have hev : ∀ typ spec info cont, g (s.dstEvent typ spec unit info cont) = g s := fun typ spec info cont =>
    dstEvent_frame g hd (fun t a v h => hr t a v (by rcases h with rfl | rfl <;> decide)) s typ spec unit info cont
  unfold State.dstTrigger
  split
  · split
    · rw [hsend, hd, bump_eq, hr _ _ _ (by decide), State.setSh, hr _ _ _ (by decide), hr _ _ _ (by decide), setRf_eq, hr _ _ _ (by decide), setRf_eq,
        hr _ _ _ (by decide), hev]
    · split
      · split
        · rw [hsend, setRf_eq, hr _ _ _ (by decide), hd]
        · rfl
      · rw [bump_eq, hr _ _ _ (by decide)]
  · rfl

theorem reg_dstTrigger (s : State) (cause unit partner : Nat) {a : Nat} (h : a < 0x200000) : (s.dstTrigger cause unit partner).reg a = s.reg a :=
  dstTrigger_frame (fun t => t.reg a) (fun _ _ => rfl) (fun t b v hb => reg_setReg_other t v (by omega)) (fun _ _ _ => rfl) s cause unit partner

/-! ### Estimates (R108, R109) -/

/-- A value of 16 bits stored with VALID. -/
theorem setValue_spec (s : State) (a : Nat) {v : Nat} (h : v < 65536) :
    ((s.setRf a 15 0 v).setRb a 47 true).rf a 15 0 = v ∧ ((s.setRf a 15 0 v).setRb a 47 true).rb a 47 = true :=
  ⟨(rf_setRb_apart _ true (by decide) (by decide)).trans (rf_setRf_same s a 15 0 v (by decide) (by decide) h), rb_setRb_same _ a true (by decide)⟩

theorem snrOf_frame {β : Type} (g : State → β) (hf : ∀ s n, g { s with free := n } = g s) (s : State) (p n q : Nat) : g (s.snrOf p n q).2 = g s := by
  unfold State.snrOf
  split
  · rfl
  · exact hf s _

theorem port_snrOf (s : State) (p n q k : Nat) : (s.snrOf p n q).2.port k = s.port k := snrOf_frame (fun t => t.port k) (fun _ _ => rfl) s p n q

theorem snrOf_zero (s : State) (p n : Nat) : (s.snrOf p n 0).1 = 6000 := by
  have h : cdbOf (symbolEnergy (s.pmode p) * n) (100 * 0) = some 6000 := by simp [cdbOf]
  rw [State.snrOf, h]

/-- The state in which the SNR of an ended block is found: the block's sums are taken. -/
def State.snrTaken (s : State) (p : Nat) : State := s.updRx p (fun x => { x with snrLast := none })

section
variable {s : State} {p : PortNo} (hu : s.pst p = 3) {n q : Nat} (hl : (s.port p).rx.snrLast = some (n, q))
include hu hl

theorem exec_snrBlock_counted (h : 16384 ≤ n) : exec (.snrBlockEnd p () ()) s =
    .next ((((s.snrTaken p).snrOf p n q).2.setRf (Reg.PORT_SNR p) 15 0 ((s.snrTaken p).snrOf p n q).1).setRb (Reg.PORT_SNR p) 47 true) := by
  have he : exec (.snrBlockEnd p () ()) s = execSnrBlockEnd p () () s := rfl
  rw [he, execSnrBlockEnd, hl]
  exact (if_pos (.inr hu)).trans (if_pos h)

theorem exec_snrBlock_short (h : ¬ 16384 ≤ n) : exec (.snrBlockEnd p () ()) s =
    .next (((s.snrTaken p).setRb (Reg.PORT_SNR p) 47 false).setRb (Reg.PORT_SQI p) 47 false) := by
  have he : exec (.snrBlockEnd p () ()) s = execSnrBlockEnd p () () s := rfl
  rw [he, execSnrBlockEnd, hl]
  exact (if_pos (.inr hu)).trans (if_neg h)

end

/-- Whether a window is clean and its samples give the slicer errors, decisions `eq` newest last. -/
def mfbFits (xs es : List Word) (eq : List (Int × Int)) : Prop :=
  xs.all (cleanWord 2) = true ∧ es.all (cleanWord 1) = true ∧ (eq.drop 32).map (·.2) = ((es.flatMap wordSamples).drop 64).take 32672

/-- An estimate stored: the bound, and its gap to the SNR. -/
def State.mfbStored (s : State) (p : Nat) (mfb : BitVec 16) (snr : Nat) : State :=
  (((((s.setRf (Reg.PORT_MFB p) 15 0 mfb.toNat).setRb (Reg.PORT_MFB p) 47 true).setRf (Reg.PORT_GAP p) 15 0 (mfb - BitVec.ofNat 16 snr).toNat)).setRb
    (Reg.PORT_GAP p) 47 true)

theorem mfbStored_spec (s : State) (p : Nat) (mfb : BitVec 16) (snr : Nat) :
    let t := s.mfbStored p mfb snr
    t.rf (Reg.PORT_MFB p) 15 0 = mfb.toNat ∧ t.rb (Reg.PORT_MFB p) 47 = true ∧ t.rb (Reg.PORT_GAP p) 47 = true ∧
      t.rf (Reg.PORT_GAP p) 15 0 = (mfb - BitVec.ofNat 16 snr).toNat := by
  have hne : Reg.PORT_MFB p ≠ Reg.PORT_GAP p := portWord_ne p (by decide)
  obtain ⟨hm, hv⟩ := setValue_spec s (Reg.PORT_MFB p) mfb.isLt
  obtain ⟨hg, hw⟩ := setValue_spec ((s.setRf (Reg.PORT_MFB p) 15 0 mfb.toNat).setRb (Reg.PORT_MFB p) 47 true) (Reg.PORT_GAP p)
    (mfb - BitVec.ofNat 16 snr).isLt
  refine ⟨?_, ?_, hw, hg⟩
  · rw [State.mfbStored, setRb_eq _ (Reg.PORT_GAP p), rf_setReg_other _ _ hne, setRf_eq _ (Reg.PORT_GAP p), rf_setReg_other _ _ hne, hm]
  · rw [State.mfbStored, setRb_eq _ (Reg.PORT_GAP p), rb_setReg_other _ _ hne, setRf_eq _ (Reg.PORT_GAP p), rb_setReg_other _ _ hne, hv]

section
variable {s : State} {p : PortNo} {start : Nat} {xs es : List Word} (hx : (s.port p).rx.tapWords 0 start 8192 = some xs)
  (he : (s.port p).rx.tapWords 1 start 8192 = some es)
include hx he

theorem exec_mfb_fits (hu : s.pst p = 3) (h : mfbFits xs es (s.equalise p (xs.flatMap wordSamples) 32704 32 []).reverse) :
    let v := s.snrOf p 32768 (((es.flatMap wordSamples).map (fun q => q.natAbs ^ 2)).sum)
    exec (.mfbEstimate p start ()) s = .next (v.2.mfbStored p (BitVec.ofInt 16 (mfbOf (s.pmode p) (xs.flatMap wordSamples)
      (((s.equalise p (xs.flatMap wordSamples) 32704 32 []).reverse).map (·.1)))) v.1) := by
  have hex : exec (.mfbEstimate p start ()) s = execMfbEstimate p start () s := rfl
  rw [hex, execMfbEstimate, hx, he]
  dsimp only
  rw [if_pos ⟨hu, h⟩]
  rfl

theorem exec_mfb_drops (h : ¬ mfbFits xs es (s.equalise p (xs.flatMap wordSamples) 32704 32 []).reverse) :
    exec (.mfbEstimate p start ()) s = .next s := by
  have hex : exec (.mfbEstimate p start ()) s = execMfbEstimate p start () s := rfl
  rw [hex, execMfbEstimate, hx, he]
  dsimp only
  rw [if_neg fun hc => h hc.2]

end

/-! ### SQI (R145, R146) -/

theorem sqiLevel_lt (m snr extra : Nat) : sqiLevel m snr extra < 8 := by
  refine List.foldlRecOn (motive := (· < 8)) _ max (by decide) (fun b hb l hl => ?_)
  have : l < 8 := List.mem_range.1 (List.mem_filter.1 hl).1
  show max b l < 8
  omega

theorem reg_sqiAlarm (s : State) (p : PortNo) (old new : Nat) : (s.sqiAlarm p old new).reg (Reg.PORT_SQI p) = s.reg (Reg.PORT_SQI p) := by
  have hr : ∀ t : State, ((t.bump (Reg.PORT_SQIALARM p)).raise p 0x01 new).reg (Reg.PORT_SQI p) = t.reg (Reg.PORT_SQI p) := fun t =>
    (reg_raise _ _ _ _ _ (by unfold Reg.PORT_SQI Reg.FLT_REPEATCNT; omega) (by unfold Reg.PORT_SQI Reg.FLT_INLOST; omega)).trans
      (reg_bump_other t (portWord_ne p (by decide)))
  unfold State.sqiAlarm
  extract_lets al s1
  split
  · split
    · exact (reg_dstTrigger _ _ _ _ (by unfold Reg.PORT_SQI; omega)).trans (hr s)
    · exact hr s
  · rfl

/-- PORT_SQI with a level, the lowest level and VALID. -/
def State.sqiSet (s : State) (p l low : Nat) : State :=
  ((s.setRf (Reg.PORT_SQI p) 2 0 l).setRf (Reg.PORT_SQI p) 10 8 low).setRb (Reg.PORT_SQI p) 47 true

theorem sqiSet_spec (s : State) (p low : Nat) {l : Nat} (h : l < 8) :
    (s.sqiSet p l low).rf (Reg.PORT_SQI p) 2 0 = l ∧ (s.sqiSet p l low).rb (Reg.PORT_SQI p) 47 = true := by
  refine ⟨?_, rb_setRb_same _ _ true (by decide)⟩
  rw [State.sqiSet, rf_setRb_apart _ true (by decide) (by decide), rf_setRf_apart _ low (by decide) (by decide) (by decide)]
  exact rf_setRf_same s _ 2 0 l (by decide) (by decide) h

section
variable {s : State} {p : PortNo} (hu : s.pst p = 3) (hv : s.rb (Reg.PORT_SNR p) 47 = true)
include hu hv

theorem exec_sqiUpdate_first (h : (s.port p).sqiFirst = true) : exec (.sqiUpdate p) s =
    let l := sqiLevel (s.pmode p) (s.rf (Reg.PORT_SNR p) 15 0) 0
    .next ((s.sqiSet p l l).updPort p (fun x => { x with sqiFirst := false })) := by
  have he : exec (.sqiUpdate p) s = execSqiUpdate p s := rfl
  rw [he, execSqiUpdate, if_pos hu, if_pos hv]
  exact if_pos h

theorem exec_sqiUpdate_later (h : (s.port p).sqiFirst = false) : exec (.sqiUpdate p) s =
    let snr := s.rf (Reg.PORT_SNR p) 15 0
    let cur := s.rf (Reg.PORT_SQI p) 2 0
    let plain := sqiLevel (s.pmode p) snr 0
    let new := if plain < cur then plain else max cur (sqiLevel (s.pmode p) snr 25)
    .next ((s.sqiSet p new (min new (s.rf (Reg.PORT_SQI p) 10 8))).sqiAlarm p cur new) := by
  have he : exec (.sqiUpdate p) s = execSqiUpdate p s := rfl
  rw [he, execSqiUpdate, if_pos hu, if_pos hv]
  exact if_neg (by simp [h])

end

/-! ### Low-power idle (R80, R151–R153) -/

/-- The bits of low-power idle in PORT_PCSSTAT and PORT_STATE; GEN stays. -/
theorem lpiBits_spec (s : State) (p : Nat) (tx rx : Bool) :
    (s.lpiBits p tx rx).rb (Reg.PORT_PCSSTAT p) 3 = tx ∧ (s.lpiBits p tx rx).rb (Reg.PORT_PCSSTAT p) 4 = rx ∧
      (s.lpiBits p tx rx).rb (Reg.PORT_STATE p) 27 = (tx || rx) ∧ (s.lpiBits p tx rx).pgen p = s.pgen p := by
  have hne : Reg.PORT_PCSSTAT p ≠ Reg.PORT_STATE p := portWord_ne p (by decide)
  refine ⟨?_, ?_, rb_setRb_same _ _ _ (by decide), ?_⟩
  · rw [State.lpiBits, setRb_eq _ (Reg.PORT_STATE p), rb_setReg_other _ _ hne, rb_setRb_apart _ _ (by decide) (by decide), rb_setRb_same _ _ _ (by decide)]
  · rw [State.lpiBits, setRb_eq _ (Reg.PORT_STATE p), rb_setReg_other _ _ hne, rb_setRb_same _ _ _ (by decide)]
  · refine (rf_setRb_apart _ _ (by decide) (by decide)).trans ?_
    rw [setRb_eq, rf_setReg_other _ _ hne.symm, setRb_eq, rf_setReg_other _ _ hne.symm, State.pgen]

theorem reg_lpiBits_other (s : State) {p a : Nat} (tx rx : Bool) (h1 : a ≠ Reg.PORT_PCSSTAT p) (h2 : a ≠ Reg.PORT_STATE p) :
    (s.lpiBits p tx rx).reg a = s.reg a := by
  rw [State.lpiBits, reg_setRb_other _ _ h2, reg_setRb_other _ _ h1, reg_setRb_other _ _ h1]

section
variable {s : State} {p : PortNo}

/-- A queued frame that does not wait only behind a gate that opens late asks for the end of low-power idle. -/
theorem lpiWakeDue_of_queue {q : Nat} (hq : q < 8) (hf : s.queue p q ≠ [])
    (hg : s.rb (Reg.PORT_LPICFG p) 16 = false ∨ s.gateOpen p q s.ns = true ∨ s.shClass p q = 0 ∨
      ∃ d, s.nextOpen p q s.ns = some d ∧ d ≤ Config.lpiWakeNs (s.pmode p) + 2000) : s.lpiWakeDue p = true := by
  have hw : s.gateWaits p q 0 = false := by
    unfold State.gateWaits
    rcases hg with h | h | h | ⟨d, hd, hle⟩
    · rw [h]; rfl
    · rw [h]; simp
    · rw [h]; simp
    · simp [hd, show ¬ Config.lpiWakeNs (s.pmode p) + 2000 < d by omega]
  refine List.any_eq_true.2 ⟨q, List.mem_range.2 hq, ?_⟩
  rw [hw]
  simpa using hf

theorem lpiWakeDue_of_empty (h : ∀ q : Nat, q < 8 → s.queue p q = []) : s.lpiWakeDue p = false := by
  refine List.any_eq_false.2 fun q hq => ?_
  simp [h q (List.mem_range.1 hq)]

/-- The partner enters or leaves low-power idle: the bits, and the count of an entry. -/
theorem exec_lpiRxChange (hu : s.pst p = 3) (hr : (s.port p).resEee = true) (ho : hasOam (s.pmode p) = true) (enter : Bool) :
    ∃ t, exec (.lpiRxChange p enter) s = .next t ∧
      (∀ a, a ≠ Reg.PORT_LPIRXCNT p → t.reg a = (s.lpiBits p (s.rb (Reg.PORT_PCSSTAT p) 3) enter).reg a) ∧
      t.reg (Reg.PORT_LPIRXCNT p) =
        if enter && !(s.rb (Reg.PORT_PCSSTAT p) 4) then s.reg (Reg.PORT_LPIRXCNT p) + 1 else s.reg (Reg.PORT_LPIRXCNT p) := by
  have hc := reg_lpiBits_other s (s.rb (Reg.PORT_PCSSTAT p) 3) enter (p := p) (a := Reg.PORT_LPIRXCNT p) (portWord_ne p (by decide))
    (portWord_ne p (by decide))
  refine ⟨_, if_pos ⟨hu, hr, ho⟩, ?_⟩
  cases h : enter && !(s.rb (Reg.PORT_PCSSTAT p) 4)
  · rw [if_neg (by simpa using h), if_neg (by decide)]
    exact ⟨fun _ _ => rfl, hc⟩
  · rw [if_pos (by simpa using h), if_pos rfl, reg_bump_same, hc]
    exact ⟨fun a ha => reg_bump_other _ ha, rfl⟩

theorem exec_lpiTxWake (hu : s.pst p = 3) (hl : s.rb (Reg.PORT_PCSSTAT p) 3 = true) (hd : s.lpiWakeDue p = true) :
    exec (.lpiTxWake p) s =
      .next ((s.lpiBits p false (s.rb (Reg.PORT_PCSSTAT p) 4)).updPort p (fun x => { x with txWaking := true })) :=
  (if_pos ⟨hu, hl, hd⟩).trans (congrArg Host.Outcome.next (if_pos hl))

end

end Sys2Proof.Machine

namespace Sys2Proof
open Machine

/-- Settles O36, clause by clause. -/
theorem estimatesAndLowPower : Obligations.EstimatesAndLowPower := by
  unfold Obligations.EstimatesAndLowPower
  intro p s hu
  refine ⟨fun n q hl => ?_, fun start xs es hx he => ⟨fun hf => ?_, fun hf => ?_⟩, fun hv h1 => ?_, fun hv h1 => ?_, fun q hq hf hg hl => ?_, fun h => ?_,
    ?_, fun enter hr ho => ?_⟩
  · by_cases hn : 16384 ≤ n
    · refine ⟨_, exec_snrBlock_counted hu hl hn, ?_, ?_, fun _ hq => ?_, fun h => absurd hn (by omega)⟩
      · exact (rb_setRb_same _ _ true (by decide)).trans (decide_eq_true hn).symm
      · rw [setRb_eq, port_setReg, setRf_eq, port_setReg, port_snrOf]
        exact port_setPort_same s p _
      · rw [hq, snrOf_zero]
        exact (setValue_spec _ _ (by decide)).1
    · refine ⟨_, exec_snrBlock_short hu hl hn, ?_, ?_, fun h => absurd h hn, fun _ => ⟨?_, ?_⟩⟩
      · rw [setRb_eq _ (Reg.PORT_SQI p), rb_setReg_other _ _ (portWord_ne p (by decide)), rb_setRb_same _ _ _ (by decide)]
        exact (decide_eq_false hn).symm
      · rw [setRb_eq, port_setReg, setRb_eq, port_setReg]
        exact port_setPort_same s p _
      · rw [setRb_eq _ (Reg.PORT_SQI p), rf_setReg_other _ _ (portWord_ne p (by decide)), rf_setRb_apart _ _ (by decide) (by decide), State.snrTaken,
          State.updRx, rf_updPort]
      · exact rb_setRb_same _ _ _ (by decide)
  · exact ⟨_, exec_mfb_fits hx he hu hf, mfbStored_spec ..⟩
  · exact exec_mfb_drops hx he hf
  · obtain ⟨hl, hb⟩ := sqiSet_spec s p (sqiLevel (s.pmode p) (s.rf (Reg.PORT_SNR p) 15 0) 0) (sqiLevel_lt (s.pmode p) (s.rf (Reg.PORT_SNR p) 15 0) 0)
    exact ⟨_, exec_sqiUpdate_first hu hv h1, (rf_updPort ..).trans hl, (rb_updPort ..).trans hb, congrArg Port.sqiFirst (port_setPort_same _ p _)⟩
  · have hc : s.rf (Reg.PORT_SQI p) 2 0 < 8 := fld_lt _ 2 0
    have hl : ∀ n, sqiLevel (s.pmode p) (s.rf (Reg.PORT_SNR p) 15 0) n < 8 := sqiLevel_lt _ _
    let new := if sqiLevel (s.pmode p) (s.rf (Reg.PORT_SNR p) 15 0) 0 < s.rf (Reg.PORT_SQI p) 2 0 then sqiLevel (s.pmode p) (s.rf (Reg.PORT_SNR p) 15 0) 0
      else max (s.rf (Reg.PORT_SQI p) 2 0) (sqiLevel (s.pmode p) (s.rf (Reg.PORT_SNR p) 15 0) 25)
    have hnew : new < 8 := by
      unfold new
      split
      exacts [hl 0, max_lt hc (hl 25)]
    obtain ⟨hf, hb⟩ := sqiSet_spec s p (min new (s.rf (Reg.PORT_SQI p) 10 8)) hnew
    refine ⟨_, exec_sqiUpdate_later hu hv h1, ?_, fun h => ?_, fun h => ?_⟩
    · exact (congrArg (bitOf · 47) (reg_sqiAlarm ..)).trans hb
    · exact ((congrArg (fld · 2 0) (reg_sqiAlarm ..)).trans hf).trans (if_pos h)
    · exact ((congrArg (fld · 2 0) (reg_sqiAlarm ..)).trans hf).trans (if_neg (Nat.not_lt.2 h))
  · obtain ⟨h3, h4, h27, hgen⟩ := lpiBits_spec s p false (s.rb (Reg.PORT_PCSSTAT p) 4)
    exact ⟨_, exec_lpiTxWake hu hl (lpiWakeDue_of_queue hq hf hg), (rb_updPort ..).trans h3, (rb_updPort ..).trans h27, congrArg Port.txWaking (port_setPort_same _ p _),
      (rf_updPort ..).trans hgen⟩
  · exact if_neg fun hc => by simp [lpiWakeDue_of_empty h] at hc
  · exact ⟨_, rfl, port_setPort_same s p _, rfl⟩
  · obtain ⟨-, h4, h27, hgen⟩ := lpiBits_spec s p (s.rb (Reg.PORT_PCSSTAT p) 3) enter
    obtain ⟨t, ht, hother, hcnt⟩ := exec_lpiRxChange hu hr ho enter
    refine ⟨t, ht, ?_, ?_, ?_, hcnt⟩
    · exact (congrArg (bitOf · 4) (hother _ (portWord_ne p (by decide)))).trans h4
    · exact (congrArg (bitOf · 27) (hother _ (portWord_ne p (by decide)))).trans h27
    · exact (congrArg (fld · 47 32) (hother _ (portWord_ne p (by decide)))).trans hgen

end Sys2Proof
end

section
/-! PROOF. Admission, negotiation and role resolution (O32). -/

namespace Sys2Proof.Machine

/-! ### Entry to TRAIN from LISTEN -/

/-- The fields of PORT_STATE on entry to TRAIN: the resolved mode and role. -/
theorem stateFields_train (s : State) (p : Nat) :
    ∃ u : State, s.stateFields p stTrain = (u.setMode p (s.port p).resMode).setRf (Reg.PORT_STATE p) 25 24 (s.port p).resRole := by
  unfold State.stateFields
  extract_lets x s1 s2 s3
  exact ⟨s3, if_pos (Or.inl rfl)⟩

theorem entering_port_listen {s : State} {p : PortNo} (st : Nat) (h : s.pst p = 1) : (s.entering p st).port p = s.port p := by
  unfold State.entering
  extract_lets s0 s1
  have h0 : s0 = (s.endRunning p 0x12 9).endRunning p 0x13 9 := if_pos h
  have h1 : s1 = s0 := (if_neg (by simp [h, stUp])).trans (if_neg (by simp [h, stRoving]))
  rw [setRf_eq, port_setReg, setRf_eq, port_setReg, h1, h0]
  rfl

section
variable {s : State} {p : PortNo} (h : s.pst p = 1)
include h

/-- A port that leaves LISTEN for TRAIN takes the mode and role that were resolved. -/
theorem enter_train_mode : (s.enter p stTrain).pmode p = (s.port p).resMode % 16 ∧ (s.enter p stTrain).prole p = (s.port p).resRole % 4 := by
  obtain ⟨u, hu⟩ := stateFields_train (s.entering p stTrain) p
  have he := reg_state_of_links (congrArg Prod.fst (enter_links s p stTrain)) p
  rw [hu, entering_port_listen _ h, setRf_eq, reg_setReg_same] at he
  constructor
  · rw [State.pmode, State.rf, he, fld_putFld_other _ _ _ _ _ _ (by decide) (by decide) (.inr (by decide))]
    exact mode_setMode _ p _
  · rw [State.prole, State.rf, he]
    exact fld_putFld _ 25 24 _ (by decide) (by decide)

/-- R135: a port in LISTEN enters TRAIN in the mode and role that were resolved. -/
theorem toTrain_mode : (s.toTrain p).pst p = 2 ∧ (s.toTrain p).pmode p = (s.port p).resMode % 16 ∧ (s.toTrain p).prole p = (s.port p).resRole % 4 := by
  refine ⟨(entered_toTrain s p).1, ?_⟩
  unfold State.toTrain
  extract_lets s1 s2
  have h1 := enter_train_mode (s := s1) (p := p) h
  have hp : s1.port p = _ := port_setPort_same s p _
  have hr : (if s.warmOk p then s2.warmHalf p else s2.coldHalves p).reg (Reg.PORT_STATE p) = (s1.enter p stTrain).reg (Reg.PORT_STATE p) :=
    reg_state_of_links (by simp [s2]) p
  rw [hp] at h1
  exact ⟨(congrArg (fld · 23 20) hr).trans h1.1, (congrArg (fld · 25 24) hr).trans h1.2⟩

end

theorem toTrain_updPort {s : State} {p : PortNo} (f : Port → Port) (h : s.pst p = 1) {m r : Nat} (hm : (f (s.port p)).resMode = m)
    (hr : (f (s.port p)).resRole = r) :
    ((s.updPort p f).toTrain p).pst p = 2 ∧ ((s.updPort p f).toTrain p).pmode p = m % 16 ∧ ((s.updPort p f).toTrain p).prole p = r % 4 := by
  have ht := toTrain_mode (s := s.updPort p f) (p := p) h
  have hp : (s.updPort p f).port p = f (s.port p) := port_setPort_same s p _
  rwa [hp, hm, hr] at ht

/-! ### Pages -/

/-- What no update of the distaff, of the free values or of the pages sent changes, sending pages does not change. -/
theorem sendPages_frame {β : Type} (g : State → β) (hd : ∀ s d, g { s with dst := d } = g s)
    (hr : ∀ s a v, 0x200000 ≤ a → g (s.setReg a v) = g s) (hf : ∀ s n, g { s with free := n } = g s)
    (hp : ∀ s p l, g (s.updPort p fun x => { x with anSent := l }) = g s) (s : State) (p : Nat) (l : List TxPage) : g (s.sendPages p l) = g s := by
  refine forAll_frame g _ (fun t x => ?_) l s
  have hu : g (t.updPort p fun y => { y with anSent := y.anSent ++ [x] }) = g t := hp t p ((t.port p).anSent ++ [x])
  extract_lets t1 d
  split
  · rw [dstEvent_frame g hd (fun t a v h => hr t a v (by rcases h with rfl | rfl <;> decide))]
    exact (hf _ _).trans hu
  · exact hu

theorem reg_sendPages (s : State) (p : Nat) (l : List TxPage) {a : Nat} (h : a < 0x200000) : (s.sendPages p l).reg a = s.reg a :=
  sendPages_frame (fun t => t.reg a) (fun _ _ => rfl) (fun t b v hb => reg_setReg_other t v (by omega)) (fun _ _ => rfl) (fun _ _ _ => rfl) s p l

/-- The pages sent are all that sending pages changes of a port's record. -/
theorem port_sendPages {β : Type} (f : Port → β) (hf : ∀ x l, f { x with anSent := l } = f x) (s : State) (p q : Nat) (l : List TxPage) :
    f ((s.sendPages p l).port q) = f (s.port q) := by
  refine sendPages_frame (fun t => f (t.port q)) (fun _ _ => rfl) (fun _ _ _ _ => rfl) (fun _ _ => rfl) (fun t k m => ?_) s p l
  by_cases hq : q = k
  · rw [hq, updPort_eq, port_setPort_same, hf]
  · rw [updPort_eq, port_setPort_other t _ hq]

/-! ### An attempt starts (R134, R135, R149) -/


/-- ATTEMPT counts up to 255. -/
def State.attemptCounted (s : State) (p : Nat) : State :=
  s.setRf (Reg.PORT_LINKSTAT p) 39 32 (if s.rf (Reg.PORT_LINKSTAT p) 39 32 < 255 then s.rf (Reg.PORT_LINKSTAT p) 39 32 + 1 else 255)

/-- An attempt is counted and noted before it negotiates or trains. -/
def State.attemptNoted (s : State) (p : Nat) : State :=
  (((s.attemptCounted p).endRunning p 0x12 0).endRunning p 0x13 0).updPort p (fun x =>
    { x with attempt := true, wantAdmit := false, backoff := false, pages := [], anSent := [], trainSig := false })

section
variable (s : State) (p : PortNo)

theorem rf_attemptCounted : (s.attemptCounted p).rf (Reg.PORT_LINKSTAT p) 39 32 = min 255 (s.rf (Reg.PORT_LINKSTAT p) 39 32 + 1) := by
  have ha : s.rf (Reg.PORT_LINKSTAT p) 39 32 < 256 := fld_lt _ 39 32
  refine (rf_setRf_same s _ 39 32 _ (by decide) (by decide) (by split <;> omega)).trans ?_
  split <;> omega

theorem reg_attemptNoted_counted (a : Nat) : (s.attemptNoted p).reg a = (s.attemptCounted p).reg a := by
  rw [State.attemptNoted, reg_updPort, reg_endRunning, reg_endRunning]

theorem attemptNoted_spec : ((s.attemptNoted p).port p).attempt = true ∧ ((s.attemptNoted p).port p).wantAdmit = false ∧
    (s.attemptNoted p).rf (Reg.PORT_LINKSTAT p) 39 32 = min 255 (s.rf (Reg.PORT_LINKSTAT p) 39 32 + 1) := by
  have hp : (s.attemptNoted p).port p = _ := port_setPort_same _ p _
  exact ⟨congrArg Port.attempt hp, congrArg Port.wantAdmit hp, (congrArg (fld · 39 32) (reg_attemptNoted_counted s p _)).trans (rf_attemptCounted s p)⟩

theorem reg_attemptNoted {a : Nat} (h : a ≠ Reg.PORT_LINKSTAT p) : (s.attemptNoted p).reg a = s.reg a :=
  (reg_attemptNoted_counted s p a).trans (reg_setRf_other s _ h)

variable {s p}

/-- With AN = 1 an attempt negotiates. -/
theorem startAttempt_negotiates (h : bitOf (s.port p).applMode 12 = true) :
    s.startAttempt p = ((s.attemptNoted p).bump (Reg.PORT_ANCNT p)).sendPages p [(s.attemptNoted p).basePage p] := if_pos h

/-- What a forced attempt takes for its mode, role and options. -/
def State.forced (s : State) (p m r : Nat) : State :=
  let far := (s.attemptNoted p).drawNat 2
  far.2.updPort p (fun x => { x with
    resMode := m, resRole := r, resDial := 0, resPre := bitOf (s.port p).applMode 16 && natBit far.1 0 && decide (4 ≤ m),
    resEee := bitOf (s.port p).applMode 15 && natBit far.1 1 && hasOam m, fromRov := decide (s.pst p = stRoving) })

/-- With AN = 0 a forced MASTER trains at once. -/
theorem startAttempt_trains {m : Nat} (h : bitOf (s.port p).applMode 12 = false) (hm : s.forceMode p (s.port p).applMode = m) (h0 : m ≠ 0)
    (hr : forcedRole m (fld (s.port p).applMode 14 13) = 1) : s.startAttempt p = (s.forced p m 1).toTrain p := by
  subst hm
  have he : s.startAttempt p = if s.forceMode p (s.port p).applMode = 0 then s.forced p _ (forcedRole _ (fld (s.port p).applMode 14 13))
      else if forcedRole (s.forceMode p (s.port p).applMode) (fld (s.port p).applMode 14 13) = 2 then s.forced p _ (forcedRole _ (fld (s.port p).applMode 14 13))
      else (s.forced p _ (forcedRole _ (fld (s.port p).applMode 14 13))).toTrain p := if_neg (by simp [h])
  rw [he, if_neg h0, if_neg (by omega), hr]

theorem reg_drawNat (s : State) (n a : Nat) : (s.drawNat n).2.reg a = s.reg a := rfl

theorem reg_forced_noted (s : State) (p m r a : Nat) : (s.forced p m r).reg a = (s.attemptNoted p).reg a := by
  rw [State.forced, reg_updPort, reg_drawNat]

theorem pst_forced (m r : Nat) : (s.forced p m r).pst p = s.pst p :=
  congrArg (fld · 31 28) ((reg_forced_noted s p m r _).trans (reg_attemptNoted s p (portWord_ne p (by decide))))

/-- Admission of a port that negotiates. -/
theorem startAttempt_spec (h : bitOf (s.port p).applMode 12 = true) :
    ((s.startAttempt p).port p).attempt = true ∧ ((s.startAttempt p).port p).wantAdmit = false ∧ (s.startAttempt p).pst p = s.pst p ∧
      (s.startAttempt p).rf (Reg.PORT_LINKSTAT p) 39 32 = min 255 (s.rf (Reg.PORT_LINKSTAT p) 39 32 + 1) ∧
      (s.startAttempt p).reg (Reg.PORT_ANCNT p) = s.reg (Reg.PORT_ANCNT p) + 1 := by
  obtain ⟨ha, hw, hn⟩ := attemptNoted_spec s p
  have hr : ∀ a, a < 0x200000 → a ≠ Reg.PORT_ANCNT p → (s.startAttempt p).reg a = (s.attemptNoted p).reg a := fun a ha hne => by
    rw [startAttempt_negotiates h, reg_sendPages _ _ _ ha, reg_bump_other _ hne]
  have hport : ∀ f : Port → Bool, (∀ x l, f { x with anSent := l } = f x) → f ((s.startAttempt p).port p) = f ((s.attemptNoted p).port p) :=
    fun f hf => by rw [startAttempt_negotiates h, port_sendPages f hf, bump_eq, port_setReg]
  refine ⟨(hport Port.attempt fun _ _ => rfl).trans ha, (hport Port.wantAdmit fun _ _ => rfl).trans hw, ?_, ?_, ?_⟩
  · exact congrArg (fld · 31 28) ((hr (Reg.PORT_STATE p) (by unfold Reg.PORT_STATE; omega) (portWord_ne p (by decide))).trans (reg_attemptNoted s p (portWord_ne p (by decide))))
  · exact (congrArg (fld · 39 32) (hr (Reg.PORT_LINKSTAT p) (by unfold Reg.PORT_LINKSTAT; omega) (portWord_ne p (by decide)))).trans hn
  · rw [startAttempt_negotiates h, reg_sendPages _ _ _ (by unfold Reg.PORT_ANCNT; omega), reg_bump_same, reg_attemptNoted s p (portWord_ne p (by decide))]

end

/-! ### The page that completes an exchange (R135) -/

/-- The skein of a port goes by the eight words of its line group. -/
theorem skeinOf_congr_low {s t : State} {g : Nat} (h : ∀ n < 8, t.reg (Reg.LG_SKEIN g n) = s.reg (Reg.LG_SKEIN g n)) (i : Nat) :
    t.skeinOf g i = s.skeinOf g i := by
  refine List.find?_congr fun n hn => ?_
  rw [State.skMembers, h n (List.mem_range.1 hn), State.skMembers]

/-- A page of the exchange as it is received: a recorded port notes it, and it joins the attempt's pages. -/
def State.pageNoted (s : State) (p : Nat) (pg : AnPage) : State :=
  (if s.recorded p then s.dstEvent 0x03 false p 1 [pg.page] else s).updPort p (fun y => { y with pages := y.pages ++ [pg.page] })

section
variable {s : State} {p : PortNo} {pg : AnPage}

theorem exec_anPage_last (hl : s.pst p = 1) (ha : (s.port p).attempt = true) (hb : (s.port p).backoff = false)
    (hn : bitOf (s.port p).applMode 12 = true) (hlast : pg.last = true) :
    exec (.anPageReceive p pg) s = .next ((s.pageNoted p pg).resolve p pg) := by
  have he : exec (.anPageReceive p pg) s = execAnPageReceive p pg s := rfl
  rw [he, execAnPageReceive]
  rw [if_neg (by simp [hb]), if_pos ⟨ha, hn, .inl hl⟩, State.takePage]
  simp only [State.replyPages, hlast, true_or, if_true]
  rfl

variable (s p pg)

/-- What a change of registers of the distaff does not change, the note of a page does not. -/
theorem reg_pageNoted {a : Nat} (h : a < 0x200000) : (s.pageNoted p pg).reg a = s.reg a := by
  unfold State.pageNoted
  rw [updPort_eq, reg_setPort]
  split
  · exact dstEvent_frame (fun t => t.reg a) (fun _ _ => rfl)
      (fun t b v hb => reg_setReg_other t v (by rcases hb with rfl | rfl <;> (intro e; subst e; exact absurd h (by decide)))) ..
  · rfl

theorem port_pageNoted : (s.pageNoted p pg).port p = { s.port p with pages := (s.port p).pages ++ [pg.page] } := by
  have h0 : (if s.recorded p then s.dstEvent 0x03 false p 1 [pg.page] else s).port p = s.port p := by
    split
    · exact dstEvent_frame (fun t => t.port p) (fun _ _ => rfl) (fun _ _ _ _ => rfl) ..
    · rfl
  rw [State.pageNoted, updPort_eq, port_setPort_same, h0]

theorem roleSetting_pageNoted : (s.pageNoted p pg).roleSetting p = s.roleSetting p := by
  have hp : p.val < 96 := p.isLt
  have hk : (s.pageNoted p pg).skeinOf (lgOf p) (localOf p) = s.skeinOf (lgOf p) (localOf p) :=
    skeinOf_congr_low (fun n hn => reg_pageNoted s p pg (by unfold Reg.LG_SKEIN lgOf; omega)) _
  rw [State.roleSetting, hk, port_pageNoted, State.roleSetting]

end

theorem highestMode_lt (v : Nat) : highestMode v < 8 := by
  refine List.foldlRecOn (motive := (· < 8)) _ max (by decide) (fun b hb l hl => ?_)
  have : l < 8 := List.mem_range.1 (List.mem_filter.1 hl).1
  show max b l < 8
  omega

/-- An exchange that finds a common mode above 10BASE-T1S and no role conflict goes on to TRAIN. -/
theorem resolve_trains {s : State} {p : PortNo} {pg : AnPage} {m r : Nat} (hl : s.pst p = 1)
    (hm : highestMode (pg.common.toNat &&& fld (s.port p).applMode 7 0) = m) (h2 : 2 ≤ m) (hr : resolveRole (s.roleSetting p) pg.role.toNat pg.seed = some r) :
    (s.resolve p pg).pst p = 2 ∧ (s.resolve p pg).pmode p = m % 16 ∧ (s.resolve p pg).prole p = r % 4 := by
  unfold State.resolve
  extract_lets x m'
  have hm' : m' = m := hm
  rw [if_neg (by omega), if_neg (by omega), hr]
  exact toTrain_updPort _ hl hm' rfl

/-! ### An attempt fails, and cold training (R140, R142, R149) -/

theorem attemptFail_spec (s : State) (p : PortNo) (c : Nat) :
    let t := s.attemptFail p c
    (t.port p).attempt = false ∧ (t.port p).backoff = true ∧ t.rf (Reg.PORT_LINKSTAT p) 47 44 = c % 16 ∧
      t.reg (Reg.PORT_TRAINFAIL p) = s.reg (Reg.PORT_TRAINFAIL p) + 1 ∧ t.pst p = s.pst p ∧
      (t.port p).waitMs = waitMsOf (s.rf (Reg.PORT_LINKSTAT p) 39 32 + 1) (s.rf (Reg.PORT_LINKCFG p) 11 0) := by
  have hp : (s.attemptFail p c).port p = _ := port_setPort_same _ p _
  refine ⟨congrArg Port.attempt hp, congrArg Port.backoff hp, cause_of_links (s := s) p c (by simp [State.attemptFail]), ?_,
    congrArg (fld · 31 28) (reg_state_of_links (state_attemptFail s p c) p), congrArg Port.waitMs hp⟩
  rw [State.attemptFail, reg_updPort, reg_bump_same, State.cause, reg_setRf_other _ _ (portWord_ne p (by decide))]

/-- Cold training as it begins: the halves are free, and neither kept nor warm. -/
def State.coldStart (s : State) (p : Nat) : State :=
  let g := s.drawNat 6
  { g.2.updPort p (fun x => { x with half := [], halfFree := some g.2.free, coefKept := false, warm := false }) with free := g.2.free + 2048 }

/-- What no update of the tail windows, of the settle period, of the distaff or of the words that cold training writes changes, cold training changes
only where it begins. -/
theorem coldHalves_frame {β : Type} (g : State → β) (p : Nat) (hd : ∀ s d, g { s with dst := d } = g s)
    (hr : ∀ s a v, a = Reg.PORT_TAILERR p ∨ a = Reg.PORT_AFE p ∨ a = Reg.PORT_LMSCFG p ∨ 0x200000 ≤ a → g (s.setReg a v) = g s)
    (ht : ∀ s n, g (s.updPort p fun x => { x with tailOff := n }) = g s) (hs : ∀ s n, g (s.settle p n) = g s)
    (s : State) : g (s.coldHalves p) = g (s.coldStart p) := by
  have hev : ∀ (t : State) sym v, g (t.dstPortEvent 0x06 p sym v []) = g t := fun t sym v =>
    dstPortEvent_frame g hd (fun u a w h => hr u a w (.inr (.inr (.inr (by rcases h with rfl | rfl <;> decide))))) ..
  unfold State.coldHalves
  extract_lets d s00 s0 s1 v s2
  have h1 : g s1 = g (s.coldStart p) := (ht _ _).trans (hr s0 _ _ (.inl rfl))
  have h2 : g s2 = g s1 := by
    unfold s2
    split
    · rfl
    · rw [hev]
      exact (hs _ 64).trans (hr s1 _ _ (.inr (.inl rfl)))
  split
  · exact h2.trans h1
  · exact (hr s2 _ _ (.inr (.inr (.inl rfl)))).trans (h2.trans h1)

theorem coldHalves_spec (s : State) (p : PortNo) : ((s.coldHalves p).port p).warm = false ∧ ((s.coldHalves p).port p).coefKept = false ∧
    (s.coldHalves p).reg (Reg.PORT_WARMMISS p) = s.reg (Reg.PORT_WARMMISS p) := by
  have hport : ∀ f : Port → Bool, (∀ x n, f { x with tailOff := n } = f x) → (∀ x n, f { x with settleEnd := n } = f x) →
      f ((s.coldHalves p).port p) = f ((s.coldStart p).port p) := fun f h1 h2 =>
    coldHalves_frame (fun t => f (t.port p)) p (fun _ _ => rfl) (fun _ _ _ _ => rfl)
      (fun t n => by rw [updPort_eq, port_setPort_same, h1]) (fun t n => by rw [State.settle, updPort_eq, port_setPort_same, h2]) s
  have hp : (s.coldStart p).port p = _ := port_setPort_same _ p _
  refine ⟨(hport Port.warm (fun _ _ => rfl) (fun _ _ => rfl)).trans (congrArg Port.warm hp),
    (hport Port.coefKept (fun _ _ => rfl) (fun _ _ => rfl)).trans (congrArg Port.coefKept hp), ?_⟩
  refine coldHalves_frame (fun t => t.reg (Reg.PORT_WARMMISS p)) p (fun _ _ => rfl) (fun t a v h => reg_setReg_other t v ?_) (fun _ _ => rfl)
    (fun _ _ => rfl) s
  rcases h with rfl | rfl | rfl | h
  · exact portWord_ne p (by decide)
  · exact portWord_ne p (by decide)
  · exact portWord_ne p (by decide)
  · unfold Reg.PORT_WARMMISS
    omega

/-! ### Role resolution (R62) -/

theorem resolveRole_some {own far r : Nat} {seed : Bool} (h : resolveRole own far seed = some r) : r = 1 ∨ r = 2 := by
  unfold resolveRole at h
  split_ifs at h <;> simp_all

/-- The two ends resolve to opposite roles. -/
theorem resolveRole_swap : ∀ (own far : Fin 4) (seed : Bool), resolveRole far own (!seed) = (resolveRole own far seed).map (3 - ·) := by decide

theorem resolveRole_conflict : ∀ (own far : Fin 4) (seed : Bool), resolveRole own far seed = none ↔ own = far ∧ 2 ≤ own.val := by decide

/-- A setting that is forced prevails. -/
theorem resolveRole_forced : ∀ (own far : Fin 4) (seed : Bool),
    (own = 2 → far ≠ 2 → resolveRole own far seed = some 1) ∧ (far = 2 → own ≠ 2 → resolveRole own far seed = some 2) ∧
    (own = 3 → far ≠ 3 → resolveRole own far seed = some 2) ∧ (far = 3 → own ≠ 3 → resolveRole own far seed = some 1) := by decide

/-- Preferences that differ are both kept; of equal ones the seed decides. -/
theorem resolveRole_preferred : ∀ (own far : Fin 4) (seed : Bool),
    (own = 0 → far = 1 → resolveRole own far seed = some 1) ∧ (own = 1 → far = 0 → resolveRole own far seed = some 2) ∧
    (own = far → own.val < 2 → resolveRole own far seed = some (if seed then 1 else 2)) := by decide

end Sys2Proof.Machine

namespace Sys2Proof
open Machine

/-- Settles O32, clause by clause. -/
theorem negotiationAndRoles : Obligations.NegotiationAndRoles := by
  unfold Obligations.NegotiationAndRoles
  refine ⟨fun p s => ⟨fun hw hf hroom => ?_, fun pg r hl ha hb hn hlast h2 hr => ?_, fun hl ha => ?_, fun hl hb => ?_, fun ht hw => ?_⟩,
    fun own far seed => ?_⟩
  · have hl : s.pst p = 1 := by
      simp only [State.waiting, Bool.and_eq_true, decide_eq_true_eq] at hw
      exact hw.1.2
    have he : exec (.trainAdmit p) s = .next (s.startAttempt p) := if_pos ⟨hw, hf, decide_eq_true hroom⟩
    refine ⟨fun hn => ?_, fun hn hm hrole => ?_⟩
    · obtain ⟨h1, h2, h3, h4, h5⟩ := startAttempt_spec hn
      exact ⟨_, he, h1, h2, h3.trans hl, h4, h5⟩
    · obtain ⟨h1, h2, h3⟩ := toTrain_mode ((pst_forced (s := s) (p := p) 2 1).trans hl)
      have hp : (s.forced p 2 1).port p = _ := port_setPort_same _ p _
      rw [hp] at h2 h3
      rw [startAttempt_trains hn hm (by decide) (by simp [forcedRole, hrole])] at he
      exact ⟨_, he, h1, h2, h3⟩
  · have hp := port_pageNoted s p pg
    obtain ⟨h1, h3, h4⟩ := resolve_trains (s := s.pageNoted p pg) (p := p) (pg := pg)
      ((congrArg (fld · 31 28) (reg_pageNoted s p pg (by unfold Reg.PORT_STATE; omega))).trans hl) (by rw [hp]) h2 (by rw [roleSetting_pageNoted, hr])
    have hm := highestMode_lt (pg.common.toNat &&& fld (s.port p).applMode 7 0)
    exact ⟨_, exec_anPage_last hl ha hb hn hlast, h1, h3.trans (Nat.mod_eq_of_lt (by omega)), h4.trans (by rcases resolveRole_some hr with rfl | rfl <;> rfl)⟩
  · obtain ⟨h1, h2, h3, h4, h5, h6⟩ := attemptFail_spec s p 7
    have he : s.attemptEnd p 7 = s.attemptFail p 7 := if_neg (by simp [hl, stRoving])
    exact ⟨_, (if_pos ⟨ha, .inl hl⟩).trans (congrArg Host.Outcome.next he), h1, h2, h3, h4, h5.trans hl, h6⟩
  · exact ⟨_, if_pos ⟨hl, hb⟩, port_setPort_same s p _, rfl⟩
  · obtain ⟨h1, h2, h3⟩ := coldHalves_spec (s.bump (Reg.PORT_WARMMISS p)) p
    refine ⟨_, if_pos ⟨ht, hw, rfl⟩, h1, h2, h3.trans (reg_bump_same s _), ?_⟩
    refine (congrArg (fld · 31 28) (reg_state_of_links (s := s) ?_ p)).trans ht
    rw [coldHalves_links, bump_links _ (not_linkWord_port p (by decide))]
  · obtain ⟨h2, h3, h4, h5⟩ := resolveRole_forced own far seed
    obtain ⟨h6, h7, h8⟩ := resolveRole_preferred own far seed
    refine ⟨resolveRole_conflict own far seed, h2, h3, h4, h5, h6, h7, h8, fun r hr => ⟨3 - r, ?_, ?_⟩⟩
    · rw [resolveRole_swap, hr]
      rfl
    · rcases resolveRole_some hr with rfl | rfl <;> rfl

end Sys2Proof
end

section
/-! PROOF. Port commands (O29): what a port's transition leaves of the configuration words, of the applied configuration and of the commands that
wait. -/

namespace Sys2Proof.Machine

/-! ### Readings that a transition leaves -/

/-- A word that a transition of port p may write: one of its block other than PORT_MODE and PORT_CARDSTAT, or one above the ports and line groups. -/
def EntryWord (p a : Nat) : Prop := (∃ o, o ≠ 2 ∧ o ≠ 0x71 ∧ a = 0x10000 + 0x1000 * p + o) ∨ 0x76000 ≤ a

theorem entryWord_port (p : Nat) {o : Nat} (h : o ≠ 2 ∧ o ≠ 0x71) : EntryWord p (0x10000 + 0x1000 * p + o) := .inl ⟨o, h.1, h.2, rfl⟩

/-- A reading of the state that the steps of port p's transitions leave: it goes by other words of registers, of the ports by their applied
configuration alone, and not by the commands that run. -/
structure Steady {β : Type} (p : Nat) (g : State → β) : Prop where
  word : ∀ s a v, EntryWord p a → g (s.setReg a v) = g s
  port : ∀ (s : State) q (f : Port → Port) (_ : ∀ x, (f x).applMode = x.applMode := by intros; rfl), g (s.updPort q f) = g s
  ended : ∀ s q op st, g (s.endRunning q op st) = g s
  rest : ∀ (s t : State) (_ : t.regs = s.regs := by rfl) (_ : t.ports = s.ports := by rfl) (_ : t.rt = s.rt := by rfl), g t = g s

namespace Steady

variable {β : Type} {p : Nat} {g : State → β} (h : Steady p g)
include h

theorem own (s : State) (v : Word) {o : Nat} (ho : o ≠ 2 ∧ o ≠ 0x71) : g (s.setReg (0x10000 + 0x1000 * p + o) v) = g s :=
  h.word s _ v (entryWord_port p ho)

theorem above (s : State) (v : Word) {a : Nat} (ha : 0x76000 ≤ a) : g (s.setReg a v) = g s := h.word s a v (.inr ha)

theorem dstEvent (s : State) (typ : Nat) (spec : Bool) (unit info : Nat) (cont : List Word) : g (s.dstEvent typ spec unit info cont) = g s :=
  dstEvent_frame g (fun t _ => h.rest t _) (fun t a v ha => h.above t v (by rcases ha with rfl | rfl <;> decide)) s typ spec unit info cont

theorem dropCopy (s : State) (fid : Nat) : g (s.dropCopy fid) = g s := by
  unfold State.dropCopy
  split
  · rfl
  · split <;> exact h.rest _ _

theorem txOver (s : State) (e q : Nat) : g (s.txOver e q) = g s := by
  unfold State.txOver
  split
  · split
    · exact h.rest _ _
    · rfl
  · rfl

theorem cutTx (s : State) (e : Nat) : g (s.cutTx e) = g s := by
  have hc : ∀ t : State, g ((t.setCur e none).endSent e) = g t := fun t => h.rest _ _
  unfold State.cutTx
  split
  · rfl
  · split
    · exact hc s
    · rw [bump_eq, h.above _ _ (by unfold Reg.TM_QDROPLOST; omega), h.dropCopy, h.txOver, hc]

theorem flushQueue (s : State) (e q : Nat) (cnts : List Nat) (hw : ∀ a ∈ cnts, EntryWord p a) : g (s.flushQueue e q cnts) = g s := by
  have hb : ∀ t : State, g (forAll State.bump cnts t) = g t := fun t => forAll_frame_mem g State.bump cnts t (fun a ha u => h.word u a _ (hw a ha))
  refine (h.rest _ _).trans (?_ : g (s.dropEntries cnts (s.queue e q)) = g s)
  exact forAll_frame g _ (fun t x => (hb _).trans (h.dropCopy t _)) _ s

theorem flushState (s : State) (e : Nat) (qs more : List Nat) (hw : ∀ a ∈ more, EntryWord p a) : g (s.flushState e qs more) = g s :=
  forAll_frame g _ (fun t q => h.flushQueue t e q _ (List.forall_mem_cons.2 ⟨.inr (by unfold Reg.TM_QDROPSTATE; omega), hw⟩)) qs s

theorem endLive (s : State) (pick : TagOp → Bool) (st : Nat) : g (s.endLive pick st) = g s := h.rest _ _

theorem restartSym (s : State) (q : Nat) : g (s.restartSym q) = g s := by
  unfold State.restartSym
  extract_lets e mine d s1
  exact (h.port s1 q _).trans (h.rest s s1)

theorem drawNat (s : State) (n : Nat) : g (s.drawNat n).2 = g s := h.rest _ _

theorem endPortCoef (s : State) : g (s.endPortCoef p) = g s := by
  unfold State.endPortCoef
  rw [setRb_eq, h.own _ _ (by decide), setRb_eq, h.own _ _ (by decide), h.endLive, h.ended]

theorem setMode (s : State) (m : Nat) : g (s.setMode p m) = g s := by
  have hs : ∀ credit, g (s.resetShapers p credit) = g s := fun credit =>
    forAll_frame g _ (fun t q => h.rest t (t.setShp p q _)) _ s
  unfold State.setMode
  split
  · rfl
  · extract_lets left s0 s1
    have h0 : g s0 = g s := by
      unfold s0
      split
      exacts [rfl, hs _]
    have h1 : g s1 = g s0 := by
      unfold s1
      rw [h.restartSym, setRf_eq, h.own _ _ (by decide), setRf_eq, h.own _ _ (by decide)]
    rw [State.endGather, h.endLive, h.endPortCoef]
    exact (h.port s1 p _).trans (h1.trans h0)

theorem partnerClock (s : State) (st : Nat) : g (s.partnerClock p st) = g s := by
  unfold State.partnerClock
  split
  · exact (h.port _ p _).trans (h.drawNat s 48)
  · split
    · rfl
    · exact h.port s p _

theorem stateFields (s : State) (st : Nat) : g (s.stateFields p st) = g s := by
  have hrole : ∀ (t : State) m r, g ((t.setMode p m).setRf (Reg.PORT_STATE p) 25 24 r) = g t := fun t m r => by
    rw [setRf_eq, h.own _ _ (by decide), h.setMode]
  unfold State.stateFields
  extract_lets x s1 s2 s3 s4 left
  have h1 : g s1 = g s := by
    unfold s1
    split
    · rfl
    · rw [setRf_eq, h.own _ _ (by decide), setRf_eq, h.own _ _ (by decide)]
  have h2 : g s2 = g s1 := by
    unfold s2
    split
    · rfl
    · rw [setRf_eq, h.own _ _ (by decide), h.own _ _ (by decide)]
  have h3 : g s3 = g s := by
    unfold s3
    rw [h.partnerClock]
    split
    · exact h2.trans h1
    · rw [setRb_eq, h.own _ _ (by decide), h2, h1]
  have h4 : g s4 = g s := by
    unfold s4
    rw [setRf_eq, h.own _ _ (by decide), hrole, h3]
  split
  · exact (hrole s3 _ _).trans h3
  · split
    · exact (h.port _ p _).trans ((hrole s3 8 _).trans h3)
    · split
      · exact (h.port _ p _).trans ((h.restartSym s4 p).trans h4)
      · exact (h.port _ p _).trans ((hrole s3 0 0).trans h3)

theorem egressEntry (s : State) (st : Nat) : g (s.egressEntry p st) = g s := by
  have hn : ∀ qs, g (s.flushState p qs []) = g s := fun qs => h.flushState s p qs [] (by simp)
  unfold State.egressEntry
  repeat' split
  · exact hn _
  · exact hn _
  · exact h.flushState s p _ _ (by simpa using entryWord_port p (by decide))
  · exact hn _
  · rfl

theorem leaveUp (s : State) : g (s.leaveUp p) = g s := by
  unfold State.leaveUp
  extract_lets s1 s2
  refine (h.port s2 p _).trans ?_
  unfold s2 s1
  rw [setRb_eq, h.own _ _ (by decide), setRb_eq, h.own _ _ (by decide), setRb_eq, h.own _ _ (by decide), h.cutTx]

theorem testTurn (s s0 : State) : g (s.testTurn s0 p) = g s := by
  unfold State.testTurn
  split
  · rfl
  · exact (h.port _ p _).trans ((h.restartSym _ p).trans (h.drawNat s 48))

theorem dstPortState (s : State) (st : Nat) : g (s.dstPortState p st) = g s := by
  unfold State.dstPortState
  split
  exacts [h.dstEvent .., rfl]

theorem withdrawWrite (s : State) : g (s.withdrawWrite p) = g s := by
  have hp : ∀ t : State, g (t.regainPort p) = g t := fun t => forAll_frame g _ (fun u n => by
    have hw : ∀ (v : State) a b, g (v.setRb (dwReg n p) a b) = g v := fun v a b => h.above v _ (by unfold dwReg Reg.SPN_DWRITE0 Reg.SPN_DWRITE1; split <;> omega)
    have hg : ∀ (v : State) a b, g (v.setRb (dgReg n p) a b) = g v := fun v a b => h.above v _ (by unfold dgReg Reg.SPN_DGATHER0 Reg.SPN_DGATHER1; split <;> omega)
    split
    · exact hw u _ _
    · split
      · exact (hw _ _ _).trans (hg u _ _)
      · rfl) _ t
  have hk : ∀ (t : State) k, g (t.regainSkein k) = g t := fun t k => forAll_frame g _ (fun u n => by
    have hw : ∀ (v : State) a b, g (v.setRb (Reg.SPN_DSKW n) a b) = g v := fun v a b => h.above v _ (by unfold Reg.SPN_DSKW; omega)
    have hg : ∀ (v : State) a b, g (v.setRb (Reg.SPN_DSKG n) a b) = g v := fun v a b => h.above v _ (by unfold Reg.SPN_DSKG; omega)
    split
    · exact hw u _ _
    · split
      · exact (hw _ _ _).trans (hg u _ _)
      · rfl) _ t
  unfold State.withdrawWrite
  split
  · split
    · split
      · exact (hk _ _).trans (hp s)
      · exact hp s
    · exact hp s
  · rfl

end Steady

/-! ### A transition -/

/-- The first part of a transition: what the old state ends, PORT_STATE, the fields of the new state, the frames queued. -/
def State.entryHead (s : State) (p st : Nat) : State :=
  ((s.entering p st).stateFields p st).egressEntry p st

/-- A carding sweep and what was roving end as the port leaves ROVING and TRAIN for another state. -/
def State.entryRoved (s t : State) (p st : Nat) : State :=
  if (s.pst p = stRoving ∨ s.pst p = stTrain) ∧ st ≠ stRoving ∧ st ≠ stTrain then
    ((t.sweepAbort p).setReg (Reg.PORT_ROVSTAT p) 0).updPort p (fun x => { x with rov := {} })
  else t

/-- What a transition from `s` clears next, of `t`: the test mode on leaving DISABLED, the host's THRESH on entering it, what was roving. -/
def State.entryCleared (s t : State) (p st : Nat) : State :=
  let s5 := if s.pst p = stDisabled then t.setRf (Reg.PORT_TESTMODE p) 3 0 0 else t
  s.entryRoved (if st = stDisabled then s5.updPort p (fun x => { x with threshHost := false }) else s5) p st

/-- The end of a transition from `s`, of `t`: commands, gathers and delegation that end, the test mode, the distaff's record. -/
def State.entryEnd (s t : State) (p st : Nat) : State :=
  let s8 := if s.pst p = stUp ∧ st ≠ stSleep then t.endUpCmds p else t
  let s9 := if 2 ≤ st ∧ st ≤ 5 then s8 else s8.endGather p (fun _ => true)
  let s10 := if s.pst p = stUp then s9.withdrawWrite p else s9
  (if s10.testActive p = s.testActive p then s10 else s10.testTurn s p).dstPortState p st

theorem enter_eq (s : State) (p st : Nat) : s.enter p st =
    s.entryEnd (s.entryCleared (if st = stListen then (s.entryHead p st).applyConfig p else s.entryHead p st) p st) p st := rfl

namespace Steady

variable {β : Type} {p : Nat} {g : State → β} (h : Steady p g)
include h

theorem entryHead (s : State) (st : Nat) : g (s.entryHead p st) = g s := by
  rw [State.entryHead, h.egressEntry, h.stateFields]
  unfold State.entering
  extract_lets s0 s1
  have h0 : g s0 = g s := by
    unfold s0
    split
    · rw [h.ended, h.ended]
    · rfl
  have h1 : g s1 = g s0 := by
    unfold s1
    repeat' split
    · exact h.leaveUp s0
    · exact (h.endLive ..).trans (h.cutTx s0 p)
    · rfl
  rw [setRf_eq, h.own _ _ (by decide), setRf_eq, h.own _ _ (by decide), h1, h0]

theorem entryCleared (s t : State) (st : Nat) (hab : s.pst p = stRoving ∨ s.pst p = stTrain → ∀ u : State, g (u.sweepAbort p) = g u) :
    g (s.entryCleared t p st) = g t := by
  unfold State.entryCleared State.entryRoved
  extract_lets s5
  have h5 : g s5 = g t := by
    unfold s5
    split
    · rw [setRf_eq, h.own _ _ (by decide)]
    · rfl
  have h6 : g (if st = stDisabled then s5.updPort p (fun x => { x with threshHost := false }) else s5) = g s5 := by
    split
    exacts [h.port s5 p _, rfl]
  split
  · rename_i hc
    refine (h.port _ p _).trans ?_
    rw [h.own _ _ (by decide), hab hc.1, h6, h5]
  · exact h6.trans h5

theorem entryEnd (s t : State) (st : Nat) : g (s.entryEnd t p st) = g t := by
  unfold State.entryEnd
  extract_lets s8 s9 s10
  have h8 : g s8 = g t := by
    unfold s8
    split
    · rw [State.endUpCmds, h.ended, h.ended, h.ended]
    · rfl
  have h9 : g s9 = g s8 := by
    unfold s9
    split
    exacts [rfl, h.endLive ..]
  have h10 : g s10 = g s9 := by
    unfold s10
    split
    exacts [h.withdrawWrite s9, rfl]
  rw [h.dstPortState]
  split
  · rw [h10, h9, h8]
  · rw [h.testTurn, h10, h9, h8]

/-- A transition leaves a reading that neither the sweep's end nor the applied configuration changes where they happen. -/
theorem enter (s : State) (st : Nat) (hcfg : st = stListen → ∀ u : State, g (u.applyConfig p) = g u)
    (hab : s.pst p = stRoving ∨ s.pst p = stTrain → ∀ u : State, g (u.sweepAbort p) = g u) : g (s.enter p st) = g s := by
  rw [enter_eq, h.entryEnd, h.entryCleared _ _ _ hab]
  split
  · rename_i he
    rw [hcfg he, h.entryHead]
  · exact h.entryHead s st

theorem cause (s : State) (c : Nat) : g (s.cause p c) = g s := h.own s _ (by decide)

theorem lossMemo (s : State) (c : Nat) : g (s.lossMemo p c) = g s := h.port s p _

end Steady

/-! ### Commands that wait -/

/-- The commands that wait, by position. -/
def State.waitings (s : State) : List (Option Cmd) := s.rt.cmds.map fun c => if c.st = .waiting then some c else none

theorem endRunning_waitings (s : State) (p op st : Nat) : (s.endRunning p op st).waitings = s.waitings := by
  refine (List.map_map ..).trans (List.map_congr_left fun c _ => ?_)
  by_cases hc : c.st = .running
  · simp only [Function.comp_apply, hc]
    split <;> simp_all
  · simp [hc]

theorem updPort_waitings (s : State) (p : Nat) (f : Port → Port) : (s.updPort p f).waitings = s.waitings := rfl
theorem setReg_waitings (s : State) (a : Nat) (v : Word) : (s.setReg a v).waitings = s.waitings := rfl

theorem steady_waitings (p : Nat) : Steady p State.waitings where
  word s a v _ := setReg_waitings s a v
  port s q f _ := updPort_waitings s q f
  ended := endRunning_waitings
  rest _ _ _ _ hrt := by rw [State.waitings, hrt, State.waitings]

/-- PORT_MODE of the port. -/
theorem steady_mode (p : PortNo) : Steady p (fun t => t.reg (Reg.PORT_MODE p)) where
  word s a v h := reg_setReg_other s v (by
    unfold Reg.PORT_MODE
    rcases h with ⟨o, h2, -, rfl⟩ | h <;> omega)
  port _ _ _ _ := rfl
  ended _ _ _ _ := rfl
  rest _ _ hr _ _ := by rw [State.reg, hr, State.reg]

theorem steady_cardstat (p : PortNo) : Steady p (fun t => t.reg (Reg.PORT_CARDSTAT p)) where
  word s a v h := reg_setReg_other s v (by
    unfold Reg.PORT_CARDSTAT
    rcases h with ⟨o, -, h2, rfl⟩ | h <;> omega)
  port _ _ _ _ := rfl
  ended _ _ _ _ := rfl
  rest _ _ hr _ _ := by rw [State.reg, hr, State.reg]

/-- The mode configuration that the port applies. -/
theorem steady_applied (p : Nat) : Steady p (fun t => (t.port p).applMode) where
  word _ _ _ _ := rfl
  port s q f hf := by
    by_cases hq : p = q
    · subst hq
      rw [updPort_eq, port_setPort_same, hf]
    · rw [updPort_eq, port_setPort_other s _ hq]
  ended _ _ _ _ := rfl
  rest _ _ _ hp _ := by rw [State.port, hp, State.port]

theorem sweepAbort_cases (s : State) (p : Nat) :
    s.sweepAbort p = (s.setRf (Reg.PORT_CARDSTAT p) 47 44 4).endRunning p 0x16 9 ∨ s.sweepAbort p = s := by
  unfold State.sweepAbort
  split
  exacts [.inl rfl, .inr rfl]

theorem enter_waitings (s : State) (p st : Nat) : (s.enter p st).waitings = s.waitings :=
  (steady_waitings p).enter s st (fun _ u => updPort_waitings u p _) fun _ u => by
    rcases sweepAbort_cases u p with e | e <;> rw [e]
    rw [endRunning_waitings, setRf_eq, setReg_waitings]

/-- A port that enters LISTEN applies the mode configuration that PORT_MODE holds. -/
theorem enter_applies (s : State) (p : PortNo) : ((s.enter p stListen).port p).applMode = (s.enter p stListen).reg (Reg.PORT_MODE p) := by
  have hm := steady_mode p
  have ha := steady_applied p
  have hab : ∀ u : State, (u.sweepAbort p).reg (Reg.PORT_MODE p) = u.reg (Reg.PORT_MODE p) ∧ ((u.sweepAbort p).port p).applMode = (u.port p).applMode := by
    intro u
    rcases sweepAbort_cases u p with e | e <;> rw [e]
    · exact ⟨(reg_endRunning ..).trans (reg_setRf_other u 4 (portWord_ne p (by decide))), (ha.ended ..).trans (congrArg Port.applMode (port_setReg u _ _ p))⟩
    · exact ⟨rfl, rfl⟩
  rw [enter_eq, ha.entryEnd, hm.entryEnd, ha.entryCleared _ _ _ (fun _ u => (hab u).2), hm.entryCleared _ _ _ (fun _ u => (hab u).1), if_pos rfl,
    State.applyConfig, updPort_eq, port_setPort_same, reg_setPort]

end Sys2Proof.Machine
end

section
/-! PROOF. Port commands (O29): the runtime takes a command up, and the words that PORT_CONFIG writes. -/

namespace Sys2Proof.Machine

/-! ### A command taken up -/

theorem nth_eq_getElem {α : Type} (d : α) : ∀ (l : List α) {i : Nat} (h : i < l.length), nth d l i = l[i]
  | _ :: _, 0, _ => rfl
  | _ :: l, _ + 1, h => nth_eq_getElem d l (Nat.lt_of_succ_lt_succ h)

theorem length_waitings (s : State) : s.waitings.length = s.rt.cmds.length := List.length_map ..

section
variable {s t : State} {op id i : Nat}

theorem cmdAt_spec (h : s.cmdAt op id = some i) : i < s.rt.cmds.length ∧ (cmdOf s i).op = op := by
  obtain ⟨hi, hc, -⟩ := List.findIdx?_eq_some_iff_getElem.1 h
  simp only [Bool.and_eq_true, decide_eq_true_eq] at hc
  exact ⟨hi, by rw [cmdOf, nth_eq_getElem _ _ hi]; exact hc.2.1⟩

/-- A port command's target is a port: its entry has passed the checks (R236). -/
theorem target_lt (h : TakesUp s op id i) {r : CmdRow} (hr : cmdRow op = some r) (hk : r.kind = 1) : (cmdOf s i).tindex < 96 := by
  obtain ⟨-, hc, -, -, he⟩ := h
  rw [← (cmdAt_spec hc).2] at hr
  by_contra hn
  have ht : 96 ≤ (cmdOf s i).tindex := by omega
  have hn : kindCount r.kind = 96 := by rw [hk]; rfl
  simp only [State.entryStatus, hr, hn, ht, true_or, or_true, if_true] at he
  split_ifs at he

/-- A command that waits stands where it stood, in a state whose waiting commands are the same. -/
theorem cmdOf_of_waitings (h : t.waitings = s.waitings) (hi : i < s.rt.cmds.length) (hw : (cmdOf s i).st = .waiting) (d : Cmd) :
    nth d t.rt.cmds i = cmdOf s i := by
  have hl : i < t.rt.cmds.length := by rwa [← length_waitings, h, length_waitings]
  have he : t.waitings[i]'(by rwa [length_waitings]) = s.waitings[i]'(by rwa [length_waitings]) := by simp only [h]
  rw [cmdOf, nth_eq_getElem _ _ hi] at hw ⊢
  rw [nth_eq_getElem _ _ hl]
  simp only [State.waitings, List.getElem_map, hw, if_true] at he
  split at he
  · exact Option.some.inj he
  · cases he

variable {f : Cmd → Bool → State → Prog × State} {P : State → Prop}

/-- A command that completes as it is taken up. -/
theorem takesUp_done (h : TakesUp s op id i) {st : Nat} {r : Word} (hf : f (cmdOf s i) false s = (.done st r, t))
    (hl : t.rt.cmds.length = s.rt.cmds.length) (hP : ∀ c, P (t.putCmd i c)) :
    nextWith (.next (s.runCmd op id f)) (fun u => Finished u i st r ∧ P u) := by
  have hi := (cmdAt_spec h.2.1).1
  refine ⟨_, rfl, ?_⟩
  rw [runCmd_takesUp f h, hf]
  dsimp only
  refine ⟨⟨t.cmdGen (cmdOf s i), ?_⟩, hP _⟩
  rw [cmdOf, State.putCmd, nth_setNth _ _ _ _ _ (by omega), if_pos rfl]

/-- A command that goes on as it is taken up. -/
theorem takesUp_run (h : TakesUp s op id i) (hf : f (cmdOf s i) false s = (.run, t)) (hw : t.waitings = s.waitings) (hP : ∀ c, P (t.putCmd i c)) :
    nextWith (.next (s.runCmd op id f)) (fun u => (cmdOf u i).st = .running ∧ P u) := by
  have hi := (cmdAt_spec h.2.1).1
  have hl : i < t.rt.cmds.length := by rwa [← length_waitings, hw, length_waitings]
  have hc : nth (cmdOf s i) t.rt.cmds i = cmdOf s i := cmdOf_of_waitings hw hi h.2.2.1 _
  refine ⟨_, rfl, ?_⟩
  rw [runCmd_takesUp f h, hf]
  dsimp only
  rw [hc, if_pos (by simp [Cmd.live, h.2.2.1])]
  refine ⟨?_, hP _⟩
  rw [cmdOf, State.putCmd, nth_setNth _ _ _ _ _ hl, if_pos rfl]

theorem cmds_length_of_waitings (h : t.waitings = s.waitings) : t.rt.cmds.length = s.rt.cmds.length := by
  rw [← length_waitings, h, length_waitings]

end

/-- A domain that is on lets a command go on. -/
theorem needDoms_on {s : State} {d : Nat} (h : s.domOn d = true) (k : State → Prog × State) : s.needDoms [d] k = k s := by
  simp [State.needDoms, gate_on h, forAll, refuseEntry_on h]

/-! ### A register of a port as the supervisor writes it -/

/-- What a write of one of a port's words by the supervisor leaves: the word, other words, the domains and the commands that wait. -/
structure WordSet (a : Nat) (w : Word) (s t : State) : Prop where
  word : t.reg a = w
  other : ∀ b < 0x200000, b ≠ a → t.reg b = s.reg b
  doms : t.dom = s.dom
  cmds : t.waitings = s.waitings

/-- The place of a port's word. -/
def portLoc (p : PortNo) (o : Nat) : RegLoc := { blk := .port, inst := p, sub := 0, off := o }

section
variable {s : State} {p : PortNo} {o : Nat} {row : RegRow}

theorem supWrite_port (hf : RegMap.find RegMap.port o = some (row, false)) (ho : o < 0x1000 ∧ o ≠ 0) (hr : row.acc = .rw) (hk : runMask o = 0)
    (hq : s.quadOn p = true) (v : Word) :
    let a := 0x10000 + 0x1000 * p.val + o
    (s.supWrite a v).2 = ((s.portWrite s.supSpn p o a (s.stores (portLoc p o) row a v)).goodParity a).regwr (portLoc p o) a v := by
  intro a
  have hp : p.val < 96 := p.isLt
  have hm : RegMap.at a = some (portLoc p o, row, false) := regMap_at_port p hf ho.1
  have hb : isBobbin a = false ∧ isFlashWin a = false := by
    constructor
    · exact decide_eq_false (by omega)
    · exact decide_eq_false (by omega)
  have hd : ∀ d, domainOf a = some d → s.domOn d = true := by
    intro d hd
    have he : domainOf a = some (p.val / 4) := by
      unfold domainOf
      rw [if_neg (by omega), if_pos (by omega), if_neg (by omega)]
      exact congrArg some (by omega)
    rw [he] at hd
    cases hd
    exact hq
  rw [State.supWrite, attempt_on (fun _ _ => rfl) (by simp [unmapped, hb, hm]) hb.2 hd]
  have hw := writeWord_rw (s := s) (r := s.supSpn) v hm ⟨hr, rfl, fun _ => hk⟩
  simp only [State.perform, if_true, hw]
  rfl

theorem wordSet_stored {a : Nat} {w v : Word} {l : RegLoc} {t : State} (ha : a < 0x200000) (h : WordSet a w s t) :
    WordSet a w s ((t.goodParity a).regwr l a v) where
  word := (reg_regwr (t.goodParity a) l a v (by unfold Reg.DST_EVLOST; omega) (by unfold Reg.DST_STAT; omega)).trans h.word
  other b hb hne := (reg_regwr (t.goodParity a) l a v (by unfold Reg.DST_EVLOST; omega) (by unfold Reg.DST_STAT; omega)).trans (h.other b hb hne)
  doms := (regwr_frame State.dom (fun _ _ => rfl) (fun _ _ _ _ => rfl) _ l a v).trans h.doms
  cmds := (regwr_frame State.waitings (fun _ _ => rfl) (fun _ _ _ _ => rfl) _ l a v).trans h.cmds

end

section
variable {s : State} {p : PortNo} (hq : s.quadOn p = true)
include hq

omit hq in
theorem testTurn_dom (s s0 : State) (p : Nat) : (s.testTurn s0 p).dom = s.dom := by
  unfold State.testTurn
  split <;> rfl

/-- PORT_MODE as the supervisor writes it. -/
theorem supWrite_mode (v : Word) : WordSet (Reg.PORT_MODE p) (s.stores (portLoc p 2) ⟨0x2, 1, 1, .rw, 0x196FE, 0x1FFFE⟩ (Reg.PORT_MODE p) v) s
    (s.supWrite (Reg.PORT_MODE p) v).2 := by
  have hp : p.val < 96 := p.isLt
  rw [supWrite_port (o := 2) rfl (by decide) rfl rfl hq v]
  refine wordSet_stored (by unfold Reg.PORT_MODE; omega) ?_
  have hw : ∀ w, s.portWrite s.supSpn p 2 (Reg.PORT_MODE p) w = (s.setReg (Reg.PORT_MODE p) w).testTurn s p := fun w => by simp [State.portWrite]
  have hr : ∀ (w : Word) a, ((s.setReg (Reg.PORT_MODE p) w).testTurn s p).reg a = (s.setReg (Reg.PORT_MODE p) w).reg a := fun w a => by
    rw [State.reg, testTurn_regs, State.reg]
  rw [hw]
  exact ⟨(hr _ _).trans (reg_setReg_same ..), fun b _ hb => (hr _ _).trans (reg_setReg_other _ _ hb), testTurn_dom _ s p,
    ((steady_waitings p).testTurn _ s).trans (setReg_waitings ..)⟩

/-- A word of the port that a write only stores. -/
theorem supWrite_plain {o : Nat} {row : RegRow} (hf : RegMap.find RegMap.port o = some (row, false)) (ho : o < 0x1000 ∧ o ≠ 0) (hr : row.acc = .rw)
    (hk : runMask o = 0) (hw : o ≠ 2 ∧ o ≠ 4 ∧ o ≠ 8 ∧ o ≠ 0x20 ∧ o ≠ 0x24 ∧ o ≠ 0x25 ∧ o ≠ 0x72) (v : Word) :
    WordSet (0x10000 + 0x1000 * p.val + o) (s.stores (portLoc p o) row (0x10000 + 0x1000 * p.val + o) v) s
      (s.supWrite (0x10000 + 0x1000 * p.val + o) v).2 := by
  have hp : p.val < 96 := p.isLt
  rw [supWrite_port hf ho hr hk hq v, portWrite_plain s s.supSpn _ rfl hw]
  exact wordSet_stored (by omega) ⟨reg_setReg_same .., fun b _ hb => reg_setReg_other _ _ hb, rfl, setReg_waitings ..⟩

end

/-- The bits of PORT_MODE from 8 up are stored as they are under the row's mask. -/
theorem testBit_stores_mode (s : State) (p : PortNo) (a : Nat) (v : Word) {i : Nat} (h : i < 17) (hl : 8 ≤ i) :
    (s.stores (portLoc p 2) ⟨0x2, 1, 1, .rw, 0x196FE, 0x1FFFE⟩ a v).toNat.testBit i = v.toNat.testBit i := by
  have hc : s.stores (portLoc p 2) ⟨0x2, 1, 1, .rw, 0x196FE, 0x1FFFE⟩ a v =
      s.masked ⟨0x2, 1, 1, .rw, 0x196FE, 0x1FFFE⟩ a v &&& (s.reg (Reg.PORT_CAP p) ||| 0xFFFFFFFFFF01#48) := by
    simp [State.stores, clampWord, clampPort, portLoc]
  have hones : ∀ i : Fin 17, 8 ≤ i.val → (0xFFFFFFFFFF01#48).toNat.testBit i = true ∧ (0x1FFFE).testBit i.val = true := by decide
  obtain ⟨h1, h2⟩ := hones ⟨i, h⟩ hl
  rw [hc, BitVec.toNat_and, BitVec.toNat_or, Nat.testBit_and, Nat.testBit_or, h1, testBit_masked s _ a v (by omega), if_pos h2, Bool.or_true, Bool.and_true]

theorem fld_stores_mode (s : State) (p : PortNo) (a : Nat) (v : Word) {hi lo : Nat} (h : hi < 17) (hl : 8 ≤ lo) :
    fld (s.stores (portLoc p 2) ⟨0x2, 1, 1, .rw, 0x196FE, 0x1FFFE⟩ a v) hi lo = fld v hi lo := by
  apply Nat.eq_of_testBit_eq
  intro i
  rw [testBit_fld, testBit_fld]
  by_cases hi' : i < hi + 1 - lo
  · rw [testBit_stores_mode s p a v (by omega) (by omega)]
  · simp [hi']

theorem bitOf_stores_mode (s : State) (p : PortNo) (a : Nat) (v : Word) {i : Nat} (h : i < 17) (hl : 8 ≤ i) :
    bitOf (s.stores (portLoc p 2) ⟨0x2, 1, 1, .rw, 0x196FE, 0x1FFFE⟩ a v) i = bitOf v i := by
  rw [bitOf_eq, bitOf_eq, testBit_stores_mode s p a v h hl]

/-- A field put into a word whose row holds it, of a register that is stored as written. -/
theorem fld_stores_put {s : State} {l : RegLoc} {row : RegRow} (hc : ∀ cap w, clampWord l cap w = w) (a : Nat) (w : Word) {hi lo v : Nat} (h : hi < 48)
    (hl : lo ≤ hi) (hm : ∀ i ≤ hi, lo ≤ i → row.mask.testBit i = true) (hv : v < 2 ^ (hi + 1 - lo)) :
    fld (s.stores l row a (putFld w hi lo v)) hi lo = v := by
  rw [State.stores, hc, fld_masked s row a _ h hm, fld_putFld_lt w h hl hv]

end Sys2Proof.Machine
end

section
/-! PROOF. Port commands (O29): what each command leaves, and the statement. -/

namespace Sys2Proof.Machine

section
variable (t : State) (i : Nat) (c : Cmd)

theorem reg_putCmd (a : Nat) : (t.putCmd i c).reg a = t.reg a := rfl
theorem rf_putCmd (a hi lo : Nat) : (t.putCmd i c).rf a hi lo = t.rf a hi lo := rfl
theorem rb_putCmd (a b : Nat) : (t.putCmd i c).rb a b = t.rb a b := rfl
theorem pst_putCmd (p : Nat) : (t.putCmd i c).pst p = t.pst p := rfl
theorem pgen_putCmd (p : Nat) : (t.putCmd i c).pgen p = t.pgen p := rfl
theorem port_putCmd (p : Nat) : (t.putCmd i c).port p = t.port p := rfl

end

/-! ### Into LISTEN -/

section
variable (s : State) (p : PortNo)

theorem toListen_waitings : (s.toListen p).waitings = s.waitings := by
  rw [State.toListen, updPort_waitings, enter_waitings, updPort_waitings]

theorem toListen_wants : ((s.toListen p).port p).wantAdmit = true := by
  rw [State.toListen, updPort_eq, port_setPort_same]

/-- A port that enters LISTEN applies the mode configuration that PORT_MODE holds, and PORT_MODE stays. -/
theorem toListen_applies : ((s.toListen p).port p).applMode = s.reg (Reg.PORT_MODE p) ∧
    (s.toListen p).reg (Reg.PORT_MODE p) = s.reg (Reg.PORT_MODE p) := by
  have hm := steady_mode p
  have hab : ∀ u : State, (u.sweepAbort p).reg (Reg.PORT_MODE p) = u.reg (Reg.PORT_MODE p) := by
    intro u
    rcases sweepAbort_cases u p with e | e <;> rw [e]
    exact (reg_endRunning ..).trans (reg_setRf_other u 4 (portWord_ne p (by decide)))
  have hr : ((s.updPort p fun x => { x with fromRov := false }).enter p stListen).reg (Reg.PORT_MODE p) = s.reg (Reg.PORT_MODE p) :=
    (hm.enter _ stListen (fun _ _ => reg_updPort ..) (fun _ => hab)).trans (reg_updPort ..)
  rw [State.toListen, updPort_eq, port_setPort_same, reg_setPort]
  exact ⟨(enter_applies _ p).trans hr, hr⟩

/-- The port starts over by command. -/
theorem cmdRestart_spec : (s.cmdRestart p).pst p = 1 ∧ (s.cmdRestart p).rf (Reg.PORT_LINKSTAT p) 47 44 = 3 ∧
    (s.cmdRestart p).waitings = s.waitings ∧ ((s.cmdRestart p).port p).applMode = (s.cmdRestart p).reg (Reg.PORT_MODE p) := by
  have ha := toListen_applies ((s.cause p 3).lossMemo p 3) p
  refine ⟨(entered_toListen _ p).1, cause_of_links (s := s) p 3 ?_, ?_, ha.1.trans ha.2.symm⟩
  · rw [State.cmdRestart, report_toListen, lossMemo_links]
  · rw [State.cmdRestart, toListen_waitings, State.lossMemo, updPort_waitings, State.cause, setRf_eq, setReg_waitings]

/-- A port in LISTEN asks for a new attempt. -/
theorem newAttempt_spec : (s.newAttempt p).pst p = s.pst p ∧ ((s.newAttempt p).port p).wantAdmit = true ∧ (s.newAttempt p).waitings = s.waitings := by
  refine ⟨rf_updPort .., ?_, updPort_waitings ..⟩
  rw [State.newAttempt, updPort_eq, port_setPort_same]

end

section
variable {s : State} {id : BitVec 16} {i : Nat} {p : PortNo} (hp : (cmdOf s i).tindex = p.val)
include hp

/-! ### PORT_ENABLE and PORT_DISABLE -/

theorem portEnable_done (h : TakesUp s 0x10 id.toNat i) (h0 : s.pst p = 0) (hq : s.quadOn p = true) :
    nextWith (exec (.portEnable id) s) (fun t => Finished t i 0 0 ∧ t.pst p = 1 ∧ (t.port p).wantAdmit = true) := by
  refine takesUp_done (t := (s.toListen p).updPort p fun x => { x with fromSleep := false, detArmed := false }) h ?_ ?_ fun c => ⟨?_, ?_⟩
  · dsimp only
    rw [hp, if_neg (by simp [h0, stDisabled]), needDoms_on hq]
    rfl
  · exact cmds_length_of_waitings ((updPort_waitings ..).trans (toListen_waitings s p))
  · exact (pst_putCmd ..).trans ((rf_updPort ..).trans (entered_toListen s p).1)
  · rw [port_putCmd, updPort_eq, port_setPort_same]
    exact toListen_wants s p

theorem portEnable_bad (h : TakesUp s 0x10 id.toNat i) (h0 : s.pst p ≠ 0) :
    nextWith (exec (.portEnable id) s) (fun t => Finished t i 5 0 ∧ t.regs = s.regs ∧ t.ports = s.ports) := by
  refine takesUp_done (t := s) h ?_ rfl fun c => ⟨rfl, rfl⟩
  dsimp only
  rw [hp, if_pos h0]
  rfl

/-- What PORT_DISABLE does to a port that is not DISABLED, once the earlier commands on it are cancelled. -/
def State.disabled (s : State) (p : Nat) : State :=
  ((((if s.pst p = stUp then (s.cause p 3).lossMemo p 3 else s).abortSweep p).toDisabled p)).updPort p fun x => { x with detArmed := false }

omit hp in
theorem abortSweep_waitings (s : State) (p : Nat) : (s.abortSweep p).waitings = s.waitings := by
  unfold State.abortSweep
  split
  · rw [setRf_eq, setReg_waitings]
  · rfl

omit hp in
@[simp] theorem abortSweep_links (s : State) (p : Nat) : (s.abortSweep p).links = s.links := by
  unfold State.abortSweep
  split
  · exact setRf_links _ _ _ _ (not_linkWord_port p (by decide))
  · rfl

omit hp in
theorem disabled_spec (s : State) (p : PortNo) : (s.disabled p).pst p = 0 ∧ (s.disabled p).pgen p = (s.pgen p + 1) % 65536 ∧
    (s.pst p = 3 → (s.disabled p).rf (Reg.PORT_LINKSTAT p) 47 44 = 3) ∧ (s.disabled p).waitings = s.waitings := by
  have hs : (if s.pst p = stUp then (s.cause p 3).lossMemo p 3 else s).links.1 = s.links.1 := by split <;> simp
  have he : Entered s (s.disabled p) p stDisabled :=
    ((entered_toDisabled _ p).from_links ((congrArg Prod.fst (abortSweep_links _ p)).trans hs)).of_links (by simp [State.disabled])
  refine ⟨he.1, he.2.1, fun h3 => cause_of_links (s := s) p 3 ?_, ?_⟩
  · rw [State.disabled, updPort_links, report_toDisabled, abortSweep_links, if_pos h3, lossMemo_links]
  · rw [State.disabled, updPort_waitings, State.toDisabled, updPort_waitings, enter_waitings, abortSweep_waitings]
    split
    · rw [State.lossMemo, updPort_waitings, State.cause, setRf_eq, setReg_waitings]
    · rfl

omit hp in
theorem cancelEarlier_length (s : State) (p i : Nat) : (s.cancelEarlier p i).rt.cmds.length = s.rt.cmds.length := by
  simp [State.cancelEarlier]

theorem portDisable_done (h : TakesUp s 0x11 id.toNat i) (h0 : s.pst p ≠ 0) :
    nextWith (exec (.portDisable id) s) (fun t => Finished t i 0 0 ∧ t.pst p = 0 ∧ t.pgen p = (s.pgen p + 1) % 65536 ∧
      (s.pst p = 3 → t.rf (Reg.PORT_LINKSTAT p) 47 44 = 3)) := by
  obtain ⟨h1, h2, h3, h4⟩ := disabled_spec (s.cancelEarlier p i) p
  refine takesUp_done (t := (s.cancelEarlier p i).disabled p) h ?_ ((cmds_length_of_waitings h4).trans (cancelEarlier_length s p i)) fun c =>
    ⟨(pst_putCmd ..).trans h1, (pgen_putCmd ..).trans h2, fun hu => (rf_putCmd ..).trans (h3 hu)⟩
  dsimp only
  rw [hp, h.2.1]
  exact if_neg h0

/-! ### PORT_RESTART -/

theorem portRestart_restarts (h : TakesUp s 0x13 id.toNat i) (hr : s.restartable p = true) :
    nextWith (exec (.portRestart id) s) (fun t => Finished t i 0 0 ∧ t.pst p = 1 ∧ t.rf (Reg.PORT_LINKSTAT p) 47 44 = 3) := by
  obtain ⟨h1, h2, h3, -⟩ := cmdRestart_spec s p
  refine takesUp_done (t := s.cmdRestart p) h ?_ (cmds_length_of_waitings h3) fun c =>
    ⟨(pst_putCmd ..).trans h1, (rf_putCmd ..).trans h2⟩
  dsimp only
  rw [hp, if_neg (by decide), if_pos hr]
  rfl

omit hp in
theorem restartable_listen (h : s.pst p = 1 ∨ s.pst p = 0) : s.restartable p = false := by
  rcases h with h | h <;> simp [State.restartable, h, stTrain, stUp, stRoving]

theorem portRestart_listens (h : TakesUp s 0x13 id.toNat i) (hl : s.pst p = 1) :
    nextWith (exec (.portRestart id) s) (fun t => (cmdOf t i).st = .running ∧ t.pst p = 1 ∧ (t.port p).wantAdmit = true) := by
  obtain ⟨h1, h2, h3⟩ := newAttempt_spec s p
  refine takesUp_run (t := s.newAttempt p) h ?_ h3 fun c => ⟨(pst_putCmd ..).trans (h1.trans hl), (congrArg Port.wantAdmit (port_putCmd ..)).trans h2⟩
  dsimp only
  rw [hp, if_neg (by decide), if_neg (by simp [restartable_listen (.inl hl)]), if_pos hl]

theorem portRestart_bad (h : TakesUp s 0x13 id.toNat i) (h0 : s.pst p = 0) :
    nextWith (exec (.portRestart id) s) (fun t => Finished t i 5 0 ∧ t.ports = s.ports) := by
  refine takesUp_done (t := s) h ?_ rfl fun c => rfl
  dsimp only
  rw [hp, if_neg (by decide), if_neg (by simp [restartable_listen (.inr h0)]), if_neg (by simp [h0, stListen])]
  rfl

/-! ### PORT_SLEEP and PORT_WAKE -/

omit hp in
theorem sleepNow_waitings (s : State) (p : Nat) : (s.sleepNow p).waitings = s.waitings := by
  rw [State.sleepNow, endRunning_waitings, endRunning_waitings, endRunning_waitings, State.toSleep, updPort_waitings, enter_waitings, State.lossMemo,
    updPort_waitings, State.cause, setRf_eq, setReg_waitings]

omit hp in
theorem leaveLpi_spec (s : State) (p : PortNo) : (s.leaveLpi p).pst p = s.pst p ∧ (s.leaveLpi p).waitings = s.waitings := by
  unfold State.leaveLpi
  split
  · refine ⟨(rf_updPort ..).trans ?_, (updPort_waitings ..).trans ?_⟩
    · have hne : Reg.PORT_STATE p ≠ Reg.PORT_PCSSTAT p := portWord_ne p (by decide)
      refine (rf_setRb_apart _ _ (by decide) (by decide)).trans ?_
      rw [setRb_eq, rf_setReg_other _ _ hne, setRb_eq, rf_setReg_other _ _ hne, State.pst]
    · rw [State.lpiBits, setRb_eq, setReg_waitings, setRb_eq, setReg_waitings, setRb_eq, setReg_waitings]
  · exact ⟨rfl, rfl⟩

section
variable (h : TakesUp s 0x14 id.toNat i) (hu : s.pst p = 3) (hf : s.framesBarSleep p = false)
include h hu hf

theorem portSleep_atOnce (ht : hasTc10 (s.pmode p) = false) :
    nextWith (exec (.portSleep id) s) (fun t => Finished t i 0 0 ∧ t.pst p = 6 ∧ t.rf (Reg.PORT_LINKSTAT p) 47 44 = 2) := by
  refine takesUp_done (t := s.sleepNow p) h ?_ (cmds_length_of_waitings (sleepNow_waitings s p)) fun c =>
    ⟨(pst_putCmd ..).trans (entered_sleepNow s p).1, (rf_putCmd ..).trans (cause_sleepNow s p)⟩
  dsimp only
  rw [hp, if_neg (by decide), if_neg (by simp [hu, stUp]), if_neg (by simp [hf]), if_pos ht]
  rfl

theorem portSleep_asks (ht : hasTc10 (s.pmode p) = true) (h0 : (s.port p).sleepHs = 0) :
    nextWith (exec (.portSleep id) s) (fun t => (cmdOf t i).st = .running ∧ (t.port p).sleepHs = 2 ∧ t.pst p = 3) := by
  obtain ⟨h1, h2⟩ := leaveLpi_spec s p
  have ha : s.askSleep p = some ((s.leaveLpi p).updPort p fun x => { x with sleepHs := 2, sleepCmd := true }) := if_neg (by simp [hf])
  refine takesUp_run (t := (s.leaveLpi p).updPort p fun x => { x with sleepHs := 2, sleepCmd := true }) h ?_ ((updPort_waitings ..).trans h2)
    fun c => ⟨?_, ?_⟩
  · dsimp only
    rw [hp, if_neg (by decide), if_neg (by simp [hu, stUp]), if_neg (by simp [hf]), if_neg (by simp [ht]), if_neg (by simp [h0]), ha]
  · rw [port_putCmd, updPort_eq, port_setPort_same]
  · exact (pst_putCmd ..).trans ((rf_updPort ..).trans (h1.trans hu))

end

theorem portWake_waits (h : TakesUp s 0x15 id.toNat i) (ha : s.asleep p = true) :
    nextWith (exec (.portWake id) s) (fun t => (cmdOf t i).st = .running ∧ t.ports = s.ports) := by
  refine takesUp_run (t := s) h ?_ rfl fun c => rfl
  dsimp only
  rw [hp, if_neg (by decide), if_pos ha]

/-! ### PORT_CONFIG (R81, R239) -/

/-- The three words that PORT_CONFIG writes. -/
def State.portConfigured (s : State) (p : Nat) (c : Cmd) : State :=
  let u1 := (s.supWrite (Reg.PORT_MODE p) c.w2).2
  let u2 := (u1.supWrite (Reg.PORT_DIALECTCFG p) (putFld (u1.reg (Reg.PORT_DIALECTCFG p)) 2 0 (c.arg2 % 8))).2
  (u2.supWrite (Reg.PORT_FECCFG p) (putFld (u2.reg (Reg.PORT_FECCFG p)) 0 0 (c.arg2 / 256))).2

/-- What PORT_CONFIG's words hold, and what its writes leave. -/
structure Configured (p : PortNo) (c : Cmd) (s t : State) : Prop where
  state : t.pst p = s.pst p
  dialects : t.rf (Reg.PORT_DIALECTCFG p) 2 0 = c.arg2 % 8
  erase : t.rf (Reg.PORT_FECCFG p) 0 0 = c.arg2 / 256
  role : t.rf (Reg.PORT_MODE p) 14 13 = fld c.w2 14 13
  an : t.rb (Reg.PORT_MODE p) 12 = bitOf c.w2 12

omit hp in
theorem Configured.putCmd {c : Cmd} {t : State} (h : Configured p c s t) (j : Nat) (d : Cmd) : Configured p c s (t.putCmd j d) where
  state := (pst_putCmd ..).trans h.state
  dialects := (rf_putCmd ..).trans h.dialects
  erase := (rf_putCmd ..).trans h.erase
  role := (rf_putCmd ..).trans h.role
  an := (rb_putCmd ..).trans h.an

omit hp in
theorem configured_spec (c : Cmd) (hq : s.quadOn p = true) (h2 : c.arg2 / 512 = 0) : Configured p c s (s.portConfigured p c) ∧ (s.portConfigured p c).waitings = s.waitings := by
  have hp : p.val < 96 := p.isLt
  unfold State.portConfigured
  extract_lets u1 u2
  have w1 : WordSet (Reg.PORT_MODE p) _ s u1 := supWrite_mode hq c.w2
  have q1 : u1.quadOn p = true := (domOn_congr (congrFun w1.doms _)).trans hq
  have w2 : WordSet (Reg.PORT_DIALECTCFG p) _ u1 u2 := supWrite_plain (o := 0x41) q1 rfl (by decide) rfl rfl (by decide) _
  have q2 : u2.quadOn p = true := (domOn_congr (congrFun w2.doms _)).trans q1
  have w3 := supWrite_plain (o := 5) q2 rfl (by decide) rfl rfl (by decide) (putFld (u2.reg (Reg.PORT_FECCFG p)) 0 0 (c.arg2 / 256))
  generalize (u2.supWrite (Reg.PORT_FECCFG p) (putFld (u2.reg (Reg.PORT_FECCFG p)) 0 0 (c.arg2 / 256))).2 = t at w3
  have hs : t.reg (Reg.PORT_STATE p) = s.reg (Reg.PORT_STATE p) := by
    have hlt : Reg.PORT_STATE p < 0x200000 := by unfold Reg.PORT_STATE; omega
    rw [w3.other _ hlt (portWord_ne p (by decide)), w2.other _ hlt (portWord_ne p (by decide)), w1.other _ hlt (portWord_ne p (by decide))]
  have hd : t.reg (Reg.PORT_DIALECTCFG p) = u2.reg (Reg.PORT_DIALECTCFG p) :=
    w3.other _ (by unfold Reg.PORT_DIALECTCFG; omega) (portWord_ne p (by decide))
  have hm : t.reg (Reg.PORT_MODE p) = u1.reg (Reg.PORT_MODE p) := by
    have hlt : Reg.PORT_MODE p < 0x200000 := by unfold Reg.PORT_MODE; omega
    rw [w3.other _ hlt (portWord_ne p (by decide)), w2.other _ hlt (portWord_ne p (by decide))]
  refine ⟨⟨congrArg (fld · 31 28) hs, ?_, ?_, ?_, ?_⟩, w3.cmds.trans (w2.cmds.trans w1.cmds)⟩
  · rw [State.rf, hd, w2.word]
    exact fld_stores_put (fun _ _ => rfl) _ _ (by decide) (by decide) (by decide) (by omega)
  · refine (congrArg (fld · 0 0) w3.word).trans ?_
    exact fld_stores_put (fun _ _ => rfl) _ _ (by decide) (by decide) (by decide) (by omega)
  · rw [State.rf, hm, w1.word, fld_stores_mode s p _ _ (by decide) (by decide)]
  · rw [State.rb, hm, w1.word, bitOf_stores_mode s p _ _ (by decide) (by decide)]

section
variable (h : TakesUp s 0x12 id.toNat i) (hq : s.quadOn p = true) (h2 : (cmdOf s i).arg2 / 512 = 0) (h3 : (cmdOf s i).arg2 / 8 % 32 = 0)
include h hq h2 h3

/-- PORT_CONFIG without RESTART, or where nothing can restart. -/
theorem portConfig_stores (hr : (cmdOf s i).opt = false ∨ (s.restartable p = false ∧ s.pst p ≠ 1)) :
    nextWith (exec (.portConfig id) s) (fun t => Finished t i 0 0 ∧ Configured p (cmdOf s i) s t) := by
  obtain ⟨hc, hw⟩ := configured_spec (cmdOf s i) hq h2
  refine takesUp_done (t := s.portConfigured p (cmdOf s i)) h ?_ (cmds_length_of_waitings hw) fun c => hc.putCmd i c
  have hr' : (cmdOf s i).opt = false ∨ ((s.portConfigured p (cmdOf s i)).restartable p = false ∧ (s.portConfigured p (cmdOf s i)).pst p ≠ stListen) := by
    rwa [State.restartable, hc.state]
  dsimp only
  rw [hp, if_neg (by decide), if_neg (by simp [h2, h3]), needDoms_on hq]
  exact if_pos hr'

/-- PORT_CONFIG with RESTART of a port that can restart. -/
theorem portConfig_restarts (ho : (cmdOf s i).opt = true) (hr : s.restartable p = true) :
    nextWith (exec (.portConfig id) s) (fun t => Finished t i 0 0 ∧ t.pst p = 1 ∧ t.rf (Reg.PORT_LINKSTAT p) 47 44 = 3 ∧
      (t.port p).applMode = t.reg (Reg.PORT_MODE p)) := by
  obtain ⟨hc, hw⟩ := configured_spec (cmdOf s i) hq h2
  obtain ⟨k1, k2, k3, k4⟩ := cmdRestart_spec (s.portConfigured p (cmdOf s i)) p
  refine takesUp_done (t := (s.portConfigured p (cmdOf s i)).cmdRestart p) h ?_ (cmds_length_of_waitings (k3.trans hw)) fun c =>
    ⟨(pst_putCmd ..).trans k1, (rf_putCmd ..).trans k2, ?_⟩
  · have hr' : (s.portConfigured p (cmdOf s i)).restartable p = true := by rwa [State.restartable, hc.state]
    dsimp only
    rw [hp, if_neg (by decide), if_neg (by simp [h2, h3]), needDoms_on hq]
    exact (if_neg (show ¬ ((cmdOf s i).opt = false ∨ (s.portConfigured p (cmdOf s i)).restartable p = false ∧ _) by simp [ho, hr'])).trans (if_pos hr')
  · rw [port_putCmd, reg_putCmd]
    exact k4

end

/-! ### PORT_CARD (R184, R185) -/

omit hp in
theorem setFilt_spec (s : State) (p : Nat) (f : Nat) : (s.setFilt p f).waitings = s.waitings ∧ ∀ a, a ≠ Reg.PORT_AFE p → (s.setFilt p f).reg a = s.reg a := by
  unfold State.setFilt
  split
  · exact ⟨rfl, fun _ _ => rfl⟩
  · refine ⟨?_, fun a ha => ?_⟩
    · rw [State.settle, updPort_waitings, setRf_eq, setReg_waitings]
    · rw [State.settle, reg_updPort, reg_setRf_other _ _ ha]

/-- PORT_CARDSTAT and the configuration of a sweep that PORT_CARD asks for. -/
def State.cardAsked (s : State) (p : Nat) : State :=
  (s.setReg (Reg.PORT_CARDSTAT p) (putFld 0 47 44 1)).updPort p (fun x => { x with cardCfg := s.reg (Reg.PORT_CARDCFG p) })

omit hp in
theorem cardAsked_spec (s : State) (p : PortNo) : (s.cardAsked p).pst p = s.pst p ∧ (s.cardAsked p).waitings = s.waitings ∧
    (s.cardAsked p).reg (Reg.PORT_CARDSTAT p) = putFld 0 47 44 1 := by
  refine ⟨?_, ?_, ?_⟩
  · exact (rf_updPort ..).trans (rf_setReg_other s _ (portWord_ne p (by decide)) 31 28)
  · rw [State.cardAsked, updPort_waitings, setReg_waitings]
  · rw [State.cardAsked, reg_updPort, reg_setReg_same]

/-- A port that is not in ROVING goes to CARDING for its sweep. -/
def State.toCarding (s : State) (p st : Nat) : State :=
  ((if st = stUp then (s.cause p 3).lossMemo p 3 else s).enter p stCarding).updPort p (fun x => { x.noAttempt with cardFrom := st, fromRov := false })

omit hp in
theorem toCarding_spec (s : State) (p : PortNo) {st : Nat} (hst : s.pst p = st) (h : st = 0 ∨ st = 1 ∨ st = 3) :
    (s.toCarding p st).pst p = 5 ∧ ((s.toCarding p st).port p).cardFrom = st ∧ (s.toCarding p st).reg (Reg.PORT_CARDSTAT p) = s.reg (Reg.PORT_CARDSTAT p) ∧
      (st = 3 → (s.toCarding p st).rf (Reg.PORT_LINKSTAT p) 47 44 = 3) ∧ (s.toCarding p st).waitings = s.waitings := by
  have hk := steady_cardstat p
  have hw := steady_waitings p
  unfold State.toCarding
  generalize ht : (if st = stUp then (s.cause p 3).lossMemo p 3 else s) = t
  have hg : ∀ {β : Type} {g : State → β}, Steady p g → g t = g s := fun hg => by
    rw [← ht]
    split
    · rw [hg.lossMemo, hg.cause]
    · rfl
  have hpt : t.pst p = st := by
    rw [← hst, ← ht]
    split
    · exact congrArg (fld · 31 28) (reg_state_of_links (by simp) p)
    · rfl
  have hab : t.pst p = stRoving ∨ t.pst p = stTrain → ∀ u : State, (u.sweepAbort p).reg (Reg.PORT_CARDSTAT p) = u.reg (Reg.PORT_CARDSTAT p) := fun hc => by
    unfold stRoving stTrain at hc
    omega
  refine ⟨(rf_updPort ..).trans (entered_enter t p (by decide)).1, ?_, ?_, fun h3 => ?_, ?_⟩
  · rw [updPort_eq, port_setPort_same]
  · exact (reg_updPort ..).trans ((hk.enter t stCarding (fun e => absurd e (by decide)) hab).trans (hg hk))
  · refine cause_of_links (s := s) p 3 ?_
    rw [updPort_links, report_enter, ← ht, if_pos h3, lossMemo_links]
  · rw [updPort_waitings, enter_waitings, hg hw]

section
variable (h : TakesUp s 0x16 id.toNat i) (hq : s.quadOn p = true)
include h hq

theorem portCard_sweeps (hst : s.pst p = 0 ∨ s.pst p = 1 ∨ s.pst p = 3) :
    nextWith (exec (.portCard id) s) (fun t => (cmdOf t i).st = .running ∧ t.pst p = 5 ∧ (t.port p).cardFrom = s.pst p ∧
      t.rf (Reg.PORT_CARDSTAT p) 47 44 = 1 ∧ (s.pst p = 3 → t.rf (Reg.PORT_LINKSTAT p) 47 44 = 3)) := by
  obtain ⟨a1, a2, a3⟩ := cardAsked_spec s p
  obtain ⟨c1, c2, c3, c4, c5⟩ := toCarding_spec (s.cardAsked p) p a1 hst
  refine takesUp_run (t := (s.cardAsked p).toCarding p (s.pst p)) h ?_ (c5.trans a2) fun c =>
    ⟨(pst_putCmd ..).trans c1, (congrArg Port.cardFrom (port_putCmd ..)).trans c2, (rf_putCmd ..).trans ?_, fun h3 => (rf_putCmd ..).trans (c4 h3)⟩
  · dsimp only
    rw [hp, if_neg (by decide), if_neg (by unfold stTrain stSleep stFault stCarding; omega), needDoms_on hq]
    exact if_neg (by unfold stRoving; omega)
  · rw [State.rf, c3, a3]
    decide

theorem portCard_roves (hst : s.pst p = 4) :
    nextWith (exec (.portCard id) s) (fun t => (cmdOf t i).st = .running ∧ t.pst p = 4 ∧ t.rphase p = 5) := by
  obtain ⟨a1, a2, -⟩ := cardAsked_spec s p
  let u := ((s.cardAsked p).updRov p (fun x => { x with back := (s.cardAsked p).rphase p })).setRf (Reg.PORT_ROVSTAT p) 47 45 5
  obtain ⟨f1, f2⟩ := setFilt_spec u p 0
  refine takesUp_run (t := u.setFilt p 0) h ?_ ?_ fun c => ⟨(pst_putCmd ..).trans ?_, (rf_putCmd ..).trans ?_⟩
  · dsimp only
    rw [hp, if_neg (by decide), if_neg (by unfold stTrain stSleep stFault stCarding; omega), needDoms_on hq]
    exact if_pos hst
  · refine f1.trans (Eq.trans ?_ a2)
    unfold u
    rw [setRf_eq, setReg_waitings, State.updRov, updPort_waitings]
  · rw [← hst, ← a1, State.pst, State.rf, f2 _ (portWord_ne p (by decide)), reg_setRf_other _ _ (portWord_ne p (by decide)), State.updRov, reg_updPort,
      State.pst, State.rf]
  · rw [State.rf, f2 _ (portWord_ne p (by decide))]
    exact rf_setRf_same _ _ 47 45 5 (by decide) (by decide) (by decide)

end

end

end Sys2Proof.Machine

namespace Sys2Proof
open Machine

/-- Settles O29, command by command. -/
theorem portStateCommands : Obligations.PortStateCommands := by
  unfold Obligations.PortStateCommands
  intro id i s
  refine ⟨fun h => ?_, fun h => ?_, fun h => ?_, fun h _ hq h2 h3 => ?_, fun h => ?_, fun h hu hf => ?_, fun h ha => ?_, fun h hq => ?_⟩
  all_goals obtain ⟨p, hp⟩ : ∃ p : PortNo, (cmdOf s i).tindex = p.val := ⟨⟨_, target_lt h rfl rfl⟩, rfl⟩
  · rw [hp]
    exact portEnable_done hp h
  · rw [hp]
    exact portEnable_bad hp h
  · rw [hp]
    exact portDisable_done hp h
  · rw [hp] at hq ⊢
    refine ⟨fun ho => ?_, portConfig_restarts hp h hq h2 h3, fun ho hr hl => ?_⟩
    · obtain ⟨t, he, hf, hc⟩ := portConfig_stores hp h hq h2 h3 (.inl ho)
      exact ⟨t, he, hf, hc.state, hc.dialects, hc.erase, hc.role, hc.an⟩
    · obtain ⟨t, he, hf, hc⟩ := portConfig_stores hp h hq h2 h3 (.inr ⟨hr, hl⟩)
      exact ⟨t, he, hf, hc.state, hc.role⟩
  · rw [hp]
    exact ⟨portRestart_restarts hp h, portRestart_listens hp h, portRestart_bad hp h⟩
  · rw [hp] at hu hf ⊢
    exact ⟨portSleep_atOnce hp h hu hf, portSleep_asks hp h hu hf⟩
  · rw [hp] at ha
    exact portWake_waits hp h ha
  · rw [hp] at hq ⊢
    exact ⟨portCard_sweeps hp h hq, portCard_roves hp h hq⟩

end Sys2Proof
end

section
/-! PROOF. Frames that enter the pipeline (O41): what the action of a stream reads, one copy admitted and stored, and a roving frame read back. -/

namespace Sys2Proof.Machine

/-! ### What the count of a stream's frames leaves -/

section
variable (s : State) (st : Nat)

/-- Below the streams' blocks. -/
theorem reg_smatch_low {b : Nat} (h : b < 0xA0000) : (s.bump (Reg.TM_SMATCH st)).reg b = s.reg b :=
  reg_bump_other s (by unfold Reg.TM_SMATCH; omega)

/-- The words of the streams' actions. -/
theorem reg_smatch_action {k : Nat} (h : k < 8) : (s.bump (Reg.TM_SMATCH st)).reg (0xA0000 + 16 * st + k) = s.reg (0xA0000 + 16 * st + k) :=
  reg_bump_other s (by unfold Reg.TM_SMATCH; omega)

theorem actionQueue_smatch (bs : List Byte) : (s.bump (Reg.TM_SMATCH st)).actionQueue st bs = s.actionQueue st bs := by
  unfold State.actionQueue
  rw [reg_smatch_action s st (k := 4) (by decide)]

theorem actionEgresses_smatch (ident : Nat) (laneOnly : Bool) :
    (s.bump (Reg.TM_SMATCH st)).actionEgresses st ident laneOnly = s.actionEgresses st ident laneOnly := by
  unfold State.actionEgresses State.rb
  rw [show Reg.TM_SACT st 0 = 0xA0000 + 16 * st + 2 from rfl, show Reg.TM_SACT st 1 = 0xA0000 + 16 * st + 3 by unfold Reg.TM_SACT; omega,
    reg_smatch_action s st (by decide), reg_smatch_action s st (by decide), reg_smatch_action s st (k := 4) (by decide)]

/-- A stream's block ends where the egresses' blocks begin. -/
theorem reg_smatch_high {b : Nat} (hst : st < 4096) (h : 0xB0000 ≤ b) : (s.bump (Reg.TM_SMATCH st)).reg b = s.reg b :=
  reg_bump_other s (by unfold Reg.TM_SMATCH; omega)

end

/-- The free cells are those of the open banks outside what is kept free and in use. -/
theorem tmFree_congr {s t : State} (hr : ∀ b, b < 0xA0000 → t.reg b = s.reg b) (hd : ∀ d, t.dom d = s.dom d) (hm : t.tm = s.tm) :
    t.tmFree = s.tmFree := by
  have hk : t.keptFree = s.keptFree := by
    unfold State.keptFree State.rf
    rw [hr _ (by decide)]
    refine congrArg _ (List.map_congr_left fun k hk => ?_)
    have hk : k < 8 := List.mem_range.1 hk
    rw [hr _ (by unfold Reg.TM_EXCLBASE; omega), hr _ (by unfold Reg.TM_EXCLCNT; omega)]
  have hu : ∀ b, t.usedCells b = s.usedCells b := fun b => by rw [State.usedCells, hm, State.usedCells]
  have hb : ∀ b, t.freeIv b = s.freeIv b := fun b => by
    rw [State.freeIv, State.bankOpen, State.rb, hr _ (by decide), domOn_congr (hd _), State.bankIv, hk, hu]
    rfl
  simp only [State.tmFree, hb]

theorem egressState_admits (s : State) (e : Nat) : s.egressState e = 0 ↔ 96 ≤ e ∨ s.pst e = stUp := by
  unfold State.egressState
  extract_lets st
  by_cases he : 96 ≤ e
  · simp [he]
  · by_cases hu : st = stUp
    · rw [if_neg he, if_pos hu]
      exact iff_of_true rfl (.inr hu)
    · rw [if_neg he, if_neg hu]
      refine iff_of_false ?_ (by simp [he, show ¬ s.pst e = stUp from hu])
      repeat' split
      all_goals exact Nat.succ_ne_zero _

/-! ### Storing a frame for one copy -/

theorem reg_store (s : State) (d : Desc) (bs : List Byte) (n a : Nat) : (s.store d bs n).reg a = s.reg a :=
  store_frame (fun t => t.reg a) (fun _ _ _ => rfl) (fun _ _ => rfl) s d bs n

section
variable (s : State) (d : Desc) (bs : List Byte) (n : Nat)

theorem forAll_freshBob_tm (l : List Nat) : (forAll (fun (t : State) c => t.freshBob (32 * c) 32) l s).tm = s.tm :=
  forAll_frame State.tm (fun (t : State) c => t.freshBob (32 * c) 32) (fun _ _ => rfl) l s

theorem store_nextFid : (s.store d bs n).tm.nextFid = s.tm.nextFid + 1 := rfl

theorem queue_store (e q : Nat) : (s.store d bs n).queue e q = s.queue e q := by
  unfold State.store
  extract_lets fid cells s1
  have hf : s1.tm.queues = (forAll (fun (t : State) c => t.freshBob (32 * c) 32) cells s).tm.queues := rfl
  have hq : s1.tm.queues = s.tm.queues := hf.trans (congrArg Tm.queues (forAll_freshBob_tm s cells))
  exact congrArg (fun x => Tab.get (fun _ => []) x (8 * e + q)) hq

/-- The stored frame has its descriptor, its bytes and its copies. -/
theorem frame_store : ∃ x, (s.store d bs n).frame s.tm.nextFid = some x ∧ x.desc = d ∧ x.bytes = bs ∧ x.copies = n := by
  unfold State.store
  extract_lets fid cells s1
  let x : Stored := { desc := d, bytes := bs, cells := cells, copies := n }
  have hf : s1.frame fid = some x := frame_setFrame_same _ fid (some x)
  exact ⟨x, hf, rfl, rfl, rfl⟩

end

/-! ### The action of a stream that names no spindle -/

section
variable {s : State} {d : Desc} {bs : List Byte} (hs : bitOf (s.reg (Reg.TM_SACT2 d.stream)) 44 = false)
include hs

/-- No egress takes the frame. -/
theorem forward_noEgress (he : s.actionEgresses d.stream d.src false = []) : (s.forward d bs false).2 = s.bump (Reg.TM_SNOEGR d.stream) := by
  simp [State.forward, he, hs, State.admitAll, State.wakeTaken, forAll]

/-- The one egress has room: the frame joins its queue and is stored. -/
theorem forward_single {e : Nat} (he : s.actionEgresses d.stream d.src false = [e]) (h0 : s.egressState e = 0)
    (hl : s.depth e (s.actionQueue d.stream bs) + cellsOf bs.length ≤ s.qLimit e (s.actionQueue d.stream bs) d.colour)
    (hp : cellsOf bs.length + s.poolRes d.colour ≤ s.tmFree) :
    (s.forward d bs false).2 = ((s.enqueue e (s.actionQueue d.stream bs) s.tm.nextFid).store d bs 1).wakeTaken [e] := by
  have ha : s.admitCopy e (s.actionQueue d.stream bs) d.colour s.tm.nextFid (cellsOf bs.length) s.tmFree =
      (true, s.enqueue e (s.actionQueue d.stream bs) s.tm.nextFid) := by
    rw [State.admitCopy, h0, if_neg (by simp), if_pos ⟨hl, hp⟩]
  simp [State.forward, he, hs, State.admitAll, ha, bnat]

end

/-- A queue whose credit is no standard one takes a copy. -/
theorem enqueue_plain {s : State} {e q : Nat} (fid : Nat) (h : s.rb (Reg.TM_QCFG e q) 46 = false) :
    s.enqueue e q fid = (s.setQueue e q (s.queue e q ++ [{ fid := fid, at_ := s.ns }])).bump (Reg.TM_QENQ e q) := by
  have hn : ¬ ((s.queue e q).isEmpty = true ∧ s.rb (Reg.TM_QCFG e q) 46 = true) := by rw [h]; simp
  rw [State.enqueue, if_neg hn]

/-- A host lane and a port in UP are not woken. -/
theorem wakeTaken_awake {s : State} {e : Nat} (h : 96 ≤ e ∨ s.pst e = stUp) : s.wakeTaken [e] = s := by
  refine if_neg fun ⟨hl, hp, _⟩ => ?_
  rcases h with h | h
  · simp [isLine] at hl
    omega
  · exact absurd (h.symm.trans hp) (by decide)

/-- The action names one egress e, which admits frames, and its queue and the pool have room for this one. -/
structure Room (s : State) (d : Desc) (bs : List Byte) (e : Nat) : Prop where
  egress : s.actionEgresses d.stream d.src false = [e]
  admits : s.egressState e = 0
  credit : s.rb (Reg.TM_QCFG e (s.actionQueue d.stream bs)) 46 = false
  depth : s.depth e (s.actionQueue d.stream bs) + cellsOf bs.length ≤ s.qLimit e (s.actionQueue d.stream bs) d.colour
  pool : cellsOf bs.length + s.poolRes d.colour ≤ s.tmFree

/-- From s to t a frame with this descriptor joined queue q of egress e. -/
structure Admitted (s t : State) (d : Desc) (bs : List Byte) (e q : Nat) : Prop where
  other : ∀ b, b ≠ Reg.TM_QENQ e q → t.reg b = s.reg b
  enq : t.reg (Reg.TM_QENQ e q) = s.reg (Reg.TM_QENQ e q) + 1
  queue : t.queue e q = s.queue e q ++ [{ fid := s.tm.nextFid, at_ := s.ns }]
  nextFid : t.tm.nextFid = s.tm.nextFid + 1
  frame : ∃ x, t.frame s.tm.nextFid = some x ∧ x.desc = d ∧ x.bytes = bs ∧ x.copies = 1

theorem forward_admitted {s : State} {d : Desc} {bs : List Byte} {e : Nat} (hs : bitOf (s.reg (Reg.TM_SACT2 d.stream)) 44 = false)
    (h : Room s d bs e) : Admitted s (s.forward d bs false).2 d bs e (s.actionQueue d.stream bs) := by
  obtain ⟨he, h0, hc, hl, hp⟩ := h
  let q : Nat := s.actionQueue d.stream bs
  let v : State := (s.setQueue e q (s.queue e q ++ [{ fid := s.tm.nextFid, at_ := s.ns }])).bump (Reg.TM_QENQ e q)
  have hv : ∀ b, b ≠ Reg.TM_QENQ e q → (v.store d bs 1).reg b = s.reg b := fun b hb => (reg_store v d bs 1 b).trans (reg_bump_other _ hb)
  have hw : 96 ≤ e ∨ (v.store d bs 1).pst e = stUp := by
    by_cases hlane : 96 ≤ e
    · exact .inl hlane
    · have hst : (v.store d bs 1).pst e = s.pst e := congrArg (fld · 31 28) (hv _ (by unfold Reg.PORT_STATE Reg.TM_QENQ; omega))
      exact ((egressState_admits s e).1 h0).imp_right hst.trans
  rw [forward_single hs he h0 hl hp, enqueue_plain _ hc, wakeTaken_awake hw]
  exact ⟨hv, (reg_store v d bs 1 _).trans (reg_bump_same _ _), (queue_store v d bs 1 e q).trans (queue_setQueue_same s e q _),
    store_nextFid v d bs 1, frame_store v d bs 1⟩

section
variable {s : State} {d : Desc} {bs : List Byte}

/-- The count of the stream's frames takes no room. -/
theorem Room.smatch {e : Nat} (hst : d.stream < 4096) (h : Room s d bs e) : Room (s.bump (Reg.TM_SMATCH d.stream)) d bs e := by
  obtain ⟨he, h0, hc, hl, hp⟩ := h
  let u : State := s.bump (Reg.TM_SMATCH d.stream)
  have hhigh : ∀ b, 0xB0000 ≤ b → u.reg b = s.reg b := fun b hb => reg_smatch_high s d.stream hst hb
  have hlow : ∀ b, b < 0xA0000 → u.reg b = s.reg b := fun b hb => reg_smatch_low s d.stream hb
  have hq : u.actionQueue d.stream bs = s.actionQueue d.stream bs := actionQueue_smatch s d.stream bs
  have hlim : ∀ q c, u.qLimit e q c = s.qLimit e q c := fun q c => by
    rw [State.qLimit, State.rf, State.rf, State.rf, hhigh _ (by unfold Reg.TM_QLIM; omega), hhigh _ (by unfold Reg.TM_QLIMR; omega)]
    rfl
  have hres : ∀ c, u.poolRes c = s.poolRes c := fun c => by
    unfold State.poolRes
    refine congrArg (fld · 17 0) (hlow _ ?_)
    repeat' split
    all_goals decide
  refine ⟨(actionEgresses_smatch s _ _ _).trans he, (egressState_admits u e).2 ?_, ?_, ?_, ?_⟩
  · by_cases hlane : 96 ≤ e
    · exact .inl hlane
    · have hst : u.pst e = s.pst e := congrArg (fld · 31 28) (hlow _ (by unfold Reg.PORT_STATE; omega))
      exact ((egressState_admits s e).1 h0).imp_right hst.trans
  · rw [hq]
    exact (congrArg (bitOf · 46) (hhigh _ (by unfold Reg.TM_QCFG; omega))).trans hc
  · rw [hq, hlim]
    exact hl
  · rw [hres, tmFree_congr hlow (fun _ => rfl) rfl]
    exact hp

section
variable (ha : bitOf (s.reg (Reg.TM_SACT2 d.stream)) 44 = false)
include ha

theorem action_smatch : bitOf ((s.bump (Reg.TM_SMATCH d.stream)).reg (Reg.TM_SACT2 d.stream)) 44 = false :=
  (congrArg (bitOf · 44) (reg_smatch_action s _ (k := 4) (by decide))).trans ha

theorem forward_matched_noEgress (he : s.actionEgresses d.stream d.src false = []) :
    ((s.bump (Reg.TM_SMATCH d.stream)).forward d bs false).2 = (s.bump (Reg.TM_SMATCH d.stream)).bump (Reg.TM_SNOEGR d.stream) :=
  forward_noEgress (action_smatch ha) ((actionEgresses_smatch s _ _ _).trans he)

theorem forward_matched_admitted {e : Nat} (hst : d.stream < 4096) (h : Room s d bs e) :
    Admitted (s.bump (Reg.TM_SMATCH d.stream)) ((s.bump (Reg.TM_SMATCH d.stream)).forward d bs false).2 d bs e (s.actionQueue d.stream bs) := by
  rw [← actionQueue_smatch s]
  exact forward_admitted (action_smatch ha) (h.smatch hst)

end
end

/-! ### The pipeline -/

section
variable {s : State} {d : Desc} {bs : List Byte} {st : Nat} (tag first : Nat) (ht : s.tmOn = true) (hl : s.lookup d.src bs = some st)
include ht hl

/-- A bad frame that is not passed to the host lanes. -/
theorem pipeline_bad (hb : d.fcsBad = true) (ha : bitOf (s.reg (Reg.TM_SACT2 st)) 45 = false) :
    (s.pipeline d tag first bs).2 = (s.bump (Reg.TM_SMATCH st)).bump (Reg.TM_SFCSBAD st) := by
  simp [State.pipeline, ht, hl, hb, ha]

/-- A good frame of a stream without gate, policer and meter gets no colour. -/
theorem pipeline_uncoloured (hb : d.fcsBad = false) (hc : d.trunc = false) (hg : fld (s.reg (Reg.TM_SACT2 st)) 22 17 = 0)
    (hp : s.rb (Reg.TM_SPOL0 st) 47 = false) (hm : bitOf (s.reg (Reg.TM_SACT2 st)) 33 = false) :
    (s.pipeline d tag first bs).2 = ((s.bump (Reg.TM_SMATCH st)).forward { d with stream := st, colour := 3 } bs false).2 := by
  have h1 : (s.bump (Reg.TM_SMATCH st)).rb (Reg.TM_SPOL0 st) 47 = false :=
    (congrArg (bitOf · 47) (reg_smatch_action s st (k := 5) (by decide))).trans hp
  have h2 : (s.bump (Reg.TM_SMATCH st)).rb (Reg.TM_SACT2 st) 33 = false :=
    (congrArg (bitOf · 33) (reg_smatch_action s st (k := 4) (by decide))).trans hm
  simp [State.pipeline, ht, hl, hb, hc, hg, State.colourOf, h1, h2]

end

/-! ### A frame of a line port -/

/-- The counts of a received frame: its mark of a bad codeword is used up, and PORT_RXBAD counts a bad one. -/
def State.portCounts (s : State) (p : Nat) (mark bad : Bool) : State :=
  let s1 := (if mark then s.updPort p (fun x => { x with rsMarks := x.rsMarks - 1 }) else s).bump (Reg.PORT_RXFRM p)
  if bad then s1.bump (Reg.PORT_RXBAD p) else s1

theorem portFrame_eq (s : State) (p : Nat) (bs : List Byte) (first : BitVec 96) (roving : Bool) : ∃ (mark bad : Bool) (d : Desc), d.src = p ∧
    s.portFrame p bs first roving = ((s.portCounts p mark bad).pipeline d 3 (timeNs first) (bs.take 9216)).2 := ⟨_, _, _, rfl, rfl⟩

section
variable (s : State) {p : Nat} (mark bad : Bool)

theorem reg_marked (b : Nat) :
    (if mark then s.updPort p (fun x => { x with rsMarks := x.rsMarks - 1 }) else s).reg b = s.reg b := by
  cases mark <;> rfl

theorem reg_portCounts {b : Nat} (h1 : b ≠ Reg.PORT_RXFRM p) (h2 : b ≠ Reg.PORT_RXBAD p) : (s.portCounts p mark bad).reg b = s.reg b := by
  unfold State.portCounts
  cases bad with
  | false => exact (reg_bump_other _ h1).trans (reg_marked s mark b)
  | true => exact (reg_bump_other _ h2).trans ((reg_bump_other _ h1).trans (reg_marked s mark b))

theorem rxfrm_portCounts : (s.portCounts p mark bad).reg (Reg.PORT_RXFRM p) = s.reg (Reg.PORT_RXFRM p) + 1 := by
  have hc : ∀ u : State, u.reg (Reg.PORT_RXFRM p) = s.reg (Reg.PORT_RXFRM p) →
      (u.bump (Reg.PORT_RXFRM p)).reg (Reg.PORT_RXFRM p) = s.reg (Reg.PORT_RXFRM p) + 1 := fun u hu => by rw [reg_bump_same, hu]
  unfold State.portCounts
  cases bad with
  | false => exact hc _ (reg_marked s mark _)
  | true => exact (reg_bump_other _ (by unfold Reg.PORT_RXFRM Reg.PORT_RXBAD; omega)).trans (hc _ (reg_marked s mark _))

theorem portCounts_tm (p : Nat) : (s.portCounts p mark bad).tm = s.tm := by
  unfold State.portCounts
  cases mark <;> cases bad <;> rfl

theorem portCounts_tmOn (p : Nat) : (s.portCounts p mark bad).tmOn = s.tmOn := by
  unfold State.portCounts
  cases mark <;> cases bad <;> rfl

end

section
variable {s : State} {p : Nat} (hp : p < 96)
include hp

/-- A frame that finds no stream leaves its counts, and no frame stored. -/
theorem portFrame_noMatch {bs : List Byte} (first : BitVec 96) (roving : Bool) (ht : s.tmOn = true) (hl : s.lookup p (bs.take 9216) = none) :
    let t := s.portFrame p bs first roving
    t.reg (Reg.PORT_RXFRM p) = s.reg (Reg.PORT_RXFRM p) + 1 ∧ t.reg Reg.TM_NOMATCH = s.reg Reg.TM_NOMATCH + 1 ∧ t.tm = s.tm ∧
      ∀ b, b < 0x90000 → b ≠ Reg.PORT_RXFRM p → b ≠ Reg.PORT_RXBAD p → t.reg b = s.reg b := by
  intro t
  obtain ⟨mark, bad, d, hd, he⟩ := portFrame_eq s p bs first roving
  have ht : t = (s.portCounts p mark bad).bump Reg.TM_NOMATCH := by
    refine he.trans (pipeline_noMatch _ _ ((portCounts_tmOn s mark bad p).trans ht) ?_)
    rw [hd]
    refine (lookup_congr (fun b hb => reg_portCounts s mark bad ?_ ?_) _ _).trans hl
    · unfold Reg.PORT_RXFRM
      omega
    · unfold Reg.PORT_RXBAD
      omega
  rw [ht]
  refine ⟨?_, ?_, portCounts_tm s mark bad p, fun b hb h1 h2 => ?_⟩
  · rw [reg_bump_other _ (by unfold Reg.PORT_RXFRM Reg.TM_NOMATCH; omega), rxfrm_portCounts]
  · rw [reg_bump_same, reg_portCounts s mark bad (by unfold Reg.PORT_RXFRM Reg.TM_NOMATCH; omega) (by unfold Reg.PORT_RXBAD Reg.TM_NOMATCH; omega)]
  · rw [reg_bump_other _ (by unfold Reg.TM_NOMATCH; omega), reg_portCounts s mark bad h1 h2]

omit hp in
/-- A frame on the segment while the port sends none moves its cycle. -/
theorem segmentFrame_idle (commit : Bool) (h : s.pmode p = 1 → s.cur p = none) :
    (s.segmentFrame p commit).tm = s.tm ∧ (s.segmentFrame p commit).tmOn = s.tmOn ∧
      ∀ b, b ≠ Reg.PORT_PLCASEEN p → (s.segmentFrame p commit).reg b = s.reg b := by
  unfold State.segmentFrame
  by_cases hm : s.pmode p = 1
  · rw [if_neg (by simp [hm])]
    simp only [h hm, Option.isSome_none, Bool.false_eq_true, if_false]
    let s1 : State := if s.plcaLive p then s else s.csmaFree p
    have h1 : s1.tm = s.tm ∧ s1.tmOn = s.tmOn ∧ ∀ b, s1.reg b = s.reg b := by
      unfold s1
      split <;> exact ⟨rfl, rfl, fun _ => rfl⟩
    obtain ⟨htm, hon, hreg⟩ := h1
    have h2 : ∀ b, b ≠ Reg.PORT_PLCASEEN p → (s1.setRb (Reg.PORT_PLCASEEN p) ((s.port p).plcaOpp % 32) true).reg b = s.reg b :=
      fun b hb => (reg_setRb_other s1 true hb).trans (hreg b)
    split
    · exact ⟨htm, hon, fun b _ => hreg b⟩
    · split
      · exact ⟨htm, hon, h2⟩
      · exact ⟨htm, hon, h2⟩
  · rw [if_pos hm]
    exact ⟨rfl, rfl, fun _ _ => rfl⟩

/-- R256: a frame of a line port in UP that finds no stream. -/
theorem frameIngress_port {f : InFrame} (hf : f.ident = p) (hu : s.pst p = stUp) (hc : s.pmode p = 1 → s.cur p = none) (ht : s.tmOn = true)
    (hl : s.lookup p (f.bytes.take 9216) = none) : nextWith (exec (.frameIngress f) s) (fun t =>
      t.reg (Reg.PORT_RXFRM p) = s.reg (Reg.PORT_RXFRM p) + 1 ∧ t.reg Reg.TM_NOMATCH = s.reg Reg.TM_NOMATCH + 1 ∧ t.tm = s.tm) := by
  have hx : exec (.frameIngress f) s = execFrameIngress f s := rfl
  rw [hx, execFrameIngress, hf, if_pos hp, if_pos hu]
  obtain ⟨htm, hon, hreg⟩ := segmentFrame_idle (s := s) f.commit hc
  have hk : (s.segmentFrame p f.commit).lookup p (f.bytes.take 9216) = none :=
    (lookup_congr (fun b hb => hreg b (by unfold Reg.PORT_PLCASEEN; omega)) _ _).trans hl
  obtain ⟨hrx, hno, hm, -⟩ := portFrame_noMatch hp f.first false (hon.trans ht) hk
  refine ⟨_, rfl, hrx.trans (congrArg (· + 1) (hreg _ ?_)), hno.trans (congrArg (· + 1) (hreg _ ?_)), hm.trans htm⟩
  · unfold Reg.PORT_RXFRM Reg.PORT_PLCASEEN
    omega
  · unfold Reg.TM_NOMATCH Reg.PORT_PLCASEEN
    omega

end

/-! ### A frame of a host lane or the spindle channel -/

/-- The descriptor that such a frame starts with. -/
def inDescr (f : InFrame) : Desc :=
  { src := f.ident, fcsBad := decide (9216 < f.bytes.length) || !(fcsGood (f.bytes.take 9216)), trunc := decide (9216 < f.bytes.length),
    tsNs := tsNsOf f.first, len := (f.bytes.take 9216).length }

section
variable {f : InFrame} {s : State} {st : Nat}

theorem frameIngress_host (h : (96 ≤ f.ident ∧ f.ident < 112 ∧ s.rf (Reg.HL_STAT (f.ident - 96)) 47 44 = 5) ∨ f.ident = 114) :
    exec (.frameIngress f) s = .next (s.pipeline (inDescr f) f.colour.toNat (timeNs f.first) (f.bytes.take 9216)).2 := by
  have hx : exec (.frameIngress f) s = execFrameIngress f s := rfl
  rw [hx, execFrameIngress, if_neg (by omega), if_pos (by omega), if_pos (by omega)]
  rfl

theorem inDescr_bad (h : ¬ (f.bytes.length ≤ 9216 ∧ fcsGood f.bytes = true)) : (inDescr f).fcsBad = true := by
  by_cases hl : f.bytes.length ≤ 9216
  · have hf : fcsGood f.bytes = false := by simpa [hl] using h
    rw [inDescr, List.take_of_length_le hl, hf]
    exact Bool.or_true _
  · have hl : 9216 < f.bytes.length := by omega
    simp [inDescr, hl]

theorem inDescr_good (hl : f.bytes.length ≤ 9216) (h : fcsGood f.bytes = true) : (inDescr f).fcsBad = false ∧ (inDescr f).trunc = false := by
  have hn : ¬ 9216 < f.bytes.length := by omega
  simp [inDescr, hn, List.take_of_length_le hl, h]

end

/-! ### Roving data frames (R176) -/

theorem crc8Shift_lt (n c : Nat) (h : c < 256) : crc8Shift n c < 256 := by
  induction n generalizing c with
  | zero => exact h
  | succ n ih =>
    refine ih _ ?_
    split
    · exact Nat.xor_lt_two_pow (n := 8) (Nat.mod_lt _ (by decide)) (by decide)
    · omega

theorem crc8_lt (l : List Byte) (c : Nat) (h : c < 256) : crc8 l c < 256 := by
  induction l generalizing c with
  | nil => exact h
  | cons b t ih => exact ih _ (crc8Shift_lt 8 _ (Nat.xor_lt_two_pow (n := 8) h b.isLt))

/-- The four bytes before the body of a data frame. -/
theorem rovFrame_data {bs : List Byte} (h : bs.length < 2 ^ 14) :
    ∃ hi lo : Byte, hi.toNat * 256 + lo.toNat = bs.length ∧ rovFrame 0 bs = 0xA5#8 :: hi :: lo :: BitVec.ofNat 8 (crc8 [0xA5#8, hi, lo] 0) :: bs := by
  refine ⟨BitVec.ofNat 8 (bs.length / 256), BitVec.ofNat 8 bs.length, ?_, ?_⟩
  · rw [BitVec.toNat_ofNat, BitVec.toNat_ofNat]
    omega
  · have hm : bs.length % 16384 = bs.length := Nat.mod_eq_of_lt h
    simp [rovFrame, valBytes, hm]

/-- What a sender of data forms, its receiver takes. -/
theorem rovParse_rovFrame {bs : List Byte} (h1 : 64 ≤ bs.length) (h2 : bs.length ≤ 2048) : rovParse (rovFrame 0 bs) = .data bs := by
  obtain ⟨hi, lo, hv, hf⟩ := rovFrame_data (bs := bs) (by omega)
  have hc : (BitVec.ofNat 8 (crc8 [0xA5#8, hi, lo] 0)).toNat = crc8 [0xA5#8, hi, lo] 0 :=
    (BitVec.toNat_ofNat _ _).trans (Nat.mod_eq_of_lt (crc8_lt _ 0 (by decide)))
  have hb : bytesVal [hi, lo] = bs.length := by simpa [bytesVal] using hv
  have hm : bs.length % 2 ^ 14 = bs.length := Nat.mod_eq_of_lt (by omega)
  have hd : bs.length / 2 ^ 14 = 0 := Nat.div_eq_of_lt (by omega)
  rw [hf, rovParse]
  simp only [List.drop_succ_cons, List.drop_zero, List.take_succ_cons, List.take_zero, hb, hm, hd, List.headD_cons, hc, List.take_length]
  simp [h1, h2]

/-- A data frame's body is no longer than R176 lets it be. -/
theorem rovParse_data_length {f bs : List Byte} (h : rovParse f = .data bs) : bs.length ≤ 2048 := by
  unfold rovParse at h
  extract_lets len body at h
  have hb : body.length ≤ len := List.length_take_le _ _
  split at h
  · cases h
  · split at h
    · cases h
    · split at h
      · cases h
      · split at h
        · split at h
          case isTrue hl =>
            have he : body = bs := RovIn.data.inj h
            exact he ▸ hb.trans hl.2
          case isFalse => cases h
        · split at h
          · split at h <;> cases h
          · cases h

section
variable {p : PortNo} {f : List Byte} {s : State} (first : BitVec 96) (hp : s.pst p = stRoving)
include hp

theorem rovingData_good {bs : List Byte} (h : rovParse f = .data bs) :
    exec (.rovingDataReceive p f first ()) s = .next ((s.bump (Reg.PORT_ROVRXFRM p)).portFrame p bs first true) := by
  have hx : exec (.rovingDataReceive p f first ()) s = execRovingDataReceive p f first () s := rfl
  rw [hx, execRovingDataReceive, if_pos hp, h]

theorem rovingData_bad (h : rovParse f = .bad) : exec (.rovingDataReceive p f first ()) s = .next (s.bump (Reg.PORT_ROVBAD p)) := by
  have hx : exec (.rovingDataReceive p f first ()) s = execRovingDataReceive p f first () s := rfl
  rw [hx, execRovingDataReceive, if_pos hp, h]

theorem rovingData_noMatch {bs : List Byte} (h : rovParse f = .data bs) (ht : s.tmOn = true) (hl : s.lookup p bs = none) :
    nextWith (exec (.rovingDataReceive p f first ()) s) (fun t =>
      t.reg (Reg.PORT_ROVRXFRM p) = s.reg (Reg.PORT_ROVRXFRM p) + 1 ∧ t.reg (Reg.PORT_RXFRM p) = s.reg (Reg.PORT_RXFRM p) + 1 ∧
        t.reg Reg.TM_NOMATCH = s.reg Reg.TM_NOMATCH + 1 ∧ t.tm = s.tm) := by
  have hlt := p.isLt
  have hr : ∀ b, b ≠ Reg.PORT_ROVRXFRM p → (s.bump (Reg.PORT_ROVRXFRM p)).reg b = s.reg b := fun b hb => reg_bump_other s hb
  have hk : (s.bump (Reg.PORT_ROVRXFRM p)).lookup p (bs.take 9216) = none := by
    rw [List.take_of_length_le ((rovParse_data_length h).trans (by decide))]
    exact (lookup_congr (fun b hb => hr b (by unfold Reg.PORT_ROVRXFRM; omega)) _ _).trans hl
  obtain ⟨hrx, hno, hm, hrest⟩ := portFrame_noMatch hlt first true (show (s.bump (Reg.PORT_ROVRXFRM p)).tmOn = true from ht) hk
  rw [rovingData_good first hp h]
  refine ⟨_, rfl, ?_, hrx.trans (congrArg (· + 1) (hr _ ?_)), hno.trans (congrArg (· + 1) (hr _ ?_)), hm⟩
  · refine (hrest _ ?_ ?_ ?_).trans (reg_bump_same s _)
    · unfold Reg.PORT_ROVRXFRM
      omega
    · unfold Reg.PORT_ROVRXFRM Reg.PORT_RXFRM
      omega
    · unfold Reg.PORT_ROVRXFRM Reg.PORT_RXBAD
      omega
  · unfold Reg.PORT_ROVRXFRM Reg.PORT_RXFRM
    omega
  · unfold Reg.PORT_ROVRXFRM Reg.TM_NOMATCH
    omega

end

end Sys2Proof.Machine

namespace Sys2Proof
open Machine

/-- Settles O41: a frame that finds no stream only counts; a bad one counts and ends; a good one goes to the one egress of its stream, or to none;
and a roving data frame is read back as it was formed. -/
theorem framesEnterThePipeline : Obligations.FramesEnterThePipeline := by
  refine ⟨fun f s ht => ?_, fun p f first bs s hp =>
    ⟨rovParse_rovFrame, fun h ht _ hl => rovingData_noMatch first hp h ht hl, rovingData_bad first hp⟩⟩
  refine ⟨fun hs hu hc hl => frameIngress_port hs rfl hu hc ht hl, fun hr hl => ?_, fun st hst hl hr => ?_⟩
  · rw [frameIngress_host hr, pipeline_noMatch (d := inDescr f) _ _ ht hl]
  · intro act
    refine ⟨fun hg ha => ?_, fun ⟨hlen, hfcs⟩ hgate hpol hmet hspn => ?_⟩
    · rw [frameIngress_host hr, pipeline_bad (d := inDescr f) _ _ ht hl (inDescr_bad hg) ha]
    · obtain ⟨hb, hc⟩ := inDescr_good hlen hfcs
      have hx := (frameIngress_host hr).trans (congrArg Host.Outcome.next (pipeline_uncoloured (d := inDescr f) _ _ ht hl hb hc hgate hpol hmet))
      rw [List.take_of_length_le hlen] at hx
      refine ⟨fun he => ?_, fun e he h0 hq hd hp => ?_⟩
      · rw [forward_matched_noEgress (d := { inDescr f with stream := st, colour := 3 }) hspn he] at hx
        refine ⟨_, hx, ?_, ?_, rfl⟩
        · exact (reg_bump_other _ (by unfold Reg.TM_SMATCH Reg.TM_SNOEGR; omega)).trans (reg_bump_same s _)
        · exact (reg_bump_same _ _).trans (congrArg (· + 1) (reg_bump_other s (by unfold Reg.TM_SMATCH Reg.TM_SNOEGR; omega)))
      · have room : Room s { inDescr f with stream := st, colour := 3 } f.bytes e := ⟨he, h0, hq, hd, hp⟩
        obtain ⟨ho, hn, hqueue, hfid, x, hf, hdesc, hbytes, hcopies⟩ := forward_matched_admitted hspn hst room
        refine ⟨_, hx, ?_, ?_, hqueue, hfid, x, hf, hbytes, hcopies, ?_⟩
        · exact (ho _ (by unfold Reg.TM_SMATCH Reg.TM_QENQ; omega)).trans (reg_bump_same s _)
        · exact hn.trans (congrArg (· + 1) (reg_smatch_high s st hst (by unfold Reg.TM_QENQ; omega)))
        · rw [hdesc]
          exact ⟨rfl, rfl, rfl⟩

end Sys2Proof
end

section
/-! PROOF. Coefficient halves (O30, O35): what a half reads after words of it, or a copy of the serving half, were written. -/

namespace Sys2Proof.Machine

theorem getD_eq_nth {α : Type} (d : α) : ∀ (l : List α) (i : Nat), l.getD i d = nth d l i
  | [], _ => rfl
  | _ :: _, 0 => rfl
  | _ :: l, i + 1 => getD_eq_nth d l i

theorem servingHalf_lt (s : State) (p : Nat) : s.servingHalf p < 2 := fld_lt _ 3 3

/-- A half reads the same where the port holds the same halves. -/
theorem halfWord_congr {s t : State} {p : Nat} (hh : (t.port p).half = (s.port p).half) (hf : (t.port p).halfFree = (s.port p).halfFree) (h k : Nat) :
    t.halfWord p h k = s.halfWord p h k := by
  unfold State.halfWord
  rw [hh, hf]

theorem halfWord_setHalfWord (s : State) (p h k : Nat) (w : Word) (h' k' : Nat) :
    (s.setHalfWord p h k w).halfWord p h' k' = if 1024 * h' + k' = 1024 * h + k then coefWord k w else s.halfWord p h' k' := by
  have hp : (s.setHalfWord p h k w).port p =
      { s.port p with half := Tab.set (fun _ => none) (s.port p).half (1024 * h + k) (some (coefWord k w)) } := port_setPort_same s p _
  unfold State.halfWord
  rw [hp]
  dsimp only
  rw [Tab.get_set]
  by_cases he : 1024 * h' + k' = 1024 * h + k
  · simp only [if_pos he]
  · simp only [if_neg he]

/-- Words written to a half, each at a place of its own. -/
theorem halfWord_setHalfWords (p h : Nat) (ws : List Word) : ∀ (s : State) (off : Nat), off + ws.length ≤ 1024 → ∀ h' k', k' < 1024 →
    (s.setHalfWords p h off ws).halfWord p h' k' =
      if h' = h ∧ off ≤ k' ∧ k' < off + ws.length then coefWord k' (ws.getD (k' - off) 0) else s.halfWord p h' k' := by
  induction ws with
  | nil =>
    intro s off _ h' k' _
    rw [if_neg (by simp only [List.length_nil]; omega)]
    rfl
  | cons w ws ih =>
    intro s off ho h' k' hk
    rw [List.length_cons] at ho ⊢
    rw [State.setHalfWords, ih _ _ (by omega) h' k' hk, halfWord_setHalfWord]
    rcases Nat.lt_trichotomy k' off with hj | hj | hj
    · rw [if_neg (by omega), if_neg (by omega), if_neg (by omega)]
    · subst hj
      rw [if_neg (by omega), Nat.sub_self]
      exact if_congr (by omega) rfl rfl
    · have hi : k' - off = k' - (off + 1) + 1 := by omega
      rw [hi, List.getD_cons_succ, if_neg (show 1024 * h' + k' ≠ 1024 * h + off by omega)]
      exact if_congr (by omega) rfl rfl

/-- Words of places in a list, each a function of its place. -/
theorem halfWord_forAll (p h : Nat) (f : Nat → Word) (l : List Nat) : ∀ (s : State), (∀ k ∈ l, k < 1024) → ∀ h' k', k' < 1024 →
    (forAll (fun t k => t.setHalfWord p h k (f k)) l s).halfWord p h' k' = if h' = h ∧ k' ∈ l then coefWord k' (f k') else s.halfWord p h' k' := by
  induction l with
  | nil =>
    intro s _ h' k' _
    rw [if_neg (by simp)]
    rfl
  | cons k l ih =>
    intro s hl h' k' hk
    have hk1 := hl k List.mem_cons_self
    rw [forAll, ih _ (fun j hj => hl j (List.mem_cons_of_mem k hj)) h' k' hk, halfWord_setHalfWord]
    by_cases hm : h' = h ∧ k' ∈ l
    · rw [if_pos hm, if_pos ⟨hm.1, List.mem_cons_of_mem k hm.2⟩]
    · rw [if_neg hm]
      by_cases he : h' = h ∧ k' = k
      · obtain ⟨rfl, rfl⟩ := he
        rw [if_pos rfl, if_pos ⟨rfl, List.mem_cons_self⟩]
      · rw [if_neg (by omega), if_neg]
        rintro ⟨rfl, hc⟩
        rcases List.mem_cons.1 hc with rfl | hc
        · exact he ⟨rfl, rfl⟩
        · exact hm ⟨rfl, hc⟩

/-! ### What writes of coefficients leave -/

section
variable {β : Type} {p : Nat} (g : State → β)

theorem coefTouch_frame (hg : ∀ (s : State) f, g (s.updPort p f) = g s) (s : State) (h : Nat) : g (s.coefTouch p h) = g s := by
  unfold State.coefTouch
  split
  exacts [rfl, hg s _]

theorem setHalfWords_frame (hg : ∀ (s : State) f, g (s.updPort p f) = g s) (h : Nat) (ws : List Word) :
    ∀ (s : State) (off : Nat), g (s.setHalfWords p h off ws) = g s := by
  induction ws with
  | nil => exact fun _ _ => rfl
  | cons w ws ih => exact fun s off => (ih _ _).trans (hg s _)

/-- A copy of the serving half changes its port alone. -/
theorem copyHalf_frame (hg : ∀ (s : State) f, g (s.updPort p f) = g s) (s : State) : g (s.copyHalf p) = g s := by
  unfold State.copyHalf
  dsimp only
  rw [coefTouch_frame g hg, forAll_frame g]
  exact fun t k => hg t _

end

theorem port_coefTouch (s : State) (p h : Nat) : ∃ c, (s.coefTouch p h).port p = { s.port p with coefKept := c } := by
  unfold State.coefTouch
  split
  · exact ⟨_, rfl⟩
  · exact ⟨_, port_setPort_same s p _⟩

theorem halfWord_coefTouch (s : State) (p h h' k : Nat) : (s.coefTouch p h).halfWord p h' k = s.halfWord p h' k := by
  obtain ⟨c, hc⟩ := port_coefTouch s p h
  exact halfWord_congr (by rw [hc]) (by rw [hc]) h' k

/-- A copy of the serving half changes of its port the halves, and which coefficients are those of the last period of UP. -/
theorem port_copyHalf (s : State) (p : Nat) : ∃ l c, (s.copyHalf p).port p = { s.port p with half := l, coefKept := c } := by
  unfold State.copyHalf
  extract_lets h
  have hf := forAll_keeps (fun t : State => ∃ l, t.port p = { s.port p with half := l }) (fun t k => t.setHalfWord p (1 - h) k (s.halfWord p h k))
    (fun t k ⟨l, hl⟩ => ⟨_, (port_setPort_same t p _).trans (by rw [hl])⟩) (List.range 0x254) s ⟨_, rfl⟩
  obtain ⟨l, hl⟩ := hf
  obtain ⟨c, hc⟩ := port_coefTouch (forAll (fun t k => t.setHalfWord p (1 - h) k (s.halfWord p h k)) (List.range 0x254) s) p (1 - h)
  exact ⟨l, c, hc.trans (by rw [hl])⟩

/-- The idle half holds what the serving half holds, which stays (R92). -/
theorem halfWord_copyHalf (s : State) (p : Nat) {k : Nat} (hk : k < 0x254) :
    (s.copyHalf p).halfWord p (1 - s.servingHalf p) k = coefWord k (s.halfWord p (s.servingHalf p) k) ∧
      (s.copyHalf p).halfWord p (s.servingHalf p) k = s.halfWord p (s.servingHalf p) k := by
  have hs := servingHalf_lt s p
  have hl : ∀ j ∈ List.range 0x254, j < 1024 := fun j hj => by
    rw [List.mem_range] at hj
    omega
  unfold State.copyHalf
  dsimp only
  rw [halfWord_coefTouch, halfWord_coefTouch, halfWord_forAll _ _ _ _ _ hl _ _ (by omega), halfWord_forAll _ _ _ _ _ hl _ _ (by omega),
    if_pos ⟨rfl, List.mem_range.2 hk⟩, if_neg (by omega)]
  exact ⟨rfl, rfl⟩

end Sys2Proof.Machine
end

section
/-! PROOF. Tagged operations and gathers (O22): what a completion leaves of its spindle, and what the acceptance of the swaps behind it does. -/

namespace Sys2Proof.Machine

/-! ### Swaps and mirrors that a completion lets through (R94, R124) -/

/-- A spindle whose operations in flight alone have changed, no free tag taking one. -/
structure OpsOnly (x y : Spindle) : Prop where
  same : y = { x with ops := y.ops }
  free : ∀ u, x.op u = none → y.op u = none

theorem OpsOnly.refl (x : Spindle) : OpsOnly x x := ⟨rfl, fun _ h => h⟩

theorem OpsOnly.trans {x y z : Spindle} (h : OpsOnly x y) (k : OpsOnly y z) : OpsOnly x z :=
  ⟨by rw [k.same, h.same], fun u hu => k.free u (h.free u hu)⟩

theorem OpsOnly.replay {x y : Spindle} (h : OpsOnly x y) : y.replay = x.replay := by rw [h.same]

theorem op_setOp (x : Spindle) (t u : Nat) (o : Option TagOp) : (x.setOp t o).op u = if u = t then o else x.op u := Tab.get_set ..

/-- An operation in flight at the start is put. -/
theorem OpsOnly.setOp {x y : Spindle} (h : OpsOnly x y) {t : Nat} {o : TagOp} (ho : x.op t = some o) (o' : TagOp) : OpsOnly x (y.setOp t (some o')) where
  same := by rw [Spindle.setOp, h.same]
  free u hu := by
    rw [op_setOp, if_neg, h.free u hu]
    rintro rfl
    rw [hu] at ho
    cases ho

/-- What accepting a swap or mirror leaves of spindle n, and, unless it goes to a replay datapath, of the counters PORT_TAPOVR. -/
structure Accepts (n : Nat) (s t : State) : Prop where
  ops : OpsOnly (s.spn n) (t.spn n)
  tapovr : (s.spn n).replay = false → ∀ p, t.reg (Reg.PORT_TAPOVR p) = s.reg (Reg.PORT_TAPOVR p)

namespace Accepts

variable {n : Nat} {s t u : State}

theorem refl (n : Nat) (s : State) : Accepts n s s := ⟨OpsOnly.refl _, fun _ _ => rfl⟩

theorem trans (h : Accepts n s t) (k : Accepts n t u) : Accepts n s u :=
  ⟨h.ops.trans k.ops, fun hr p => (k.tapovr (h.ops.replay.trans hr) p).trans (h.tapovr hr p)⟩

/-- An update that leaves spindles and registers. -/
theorem other (h : Accepts n s t) (hs : u.spns = t.spns) (hr : u.regs = t.regs) : Accepts n s u := by
  have hn : u.spn n = t.spn n := by rw [State.spn, hs, State.spn]
  exact ⟨hn ▸ h.ops, fun h' p => (show u.reg _ = t.reg _ by rw [State.reg, hr, State.reg]).trans (h.tapovr h' p)⟩

theorem setReg (h : Accepts n s t) {a : Nat} (v : Word) (ha : ∀ p, Reg.PORT_TAPOVR p ≠ a) : Accepts n s (t.setReg a v) :=
  ⟨h.ops, fun hr p => (reg_setReg_other t v (ha p)).trans (h.tapovr hr p)⟩

theorem setTag (h : Accepts n s t) {k : Nat} {o : TagOp} (ho : (s.spn n).op k = some o) (o' : TagOp) : Accepts n s (t.setTag n k o') where
  ops := by rw [State.setTag, updSpn_eq, spn_setSpn_same]; exact h.ops.setOp ho o'
  tapovr := h.tapovr

/-- What happens in a replay datapath. -/
theorem replayed (hr : (s.spn n).replay = true) (h : t.spns = s.spns) : Accepts n s t where
  ops := by rw [State.spn, State.spn, h]; exact OpsOnly.refl _
  tapovr hf := by rw [hr] at hf; cases hf

end Accepts

/-- The counters of lost gathers are no registers of the power controller or the clocks. -/
theorem tapovr_ne_low (p : Nat) {a : Nat} (h : a < 0x10000) : Reg.PORT_TAPOVR p ≠ a := by
  unfold Reg.PORT_TAPOVR
  omega

section
variable {n : Nat} {s : State} {d : Nat} (hd : d < 0x100)
include hd

theorem accepts_startWake : Accepts n s (s.startWake d) := by
  have h := (Accepts.refl n s).setReg (putFld (s.reg (Reg.PWR_DOMCTL d)) 1 0 0) (fun p => tapovr_ne_low p (a := Reg.PWR_DOMCTL d) (by unfold Reg.PWR_DOMCTL; omega))
  unfold State.startWake
  dsimp only
  split_ifs
  · exact Accepts.refl n s
  · exact h.other rfl rfl
  · exact Accepts.refl n s
  · exact h.other rfl rfl

theorem accepts_wakeOnDemand : Accepts n s (s.wakeOnDemand d) := by
  have hw : Accepts n s (s.wakeDom d) := by
    unfold State.wakeDom lgOfDom
    split
    · rename_i l hl
      have hl' : l < 0x100 := by
        split at hl <;> cases hl
        omega
      split
      · exact (accepts_startWake hl').trans (accepts_startWake hd)
      · exact accepts_startWake hd
    · exact accepts_startWake hd
  unfold State.wakeOnDemand
  split
  · exact Accepts.refl n s
  · exact hw.setReg _ fun p => tapovr_ne_low p (by unfold Reg.PWR_WAKEDEM; omega)

theorem accepts_refuseEntryAt (unit : Nat) : Accepts n s (s.refuseEntryAt d unit) := by
  have hs : ∀ x, Accepts n s (s.setDom d x) := fun x => (Accepts.refl n s).other rfl rfl
  unfold State.refuseEntryAt
  dsimp only
  split
  · refine ((((hs _).setReg _ fun p => tapovr_ne_low p ?_).setReg _ fun p => tapovr_ne_low p ?_).setReg _
      fun p => tapovr_ne_low p ?_).setReg _ fun p => tapovr_ne_low p (by decide)
    · unfold Reg.PWR_DOMCTL
      omega
    · unfold Reg.PWR_DOMSTAT
      omega
    · unfold Reg.PWR_DOMSTAT
      omega
  · exact Accepts.refl n s

/-- An operation's request meets its domain. -/
theorem accepts_reach (t : Nat) : Accepts n s (s.reach n t d) := by
  unfold State.reach
  split
  · exact Accepts.refl n s
  next o ho =>
    split
    · exact Accepts.refl n s
    · split
      · exact accepts_refuseEntryAt hd _
      · refine Accepts.setTag ?_ ho _
        split
        · unfold State.crossDrop
          split
          · exact (Accepts.refl n s).setReg _ fun p => tapovr_ne_low p (by decide)
          · exact Accepts.refl n s
        · exact Accepts.refl n s
      · exact accepts_wakeOnDemand hd

end

/-! In replay (R225): the datapath answers with its own ports and registers, and no spindle changes. -/

theorem spns_updLg (s : State) (g : Nat) (f : LineGroup → LineGroup) : (s.updLg g f).spns = s.spns := setLg_spns s g _

theorem spns_updPort (s : State) (p : Nat) (f : Port → Port) : (s.updPort p f).spns = s.spns := setPort_spns s p _

theorem spns_repState (s : State) (g : Nat) : (s.repState g).spns = s.spns := by
  unfold State.repState
  dsimp only
  rw [forAll_frame State.spns]
  exact fun t c => spns_updLg t c.1 _

theorem spns_repDiff (s : State) (g n : Nat) (first : Nat × Nat) : (s.repDiff g n first).spns = s.spns := by
  unfold State.repDiff State.updReplay
  dsimp only
  split
  · rw [spns_updLg, addCnt_eq, setReg_spns]
  · rw [setReg_spns, spns_updLg, addCnt_eq, setReg_spns]

theorem spns_repKeep (s t : State) (g : Nat) : (s.repKeep t g).spns = t.spns := by
  unfold State.repKeep State.updReplay
  dsimp only
  rw [spns_updLg]

theorem spns_repDo (s : State) (g : Nat) (f : State → State) (hf : ∀ t, (f t).spns = t.spns) : (s.repDo g f).spns = s.spns := by
  unfold State.repDo State.updReplay
  dsimp only
  rw [spns_updLg, spns_repDiff, spns_repKeep, hf, spns_repState]

theorem spns_copyHalf (s : State) (p : Nat) : (s.copyHalf p).spns = s.spns := copyHalf_frame State.spns (fun t f => spns_updPort t p f) s

theorem spns_repSwap (s : State) (g v : Nat) : (s.repSwap g v).2.spns = s.spns := by
  have hf : ∀ t x, ((State.repFlip t v).repFound g x).spns = t.spns := fun t x => by
    unfold State.repFound State.updReplay State.repFlip
    rw [spns_updLg]
    split
    · rw [spns_updLg]
    · unfold State.serveHalf
      dsimp only
      rw [spns_updPort, addCnt_eq, setReg_spns, setRf_eq, setReg_spns]
  unfold State.repSwap
  dsimp only
  split
  · rfl
  · dsimp only
    rw [spns_repDo s g _ fun t => hf t _]

/-- A swap or mirror accepted or refused on a port, on a skein, or in replay. -/
theorem accepts_acceptCsw (n : Nat) (s : State) (t : Nat) : Accepts n s (s.acceptCsw n t) := by
  have hr := Accepts.refl n s
  unfold State.acceptCsw
  split
  · exact hr
  next o ho =>
    split
    · exact hr
    · split
      next hrep =>
        split
        · exact hr.setTag ho _
        next g _ =>
          split
          · exact (Accepts.replayed hrep (spns_repDo s g _ fun u => spns_copyHalf u (tgtPort o.ea))).setTag ho _
          · dsimp only
            split
            · exact hr
            · split
              · exact (Accepts.replayed hrep (spns_repSwap s g o.ea)).setTag ho _
              · exact hr.setTag ho _
      · split
        · exact hr
        · split
          · extract_lets p s1
            have h1 : Accepts n s s1 := accepts_reach (by unfold p quadOf tgtPort; omega) t
            split
            · exact h1
            · split
              · exact ((h1.setReg _ fun _ => by unfold Reg.PORT_TAPOVR Reg.PORT_COEFSTAT; omega).setReg _
                  fun _ => by unfold Reg.PORT_TAPOVR Reg.PORT_SWAPREF; omega).setTag ho _
              · exact (h1.setReg _ fun _ => by unfold Reg.PORT_TAPOVR Reg.PORT_COEFSTAT; omega).setTag ho _
          · extract_lets g k s1
            have h1 : Accepts n s s1 := accepts_reach (by unfold g tgtGroup; omega) t
            split
            · exact h1
            · split
              · exact ((h1.setReg _ fun _ => by unfold Reg.PORT_TAPOVR Reg.LG_SKCFGSTAT; omega).setReg _
                  fun _ => by unfold Reg.PORT_TAPOVR Reg.LG_SKREF; omega).setTag ho _
              · exact (h1.other (u := s1.updLg g _) rfl rfl).setTag ho _

theorem accepts_acceptAll (n : Nat) (s : State) : Accepts n s (s.acceptAll n) :=
  forAll_keeps (Accepts n s) _ (fun u t h => by
    split
    · split
      · exact h.trans (accepts_acceptCsw n u t)
      · exact h
    · exact h) _ s (Accepts.refl n s)

/-! ### A completion (R199, R214) -/

/-- What a destination register receives (R199). -/
def tagResult (st : Nat) (data : Word) : Word := if st = stOK ∨ st = stPARITY then data else 0

/-- The registers once the operation has written its destination. -/
def TagOp.writeBack (o : TagOp) (v : Word) (g : Tab Word) : Tab Word :=
  match o.dst with
  | some d => if d = 0 then g else Tab.set (fun _ => 0#48) g d v
  | none => g

/-- The spindle once tag t, which holds o, has completed. -/
def Spindle.finish (x : Spindle) (t : Nat) (o : TagOp) (st : Nat) (data : Word) : Spindle :=
  let put := fun (m : Tab Nat) => Tab.set (fun _ => 0) m t st
  (({ x with
    g := o.writeBack (tagResult st data) x.g, status := put x.status
    ckpts := x.ckpts.map (fun (c : Ckpt) =>
      if o.seq < c.at_ then { c with g := o.writeBack (tagResult st data) c.g, status := put c.status } else c) } : Spindle).setOp t none).wake

theorem finishTag_eq {s : State} {n t : Nat} {o : TagOp} (h : (s.spn n).op t = some o) (st : Nat) (data : Word) :
    s.finishTag n t st data = s.setSpn n ((s.spn n).finish t o st data) := by
  unfold State.finishTag
  simp only [h]
  rfl

/-- What the completion of tag t with a status and data leaves of its spindle x, whose operation on the tag is o. -/
structure Completes (x : Spindle) (t : Nat) (o : TagOp) (st : Nat) (data : Word) (y : Spindle) : Prop where
  op : y.op t = none
  status : y.tagStatus t = st
  statuses : ∀ u, u ≠ t → y.tagStatus u = x.tagStatus u
  dst : ∀ d, o.dst = some d → y.gr d = if d = 0 then 0 else tagResult st data
  regs : ∀ r, o.dst ≠ some r → y.gr r = x.gr r
  mbox : y.mbox = x.mbox
  dm : y.dm = x.dm

theorem Completes.opsOnly {x y z : Spindle} {t : Nat} {o : TagOp} {status : Nat} {data : Word} (h : Completes x t o status data y) (k : OpsOnly y z) :
    Completes x t o status data z where
  op := k.free t h.op
  status := by rw [k.same]; exact h.status
  statuses := by rw [k.same]; exact h.statuses
  dst := by rw [k.same]; exact h.dst
  regs := by rw [k.same]; exact h.regs
  mbox := by rw [k.same]; exact h.mbox
  dm := by rw [k.same]; exact h.dm

theorem wake_eq (x : Spindle) : x.wake = { x with run := x.wake.run } := by
  unfold Spindle.wake
  split <;> rfl

theorem gr_writeBack (x : Spindle) (o : TagOp) (v : Word) (r : Nat) :
    ({ x with g := o.writeBack v x.g } : Spindle).gr r = if r ≠ 0 ∧ o.dst = some r then v else x.gr r := by
  unfold Spindle.gr TagOp.writeBack
  by_cases h0 : r = 0
  · simp [h0]
  · cases hd : o.dst with
    | none => simp [h0]
    | some d =>
      by_cases hr : r = d
      · subst hr
        simp [h0]
      · by_cases hz : d = 0
        · simp [hz, h0, Ne.symm h0]
        · simp [h0, hz, Ne.symm hr, Tab.get_set_other _ _ _ hr]

theorem finish_completes (x : Spindle) (t : Nat) (o : TagOp) (st : Nat) (data : Word) : Completes x t o st data (x.finish t o st data) := by
  have hg : ∀ r, (x.finish t o st data).gr r = if r ≠ 0 ∧ o.dst = some r then tagResult st data else x.gr r := fun r => by
    rw [Spindle.finish, wake_eq]
    exact gr_writeBack x o _ r
  refine { op := ?_, status := ?_, statuses := fun u hu => ?_, dst := fun d hd => ?_, regs := fun r hr => ?_, mbox := ?_, dm := ?_ }
  · rw [Spindle.finish, wake_eq]
    exact (op_setOp _ t t none).trans (if_pos rfl)
  · rw [Spindle.finish, wake_eq]
    exact Tab.get_set_same ..
  · rw [Spindle.finish, wake_eq]
    exact Tab.get_set_other _ _ _ hu
  · rw [hg]
    by_cases h0 : d = 0
    · simp [h0, Spindle.gr]
    · simp [h0, hd]
  · rw [hg, if_neg fun h => hr h.2]
  · rw [Spindle.finish, wake_eq]
    rfl
  · rw [Spindle.finish, wake_eq]
    rfl

section
variable {s : State} {n t : Nat} {o : TagOp} (h : (s.spn n).op t = some o) (st : Nat) (data : Word)
include h

theorem spn_finishTag : (s.finishTag n t st data).spn n = (s.spn n).finish t o st data := by
  rw [finishTag_eq h, spn_setSpn_same]

theorem complete_completes : Completes (s.spn n) t o st data ((s.complete n t st data).spn n) := by
  have ha := (accepts_acceptAll n (s.finishTag n t st data)).ops
  rw [spn_finishTag h] at ha
  exact (finish_completes (s.spn n) t o st data).opsOnly ha

/-- A completion outside replay leaves the counters of lost gathers. -/
theorem tapovr_complete (hr : (s.spn n).replay = false) (p : Nat) :
    (s.complete n t st data).reg (Reg.PORT_TAPOVR p) = s.reg (Reg.PORT_TAPOVR p) := by
  have hx : ((s.finishTag n t st data).spn n).replay = false := by
    rw [spn_finishTag h, Spindle.finish, wake_eq]
    exact hr
  refine ((accepts_acceptAll n _).tapovr hx p).trans ?_
  rw [finishTag_eq h, reg_setSpn]

end

end Sys2Proof.Machine
end

section
/-! PROOF. Tagged operations and gathers (O22): the completions, the windows of a gather of one port, and the statement. -/

namespace Sys2Proof.Machine

/-! ### TAG_COMPLETE (R199, R213) -/

section
variable {s : State} {n : SpnNo} {tag : Fin 8} {o : TagOp} (hd : s.domOn (30 + n / 8) = true) (hr : s.rootUp = true)
include hd hr

theorem exec_tagComplete : exec (.tagComplete n tag) s = .next (s.tagGo n tag) := congrArg Host.Outcome.next (if_pos ⟨hd, hr⟩)

variable (h : (s.spn n).op tag = some o)
include h

theorem exec_tagComplete_done {st : Nat} (ho : o.done = some st) : exec (.tagComplete n tag) s = .next (s.complete n tag st 0) := by
  rw [exec_tagComplete hd hr, State.tagGo]
  simp only [h, ho]

/-- A receive waits for no other operation: the orders of R215 do not name it. -/
theorem exec_tagComplete_mbr {m : Word} {rest : List Word} (ho : o.done = none) (hk : o.kind = .mbr) (hm : (s.spn n).mbox = m :: rest) :
    exec (.tagComplete n tag) s = .next ((s.updSpn n (fun x => { x with mbox := rest })).complete n tag 0 m) := by
  have hc : o.isCoef = false := by simp [TagOp.isCoef, hk]
  have ha : ∀ p, o.after p = false := fun p => by simp [TagOp.after, TagOp.isMem, hc, hk]
  have hb : s.tagBlocked n o = false := by
    simp only [State.tagBlocked, Spindle.blocked, State.coefHeld, Spindle.inFlight, ha, hc, Bool.false_and, Bool.or_false, List.any_eq_false]
    intro u _
    split <;> simp
  rw [exec_tagComplete hd hr, State.tagGo]
  simp only [h, ho, hb, hk, State.mbrTag, hm, Bool.false_eq_true, if_false]

/-- A decided operation completes with its status, and its destination receives zero. -/
theorem tagComplete_decided {st : Nat} (ho : o.done = some st) : nextWith (exec (.tagComplete n tag) s) (fun t =>
    (t.spn n).op tag = none ∧ (t.spn n).tagStatus tag = st ∧ (∀ d, o.dst = some d → (t.spn n).gr d = 0) ∧
      (∀ r, o.dst ≠ some r → (t.spn n).gr r = (s.spn n).gr r) ∧ ∀ u, u ≠ tag.val → (t.spn n).tagStatus u = (s.spn n).tagStatus u) := by
  have hc := complete_completes h st 0
  refine ⟨_, exec_tagComplete_done hd hr h ho, hc.op, hc.status, fun d hdst => ?_, hc.regs, hc.statuses⟩
  rw [hc.dst d hdst, tagResult]
  split_ifs <;> rfl

/-- A receive takes the oldest message. -/
theorem tagComplete_receives {m : Word} {rest : List Word} (ho : o.done = none) (hk : o.kind = .mbr) (hm : (s.spn n).mbox = m :: rest) :
    nextWith (exec (.tagComplete n tag) s) (fun t =>
      (t.spn n).op tag = none ∧ (t.spn n).tagStatus tag = 0 ∧ (t.spn n).mbox = rest ∧
        (∀ d, o.dst = some d → d ≠ 0 → (t.spn n).gr d = m) ∧ ∀ r, o.dst ≠ some r → (t.spn n).gr r = (s.spn n).gr r) := by
  have hx : (s.updSpn n (fun x => { x with mbox := rest })).spn n = { s.spn n with mbox := rest } := spn_setSpn_same s n _
  have hc := complete_completes (s := s.updSpn n (fun x => { x with mbox := rest })) (n := n) (t := tag) (o := o) (by rw [hx]; exact h) 0 m
  rw [hx] at hc
  refine ⟨_, exec_tagComplete_mbr hd hr h ho hk hm, hc.op, hc.status, hc.mbox, fun d hdst h0 => ?_, hc.regs⟩
  rw [hc.dst d hdst, if_neg h0]
  rfl

end

/-! ### Words that a gather stores (R211) -/

/-- The word number that START names: equal to it modulo 2^32, within 2^31 of the newest. -/
theorem startWord_spec (start count : Nat) :
    (startWord start count - start) % 2 ^ 32 = 0 ∧ (count : Int) - 1 - 2 ^ 31 ≤ startWord start count ∧
      startWord start count < (count : Int) - 1 + 2 ^ 31 := by
  unfold startWord signed
  dsimp only
  split <;> omega

theorem dm_setDm (x : Spindle) (k j : Nat) (v : Word) : (x.setDm k v).dm j = if j = k then v else x.dm j := Tab.get_set ..

/-- Gathered words change DMEM alone. -/
theorem gthStore_eq (ws : List Word) : ∀ (x : Spindle) (a : Nat),
    x.gthStore a ws = { x with dmem := (x.gthStore a ws).dmem, eccD := (x.gthStore a ws).eccD } := by
  induction ws with
  | nil => exact fun _ _ => rfl
  | cons w ws ih =>
    intro x a
    rw [Spindle.gthStore, ih]
    split <;> rfl

/-- Words that lie within DMEM stand in it in order, and every other word stays. -/
theorem dm_gthStore (ws : List Word) : ∀ (x : Spindle) {a : Nat}, dmemBase ≤ a → a + ws.length ≤ dmemBase + 0x4000 → ∀ j,
    (x.gthStore a ws).dm j = if a - dmemBase ≤ j ∧ j < a - dmemBase + ws.length then ws.getD (j - (a - dmemBase)) 0 else x.dm j := by
  induction ws with
  | nil =>
    intro x a _ _ j
    rw [if_neg (by simp)]
    rfl
  | cons w ws ih =>
    intro x a ha hb j
    rw [List.length_cons] at hb ⊢
    have hok : localOk a 1 = true := decide_eq_true (by omega)
    rw [Spindle.gthStore, if_pos hok, ih _ (by omega) (by omega), dm_setDm]
    have hs : a + 1 - dmemBase = a - dmemBase + 1 := by omega
    rw [hs]
    rcases Nat.lt_trichotomy j (a - dmemBase) with hj | hj | hj
    · rw [if_neg (by omega), if_neg (by omega), if_neg (by omega)]
    · rw [if_neg (by omega), if_pos hj, if_pos (by omega), hj, Nat.sub_self]
      rfl
    · have hi : j - (a - dmemBase) = j - (a - dmemBase + 1) + 1 := by omega
      rw [hi, List.getD_cons_succ, if_neg (show j ≠ a - dmemBase by omega)]
      exact if_congr (by omega) rfl rfl

/-- A whole window has as many words as were asked for. -/
theorem length_of_window {s : State} {p src : Nat} {j : Int} {n : Nat} {ws : List Word} (h : s.window p src j n = .full ws) : ws.length = n := by
  unfold State.window at h
  extract_lets ks at h
  split at h
  · cases h
  · split at h
    · cases h
    next hheld =>
      split at h
      · cases h
      next hdone =>
        cases h
        have hks : ks.length = n := by simp [ks]
        rw [← hks, List.filterMap_length_eq_length]
        intro k hk
        simp only [List.any_eq_true, not_exists, not_and, Bool.and_eq_true, decide_eq_true_eq] at hheld hdone
        have hnone := hheld k hk (Nat.lt_of_not_le (hdone k hk))
        rwa [Bool.not_eq_true, Option.isNone_eq_false_iff] at hnone

/-! ### A gather of one port -/

/-- The first word that a gather of one port names, in that port's counting. -/
def State.gthFrom (s : State) (v : Nat) : Int := startWord (v % 2 ^ 32) (s.srcCount (gthPort v) (gthSrc v))

section
variable {s : State} {n t : Nat} {o : TagOp} (hs : gthSkein o.ea = false)
include hs

theorem gthPorts_port : s.gthPorts o.ea = [gthPort o.ea] := by
  rw [State.gthPorts, hs]
  rfl

theorem gthWindows_port : s.gthWindows o.ea = [(gthPort o.ea, s.gthFrom o.ea)] := by
  rw [State.gthWindows, gthPorts_port hs]
  rfl

theorem gthLive_silent (ha : s.gthAnswers (gthPort o.ea) (gthSrc o.ea) = false) : s.gthLive n t o = s.complete n t stABSENT 0 := by
  simp [State.gthLive, gthPorts_port hs, ha]

variable (ha : s.gthAnswers (gthPort o.ea) (gthSrc o.ea) = true)
include ha

theorem gthLive_full {ws : List Word}
    (hw : s.window (gthPort o.ea) (gthSrc o.ea) (s.gthFrom o.ea) o.val.toNat = .full ws) :
    s.gthLive n t o = s.gthStored n t o (s.windowBad (gthPort o.ea) (gthSrc o.ea) (s.gthFrom o.ea) o.val.toNat) ws := by
  simp [State.gthLive, State.kindsDiffer, gthPorts_port hs, gthWindows_port hs, ha, hw, hs]

theorem gthLive_open (hw : s.window (gthPort o.ea) (gthSrc o.ea) (s.gthFrom o.ea) o.val.toNat = .open) :
    s.gthLive n t o = s := by
  simp [State.gthLive, State.kindsDiffer, gthPorts_port hs, gthWindows_port hs, ha, hw, hs]

theorem gthLive_lost (hw : s.window (gthPort o.ea) (gthSrc o.ea) (s.gthFrom o.ea) o.val.toNat = .lost) :
    s.gthLive n t o = (s.gthLost n o [gthPort o.ea]).complete n t stREFUSED 0 := by
  simp [State.gthLive, State.kindsDiffer, gthPorts_port hs, gthWindows_port hs, ha, hw, hs]

end

theorem exec_gatherComplete {s : State} {n : SpnNo} {tag : Fin 8} {o : TagOp} (hd : s.domOn (30 + n / 8) = true) (hr : s.rootUp = true)
    (hrep : (s.spn n).replay = false) (h : (s.spn n).op tag = some o) (hk : o.kind = .gsw) (ho : o.done = none) :
    exec (.gatherComplete n tag ()) s = .next (s.gthLive n tag o) := by
  have he : exec (.gatherComplete n tag ()) s = execGatherComplete n tag () s := rfl
  rw [he, execGatherComplete, h]
  simp [hk, ho, hd, hr, hrep]

theorem length_freeWords (b n : Nat) : (freeWords b n).length = n := by
  induction n generalizing b with
  | zero => rfl
  | succ n ih => rw [freeWords, List.length_cons, ih]

section
variable {s : State} {n : Nat} {t : Nat} {o : TagOp} (h : (s.spn n).op t = some o) (hlo : 0xFFFF0000 ≤ o.loc)
include h hlo

/-- Words delivered within DMEM. -/
theorem gthStored_spec {ws : List Word} (hhi : o.loc + ws.length ≤ 0xFFFF4000) (bad : Bool) :
    let y := (s.gthStored n t o bad ws).spn n
    y.op t = none ∧ y.tagStatus t = (if bad then 7 else 0) ∧
      (∀ j, y.dm j = if o.loc - 0xFFFF0000 ≤ j ∧ j < o.loc - 0xFFFF0000 + ws.length then ws.getD (j - (o.loc - 0xFFFF0000)) 0 else (s.spn n).dm j) ∧
      ∀ r, o.dst = none → y.gr r = (s.spn n).gr r := by
  intro y
  have hx : (s.updSpn n (fun x => x.gthStore o.loc ws)).spn n = (s.spn n).gthStore o.loc ws := spn_setSpn_same s n _
  have hc := complete_completes (s := s.updSpn n (fun x => x.gthStore o.loc ws)) (n := n) (t := t) (o := o)
    (by rw [hx, gthStore_eq]; exact h) (if bad then stPARITY else stOK) 0
  have hy : y = ((s.updSpn n (fun x => x.gthStore o.loc ws)).complete n t (if bad then stPARITY else stOK) 0).spn n := by
    have hok : localOk o.loc ws.length = true := decide_eq_true ⟨hlo, hhi⟩
    simp only [y, State.gthStored, hok, Bool.true_eq_false, if_false]
  rw [← hy, hx] at hc
  refine ⟨hc.op, hc.status, fun j => ?_, fun r hr => ?_⟩
  · rw [hc.dm, dm_gthStore ws _ hlo hhi]
  · rw [hc.regs r (by rw [hr]; simp), gthStore_eq]
    rfl

/-- A window no longer held, of one port. -/
theorem gthLost_spec (hhi : o.loc + o.len ≤ 0xFFFF4000) (hr : (s.spn n).replay = false) (p : Nat) :
    let u := (s.gthLost n o [p]).complete n t stREFUSED 0
    (u.spn n).op t = none ∧ (u.spn n).tagStatus t = 8 ∧ u.reg (Reg.PORT_TAPOVR p) = s.reg (Reg.PORT_TAPOVR p) + 1 ∧
      ∀ j, (j < o.loc - 0xFFFF0000 ∨ o.loc - 0xFFFF0000 + o.len ≤ j) → (u.spn n).dm j = (s.spn n).dm j := by
  intro u
  have hx : (s.gthLost n o [p]).spn n = (s.spn n).gthStore o.loc (freeWords s.free o.len) := spn_setSpn_same (s.bump (Reg.PORT_TAPOVR p)) n _
  have hop : ((s.gthLost n o [p]).spn n).op t = some o := by
    rw [hx, gthStore_eq]
    exact h
  have hrep : ((s.gthLost n o [p]).spn n).replay = false := by
    rw [hx, gthStore_eq]
    exact hr
  have hc := complete_completes hop stREFUSED 0
  refine ⟨hc.op, hc.status, (tapovr_complete hop stREFUSED 0 hrep p).trans (reg_bump_same s _), fun j hj => ?_⟩
  rw [hc.dm, hx, dm_gthStore _ _ hlo (by rwa [length_freeWords]), length_freeWords]
  exact if_neg (by omega : ¬ (o.loc - 0xFFFF0000 ≤ j ∧ j < o.loc - 0xFFFF0000 + o.len))

end

end Sys2Proof.Machine

namespace Sys2Proof
open Machine

/-- Settles O22: a completion changes its own spindle's tag, status and destination, and a swap it lets through changes operations in flight alone; a
gather of one port has one window, whose words stand in DMEM in order. -/
theorem tagsCompleteAndGathersStore : Obligations.TagsCompleteAndGathersStore := by
  refine ⟨fun n tag s o => ?_, fun start count _ => startWord_spec start count, fun n tag s o => ?_⟩
  · intro x hd hr h
    exact ⟨fun _ ho => tagComplete_decided hd hr h ho, fun _ _ ho hk hm => tagComplete_receives hd hr h ho hk hm⟩
  · intro x p src k from_ hd hr hrep h hk ho hs hlen hlo hhi
    rw [exec_gatherComplete hd hr hrep h hk ho]
    refine ⟨fun ha => ?_, fun ha => ⟨fun ws hw => ?_, fun hw => ?_, fun hw => ?_⟩⟩
    · have hc := complete_completes h stABSENT 0
      exact ⟨_, congrArg _ (gthLive_silent hs ha), hc.op, hc.status, fun j => by rw [hc.dm]⟩
    · have hl := length_of_window hw
      rw [← hlen] at hw
      obtain ⟨hop, hst, hdm, hgr⟩ := gthStored_spec h hlo (ws := ws) (by rw [hl]; exact hhi) (s.windowBad p src from_ o.len)
      refine ⟨_, congrArg _ ((gthLive_full hs ha hw).trans (by rw [hlen]; rfl)), hop, hst, fun i hi => ?_, fun j hj => ?_, hgr⟩
      · rw [hdm, if_pos (by omega), Nat.add_sub_cancel_left]
      · rw [hdm, if_neg (by omega)]
    · exact congrArg _ (gthLive_open hs ha (by rw [hlen]; exact hw))
    · exact ⟨_, congrArg _ (gthLive_lost hs ha (by rw [hlen]; exact hw)), gthLost_spec h hlo hhi hrep p⟩

end Sys2Proof
end

section
/-! PROOF. Recalibration, swaps, mirrors and slubs (O35). -/

namespace Sys2Proof.Machine

theorem rf_setRf_mod (s : State) (a hi lo v : Nat) (h : hi < 48) (hl : lo ≤ hi) : (s.setRf a hi lo v).rf a hi lo = v % 2 ^ (hi + 1 - lo) := by
  rw [State.rf, setRf_eq, reg_setReg_same, fld_putFld _ _ _ _ h hl]

/-- The words of a port lie below the distaff's. -/
theorem portWord_lt (p : PortNo) {o : Nat} (h : o < 0x1000) : 0x10000 + 0x1000 * p.val + o < 0x200000 := by
  have hp : p.val < 96 := p.isLt
  omega

/-! ### Recalibration (R84, R102) -/

/-- The port after a recalibration has ended: CALDONE, and the settle period that follows. -/
def State.calibrated (s : State) (p : Nat) : State := (s.setRf (Reg.PORT_AFE p) 23 20 (s.port p).calRun).settle p 256

section
variable (s : State) (p : PortNo)

theorem port_calibrated : (s.calibrated p).port p = { s.port p with settleEnd := max (s.port p).settleEnd (s.symcnt p + 256) } := by
  rw [State.calibrated, State.settle, updPort_eq, port_setPort_same, setRf_eq, symcnt_setAfe, port_setReg]

theorem rf_calibrated : (s.calibrated p).rf (Reg.PORT_AFE p) 23 20 = (s.port p).calRun % 16 :=
  (rf_updPort ..).trans (rf_setRf_mod s _ 23 20 _ (by decide) (by decide))

theorem rb_calibrated : (s.calibrated p).rb (Reg.PORT_AFE p) 24 = s.rb (Reg.PORT_AFE p) 24 :=
  (rb_updPort ..).trans (rb_setRf_apart s _ (by decide) (by decide) (by decide))

variable (hb : s.rb (Reg.PORT_AFE p) 24 = true)
include hb

theorem exec_adcRecalDone_held {v : Nat} (h : (s.port p).calHeld = some v) :
    exec (.adcRecalDone p) s = .next ((s.calibrated p).updPort p (fun y => { y with calRun := v, calHeld := none })) := by
  have he : exec (.adcRecalDone p) s = execAdcRecalDone p s := rfl
  rw [he, execAdcRecalDone, if_pos hb]
  dsimp only
  rw [h]
  rfl

theorem exec_adcRecalDone_last (h : (s.port p).calHeld = none) :
    exec (.adcRecalDone p) s = .next ((s.calibrated p).setRb (Reg.PORT_AFE p) 24 false) := by
  have he : exec (.adcRecalDone p) s = execAdcRecalDone p s := rfl
  rw [he, execAdcRecalDone, if_pos hb]
  dsimp only
  rw [h]
  rfl

theorem adcRecalDone_spec : nextWith (exec (.adcRecalDone p) s) (fun t =>
    t.rf (Reg.PORT_AFE p) 23 20 = (s.port p).calRun % 16 ∧ (t.port p).calHeld = none ∧ s.symcnt p + 256 ≤ (t.port p).settleEnd ∧
      ((s.port p).calHeld = none → t.rb (Reg.PORT_AFE p) 24 = false) ∧
      ∀ v, (s.port p).calHeld = some v → t.rb (Reg.PORT_AFE p) 24 = true ∧ (t.port p).calRun = v) := by
  have hc := port_calibrated s p
  cases h : (s.port p).calHeld with
  | some v =>
    refine ⟨_, exec_adcRecalDone_held s p hb h, (rf_updPort ..).trans (rf_calibrated s p), ?_, ?_, fun hn => (by cases hn), fun w hw => ⟨?_, ?_⟩⟩
    · rw [updPort_eq, port_setPort_same]
    · rw [updPort_eq, port_setPort_same, hc]
      exact Nat.le_max_right _ _
    · exact (rb_updPort ..).trans ((rb_calibrated s p).trans hb)
    · rw [updPort_eq, port_setPort_same]
      exact Option.some.inj hw
  | none =>
    refine ⟨_, exec_adcRecalDone_last s p hb h, (rf_setRb_apart _ _ (by decide) (by decide)).trans (rf_calibrated s p), ?_, ?_,
      fun _ => rb_setRb_same _ _ false (by decide), fun w hw => (by cases hw)⟩
    · rw [setRb_eq, port_setReg, hc]
      exact h
    · rw [setRb_eq, port_setReg, hc]
      exact Nat.le_max_right _ _

omit hb in
/-- The runtime's own request: CALSEQ + 1. -/
theorem recalInterval_spec (hu : s.pst p = 3) : nextWith (exec (.recalInterval p) s) (fun t =>
    t.rf (Reg.PORT_AFE p) 19 16 = (s.rf (Reg.PORT_AFE p) 19 16 + 1) % 16 ∧ t.rb (Reg.PORT_AFE p) 24 = true) := by
  have hlt : s.rf (Reg.PORT_AFE p) 19 16 < 16 := fld_lt _ 19 16
  obtain ⟨h1, h2, -⟩ := adcRecal_change s p (q := (s.rf (Reg.PORT_AFE p) 19 16 + 1) % 16) (by omega) (by omega)
  exact ⟨_, if_pos hu, h1, h2⟩

end

/-! ### Swap and mirror (R86, R92) -/

theorem port_endPortCsw (s : State) (p : Nat) (k : OpKind) (q : Nat) : (s.endPortCsw p k).port q = s.port q := rfl
theorem reg_endPortCsw (s : State) (p : Nat) (k : OpKind) (a : Nat) : (s.endPortCsw p k).reg a = s.reg a := rfl
theorem port_endRunning (s : State) (p op st q : Nat) : (s.endRunning p op st).port q = s.port q := rfl

theorem port_serveHalf (s : State) (p h m : Nat) : ∃ v, (s.serveHalf p h m).port p = { s.port p with tailOff := v } := by
  unfold State.serveHalf
  dsimp only
  rw [updPort_eq, port_setPort_same, port_addCnt]
  exact ⟨_, rfl⟩

/-- The words of PORT_COEFSTAT and PORT_SWAPCNT once the halves have changed roles. -/
def State.swapped (s : State) (p : Nat) : State :=
  ((s.setRf (Reg.PORT_COEFSTAT p) 3 3 (1 - s.servingHalf p)).setRb (Reg.PORT_COEFSTAT p) 6 false).bump (Reg.PORT_SWAPCNT p)

/-- All that the swap of a port's halves does before it is recorded. -/
def State.swapDone (s : State) (p : Nat) : State :=
  ((((s.swapped p).serveHalf p (1 - s.servingHalf p) (s.pmode p)).updPort p
    (fun x => { x with mark := true, rx := { x.rx with lmsSkip := true } })).endPortCsw p .cswSwap).endRunning p 0x1A 0

theorem exec_swapEffect {s : State} {p : PortNo} (h : s.rb (Reg.PORT_COEFSTAT p) 6 = true) :
    exec (.swapEffect p) s = .next ((s.swapDone p).dstPortEvent 0x05 p (s.symcnt p) (1 - s.servingHalf p) []) := if_pos h

section
variable (s : State) (p : PortNo)

theorem swapped_spec : (s.swapped p).rf (Reg.PORT_COEFSTAT p) 3 3 = 1 - s.servingHalf p ∧ (s.swapped p).rb (Reg.PORT_COEFSTAT p) 6 = false ∧
    (s.swapped p).reg (Reg.PORT_SWAPCNT p) = s.reg (Reg.PORT_SWAPCNT p) + 1 := by
  have hne : Reg.PORT_COEFSTAT p ≠ Reg.PORT_SWAPCNT p := portWord_ne p (by decide)
  refine ⟨?_, ?_, ?_⟩
  · rw [State.swapped, bump_eq, rf_setReg_other _ _ hne, rf_setRb_apart _ _ (by decide) (by decide), rf_setRf_mod _ _ _ _ _ (by decide) (by decide)]
    omega
  · rw [State.swapped, bump_eq, rb_setReg_other _ _ hne]
    exact rb_setRb_same _ _ false (by decide)
  · rw [State.swapped, reg_bump_same, reg_setRb_other _ _ hne.symm, reg_setRf_other _ _ hne.symm]

theorem reg_swapDone {a : Nat} (h : a ≠ Reg.PORT_TAILERR p) : (s.swapDone p).reg a = (s.swapped p).reg a := by
  rw [State.swapDone, reg_endRunning, reg_endPortCsw, reg_updPort, State.serveHalf, reg_updPort, reg_addCnt_other _ _ h]

theorem port_swapDone : ∃ v, (s.swapDone p).port p = { s.port p with mark := true, rx := { (s.port p).rx with lmsSkip := true }, tailOff := v } := by
  obtain ⟨v, hv⟩ := port_serveHalf (s.swapped p) p (1 - s.servingHalf p) (s.pmode p)
  have h0 : (s.swapped p).port p = s.port p := by rw [State.swapped, port_bump, setRb_eq, port_setReg, setRf_eq, port_setReg]
  refine ⟨v, ?_⟩
  rw [State.swapDone, port_endRunning, port_endPortCsw, updPort_eq, port_setPort_same, hv, h0]

/-- A swap exchanges the halves' roles, and neither changes (R92). -/
theorem swapEffect_spec (h : s.rb (Reg.PORT_COEFSTAT p) 6 = true) : nextWith (exec (.swapEffect p) s) (fun t =>
    t.rf (Reg.PORT_COEFSTAT p) 3 3 = 1 - s.rf (Reg.PORT_COEFSTAT p) 3 3 ∧ t.rb (Reg.PORT_COEFSTAT p) 6 = false ∧
      t.reg (Reg.PORT_SWAPCNT p) = s.reg (Reg.PORT_SWAPCNT p) + 1 ∧ (t.port p).mark = true ∧ ∀ h k, t.halfWord p h k = s.halfWord p h k) := by
  obtain ⟨h1, h2, h3⟩ := swapped_spec s p
  obtain ⟨v, hv⟩ := port_swapDone s p
  refine ⟨_, exec_swapEffect h, ?_⟩
  generalize ht : (s.swapDone p).dstPortEvent 0x05 p (s.symcnt p) (1 - s.servingHalf p) [] = t
  have hr : ∀ a < 0x200000, a ≠ Reg.PORT_TAILERR p → t.reg a = (s.swapped p).reg a := fun a ha hne => by
    rw [← ht, reg_dstPortEvent _ _ _ _ _ _ ha, reg_swapDone s p hne]
  have hport : t.port p = (s.swapDone p).port p := by rw [← ht, port_dstPortEvent]
  rw [hv] at hport
  have hc : t.reg (Reg.PORT_COEFSTAT p) = (s.swapped p).reg (Reg.PORT_COEFSTAT p) :=
    hr _ (portWord_lt p (by decide)) (portWord_ne p (by decide))
  refine ⟨(congrArg (fld · 3 3) hc).trans h1, (congrArg (bitOf · 6) hc).trans h2, ?_, by rw [hport], halfWord_congr (by rw [hport]) (by rw [hport])⟩
  exact (hr _ (portWord_lt p (by decide)) (portWord_ne p (by decide))).trans h3

/-- A mirror copies the serving half into the idle one (R92). -/
theorem mirrorDone_spec (h : s.rb (Reg.PORT_COEFSTAT p) 7 = true) : nextWith (exec (.mirrorDone p) s) (fun t =>
    t.rb (Reg.PORT_COEFSTAT p) 7 = false ∧ t.rf (Reg.PORT_COEFSTAT p) 3 3 = s.rf (Reg.PORT_COEFSTAT p) 3 3 ∧ ∀ k, k < 0x254 →
      t.halfWord p (1 - s.servingHalf p) k = coefWord k (s.halfWord p (s.servingHalf p) k) ∧
      t.halfWord p (s.servingHalf p) k = s.halfWord p (s.servingHalf p) k) := by
  have hr : (s.copyHalf p).reg (Reg.PORT_COEFSTAT p) = s.reg (Reg.PORT_COEFSTAT p) := copyHalf_frame (fun t => t.reg (Reg.PORT_COEFSTAT p)) (fun _ _ => rfl) s
  refine ⟨((s.copyHalf p).setRb (Reg.PORT_COEFSTAT p) 7 false).endPortCsw p .cswMirror, if_pos h, ?_, ?_, fun k hk => ?_⟩
  · exact rb_setRb_same (s.copyHalf p) _ false (by decide)
  · exact (rf_setRb_apart (s.copyHalf p) false (by decide) (by decide)).trans (congrArg (fld · 3 3) hr)
  · exact halfWord_copyHalf s p hk

end

/-! ### Slubs (R105–R107) -/

/-- What no trigger of the distaff changes, and no mark that one was given, the trigger of a slub does not change. -/
theorem slubTrigger_frame {β : Type} {p : Nat} (g : State → β) (hd : ∀ s d, g { s with dst := d } = g s)
    (hr : ∀ s a v, 0x200000 ≤ a → g (s.setReg a v) = g s) (hp : ∀ s q w, g (s.updPort q fun x => { x with d3Left := 4, d3Word := w }) = g s)
    (ht : ∀ s, g (s.updPort p fun x => { x with slub := { x.slub with trig := true } }) = g s) (s : State) (len : Nat) :
    g (s.slubTrigger p len) = g s := by
  unfold State.slubTrigger
  split
  · rw [ht, dstTrigger_frame g hd hr hp]
  · rfl

theorem reg_slubTrigger (s : State) (p len : Nat) {a : Nat} (h : a < 0x200000) : (s.slubTrigger p len).reg a = s.reg a :=
  slubTrigger_frame (fun t => t.reg a) (fun _ _ => rfl) (fun t b v hb => reg_setReg_other t v (by omega)) (fun _ _ _ => rfl) (fun _ => rfl) s len

/-- Whether a slub runs on the port, its first symbol and its last hit. -/
def State.slubRun (s : State) (p : Nat) : Bool × Nat × Nat := ((s.port p).slub.active, (s.port p).slub.start, (s.port p).slub.last)

/-- An update of a port that leaves its slub. -/
theorem slubRun_updPort (s : State) (p q : Nat) (f : Port → Port) (hf : ∀ x, (f x).slub.active = x.slub.active ∧ (f x).slub.start = x.slub.start ∧
    (f x).slub.last = x.slub.last) : (s.updPort q f).slubRun p = s.slubRun p := by
  unfold State.slubRun
  by_cases h : p = q
  · subst h
    obtain ⟨h1, h2, h3⟩ := hf (s.port p)
    rw [updPort_eq, port_setPort_same, h1, h2, h3]
  · rw [updPort_eq, port_setPort_other _ _ h]

theorem slubRun_slubTrigger (s : State) (p len : Nat) : (s.slubTrigger p len).slubRun p = s.slubRun p :=
  slubTrigger_frame (fun t => t.slubRun p) (fun _ _ => rfl) (fun _ _ _ _ => rfl) (fun t q _ => slubRun_updPort t p q _ fun _ => ⟨rfl, rfl, rfl⟩)
    (fun t => slubRun_updPort t p p _ fun _ => ⟨rfl, rfl, rfl⟩) s len

/-- A slub that has started at a first symbol with a last hit. -/
def State.slubOpened (s : State) (p start last : Nat) : State :=
  s.updPort p (fun y => { y with slub := { active := true, start := start, last := last }, rx := { y.rx with hits := [] } })

theorem slubRun_slubOpened (s : State) (p start last : Nat) : (s.slubOpened p start last).slubRun p = (true, start, last) := by
  rw [State.slubOpened, State.slubRun, updPort_eq, port_setPort_same]

section
variable {s : State} {p : PortNo}

/-- NHIT hits within 8 symbols start a slub (R105). -/
theorem slubStart_spec {first last : Nat} {rest : List Nat} (hen : bitOf (s.port p).applSlub 47 = true) (ha : (s.port p).slub.active = false)
    (hh : (s.port p).rx.hits = last :: rest) (hf : firstOfHits (fld (s.port p).applSlub 13 10) (s.port p).rx.hits = some first) :
    nextWith (exec (.slubStart p () ()) s) (fun t =>
      (t.port p).slub.active = true ∧ (t.port p).slub.start = first - fld (s.port p).applSlub 21 16 ∧ (t.port p).slub.last = last) := by
  have he : s.slubStart p = (s.slubOpened p (first - slubPre (s.port p).applSlub) last).slubTrigger p
      (last + slubPost (s.port p).applSlub + 1 - (first - slubPre (s.port p).applSlub)) := by
    rw [hh] at hf
    unfold State.slubStart
    simp only [hh]
    rw [show firstOfHits (slubNhit (s.port p).applSlub) (last :: rest) = some first from hf]
    exact if_pos ⟨hen, ha⟩
  have hr : (s.slubStart p).slubRun p = (true, first - slubPre (s.port p).applSlub, last) := by
    rw [he, slubRun_slubTrigger, slubRun_slubOpened]
  obtain ⟨h1, h2, h3⟩ : _ ∧ _ ∧ _ := by simpa only [State.slubRun, Prod.mk.injEq] using hr
  exact ⟨_, rfl, h1, h2, h3⟩

/-- What the end of a slub leaves: its window, and the counts of its symbols. -/
structure SlubEnded (s : State) (p : Nat) (cap len : Nat) (t : State) : Prop where
  active : (t.port p).slub.active = false
  blocked : (t.port p).slub.blocked = decide (cap ≤ len)
  window : (t.port p).rx.wins.head? = some ((s.port p).slub.start, (s.port p).slubLast)
  count : t.reg (Reg.PORT_SLUBCNT p) = s.reg (Reg.PORT_SLUBCNT p) + 1
  symbols : t.reg (Reg.PORT_SLUBSYM p) = s.reg (Reg.PORT_SLUBSYM p) + BitVec.ofNat 48 len
  long : t.reg (Reg.PORT_SLUBLONG p) = s.reg (Reg.PORT_SLUBLONG p) + (if cap ≤ len then 1 else 0)

theorem slubEnd_ends (s : State) (p : PortNo) :
    SlubEnded s p (4 * fld (s.port p).applSlub 41 32) ((s.port p).slubLast + 1 - (s.port p).slub.start) (s.slubEnd p) := by
  unfold State.slubEnd
  extract_lets x len cap s1 s2 s3
  have h2 : ∀ a < 0x200000, s2.reg a = s1.reg a := fun a ha => (reg_slubTrigger _ _ _ ha).trans (reg_dstPortEvent _ _ _ _ _ _ ha)
  have h3 : ∀ a < 0x200000, a ≠ Reg.PORT_SLUBLONG p → s3.reg a = s1.reg a := fun a ha hne => by
    unfold s3
    split
    · rw [reg_bump_other _ hne, h2 a ha]
    · exact h2 a ha
  refine { active := ?_, blocked := ?_, window := ?_, count := ?_, symbols := ?_, long := ?_ }
  · rw [updPort_eq, port_setPort_same]
  · rw [updPort_eq, port_setPort_same]
    rfl
  · rw [updPort_eq, port_setPort_same]
    rfl
  · rw [reg_updPort, h3 _ (portWord_lt p (by decide)) (portWord_ne p (by decide)), reg_addCnt_other _ _ (portWord_ne p (by decide)), reg_bump_same]
  · rw [reg_updPort, h3 _ (portWord_lt p (by decide)) (portWord_ne p (by decide)), reg_addCnt_same, reg_bump_other _ (portWord_ne p (by decide))]
  · have hl : s2.reg (Reg.PORT_SLUBLONG p) = s.reg (Reg.PORT_SLUBLONG p) := by
      rw [h2 _ (portWord_lt p (by decide)), reg_addCnt_other _ _ (portWord_ne p (by decide)), reg_bump_other _ (portWord_ne p (by decide))]
    rw [reg_updPort]
    unfold s3
    by_cases hc : slubCap x.applSlub ≤ len
    · rw [if_pos (decide_eq_true hc), reg_bump_same, hl]
      exact congrArg _ (if_pos hc).symm
    · rw [if_neg (by simpa only [cap, decide_eq_true_eq] using hc), hl]
      exact ((congrArg _ (if_neg hc)).trans (BitVec.add_zero _)).symm

theorem exec_slubWindowEnd (ha : (s.port p).slub.active = true) (hl : (s.port p).slubLast < (s.port p).rx.decN) :
    exec (.slubWindowEnd p ()) s = .next (s.slubEnd p) := if_pos ⟨ha, hl⟩

theorem exec_slubCap (ha : (s.port p).slub.active = true) (hl : (s.port p).slubLast < (s.port p).rx.decN)
    (hc : 4 * fld (s.port p).applSlub 41 32 ≤ (s.port p).slubLast + 1 - (s.port p).slub.start) : exec (.slubCap p) s = .next (s.slubEnd p) :=
  if_pos ⟨ha, hl, hc⟩

end

end Sys2Proof.Machine

namespace Sys2Proof
open Machine

/-- Settles O35: each event of the receive path by what it leaves of its port's words, halves and slub. -/
theorem equaliserEvents : Obligations.EqualiserEvents := by
  refine ⟨fun p s => ⟨adcRecalDone_spec s p, recalInterval_spec s p, swapEffect_spec s p, mirrorDone_spec s p⟩, fun p s => ?_⟩
  obtain ⟨h1, h2, h3, h4, h5, h6⟩ := slubEnd_ends s p
  exact ⟨rfl, fun first last rest hen ha hh hf => slubStart_spec hen ha hh hf,
    fun ha hl => ⟨_, exec_slubWindowEnd ha hl, h1, h2, h3, h4, h5, h6⟩,
    fun ha hl hc => ⟨_, exec_slubCap ha hl hc, h1, h2, h3, h4, h5, h6⟩⟩

end Sys2Proof
end

section
/-! PROOF. Runtime commands that carry a port's data (O30): bobbin words, fingerprints, coefficients, PLCA parameters. -/

namespace Sys2Proof.Machine

/-! ### Words of the bobbin -/

theorem length_bobWords (s : State) (k n : Nat) : (s.bobWords k n).length = n := by
  induction n generalizing k with
  | zero => rfl
  | succ n ih => rw [State.bobWords, List.length_cons, ih]

theorem getD_bobWords (s : State) (n : Nat) : ∀ (k : Nat) {j : Nat}, j < n → (s.bobWords k n).getD j 0 = s.bob (k + j) := by
  induction n with
  | zero => exact fun _ _ h => absurd h (Nat.not_lt_zero _)
  | succ n ih =>
    intro k j hj
    cases j with
    | zero => rfl
    | succ j => rw [State.bobWords, List.getD_cons_succ, ih _ (by omega), Nat.add_right_comm, Nat.add_assoc]

theorem setBobWords_frame {β : Type} (g : State → β) (hg : ∀ (s : State) k v, g (s.setBob k v) = g s) (ws : List Word) :
    ∀ (s : State) (k : Nat), g (s.setBobWords k ws) = g s := by
  induction ws with
  | nil => exact fun _ _ => rfl
  | cons w ws ih => exact fun s k => (ih _ _).trans (hg s k w)

/-- Words written to the bobbin stand there in order, and every other word stays. -/
theorem bob_setBobWords (ws : List Word) : ∀ (s : State) (k j : Nat),
    (s.setBobWords k ws).bob j = if k ≤ j ∧ j < k + ws.length then ws.getD (j - k) 0 else s.bob j := by
  induction ws with
  | nil =>
    intro s k j
    rw [if_neg (by simp only [List.length_nil]; omega)]
    rfl
  | cons w ws ih =>
    intro s k j
    rw [List.length_cons, State.setBobWords, ih, bob_setBob]
    rcases Nat.lt_trichotomy j k with hj | hj | hj
    · rw [if_neg (by omega), if_neg (by omega), if_neg (by omega)]
    · rw [if_neg (by omega), if_pos hj, if_pos (by omega), hj, Nat.sub_self]
      rfl
    · have hi : j - k = j - (k + 1) + 1 := by omega
      rw [hi, List.getD_cons_succ, if_neg (show j ≠ k by omega)]
      exact if_congr (by omega) rfl rfl

/-! ### Commands that need domains, and commands that go on -/

/-- Domains that are on let a command go on. -/
theorem needDoms_allOn {s : State} {ds : List Nat} (h : ∀ d ∈ ds, s.domOn d = true) (k : State → Prog × State) : s.needDoms ds k = k s := by
  have hg : ∀ x : Gate, x ≠ .go → ds.any (fun d => decide (s.gate d = x)) = false := fun x hx => by
    rw [List.any_eq_false]
    intro d hd
    rw [gate_on (h d hd)]
    simpa using Ne.symm hx
  have hr : ∀ l : List Nat, (∀ d ∈ l, s.domOn d = true) → forAll State.refuseEntry l s = s := fun l => by
    induction l with
    | nil => exact fun _ => rfl
    | cons d l ih =>
      intro hl
      rw [forAll, refuseEntry_on (hl d List.mem_cons_self)]
      exact ih fun e he => hl e (List.mem_cons_of_mem d he)
  rw [State.needDoms, hg .absent (by decide), hg .stall (by decide), hr ds h]
  rfl

section
variable {s t : State} {op id i : Nat} {f : Cmd → Bool → State → Prog × State} {P : State → Prop} (hu : s.supUp = true) (hc : s.cmdAt op id = some i)
  (hr : (cmdOf s i).st = .running)
include hu hc hr

theorem goesOn_done {st : Nat} {r : Word} (hf : f (cmdOf s i) true s = (.done st r, t)) (hrt : t.rt = s.rt) (hP : ∀ c, P (t.putCmd i c)) :
    nextWith (.next (s.runCmd op id f)) (fun u => Finished u i st r ∧ P u) := by
  have hi := (cmdAt_spec hc).1
  have he : s.runCmd op id f = t.putCmd i { cmdOf s i with st := .finished st r (t.cmdGen (cmdOf s i)) } := by
    unfold cmdOf at hf hr ⊢
    unfold State.runCmd
    rw [if_neg (by rw [hu]; decide)]
    simp only [hc, hr, hf, if_true]
  refine ⟨_, rfl, ?_⟩
  rw [he]
  refine ⟨⟨t.cmdGen (cmdOf s i), ?_⟩, hP _⟩
  rw [cmdOf, State.putCmd, nth_setNth _ _ _ _ _ (by rw [hrt]; exact hi), if_pos rfl]

theorem goesOn_run (hf : f (cmdOf s i) true s = (.run, t)) (hrt : t.rt = s.rt) (hP : ∀ c, P (t.putCmd i c)) :
    nextWith (.next (s.runCmd op id f)) (fun u => (cmdOf u i).st = .running ∧ P u) := by
  have hi := (cmdAt_spec hc).1
  have hl : (nth (cmdOf s i) t.rt.cmds i).live = true := by
    rw [hrt, nth_eq_getElem _ _ hi, ← nth_eq_getElem { w0 := 0, w1 := 0, w2 := 0, w3 := 0 } _ hi]
    exact decide_eq_true (.inr hr)
  have he : s.runCmd op id f = t.putCmd i { cmdOf s i with st := .running, need := [] } := by
    unfold cmdOf at hf hr hl ⊢
    unfold State.runCmd
    rw [if_neg (by rw [hu]; decide)]
    simp only [hc, hr, hf, hl, if_true]
  refine ⟨_, rfl, ?_⟩
  rw [he]
  refine ⟨?_, hP _⟩
  rw [cmdOf, State.putCmd, nth_setNth _ _ _ _ _ (by rw [hrt]; exact hi), if_pos rfl]

end

/-! ### Fingerprints (R190, R237) -/

theorem saveRuntime_frame {β : Type} (g : State → β) (hg : ∀ (s : State) lo n, g (s.freshBob lo n) = g s) (s : State) : g s.saveRuntime = g s :=
  forAll_frame g _ (fun t b => by split; exacts [hg t _ _, rfl]) _ s

/-- PORT_FPSTAT of a stored fingerprint: FPVALID, its mode and gain. -/
def fpStat (w : Word) : Word := BitVec.ofNat 48 (2 ^ 47 + fld w 43 40 * 2 ^ 40 + fld w 37 32 * 2 ^ 32)

theorem fpStat_valid (w : Word) : bitOf (fpStat w) 47 = true := by
  have h1 : fld w 43 40 < 16 := fld_lt _ 43 40
  have h2 : fld w 37 32 < 64 := fld_lt _ 37 32
  rw [bitOf, fpStat, BitVec.toNat_ofNat]
  exact decide_eq_true (by omega)

theorem setFp_eq (s : State) (p : Nat) (ws : List Word) :
    s.setFp p ws = ((s.updPort p (fun x => { x with fp := ws })).setReg (Reg.PORT_FPSTAT p) (fpStat (nth 0#48 ws 0))).saveRuntime := rfl

/-- A stored fingerprint stands on its port, and FPVALID is set. -/
theorem setFp_spec (s : State) (p : Nat) (ws : List Word) : ((s.setFp p ws).port p).fp = ws ∧ (s.setFp p ws).rb (Reg.PORT_FPSTAT p) 47 = true ∧
    (∀ a, a ≠ Reg.PORT_FPSTAT p → (s.setFp p ws).reg a = s.reg a) ∧ (s.setFp p ws).rt = s.rt := by
  rw [setFp_eq]
  have hreg : ∀ (t : State) a, t.saveRuntime.reg a = t.reg a := fun t a => saveRuntime_frame (fun t => t.reg a) (fun _ _ _ => rfl) t
  refine ⟨?_, ?_, fun a ha => ?_, ?_⟩
  · rw [saveRuntime_frame (fun t => t.port p) (fun _ _ _ => rfl), port_setReg, updPort_eq, port_setPort_same]
  · rw [State.rb, hreg, reg_setReg_same, fpStat_valid]
  · rw [hreg, reg_setReg_other _ _ ha, reg_updPort]
  · rw [saveRuntime_frame State.rt fun _ _ _ => rfl, setReg_rt, updPort_eq, setPort_rt]

/-- A snapshot: its count, the sums, and nothing of the stored fingerprint (R190). -/
theorem fpTake_spec (s : State) (p : Nat) : (s.fpTake p).reg (Reg.PORT_FPSNAP p) = s.reg (Reg.PORT_FPSNAP p) + 1 ∧
    ((s.fpTake p).port p).fpCount = (s.port p).fpCount + 1 ∧ ((s.fpTake p).port p).fp = (s.port p).fp ∧
    (∀ k, k < 1152 → ((s.fpTake p).port p).fpSum.getD k 0 =
      (s.port p).fpSum.getD k 0 + pairTap (s.halfWord p (s.servingHalf p) (k / 2)) k) ∧ (s.fpTake p).rt = s.rt := by
  obtain ⟨l, c, hc⟩ := port_copyHalf s p
  have hp : (s.fpTake p).port p = { s.port p with
      half := l, coefKept := c, fpCount := (s.port p).fpCount + 1
      fpSum := (List.range 1152).map (fun i => nth 0 (s.port p).fpSum i + pairTap (s.halfWord p (s.servingHalf p) (i / 2)) i) } := by
    rw [State.fpTake, updPort_eq, port_setPort_same, port_bump, hc]
  refine ⟨?_, by rw [hp], by rw [hp], fun k hk => ?_, copyHalf_frame State.rt (fun _ _ => rfl) s⟩
  · rw [State.fpTake, reg_updPort, reg_bump_same, copyHalf_frame (fun t => t.reg (Reg.PORT_FPSNAP p)) fun _ _ => rfl]
  · rw [hp, getD_eq_nth _ (s.port p).fpSum]
    simp [hk]

section
variable {s : State} {id : BitVec 16} {i p : Nat} (hp : (cmdOf s i).tindex = p)
include hp

theorem portFpcapture_starts (h : TakesUp s 0x17 id.toNat i) (hu : s.pst p = 3) : nextWith (exec (.portFpcapture id) s) (fun t =>
    (cmdOf t i).st = .running ∧ t.port p = { s.port p with fpSum := [], fpCount := 0 }) := by
  refine takesUp_run (t := s.updPort p (fun x => { x with fpSum := [], fpCount := 0 })) h ?_ (updPort_waitings ..) fun c => ?_
  · dsimp only
    rw [hp, if_neg (by simp [hu, stUp]), if_pos rfl]
  · rw [port_putCmd, updPort_eq, port_setPort_same]

section
variable (hs : s.supUp = true) (hc : s.cmdAt 0x17 id.toNat = some i) (hr : (cmdOf s i).st = .running) (hu : s.pst p = 3) (hw : s.userPort p = false)
  (hk : s.cswRefusal p = 0)
include hs hc hr hu hw hk

theorem portFpcapture_snaps (hn : (s.port p).fpCount < 15) : nextWith (exec (.portFpcapture id) s) (fun t => (cmdOf t i).st = .running ∧
    t.reg (Reg.PORT_FPSNAP p) = s.reg (Reg.PORT_FPSNAP p) + 1 ∧ t.port p = (s.fpTake p).port p) := by
  obtain ⟨h1, -, -, -, h5⟩ := fpTake_spec s p
  refine goesOn_run (t := s.fpTake p) hs hc hr ?_ h5 fun c => ⟨(reg_putCmd ..).trans h1, port_putCmd ..⟩
  dsimp only
  rw [hp, if_neg (by simp [hu, stUp]), if_neg (by decide), if_neg (by simp [hw]), if_neg (by simp [hk]), if_pos (by omega)]

theorem portFpcapture_ends (hd : ∀ d ∈ s.rtDoms, s.domOn d = true) (hn : 15 ≤ (s.port p).fpCount) : nextWith (exec (.portFpcapture id) s) (fun t =>
    Finished t i 0 0 ∧ t.reg (Reg.PORT_FPSNAP p) = s.reg (Reg.PORT_FPSNAP p) + 1 ∧ (t.port p).fp = (s.fpTake p).fpMean p ∧
      t.rb (Reg.PORT_FPSTAT p) 47 = true) := by
  obtain ⟨h1, -, -, -, h5⟩ := fpTake_spec s p
  obtain ⟨k1, k2, k3, k4⟩ := setFp_spec (s.fpTake p) p ((s.fpTake p).fpMean p)
  refine goesOn_done (t := (s.fpTake p).setFp p ((s.fpTake p).fpMean p)) hs hc hr ?_ (k4.trans h5) fun c =>
    ⟨(reg_putCmd ..).trans ((k3 _ (portWord_ne p (by decide))).trans h1), (congrArg Port.fp (port_putCmd ..)).trans k1, (rb_putCmd ..).trans k2⟩
  dsimp only
  rw [hp, if_neg (by simp [hu, stUp]), if_neg (by decide), if_neg (by simp [hw]), if_neg (by simp [hk]), if_neg (by omega), needDoms_allOn hd]
  rfl

end

section
variable {at_ : Nat} (hat : (cmdOf s i).arg1 - 0x1000000 = at_) (hb : inBobbin (cmdOf s i).arg1 580 = true)
  (hd : ∀ d ∈ quadOf p :: (s.rtDoms ++ entryDoms (cmdOf s i).arg1 580), s.domOn d = true)
include hat hb hd

theorem portFpread_copies (h : TakesUp s 0x18 id.toNat i) (hv : s.rb (Reg.PORT_FPSTAT p) 47 = true) : nextWith (exec (.portFpread id) s) (fun t =>
    Finished t i 0 580 ∧ ∀ j, t.bob j = (s.setBobWords at_ (s.port p).fp).bob j) := by
  refine takesUp_done (t := s.setBobWords at_ (s.port p).fp) h ?_ ?_ fun c j => rfl
  · dsimp only
    rw [hp, if_neg (by simp [hb]), needDoms_allOn hd, if_neg (by simp [hv]), hat]
    rfl
  · rw [setBobWords_frame State.rt fun t k v => setBob_rt t k v]

theorem portFprestore_stores (h : TakesUp s 0x19 id.toNat i)
    (hv : s.fpHeaderOk p (s.bob at_) (s.bob (at_ + 1)) = true) :
    nextWith (exec (.portFprestore id) s) (fun t => Finished t i 0 0 ∧ (t.port p).fp = s.bobWords at_ 580 ∧
      t.rb (Reg.PORT_FPSTAT p) 47 = true) := by
  obtain ⟨k1, k2, -, k4⟩ := setFp_spec s p (s.bobWords at_ 580)
  refine takesUp_done (t := s.setFp p (s.bobWords at_ 580)) h ?_ (by rw [k4]) fun c =>
    ⟨(congrArg Port.fp (port_putCmd ..)).trans k1, (rb_putCmd ..).trans k2⟩
  have hh : s.fpHeaderOk p (nth 0#48 (s.bobWords at_ 580) 0)
      (nth 0#48 (s.bobWords at_ 580) 1) = true := by
    rw [← getD_eq_nth, ← getD_eq_nth]
    exact (congrArg₂ (s.fpHeaderOk p) (getD_bobWords s 580 _ (by decide)) (getD_bobWords s 580 _ (by decide))).trans hv
  dsimp only
  rw [hp, if_neg (by simp [hb]), needDoms_allOn hd, hat]
  exact if_neg (by rw [hh]; decide)

end

end

/-! ### Coefficients (R91, R92, R94) -/

/-- Words written to the idle half of a port. -/
def State.coefStored (s : State) (p off : Nat) (ws : List Word) : State :=
  (s.setHalfWords p (1 - s.servingHalf p) off ws).coefTouch p (1 - s.servingHalf p)

section
variable {s : State} {p : Nat}

theorem coefWrite_idle (off : Nat) (ws : List Word) (hb : s.coefBusy p = 0) (h4 : s.rb (Reg.PORT_COEFSTAT p) 4 = false) :
    s.coefWrite p off ws = (0, s.coefStored p off ws) := by
  unfold State.coefWrite
  simp only [hb, h4, ne_eq, not_true_eq_false, if_false, Bool.false_eq_true]
  rfl

theorem coefStored_frame {β : Type} (g : State → β) (hg : ∀ (s : State) f, g (s.updPort p f) = g s) (off : Nat) (ws : List Word) :
    g (s.coefStored p off ws) = g s := by
  rw [State.coefStored, coefTouch_frame g hg, setHalfWords_frame g hg]

theorem halfWord_coefStored {off : Nat} {ws : List Word} (ho : off + ws.length ≤ 1024) (h : Nat) {k : Nat} (hk : k < 1024) :
    (s.coefStored p off ws).halfWord p h k =
      if h = 1 - s.servingHalf p ∧ off ≤ k ∧ k < off + ws.length then coefWord k (ws.getD (k - off) 0) else s.halfWord p h k := by
  rw [State.coefStored, halfWord_coefTouch, halfWord_setHalfWords _ _ _ _ _ ho _ _ hk]

/-- What the idle half and the serving half read after the write. -/
theorem halfWord_coefStored_bob (s : State) (p a : Nat) {off n : Nat} (hl : off + n ≤ 0x254) :
    (∀ j, j < n → (s.coefStored p off (s.bobWords a n)).halfWord p (1 - s.servingHalf p) (off + j) = coefWord (off + j) (s.bob (a + j))) ∧
      ∀ k, k < 1024 → (s.coefStored p off (s.bobWords a n)).halfWord p (s.servingHalf p) k = s.halfWord p (s.servingHalf p) k := by
  have hlen : off + (s.bobWords a n).length ≤ 1024 := by rw [length_bobWords]; omega
  have hs := servingHalf_lt s p
  refine ⟨fun j hj => ?_, fun k hk => ?_⟩
  · rw [halfWord_coefStored hlen _ (by omega), length_bobWords, if_pos ⟨rfl, by omega, by omega⟩, Nat.add_sub_cancel_left, getD_bobWords _ _ _ hj]
  · rw [halfWord_coefStored hlen _ hk, if_neg (by omega)]

/-- A swap is refused for what PORT_COEFSTAT says. -/
theorem cswRefusal_congr {t : State} (h : t.reg (Reg.PORT_COEFSTAT p) = s.reg (Reg.PORT_COEFSTAT p)) : t.cswRefusal p = s.cswRefusal p := by
  unfold State.cswRefusal State.coefBusy State.rb
  rw [h]

/-- The arguments of a PORT_COEFLOAD within the half and the bobbin. -/
theorem coefload_args {a1 a2 off n : Nat} (ha : a2 < 2 ^ 20) (hl : off + n ≤ 0x254) (hb : inBobbin a1 n = true) :
    ¬ (2 ^ 20 ≤ a2 ∨ 0x253 < off + n - 1 ∨ inBobbin a1 n = false) := by
  rintro (h | h | h)
  · omega
  · omega
  · rw [hb] at h
    cases h

theorem swapPending_of_idle (h : s.coefBusy p = 0) : s.rb (Reg.PORT_COEFSTAT p) 6 = false := by
  by_contra hb
  rw [Bool.not_eq_false] at hb
  rw [State.coefBusy, if_pos hb] at h
  cases h

end

section
variable {s : State} {id : BitVec 16} {i p at_ off n : Nat} (hp : (cmdOf s i).tindex = p) (hat : (cmdOf s i).arg1 - 0x1000000 = at_)
  (ho : (cmdOf s i).arg2 % 1024 = off) (hn : (cmdOf s i).arg2 / 1024 + 1 = n) (h : TakesUp s 0x1A id.toNat i)
  (ha : (cmdOf s i).arg2 < 2 ^ 20) (hl : off + n ≤ 0x254)
  (hb : inBobbin (cmdOf s i).arg1 n = true) (hw : s.userPort p = false) (hh : s.portHeld p = false)
  (hd : ∀ d ∈ quadOf p :: entryDoms (cmdOf s i).arg1 n, s.domOn d = true) (hc : s.coefBusy p = 0) (h4 : s.rb (Reg.PORT_COEFSTAT p) 4 = false)
include hp hat ho hn h ha hl hb hw hh hd hc h4

/-- PORT_COEFLOAD without SWAP writes the idle half. -/
theorem portCoefload_stores (hs : (cmdOf s i).opt = false) : nextWith (exec (.portCoefload id) s) (fun t => Finished t i 0 0 ∧
    (∀ j k, t.halfWord p j k = (s.coefStored p off (s.bobWords at_ n)).halfWord p j k) ∧
      t.rb (Reg.PORT_COEFSTAT p) 6 = false) := by
  have hf := coefStored_frame (s := s) (p := p) (fun t => t.reg (Reg.PORT_COEFSTAT p)) (fun _ _ => rfl) off (s.bobWords at_ n)
  have hrt := coefStored_frame (s := s) (p := p) State.rt (fun _ _ => rfl) off (s.bobWords at_ n)
  have hm : (cmdOf s i).arg2 / 1024 % 1024 + 1 = n := by omega
  refine takesUp_done (t := s.coefStored p off (s.bobWords at_ n)) h ?_ (by rw [hrt]) fun c =>
    ⟨fun j k => rfl, (rb_putCmd ..).trans ((congrArg (bitOf · 6) hf).trans (swapPending_of_idle hc))⟩
  dsimp only
  rw [hp, ho, hm, if_neg (by decide), if_neg (coefload_args ha hl hb), if_neg (by simp [hw, hh]), needDoms_allOn hd, hat, coefWrite_idle _ _ hc h4]
  exact (if_neg (not_not.2 rfl)).trans (if_pos hs)

/-- PORT_COEFLOAD with SWAP writes the idle half and asks for the swap. -/
theorem portCoefload_swaps (hs : (cmdOf s i).opt = true) : nextWith (exec (.portCoefload id) s) (fun t => (cmdOf t i).st = .running ∧
    (∀ j k, t.halfWord p j k = (s.coefStored p off (s.bobWords at_ n)).halfWord p j k) ∧
      t.rb (Reg.PORT_COEFSTAT p) 6 = true) := by
  have hf := coefStored_frame (s := s) (p := p) (fun t => t.reg (Reg.PORT_COEFSTAT p)) (fun _ _ => rfl) off (s.bobWords at_ n)
  have hwt := coefStored_frame (s := s) (p := p) State.waitings (fun _ _ => rfl) off (s.bobWords at_ n)
  have hm : (cmdOf s i).arg2 / 1024 % 1024 + 1 = n := by omega
  have hk : (s.coefStored p off (s.bobWords at_ n)).cswRefusal p = 0 := by
    rw [cswRefusal_congr hf, State.cswRefusal, if_neg (by simp [hc]), h4]
    rfl
  refine takesUp_run (t := (s.coefStored p off (s.bobWords at_ n)).setRb (Reg.PORT_COEFSTAT p) 6 true) h ?_
    (by rw [setRb_eq, setReg_waitings, hwt]) fun c => ⟨fun j k => rfl, (rb_putCmd ..).trans (rb_setRb_same _ _ true (by decide))⟩
  dsimp only
  rw [hp, ho, hm, if_neg (by decide), if_neg (coefload_args ha hl hb), if_neg (by simp [hw, hh]), needDoms_allOn hd, hat, coefWrite_idle _ _ hc h4]
  exact (if_neg (not_not.2 rfl)).trans ((if_neg (by simp [hs])).trans (if_neg (fun hne => hne hk)))

end

/-! ### PLCA (R164) -/

section
variable {s : State} {id : BitVec 16} {i p : Nat} {w : Word} (hp : (cmdOf s i).tindex = p)
  (hw : clampPort 8 0 ((cmdOf s i).w2 &&& 0xFFFFFFFFF#48) = w) (h : TakesUp s 0x1B id.toNat i) (hu : s.pst p = 3) (hm : s.pmode p = 1)
include hp hw h hu hm

theorem portPlca_waits (h4 : fld w 4 0 = fld (s.port p).applPlca 4 0) (h11 : fld w 11 11 = fld (s.port p).applPlca 11 11) :
    nextWith (exec (.portPlca id) s) (fun t => (cmdOf t i).st = .running ∧ (t.port p).plcaNext = some w ∧ t.regs = s.regs) := by
  refine takesUp_run (t := s.updPort p (fun x => { x with plcaNext := some w })) h ?_ (updPort_waitings ..) fun c => ⟨?_, rfl⟩
  · dsimp only
    rw [hp, hw, if_neg (by decide), if_neg (by simp [hu, hm, stUp]), if_neg (not_or.2 ⟨not_not.2 h4, not_not.2 h11⟩)]
  · rw [port_putCmd, updPort_eq, port_setPort_same]

theorem portPlca_bad (h4 : fld w 4 0 ≠ fld (s.port p).applPlca 4 0) :
    nextWith (exec (.portPlca id) s) (fun t => Finished t i 4 0 ∧ t.ports = s.ports) := by
  refine takesUp_done (t := s) h ?_ rfl fun c => rfl
  dsimp only
  rw [hp, hw, if_neg (by decide), if_neg (by simp [hu, hm, stUp]), if_pos (.inl h4)]
  rfl

end

end Sys2Proof.Machine

namespace Sys2Proof
open Machine

/-- Settles O30, command by command. -/
theorem portDataCommands : Obligations.PortDataCommands := by
  intro id i s c p at_
  refine ⟨portFpcapture_starts rfl, fun hs hc hr hu hw hd hk => ?_, fun hb hq hd he => ?_, ?_, ?_⟩
  · obtain ⟨-, h2, h3, h4, -⟩ := fpTake_spec s p
    by_cases hn : (s.port p).fpCount < 15
    · obtain ⟨t, ht, k1, k2, k3⟩ := portFpcapture_snaps rfl hs hc hr hu hw hk hn
      refine ⟨t, ht, k2, fun _ => ?_, fun hc => absurd hn (Nat.not_lt.2 hc)⟩
      rw [k3]
      exact ⟨k1, h2, h3, h4⟩
    · obtain ⟨t, ht, k1, k2, k3⟩ := portFpcapture_ends rfl hs hc hr hu hw hk hd (Nat.not_lt.1 hn)
      exact ⟨t, ht, k2, fun hc => absurd hc hn, fun _ => ⟨k1, k3⟩⟩
  · have hall : ∀ d ∈ quadOf p :: (s.rtDoms ++ entryDoms c.arg1 580), s.domOn d = true :=
      List.forall_mem_cons.2 ⟨hq, List.forall_mem_append.2 ⟨hd, he⟩⟩
    refine ⟨fun h hv => ?_, fun h hv => ?_⟩
    · obtain ⟨t, ht, k1, k2⟩ := portFpread_copies rfl rfl hb hall h hv
      change ∀ j, t.bob j = (s.setBobWords at_ (s.port p).fp).bob j at k2
      refine ⟨t, ht, k1, fun j hj => ?_, fun k hk => ?_⟩
      · rw [k2, bob_setBobWords, if_pos ⟨Nat.le_add_right _ _, Nat.add_lt_add_left hj _⟩, Nat.add_sub_cancel_left]
      · rw [k2, bob_setBobWords, if_neg (by omega)]
    · obtain ⟨t, ht, k1, k2, k3⟩ := portFprestore_stores rfl rfl hb hall h hv
      refine ⟨t, ht, k1, ?_, fun j hj => ?_, k3⟩
      · rw [k2, length_bobWords]
      · rw [k2, getD_bobWords _ _ _ hj]
  · intro off n h ha hl hb hw hh hq hd hc h4
    have hall : ∀ d ∈ quadOf p :: entryDoms c.arg1 n, s.domOn d = true := List.forall_mem_cons.2 ⟨hq, hd⟩
    obtain ⟨hi, hs⟩ := halfWord_coefStored_bob s p at_ hl
    by_cases ho : c.opt = true
    · obtain ⟨t, ht, k1, k2, k3⟩ := portCoefload_swaps rfl rfl rfl rfl h ha hl hb hw hh hall hc h4 ho
      exact ⟨t, ht, fun j hj => (k2 _ _).trans (hi j hj), fun k hk => (k2 _ _).trans (hs k hk),
        fun hf => (by rw [ho] at hf; cases hf), fun _ => ⟨k1, k3⟩⟩
    · rw [Bool.not_eq_true] at ho
      obtain ⟨t, ht, k1, k2, k3⟩ := portCoefload_stores rfl rfl rfl rfl h ha hl hb hw hh hall hc h4 ho
      exact ⟨t, ht, fun j hj => (k2 _ _).trans (hi j hj), fun k hk => (k2 _ _).trans (hs k hk), fun _ => ⟨k1, k3⟩,
        fun hf => (by rw [ho] at hf; cases hf)⟩
  · intro w cur h hu hm
    exact ⟨fun h4 h11 => portPlca_waits rfl rfl h hu hm h4 h11, fun h4 => portPlca_bad rfl rfl h hu hm h4⟩

end Sys2Proof
end

section
/-! PROOF. Swaps, departures and refreshes of skeins, and the payloads of OAM messages (O38). -/

namespace Sys2Proof.Machine

theorem forAll_concat {α σ : Type} (f : σ → α → σ) (b : α) : ∀ (l : List α) (s : σ), forAll f (l ++ [b]) s = f (forAll f l s) b
  | [], _ => rfl
  | c :: l, s => forAll_concat f b l (f s c)

/-- What the step for one member of a list establishes stands at the end, if every step leaves what that step needs, and those for the other members leave
what it has established. -/
theorem forAll_establishes {α σ : Type} {I P : σ → Prop} {f : σ → α → σ} {a : α} (hI : ∀ t b, I t → I (f t b)) (ha : ∀ t, I t → P (f t a))
    {l : List α} (hP : ∀ b ∈ l, b ≠ a → ∀ t, P t → P (f t b)) (hm : a ∈ l) {s : σ} (hs : I s) : P (forAll f l s) := by
  induction l using List.reverseRecOn with
  | nil => nomatch hm
  | append_singleton l b ih =>
    rw [forAll_concat]
    by_cases hb : b = a
    · exact hb ▸ ha _ (forAll_keeps I f hI l s hs)
    · exact hP b (by simp) hb _ (ih (fun c hc => hP c (by simp [hc])) (by simpa [Ne.symm hb] using hm))

/-! ### Bits -/

/-- The bits of a vector with one bit set. -/
theorem getLsbD_bit {w : Nat} (i : Nat) {j : Nat} (hj : j < w) : (1#w <<< i).getLsbD j = decide (j = i) := by
  rw [BitVec.getLsbD_shiftLeft, BitVec.getLsbD_one]
  by_cases h : j = i
  · subst h
    simp [hj]
    omega
  · have : ¬ (¬ j < i ∧ j - i = 0) := by omega
    simp [h]
    omega

theorem bitOf_and (v m : Word) (k : Nat) : bitOf (v &&& m) k = (bitOf v k && bitOf m k) := by
  rw [bitOf_eq, BitVec.toNat_and, Nat.testBit_and, ← bitOf_eq, ← bitOf_eq]

/-! ### A member starts or stops serving (R125) -/

theorem serves_local (s : State) (g : Nat) {i : Nat} (h : i < 16) : s.serves (16 * g + i) = (s.lg g).serve.getLsbD i := by
  rw [State.serves, show lgOf (16 * g + i) = g by unfold lgOf; omega, show localOf (16 * g + i) = i by unfold localOf; omega]

/-- The group's local port i stops serving. -/
def LineGroup.stops (x : LineGroup) (i : Nat) : LineGroup := { x with serve := x.serve &&& ~~~(1#16 <<< i) }

/-- The group's local port i starts to serve in skein n. -/
def LineGroup.joins (x : LineGroup) (i n : Nat) : LineGroup :=
  { x with serve := x.serve ||| (1#16 <<< i), servIn := Tab.set (fun _ => 0) x.servIn i n }

theorem getLsbD_stops (x : LineGroup) {i j : Nat} (hj : j < 16) : (x.stops i).serve.getLsbD j = (x.serve.getLsbD j && decide (j ≠ i)) := by
  rw [LineGroup.stops, BitVec.getLsbD_and, BitVec.getLsbD_not, getLsbD_bit i hj]
  simp [hj]

theorem getLsbD_joins (x : LineGroup) {i j : Nat} (n : Nat) (hj : j < 16) : (x.joins i n).serve.getLsbD j = (x.serve.getLsbD j || decide (j = i)) := by
  rw [LineGroup.joins, BitVec.getLsbD_or, getLsbD_bit i hj]

/-- The members of skein n that serve change by f, and the register a counts it. -/
def State.serveChange (s : State) (g n a : Nat) (f : LineGroup → LineGroup) : State := (((s.updLg g f).bump a).endSkGather g n).skLatch g n

/-- What a swap changes beside the ports that serve: the halves, the swaps that wait, and how many swaps there were. -/
def State.swapView (s : State) (g : Nat) : BitVec 8 × BitVec 8 × Word := ((s.lg g).half, (s.lg g).pend, s.reg (Reg.LG_SKSWAP g))

section
variable (s : State) (g n i : Nat)

theorem regs_skLatch : (s.skLatch g n).regs = s.regs := by
  unfold State.skLatch
  split <;> rfl

/-- The latch of the differences leaves the group's halves and its serving members. -/
theorem lg_skLatch : ∃ d, (s.skLatch g n).lg g = { s.lg g with diff := d } := by
  unfold State.skLatch
  split
  · exact ⟨_, rfl⟩
  · exact ⟨_, by rw [updLg_eq, lg_setLg_same]⟩

theorem reg_skLatch (a : Nat) : (s.skLatch g n).reg a = s.reg a := congrArg (Tab.get RegMap.resetWord · a) (regs_skLatch s g n)

theorem lg_endSkGather (k : Nat) : (s.endSkGather g n).lg k = s.lg k := rfl
theorem reg_endSkGather (a : Nat) : (s.endSkGather g n).reg a = s.reg a := rfl
theorem lg_bump (a k : Nat) : (s.bump a).lg k = s.lg k := rfl

theorem lg_serveChange (a : Nat) (f : LineGroup → LineGroup) : ∃ d, (s.serveChange g n a f).lg g = { f (s.lg g) with diff := d } := by
  obtain ⟨d, hd⟩ := lg_skLatch (((s.updLg g f).bump a).endSkGather g n) g n
  exact ⟨d, by rw [State.serveChange, hd, lg_endSkGather, lg_bump, updLg_eq, lg_setLg_same]⟩

theorem reg_serveChange (a : Nat) (f : LineGroup → LineGroup) (b : Nat) : (s.serveChange g n a f).reg b = (s.bump a).reg b := by
  rw [State.serveChange, reg_skLatch, reg_endSkGather, bump_eq, bump_eq, reg_setReg, reg_setReg, updLg_eq, reg_setLg, reg_setLg]

theorem skStop_serving (h : s.serves (16 * g + i) = true) :
    s.skStop g i = s.serveChange g (s.servIn g i) (Reg.LG_SKLEAVE g) (·.stops i) := if_pos h

theorem skStop_idle (h : ¬ s.serves (16 * g + i) = true) : s.skStop g i = s := if_neg h

theorem skJoin_eq : s.skJoin g n i = s.serveChange g n (Reg.LG_SKJOIN g) (·.joins i n) := rfl

theorem swapView_skStop : (s.skStop g i).swapView g = s.swapView g := by
  by_cases h : s.serves (16 * g + i) = true
  · obtain ⟨d, hd⟩ := lg_serveChange s g (s.servIn g i) (Reg.LG_SKLEAVE g) (·.stops i)
    rw [skStop_serving s g i h, State.swapView, hd, reg_serveChange, reg_bump_other _ (by unfold Reg.LG_SKSWAP Reg.LG_SKLEAVE; omega)]
    rfl
  · rw [skStop_idle s g i h]

theorem swapView_skJoin : (s.skJoin g n i).swapView g = s.swapView g := by
  obtain ⟨d, hd⟩ := lg_serveChange s g n (Reg.LG_SKJOIN g) (·.joins i n)
  rw [skJoin_eq, State.swapView, hd, reg_serveChange, reg_bump_other _ (by unfold Reg.LG_SKSWAP Reg.LG_SKJOIN; omega)]
  rfl

variable {j : Nat} (hj : j < 16)
include hj

theorem serves_skStop : (s.skStop g i).serves (16 * g + j) = (s.serves (16 * g + j) && decide (j ≠ i)) := by
  by_cases h : s.serves (16 * g + i) = true
  · obtain ⟨d, hd⟩ := lg_serveChange s g (s.servIn g i) (Reg.LG_SKLEAVE g) (·.stops i)
    rw [skStop_serving s g i h, serves_local _ g hj, serves_local s g hj, hd]
    exact getLsbD_stops _ hj
  · rw [skStop_idle s g i h]
    by_cases e : j = i
    · subst e
      simpa using h
    · simp [e]

theorem serves_skJoin : (s.skJoin g n i).serves (16 * g + j) = (s.serves (16 * g + j) || decide (j = i)) := by
  obtain ⟨d, hd⟩ := lg_serveChange s g n (Reg.LG_SKJOIN g) (·.joins i n)
  rw [skJoin_eq, serves_local _ g hj, serves_local s g hj, hd]
  exact getLsbD_joins _ n hj

end

/-! ### The swap of a skein's halves (R119, R123–R125) -/

/-- The halves of a skein change roles, and the swap is counted. -/
def State.halvesSwapped (s : State) (g n : Nat) : State :=
  (s.updLg g (fun x => { x with half := x.half ^^^ (1#8 <<< n), pend := x.pend &&& ~~~(1#8 <<< n) })).bump (Reg.LG_SKSWAP g)

/-- The skein's new half names its member i, which is eligible. -/
def State.admits (s : State) (g n i : Nat) : Bool := s.skEligible g i && s.skNamed g i (1 - s.skHalf g n)

/-- The swap in state s decides whether local port i serves. -/
def State.seat (s : State) (g n : Nat) (t : State) (i : Nat) : State :=
  if natBit (s.skMembers g n) i then
    if s.skEligible g i ∧ s.skNamed g i (1 - s.skHalf g n) then (if s.serves (16 * g + i) then t else t.skJoin g n i)
    else t.skStop g i
  else t

/-- The halves have changed roles, and it is decided which ports serve. -/
def State.seated (s : State) (g n : Nat) : State := forAll (s.seat g n) (List.range 16) (s.halvesSwapped g n)

/-- The end of the swap that s has seen, in state t: its operation completes, and the distaff records it for each member. -/
def State.swapTold (s : State) (g n : Nat) (t : State) : State :=
  forAll (fun t i => if natBit (s.skMembers g n) i then t.dstPortEvent 0x05 (16 * g + i) (s.symcnt (16 * g + i)) (2 + (1 - s.skHalf g n)) [] else t)
    (List.range 16) (t.endOps (fun o => decide (o.kind = .cswSwap ∧ o.accepted = true ∧ tgtKind o.ea = 1 ∧ tgtGroup o.ea = g ∧ tgtSkn o.ea = n)) 0)

section
variable (s : State) (g : Nat) {n : Nat}

theorem swapView_seat (t : State) (i : Nat) : (s.seat g n t i).swapView g = t.swapView g := by
  unfold State.seat
  split
  · split
    · split
      · rfl
      · exact swapView_skJoin t g n i
    · exact swapView_skStop t g i
  · rfl

/-- The swap's decision on one port leaves the others. -/
theorem serves_seat_other (t : State) {i j : Nat} (hj : j < 16) (h : j ≠ i) :
    (s.seat g n t i).serves (16 * g + j) = t.serves (16 * g + j) := by
  unfold State.seat
  split
  · split
    · split
      · rfl
      · simp [serves_skJoin t g n i hj, h]
    · simp [serves_skStop t g i hj, h]
  · rfl

theorem seat_not_member (t : State) {i : Nat} (h : natBit (s.skMembers g n) i = false) : s.seat g n t i = t := if_neg (by simp [h])

/-- The swap decides on a member that serves as it did before. -/
theorem serves_seat_same (t : State) {i : Nat} (hi : i < 16) (hm : natBit (s.skMembers g n) i = true)
    (ht : t.serves (16 * g + i) = s.serves (16 * g + i) ∨ t.serves (16 * g + i) = s.admits g n i) :
    (s.seat g n t i).serves (16 * g + i) = s.admits g n i := by
  rw [State.admits] at ht ⊢
  rw [State.seat, if_pos hm]
  by_cases hv : s.skEligible g i = true ∧ s.skNamed g i (1 - s.skHalf g n) = true
  · rw [if_pos hv]
    split
    · next hs => simpa [hv.1, hv.2, hs] using ht
    · simp [serves_skJoin t g n i hi, hv.1, hv.2]
  · rw [if_neg hv, serves_skStop t g i hi]
    simpa using hv

theorem lg_halvesSwapped : (s.halvesSwapped g n).lg g =
    { s.lg g with half := (s.lg g).half ^^^ (1#8 <<< n), pend := (s.lg g).pend &&& ~~~(1#8 <<< n) } := by
  rw [State.halvesSwapped, lg_bump, updLg_eq, lg_setLg_same]

theorem serves_halvesSwapped {i : Nat} (hi : i < 16) : (s.halvesSwapped g n).serves (16 * g + i) = s.serves (16 * g + i) := by
  rw [serves_local _ g hi, serves_local s g hi, lg_halvesSwapped]

theorem swapView_halvesSwapped : (s.halvesSwapped g n).swapView g =
    ((s.lg g).half ^^^ (1#8 <<< n), (s.lg g).pend &&& ~~~(1#8 <<< n), s.reg (Reg.LG_SKSWAP g) + 1) := by
  rw [State.swapView, lg_halvesSwapped, State.halvesSwapped, reg_bump_same]
  rfl

theorem serves_seated {i : Nat} (hi : i < 16) (hm : natBit (s.skMembers g n) i = true) :
    (s.seated g n).serves (16 * g + i) = s.admits g n i := by
  refine forAll_establishes (P := fun t => t.serves (16 * g + i) = s.admits g n i)
    (I := fun t => t.serves (16 * g + i) = s.serves (16 * g + i) ∨ t.serves (16 * g + i) = s.admits g n i)
    (fun t b h => ?_) (fun t => serves_seat_same s g t hi hm) (fun b _ hb t h => (serves_seat_other s g t hi hb.symm).trans h) (List.mem_range.2 hi)
    (.inl (serves_halvesSwapped s g hi))
  by_cases hb : b = i
  · exact .inr (hb ▸ serves_seat_same s g t (hb ▸ hi) (hb ▸ hm) (hb ▸ h))
  · rwa [serves_seat_other s g t hi (Ne.symm hb)]

theorem serves_seated_not_member {i : Nat} (hi : i < 16) (hm : natBit (s.skMembers g n) i = false) :
    (s.seated g n).serves (16 * g + i) = s.serves (16 * g + i) := by
  refine (forAll_frame (fun t : State => t.serves (16 * g + i)) _ (fun t b => ?_) _ _).trans (serves_halvesSwapped s g hi)
  by_cases hb : b = i
  · rw [hb, seat_not_member s g t hm]
  · exact serves_seat_other s g t hi (Ne.symm hb)

theorem swapView_seated : (s.seated g n).swapView g = (s.halvesSwapped g n).swapView g := forAll_frame (State.swapView · g) _ (swapView_seat s g) _ _

/-- What no event of the distaff and no completion of an operation changes, the end of a swap does not change. -/
theorem swapTold_frame {β : Type} (f : State → β) (hd : ∀ s d, f { s with dst := d } = f s) (hn : ∀ s x, f { s with spns := x } = f s)
    (hr : ∀ s a v, a = Reg.DST_EVLOST ∨ a = Reg.DST_STAT → f (s.setReg a v) = f s) (t : State) : f (s.swapTold g n t) = f t := by
  refine (forAll_frame f _ (fun u i => ?_) _ _).trans (hn t _)
  split
  · exact dstPortEvent_frame f hd hr ..
  · rfl

theorem serves_swapTold (t : State) (p : Nat) : (s.swapTold g n t).serves p = t.serves p :=
  swapTold_frame s g (State.serves · p) (fun _ _ => rfl) (fun _ _ => rfl) (fun _ _ _ _ => rfl) t

theorem swapView_swapTold (t : State) : (s.swapTold g n t).swapView g = t.swapView g := by
  refine swapTold_frame s g (State.swapView · g) (fun _ _ => rfl) (fun _ _ => rfl) (fun u a v h => ?_) t
  have ha : Reg.LG_SKSWAP g ≠ a := by
    rcases h with rfl | rfl
    · unfold Reg.LG_SKSWAP Reg.DST_EVLOST
      omega
    · unfold Reg.LG_SKSWAP Reg.DST_STAT
      omega
  rw [State.swapView, reg_setReg_other u v ha, lg_setReg, State.swapView]

end

theorem exec_skeinSwapEffect {s : State} {g : LgNo} {n : Fin 8} (h : (s.lg g).pend.getLsbD n = true) :
    exec (.skeinSwapEffect g n) s = .next (s.swapTold g n (s.seated g n)) := if_pos h

/-- The swap decides which members serve (R123, R125). -/
theorem skeinSwapEffect_spec {s : State} {g : LgNo} {n : Fin 8} (h : (s.lg g).pend.getLsbD n = true) :
    nextWith (exec (.skeinSwapEffect g n) s) (fun t =>
      t.skHalf g n = 1 - s.skHalf g n ∧ (t.lg g).pend.getLsbD n = false ∧ t.reg (Reg.LG_SKSWAP g) = s.reg (Reg.LG_SKSWAP g) + 1 ∧
      (∀ i : Fin 16, natBit (s.skMembers g n) i = true →
        t.serves (16 * g + i) = (s.skEligible g i && s.skNamed g i (1 - s.skHalf g n))) ∧
      (∀ i : Fin 16, natBit (s.skMembers g n) i = false → t.serves (16 * g + i) = s.serves (16 * g + i))) := by
  have hv : (s.swapTold g n (s.seated g n)).swapView g = _ := (swapView_swapTold ..).trans ((swapView_seated ..).trans (swapView_halvesSwapped ..))
  obtain ⟨hh, hp, hr⟩ : _ ∧ _ ∧ _ := by simpa only [State.swapView, Prod.mk.injEq] using hv
  refine ⟨_, exec_skeinSwapEffect h, ?_, ?_, hr, fun i hm => ?_, fun i hm => ?_⟩
  · rw [State.skHalf, hh, BitVec.getLsbD_xor, getLsbD_bit _ n.isLt, State.skHalf]
    cases (s.lg g).half.getLsbD n <;> simp [bnat]
  · rw [hp, BitVec.getLsbD_and, BitVec.getLsbD_not, getLsbD_bit _ n.isLt]
    simp
  · exact (serves_swapTold ..).trans (serves_seated s g i.isLt hm)
  · exact (serves_swapTold ..).trans (serves_seated_not_member s g i.isLt hm)

/-- A member that is not eligible leaves, and its departure is counted (R125). -/
theorem skeinMemberLeave_spec {s : State} {g : LgNo} {i : Fin 16} (he : s.skEligible g i = false) (hs : s.serves (16 * g + i) = true) :
    nextWith (exec (.skeinMemberLeave g i) s) (fun t =>
      t.serves (16 * g + i) = false ∧ t.reg (Reg.LG_SKLEAVE g) = s.reg (Reg.LG_SKLEAVE g) + 1 ∧
      ∀ j : Fin 16, j ≠ i → t.serves (16 * g + j) = s.serves (16 * g + j)) := by
  refine ⟨s.skStop g i, if_pos he, ?_, ?_, fun j hj => ?_⟩
  · simp [serves_skStop s g i i.isLt]
  · rw [skStop_serving s g i hs, reg_serveChange, reg_bump_same]
  · simp [serves_skStop s g i j.isLt, Fin.val_ne_of_ne hj]

/-! ### Slot words (R123) -/

/-- Two words of slots have one key only if half, victim and offset agree. -/
theorem slotKey_inj {h h' v v' o o' : Nat} (hv : v < 16) (hv' : v' < 16) (ho : o < 352) (ho' : o' < 352) (e : slotKey h v o = slotKey h' v' o') :
    h = h' ∧ v = v' ∧ o = o' := by
  unfold slotKey at e
  omega

section
variable (s : State) (g h v o : Nat) (w : Word)

theorem lg_setSlotWord : (s.setSlotWord g h v o w).lg g =
    { s.lg g with slots := Tab.set (fun _ => 0#48) (s.lg g).slots (slotKey h v o) (slotMask o w) } := lg_setLg_same s g _

theorem slotWord_setSlotWord_same : (s.setSlotWord g h v o w).slotWord g h v o = slotMask o w := by
  rw [State.slotWord, lg_setSlotWord]
  exact Tab.get_set_same ..

variable {h v o} {h' v' o' : Nat} (hv : v < 16) (hv' : v' < 16) (ho : o < 352) (ho' : o' < 352)
include hv hv' ho ho'

theorem slotWord_setSlotWord_other (hne : ¬ (h' = h ∧ v' = v ∧ o' = o)) :
    (s.setSlotWord g h v o w).slotWord g h' v' o' = s.slotWord g h' v' o' := by
  rw [State.slotWord, lg_setSlotWord]
  exact Tab.get_set_other _ _ _ fun e => hne (slotKey_inj hv' hv ho' ho e)

end

/-- What decides who is eligible, and with which precoder: all that no write of a slot word changes (R115, R131). -/
def State.besideSlots (s : State) (g : Nat) : Tab Word × Pwr × Tab Port × Bool × BitVec 8 × BitVec 8 :=
  (s.regs, s.pwr, s.ports, (s.lg g).isolated, (s.lg g).half, (s.lg g).pend)

theorem besideSlots_setSlotWord (s : State) (g h v o : Nat) (w : Word) : (s.setSlotWord g h v o w).besideSlots g = s.besideSlots g := by
  rw [State.besideSlots, lg_setSlotWord]
  rfl

theorem besideSlots_sealSlot (s : State) (g n h i : Nat) : (s.sealSlot g n h i).besideSlots g = s.besideSlots g :=
  (besideSlots_setSlotWord ..).trans (besideSlots_setSlotWord ..)

section
variable {s t : State} {g : Nat} (h : t.besideSlots g = s.besideSlots g)
include h

theorem skEligible_of_besideSlots (i : Nat) : t.skEligible g i = s.skEligible g i := by
  obtain ⟨hr, hp, -, hi, -⟩ : _ ∧ _ ∧ _ ∧ _ ∧ _ := by simpa only [State.besideSlots, Prod.mk.injEq] using h
  have hreg : ∀ a, t.reg a = s.reg a := fun a => congrArg (Tab.get RegMap.resetWord · a) hr
  have hdom : ∀ d, t.domOn d = s.domOn d := fun d => domOn_congr (by rw [State.dom, hp, State.dom])
  have hsk : t.skeinOf g i = s.skeinOf g i := skeinOf_congr_low (fun n _ => hreg _) i
  have hhw : t.skHardware g i = s.skHardware g i := by rw [State.skHardware, State.quadOn, hdom, hdom, hi, State.skHardware, State.quadOn]
  have hst : ∀ p, t.pst p = s.pst p ∧ t.prole p = s.prole p ∧ t.pmode p = s.pmode p := fun p =>
    ⟨congrArg (fld · 31 28) (hreg _), congrArg (fld · 25 24) (hreg _), congrArg (fld · 23 20) (hreg _)⟩
  have hsf : t.slotFailed g i = s.slotFailed g i := congrArg (bitOf · _) (hreg _)
  unfold State.skEligible
  rw [hsk]
  cases s.skeinOf g i with
  | none => rfl
  | some n =>
    obtain ⟨h1, h2, h3⟩ := hst (16 * g + i)
    dsimp only
    rw [hhw, h1, h2, h3, hsf, State.rf, hreg]
    rfl

theorem skHalf_of_besideSlots (n : Nat) : t.skHalf g n = s.skHalf g n := by
  obtain ⟨-, -, -, -, hh, -⟩ : _ ∧ _ ∧ _ ∧ _ ∧ _ ∧ _ := by simpa only [State.besideSlots, Prod.mk.injEq] using h
  rw [State.skHalf, hh, State.skHalf]

theorem d2_of_besideSlots (p : Nat) : (t.port p).d2Align = (s.port p).d2Align ∧ t.d2On p = s.d2On p := by
  obtain ⟨hr, -, hp, -⟩ : _ ∧ _ ∧ _ ∧ _ := by simpa only [State.besideSlots, Prod.mk.injEq] using h
  have hreg : ∀ a, t.reg a = s.reg a := fun a => congrArg (Tab.get RegMap.resetWord · a) hr
  refine ⟨congrArg (fun x => (Tab.get (fun _ => {}) x p).d2Align) hp, ?_⟩
  rw [State.d2On, State.rb, hreg, lineMode_congr (hreg _) (hreg _) (hreg _) (hreg _) fun n => hreg _, State.d2On, State.rb]

end

/-! ### The seal of a slot (R126, R131) -/

/-- The map's slots named in a list are no longer VALID unless they pass; no other bit changes. -/
theorem bitOf_clearValid (ok : Nat → Prop) [DecidablePred ok] (l : List Nat) (hl : ∀ a ∈ l, a < 7) (k : Nat) : ∀ v : Word,
    bitOf (l.foldl (fun v a => if ok a then v else putFld v (6 * a + 5) (6 * a + 5) 0) v) k = true ↔
      bitOf v k = true ∧ ∀ a ∈ l, k = 6 * a + 5 → ok a := by
  induction l with
  | nil => simp
  | cons a l ih =>
    intro v
    have ha := hl a List.mem_cons_self
    rw [List.foldl_cons, ih (fun b hb => hl b (List.mem_cons_of_mem a hb)), List.forall_mem_cons]
    by_cases hok : ok a
    · simp [hok]
    · rw [if_neg hok, bitOf_putFld _ _ _ _ _ (by omega) (Nat.le_refl _)]
      by_cases hk : k = 6 * a + 5
      · simp [hk, hok]
      · rw [if_neg (by omega)]
        simp [hk]

/-- A slot of the sealed map is VALID only if it was and names an eligible member. -/
theorem bitOf_mapEligible (s : State) (g n : Nat) (w : Word) (k : Nat) : bitOf (s.mapEligible g n w) k = true ↔ bitOf w k = true ∧
    ∀ a ∈ List.range 7, k = 6 * a + 5 → natBit (s.skMembers g n) (fld w (6 * a + 3) (6 * a)) = true ∧ s.skEligible g (fld w (6 * a + 3) (6 * a)) = true :=
  bitOf_clearValid (fun a => natBit (s.skMembers g n) (fld w (6 * a + 3) (6 * a)) = true ∧ s.skEligible g (fld w (6 * a + 3) (6 * a)) = true) _
    (fun _ => List.mem_range.1) k w

/-- The canceller holds a map's VALID bits and the members it names. -/
theorem bitOf_mapMask : ∀ a : Fin 7, ∀ j : Fin 6, j ≠ 4 → bitOf 0x2FBEFBEFBEF#48 (6 * a + j) = true := by decide

theorem bitOf_slotMask_map (v : Word) (a : Fin 7) (j : Fin 6) (hj : j ≠ 4) : bitOf (slotMask 0x150 v) (6 * a + j) = bitOf v (6 * a + j) :=
  (bitOf_and v 0x2FBEFBEFBEF#48 _).trans (by rw [bitOf_mapMask a j hj, Bool.and_true])

/-- The sealed map names the members that the map named. -/
theorem fld_sealedMap (s : State) (g n : Nat) (w : Word) (a : Fin 7) :
    fld (slotMask 0x150 (s.mapEligible g n w)) (6 * a + 3) (6 * a) = fld w (6 * a + 3) (6 * a) := by
  refine Nat.eq_of_testBit_eq fun j => ?_
  rw [testBit_fld, testBit_fld, ← bitOf_eq, ← bitOf_eq, Nat.add_comm j]
  by_cases hj : j < 4
  · have hb : bitOf (s.mapEligible g n w) (6 * a + j) = bitOf w (6 * a + j) :=
      Bool.eq_iff_iff.2 ((bitOf_mapEligible s g n w _).trans (and_iff_left fun b _ hb => by omega))
    rw [bitOf_slotMask_map _ a ⟨j, by omega⟩ (by rw [Ne, Fin.ext_iff]; exact Nat.ne_of_lt hj), hb]
  · rw [decide_eq_false (by omega), Bool.false_and, Bool.false_and]

/-- The slot of member i in half h of the skein as the runtime installs it: it names the member exactly if that is eligible, its precoder acts only on
aligned reports, and it names eligible aggressors only. -/
structure Sealed (s t : State) (g h i : Nat) : Prop where
  named : bitOf (t.slotWord g h i 0x152) 0 = s.skEligible g i
  precoder : bitOf (t.slotWord g h i 0x152) 1 = true → (s.port (16 * g + i)).d2Align = true ∧ s.d2On (16 * g + i) = true
  aggressors : ∀ a : Fin 7, bitOf (t.slotWord g h i 0x150) (6 * a + 5) = true → s.skEligible g (fld (t.slotWord g h i 0x150) (6 * a + 3) (6 * a)) = true

theorem Sealed.of_besideSlots {s t u : State} {g h i : Nat} (hb : t.besideSlots g = s.besideSlots g) (hs : Sealed t u g h i) : Sealed s u g h i := by
  obtain ⟨hd, ho⟩ := d2_of_besideSlots hb (16 * g + i)
  have he := skEligible_of_besideSlots hb
  exact ⟨hs.named.trans (he i), fun hp => hd ▸ ho ▸ hs.precoder hp, fun a ha => (he _).symm.trans (hs.aggressors a ha)⟩

theorem Sealed.congr {s t u : State} {g h i : Nat} (hs : Sealed s t g h i) (h1 : u.slotWord g h i 0x150 = t.slotWord g h i 0x150)
    (h2 : u.slotWord g h i 0x152 = t.slotWord g h i 0x152) : Sealed s u g h i :=
  ⟨h2 ▸ hs.named, h2 ▸ hs.precoder, h1 ▸ hs.aggressors⟩

section
variable (s : State) (g n h i : Nat)

theorem slotWord_sealSlot_named : (s.sealSlot g n h i).slotWord g h i 0x152 = slotMask 0x152 (BitVec.ofNat 48
    (2 * bnat (bitOf (s.slotWord g h i 0x152) 1 && (s.port (16 * g + i)).d2Align && s.d2On (16 * g + i)) + bnat (s.skEligible g i))) :=
  slotWord_setSlotWord_same ..

theorem slotWord_sealSlot_map (hi : i < 16) :
    (s.sealSlot g n h i).slotWord g h i 0x150 = slotMask 0x150 (s.mapEligible g n (s.slotWord g h i 0x150)) :=
  (slotWord_setSlotWord_other _ g _ hi hi (by decide) (by decide) (by simp)).trans (slotWord_setSlotWord_same ..)

/-- The seal of a slot writes two words of that slot. -/
theorem slotWord_sealSlot_other {h' v o : Nat} (hi : i < 16) (hv : v < 16) (ho : o < 352) (hne : h' = h → v = i → o ≠ 0x150 ∧ o ≠ 0x152) :
    (s.sealSlot g n h i).slotWord g h' v o = s.slotWord g h' v o :=
  (slotWord_setSlotWord_other _ g _ hi hv (by decide) ho fun e => (hne e.1 e.2.1).2 e.2.2).trans
    (slotWord_setSlotWord_other _ g _ hi hv (by decide) ho fun e => (hne e.1 e.2.1).1 e.2.2)

theorem sealed_sealSlot (hi : i < 16) : Sealed s (s.sealSlot g n h i) g h i := by
  have hw : ∀ p e : Bool, bitOf (slotMask 0x152 (BitVec.ofNat 48 (2 * bnat p + bnat e))) 0 = e ∧
      bitOf (slotMask 0x152 (BitVec.ofNat 48 (2 * bnat p + bnat e))) 1 = p := by decide
  refine ⟨?_, ?_, fun a => ?_⟩
  · rw [slotWord_sealSlot_named, (hw _ _).1]
  · rw [slotWord_sealSlot_named, (hw _ _).2]
    simp only [Bool.and_eq_true]
    exact fun hp => ⟨hp.1.2, hp.2⟩
  · rw [slotWord_sealSlot_map s g n h i hi, fld_sealedMap]
    exact fun hv => (((bitOf_mapEligible ..).1 ((bitOf_slotMask_map _ a 5 (by decide)).symm.trans hv)).2 a (List.mem_range.2 a.isLt) rfl).2

end

/-! ### The refresh of a skein (R126) -/

/-- The runtime asks for the swap of a skein's halves. -/
def State.swapAsked (s : State) (g n : Nat) : State := s.updLg g (fun x => { x with pend := x.pend ||| (1#8 <<< n) })

theorem lg_swapAsked (s : State) (g n : Nat) : (s.swapAsked g n).lg g = { s.lg g with pend := (s.lg g).pend ||| (1#8 <<< n) } := lg_setLg_same s g _

theorem slotWord_swapAsked (s : State) (g n h v o : Nat) : (s.swapAsked g n).slotWord g h v o = s.slotWord g h v o := by
  rw [State.slotWord, lg_swapAsked, State.slotWord]

/-- Every member's slot in half h is sealed. -/
def State.sealAll (s : State) (g n h mem : Nat) : State := forAll (fun t i => t.sealSlot g n h i) ((List.range 16).filter (natBit mem)) s

section
variable (s : State) (g n h mem : Nat)

theorem besideSlots_sealAll : (s.sealAll g n h mem).besideSlots g = s.besideSlots g :=
  forAll_frame (State.besideSlots · g) _ (fun t i => besideSlots_sealSlot t g n h i) _ s

theorem lt_of_mem_members {i : Nat} (hi : i ∈ (List.range 16).filter (natBit mem)) : i < 16 := List.mem_range.1 (List.mem_filter.1 hi).1

theorem slotWord_sealAll_other {h' v o : Nat} (hv : v < 16) (ho : o < 352) (hne : h' = h → o ≠ 0x150 ∧ o ≠ 0x152) :
    (s.sealAll g n h mem).slotWord g h' v o = s.slotWord g h' v o :=
  forAll_frame_mem (fun t : State => t.slotWord g h' v o) _ _ s fun i hi t =>
    slotWord_sealSlot_other t g n h i (lt_of_mem_members mem hi) hv ho fun e _ => hne e

theorem sealed_sealAll {i : Nat} (hi : i < 16) (hm : natBit mem i = true) : Sealed s (s.sealAll g n h mem) g h i := by
  refine forAll_establishes (I := fun t => t.besideSlots g = s.besideSlots g) (P := fun t => Sealed s t g h i)
    (fun t b ht => (besideSlots_sealSlot t g n h b).trans ht) (fun t ht => (sealed_sealSlot t g n h i hi).of_besideSlots ht) (fun b hb hne t ht => ?_)
    (List.mem_filter.2 ⟨List.mem_range.2 hi, hm⟩) rfl
  have hother : ∀ o < 352, (t.sealSlot g n h b).slotWord g h i o = t.slotWord g h i o := fun o ho =>
    slotWord_sealSlot_other t g n h b (lt_of_mem_members mem hb) hi ho fun _ e => absurd e hne.symm
  exact ht.congr (hother _ (by decide)) (hother _ (by decide))

end

theorem skHalf_ne (s : State) (g n : Nat) : s.skHalf g n ≠ 1 - s.skHalf g n := by
  unfold State.skHalf
  cases (s.lg g).half.getLsbD n <;> decide

section
variable {s : State} {g : LgNo} {n : Fin 8} {v : Fin 16} (off : Fin 339) (w : Word) (h0 : s.skMembers g n ≠ 0) (hu : s.userSkein (8 * g + n) = false)
  (hd : s.domOn (24 + g) = true) (hb : s.skBusy g n = 0) (hv : natBit (s.skMembers g n) v = true)
include h0 hu hd hb hv

theorem exec_skeinRefresh : exec (.skeinRefresh g n [(v, off, w)]) s = .next
    (((s.setSlotWord g (1 - s.skHalf g n) v off w).sealAll g n (1 - s.skHalf g n) (s.skMembers g n)).swapAsked g n) := by
  have he : exec (.skeinRefresh g n [(v, off, w)]) s = execSkeinRefresh g n [(v, off, w)] s := rfl
  rw [he, execSkeinRefresh, if_neg (by simp [h0, hu, hd]), if_neg (not_not.2 hb)]
  dsimp only [forAll]
  rw [if_pos hv]
  rfl

/-- A refresh writes the idle half, seals it and asks for the swap; the half that serves stays (R126, R131). -/
theorem skeinRefresh_spec : nextWith (exec (.skeinRefresh g n [(v, off, w)]) s) (fun t =>
    (t.lg g).pend.getLsbD n = true ∧ t.skHalf g n = s.skHalf g n ∧
    (off.val ≠ 0x150 → off.val ≠ 0x152 → t.slotWord g (1 - s.skHalf g n) v off = slotMask off w) ∧
    (∀ i : Fin 16, natBit (s.skMembers g n) i = true → Sealed s t g (1 - s.skHalf g n) i) ∧
    ∀ k, k < 352 → t.slotWord g (s.skHalf g n) v k = s.slotWord g (s.skHalf g n) v k) := by
  have ho : off.val < 352 := Nat.lt_trans off.isLt (by decide)
  generalize hs1 : s.setSlotWord g (1 - s.skHalf g n) v off w = s1
  have h1 : s1.besideSlots g = s.besideSlots g := hs1 ▸ besideSlots_setSlotWord ..
  have h2 := (besideSlots_sealAll s1 g n (1 - s.skHalf g n) (s.skMembers g n)).trans h1
  refine ⟨_, exec_skeinRefresh off w h0 hu hd hb hv, ?_⟩
  rw [hs1]
  refine ⟨?_, ?_, fun ha hc => ?_, fun i hi => ?_, fun k hk => ?_⟩
  · rw [lg_swapAsked, BitVec.getLsbD_or, getLsbD_bit _ n.isLt]
    simp
  · rw [State.skHalf, lg_swapAsked]
    exact skHalf_of_besideSlots h2 n
  · rw [slotWord_swapAsked, slotWord_sealAll_other _ _ _ _ _ v.isLt ho fun _ => ⟨ha, hc⟩, ← hs1, slotWord_setSlotWord_same]
  · exact ((sealed_sealAll s1 g n _ _ i.isLt hi).of_besideSlots h1).congr (slotWord_swapAsked ..) (slotWord_swapAsked ..)
  · rw [slotWord_swapAsked, slotWord_sealAll_other _ _ _ _ _ v.isLt hk fun e => absurd e (skHalf_ne s g n), ← hs1,
      slotWord_setSlotWord_other _ _ _ v.isLt v.isLt ho hk fun e => skHalf_ne s g n e.1]

end

/-! ### Payloads of OAM messages (R130, R321) -/

theorem unsigned_lt (n : Nat) (v : Int) : unsigned n v < 2 ^ n := by
  have h : (0 : Int) < 2 ^ n := by positivity
  have hl := Int.emod_lt_of_pos v h
  have h0 := Int.emod_nonneg v h.ne'
  rw [unsigned]
  zify
  rwa [Int.toNat_of_nonneg h0]

/-- The fields of a d2 report. -/
theorem d2_fields {m b u : Nat} (hm : m < 4096) (hb : b < 2) (hu : u < 2 ^ 30) :
    fld (BitVec.ofNat 48 (0xD * 2 ^ 44 + m * 2 ^ 32 + b * 2 ^ 31 + u)) 47 44 = 0xD ∧
    fld (BitVec.ofNat 48 (0xD * 2 ^ 44 + m * 2 ^ 32 + b * 2 ^ 31 + u)) 43 32 = m ∧
    bitOf (BitVec.ofNat 48 (0xD * 2 ^ 44 + m * 2 ^ 32 + b * 2 ^ 31 + u)) 30 = false ∧
    bitOf (BitVec.ofNat 48 (0xD * 2 ^ 44 + m * 2 ^ 32 + b * 2 ^ 31 + u)) 31 = decide (b = 1) := by
  simp only [fld, bitOf, BitVec.toNat_ofNat, decide_eq_false_iff_not, decide_eq_decide]
  omega

/-- The report is VALID if its three symbols are decided, unmarked and not erased. -/
theorem d2Word_spec (s : State) (p n : Nat) :
    fld (s.d2Word p n) 47 44 = 0xD ∧ fld (s.d2Word p n) 43 32 = n % 4096 ∧ bitOf (s.d2Word p n) 30 = false ∧
      (bitOf (s.d2Word p n) 31 = true ↔
        n + 3 ≤ (s.port p).rx.decN ∧ ∀ i : Nat, i < 3 → (s.sym p (n + i : Nat)).marked = false ∧ s.erased p (n + i) = false) := by
  unfold State.d2Word
  extract_lets y bad
  have hu : unsigned 10 (y 0).err * 2 ^ 20 + unsigned 10 (y 1).err * 2 ^ 10 + unsigned 10 (y 2).err < 2 ^ 30 := by
    have h0 := unsigned_lt 10 (y 0).err
    have h1 := unsigned_lt 10 (y 1).err
    have h2 := unsigned_lt 10 (y 2).err
    omega
  have hb : bnat (!bad) < 2 := by cases bad <;> decide
  obtain ⟨h1, h2, h3, h4⟩ := d2_fields (Nat.mod_lt n (by decide)) hb hu
  refine ⟨h1, h2, h3, ?_⟩
  have hv : (decide (bnat (!bad) = 1) = true) ↔ bad = false := by cases bad <;> decide
  rw [h4, hv]
  simp only [bad, y, Bool.or_eq_false_iff, decide_eq_false_iff_not, Nat.not_lt, List.any_eq_false, List.mem_range, Bool.not_eq_true]

section
variable {s : State} {p : PortNo} (hp : s.pst p = 3)
include hp

theorem oamMessageSend_trigger (ho : hasOam (s.pmode p) = true) (hl : 0 < (s.port p).d3Left) (h3 : s.rb (Reg.PORT_STATE p) 19 = true) :
    exec (.oamMessageSend p () ()) s = .next (s.updPort p (fun y => { y with oam := y.d3Word, d3Left := y.d3Left - 1 })) :=
  (if_pos ⟨hp, ho⟩).trans (if_pos ⟨hl, h3⟩)

theorem oamMessageSend_report (ho : hasOam (s.pmode p) = true) (hl : (s.port p).d3Left = 0) (h2 : s.rb (Reg.PORT_STATE p) 18 = true) :
    exec (.oamMessageSend p () ()) s =
      .next (s.updPort p (fun y => { y with oam := (s.port p).rx.report.getD (s.d2Word p ((s.port p).rx.decN - 3)) })) :=
  (if_pos ⟨hp, ho⟩).trans ((if_neg fun h => absurd h.1 (by omega)).trans (if_pos h2))

/-- A report received counts by its TYPE (R131). -/
theorem d2ReportReceive_spec (w : Word) (h2 : s.rb (Reg.PORT_STATE p) 18 = true) : nextWith (exec (.d2ReportReceive p w) s) (fun t => ∀ a,
    t.reg a = (s.bump (if fld w 47 44 = 0xD then Reg.LG_D2RPT (lgOf p) else Reg.LG_D2BAD (lgOf p))).reg a) := by
  have he : exec (.d2ReportReceive p w) s = execD2ReportReceive p w s := rfl
  rw [he, execD2ReportReceive, if_pos ⟨hp, h2⟩]
  by_cases ht : fld w 47 44 = 0xD
  · rw [if_pos ht, if_pos ht]
    dsimp only
    split
    · exact ⟨_, rfl, fun a => (reg_updPort ..).trans (reg_drawNat _ 1 a)⟩
    · exact ⟨_, rfl, fun _ => rfl⟩
  · rw [if_neg ht, if_neg ht]
    exact ⟨_, rfl, fun _ => rfl⟩

end

end Sys2Proof.Machine

namespace Sys2Proof
open Machine

/-- Settles O38: what a swap, a departure and a refresh leave of a group's halves and its serving members; what an OAM message carries. -/
theorem skeinsAndOam : Obligations.SkeinsAndOam := by
  refine ⟨fun g n s => ⟨skeinSwapEffect_spec, fun i => skeinMemberLeave_spec, fun v off w h0 hu hd hb hv => ?_⟩, fun p s w hp => ⟨fun ho hl h3 => ?_,
    fun ho hl h2 => ?_, d2Word_spec s p, fun h2 => ?_⟩⟩
  · obtain ⟨t, ht, h1, h2, h3, h4, h5⟩ := skeinRefresh_spec off w h0 hu hd hb hv
    exact ⟨t, ht, h1, h2, h3, fun i hi => ⟨(h4 i hi).named, (h4 i hi).precoder, (h4 i hi).aggressors⟩, h5⟩
  · exact ⟨_, oamMessageSend_trigger hp ho hl h3, port_setPort_same .., rfl⟩
  · refine ⟨_, oamMessageSend_report hp ho hl h2, rfl, fun r hr => ?_, fun hr => ?_⟩
    · rw [updPort_eq, port_setPort_same, hr]
      rfl
    · rw [updPort_eq, port_setPort_same, hr]
      rfl
  · obtain ⟨t, ht, hr⟩ := d2ReportReceive_spec hp w h2
    have hne : Reg.LG_D2RPT (p / 16) ≠ Reg.LG_D2BAD (p / 16) := by unfold Reg.LG_D2RPT Reg.LG_D2BAD; omega
    refine ⟨t, ht, fun hd => ?_, fun hd => ?_⟩
    · exact ⟨(hr _).trans (by rw [if_pos hd]; exact reg_bump_same ..), (hr _).trans (by rw [if_pos hd]; exact reg_bump_other _ hne.symm)⟩
    · exact ⟨(hr _).trans (by rw [if_neg hd]; exact reg_bump_same ..), (hr _).trans (by rw [if_neg hd]; exact reg_bump_other _ hne)⟩

end Sys2Proof
end
